-- ==== Sys2Proof/Word.lean ====
section
/-! DEFINITION. The words of the part's links: bytes and 16-byte units (R181: a parcel is a 16-byte head and a body of
16-byte units, multi-byte fields little-endian). -/

namespace Sys2Proof

/-- One byte of a parcel or of staging memory. -/
abbrev Byte := BitVec 8

/-- Sixteen bytes of a parcel: its head, or one unit of its body. Byte `i` is bits `8i+7 .. 8i` (R181: fields are
little-endian, so a field of several bytes is a run of bits). -/
abbrev Unit16 := BitVec 128

end Sys2Proof
end

