-- ==== Sys2Proof/Syntax.lean ====
section
/-! DEFINITION. The commands of the part: one constructor for each row of spec/opcode_table.json. A row's operands are what
the step brings from outside the part; whatever the part already holds (the parcel in the ingress parser, the answers waiting at
a lane) is in State and is no operand. -/

namespace Sys2Proof

/-- The commands, in the table's order. -/
inductive Instr where
  /-- A block of the WRITE being received arrives: up to 256 units (R35). -/
  | landing (block : List Unit16)
  /-- The WRITE held by the parser is taken (R34, R36). -/
  | write
  /-- The held WRITE is taken again (R141). -/
  | heldWriteRetaking
  /-- The ingress parcel being received ends with an abort mark (R191). -/
  | abortMark
  /-- The partly landed WRITE that an abort mark ended releases its slots (R191). -/
  | abortedWriteRelease
  /-- The PEEK held by the parser is taken (R50). -/
  | peek
  /-- The FLUSH held by the parser is taken (R145). -/
  | flush
  /-- A parcel of a kind that is no ingress kind is discarded (R183). -/
  | parcelDiscarded
  /-- A MGMT parcel with an unknown code or a wrong body length is taken (R168). -/
  | badRequest
  /-- IDENTIFY (R174). -/
  | identify
  /-- SET-PARAM of a parameter without an act of its own, or of an unknown code (R171). -/
  | setParam
  /-- SET-PARAM of DECAY-INTERVAL (R23). -/
  | setDecayInterval
  /-- SET-PARAM of DURABLE-LINGER (R72). -/
  | setDurableLinger
  /-- SET-PARAM of CREDIT-BATCH (R32). -/
  | setCreditBatch
  /-- SET-PARAM of SEQUENCE-BASE (R44). -/
  | setSequenceBase
  /-- SET-PARAM of POOL-LOW-MARK (R82). -/
  | setPoolLowMark
  /-- GET-PARAM (R173). -/
  | getParam
  /-- PUT-TENANT (R5 to R8). -/
  | putTenant
  /-- GET-TENANT (R9). -/
  | getTenant
  /-- DROP-TENANT (R10). -/
  | dropTenant
  /-- PUT-RANGES (R11, R12). -/
  | putRanges
  /-- GET-RANGES (R13). -/
  | getRanges
  /-- PUT-STREAM (R58, R59). -/
  | putStream
  /-- GET-STREAM (R65). -/
  | getStream
  /-- HOLD-STREAM (R60). -/
  | holdStream
  /-- RELEASE-STREAM (R61). -/
  | releaseStream
  /-- FLUSH-STREAM (R62). -/
  | flushStream
  /-- ROTATE-STREAM (R63). -/
  | rotateStream
  /-- UNBIND-STREAM (R64). -/
  | unbindStream
  /-- GRANT-BLOCKS (R80, R81). -/
  | grantBlocks
  /-- GET-LANE (R135). -/
  | getLane
  /-- RESTART-LANE (R134). -/
  | restartLane
  /-- CLEAR-PART (R175, R176). -/
  | clearPart
  /-- The arbiter of the lane issues (R103). -/
  | issue (lane : Fin 8)
  /-- The first ANSWER waiting at the lane is taken (R115, R117). -/
  | answer (lane : Fin 8)
  /-- The first parcel waiting at the lane is no bodiless ANSWER, and is taken (R189). -/
  | malformedLaneParcel (lane : Fin 8)
  /-- An ANSWER being received on the lane ends with an abort mark (R191). -/
  | laneAbortMark (lane : Fin 8)
  /-- The expiry of the lane's in-flight record at this place of its list, oldest first, is reached (R127). -/
  | expiry (lane : Fin 8) (record : Nat)
  /-- The LANEFLT line of the lane goes to this level (R130). -/
  | laneflt (lane : Fin 8) (asserted : Bool)
  /-- The heat decay timer expires (R24). -/
  | decayExpiry
  /-- The linger clock expires (R71). -/
  | lingerClockExpiry
  /-- The credit linger timer expires (R31). -/
  | creditLingerExpiry
  /-- The dump engine sends a data unit (R157). -/
  | dumpUnitSend
  /-- The dump engine sends the trailer (R162). -/
  | trailerSend
  /-- The parcel at the head of the return queue has its last byte sent (R191). -/
  | parcelSent
  /-- The PFAIL line goes to this level (R151, R152). -/
  | pfail (asserted : Bool)
  /-- RESET_N is asserted (R177). `returnCut` says that a return parcel was partly sent then, and bit `i` of `lanesCut` that a
  PROGRAM was partly sent on lane `i`: each is ended with an abort mark (R191). -/
  | resetAssert (returnCut : Bool) (lanesCut : BitVec 8)
  /-- RESET_N is released (R178). -/
  | resetRelease
  /-- The head of an ingress parcel arrives (R34, R184). `body` is the body that follows a head of any kind but WRITE, whose
  blocks come by `landing` (log 3). -/
  | parcelHeadArrival (head : Unit16) (body : List Unit16)
  /-- A lane parcel with this head arrives on the lane link (R115, R189). -/
  | answerArrival (lane : Fin 8) (head : Unit16)
  deriving DecidableEq, Repr

end Sys2Proof
end

