-- ==== Sys2Proof/Decode.lean ====
section
/-! DEFINITION. Words of the table. spec/opcode_table.json gives no row any bits (the reader read none: 98_reader.md), so no
word spells a command. The byte layouts of the parcels (R181 to R190) are in Machine/Operands.lean and Machine/Formats.lean. -/

namespace Sys2Proof

/-- The command that a word spells by the table's bits: no row of the table gives bits. -/
def decodeTableWord (_nbits _w : Nat) : Option Instr := none

end Sys2Proof
end

