-- ==== Sys2Proof/Config.lean ====
section
/-! DEFINITION. The fixed capacities of the part (00_scope.md section 4, R174) and the one free choice that its manual
leaves open. -/

namespace Sys2Proof.Config

/-- Tenants (function numbers), R1. -/
abbrev tenants : Nat := 512
/-- Range entries, R4. -/
abbrev rangeEntries : Nat := 4096
/-- Placement streams, R53. -/
abbrev streams : Nat := 256
/-- Staging slots, R27. -/
abbrev slots : Nat := 16384
/-- Bytes of user data in a sector, and of a slot (00_scope.md section 5). -/
abbrev sectorBytes : Nat := 4096
/-- Sectors in a program unit (00_scope.md section 5). -/
abbrev unitSectors : Nat := 16
/-- Lane links, R98. -/
abbrev lanes : Nat := 8
/-- Segment table entries, R83. -/
abbrev segments : Nat := 512
/-- Durable write records, R138. -/
abbrev durableRecords : Nat := 1024
/-- Flush records, R144. -/
abbrev flushRecords : Nat := 32
/-- Flush tags that one flush record holds, R144. -/
abbrev flushTags : Nat := 4
/-- Return queue entries, R191. -/
abbrev returnEntries : Nat := 4096
/-- Empty return queue entries that no gate counts as free, R192. -/
abbrev returnReserve : Nat := 1536
/-- Free entries at which the ingress gate opens, R192. -/
abbrev ingressGate : Nat := 2048
/-- Free entries at which the answer gate opens, R115, R192. -/
abbrev answerGate : Nat := 96
/-- Largest normal grant count of a lane, R79. -/
abbrev normalGrants : Nat := 32
/-- Largest dump grant count of a lane, R79. -/
abbrev dumpGrants : Nat := 4
/-- Sectors of one WRITE, R37. -/
abbrev writeSectors : Nat := 64

/-- FREE VALUE (log 5). When one event leaves POOL-LOW due on several lanes, the manual gives no order among those notices
(R82). `freeChoice n` is the `n`-th of the picks that order them; nothing is known of it. -/
opaque freeChoice : Nat → Nat

end Sys2Proof.Config
end

