-- ==== Sys2Proof/Machine/Store.lean ====
section
/-! DEFINITION. Sparse tables: a list of (key, value) pairs with keys strictly rising. A table of records with a reset value
lists no record that equals it, so that equal tables are equal data (`Store.canon`). The operations keep that form
(Laws/Store.lean). -/

namespace Sys2Proof.Machine

/-- A sparse table keyed by number. -/
abbrev Store (α : Type) := List (Nat × α)

variable {α : Type}

/-- The value under a key. -/
def Store.find? : Store α → Nat → Option α
  | [], _ => none
  | (k, v) :: t, n => if n = k then some v else Store.find? t n

/-- Puts a value under a key, in order of keys. -/
def Store.insert : Store α → Nat → α → Store α
  | [], n, a => [(n, a)]
  | (k, v) :: t, n, a =>
    if n < k then (n, a) :: (k, v) :: t
    else if n = k then (n, a) :: t
    else (k, v) :: Store.insert t n a

/-- Removes what stands under a key. -/
def Store.erase (m : Store α) (n : Nat) : Store α := m.filter fun e => e.1 != n

/-- The value under a key of a table whose unlisted entries are `d`. -/
def Store.getD (d : α) (m : Store α) (n : Nat) : α := (Store.find? m n).getD d

/-- Puts a value into a table whose unlisted entries are `d`: the value `d` removes the entry. -/
def Store.setD [DecidableEq α] (d : α) (m : Store α) (n : Nat) (a : α) : Store α :=
  if a = d then Store.erase m n else Store.insert m n a

/-- Applies `f` to every entry of a table whose unlisted entries are `d`, where `f d = d`. -/
def Store.mapD [DecidableEq α] (d : α) (f : α → α) (m : Store α) : Store α :=
  (m.map fun e => (e.1, f e.2)).filter fun e => e.2 ≠ d

/-- The keys of a table. -/
def Store.keys (m : Store α) : List Nat := m.map Prod.fst

/-- Keys strictly rising. -/
def Store.sorted : Store α → Bool
  | [] => true
  | e :: t => (t.all fun e' => e.1 < e'.1) && Store.sorted t

/-- The canonical form of a table whose unlisted entries are `d`. -/
def Store.canon [DecidableEq α] (d : α) (m : Store α) : Bool := Store.sorted m && m.all fun e => e.2 ≠ d

/-- The lowest number at or above `n`, of the next `fuel`, that `p` accepts. -/
def firstFrom (p : Nat → Bool) : Nat → Nat → Option Nat
  | 0, _ => none
  | fuel + 1, n => if p n then some n else firstFrom p fuel (n + 1)

end Sys2Proof.Machine
end

