-- ==== Sys2Proof/Machine/State.lean ====
section
/-! DEFINITION. The state of the part as plain data: every piece of state that the chapters give, with its reset value, and the
few fields of the model's own (`pending`, `now`, `due`, `arrivals`, `draws`, `returnLink`, `laneLinks`). Tables are sparse
(`Store`): an unlisted record is a record at its reset values. -/

namespace Sys2Proof.Machine

/-! ## Tenants and ranges (chapter 1) -/

/-- Ack mode of a tenant (R1). -/
inductive AckMode where
  | staged | durable
  deriving DecidableEq, Repr

/-- A tenant record (R1), at the reset values of R2. -/
structure Tenant where
  valid : Bool := false
  defaultStream : Nat := 0
  ack : AckMode := .staged
  coalescing : Bool := false
  cap : Nat := 0
  windowFirst : Nat := 0
  windowCount : Nat := 0
  /-- The hint map: hints 1 to 15 that are present, each with its stream. -/
  hints : Store Nat := []
  stagedCount : Nat := 0
  landed : BitVec 48 := 0
  superseded : BitVec 48 := 0
  refused : BitVec 32 := 0
  deriving DecidableEq, Repr

/-- A range entry (R4), at the reset values of R4. -/
structure Range where
  ns : Nat := 0
  base : Nat := 0
  limit : Nat := 0
  cold : Nat := 0
  hotStream : Option Nat := none
  threshold : Nat := 1
  heat : Nat := 0
  hot : Bool := false
  deriving DecidableEq, Repr

/-! ## Slots (chapter 2) -/

/-- Lifecycle state of a slot (R27). -/
inductive SlotState where
  | free | landing | staged | issued
  deriving DecidableEq, Repr

/-- A slot record (R27), at the reset values of R27. -/
structure Slot where
  state : SlotState := .free
  fn : Nat := 0
  ns : Nat := 0
  lba : Nat := 0
  seq : Nat := 0
  stream : Nat := 0
  durable : Option Nat := none
  mark : Bool := false
  deriving DecidableEq, Repr

/-! ## Streams and segments (chapters 3 and 4) -/

/-- State of a stream (R55). -/
inductive StreamState where
  | unbound | idle | opened | starved | held
  deriving DecidableEq, Repr

/-- A stream context (R53), at the reset values of R54. -/
structure Stream where
  state : StreamState := .unbound
  laneSet : BitVec 8 := 0
  cadence : Nat := 1
  phase : Nat := 0
  lingerLimit : Nat := 0
  queue : List Nat := []
  pad : Bool := false
  linger : Nat := 0
  openSeg : Option Nat := none
  lastLane : Nat := 7
  inflight : Nat := 0
  staged : BitVec 48 := 0
  superseded : BitVec 48 := 0
  issued : BitVec 32 := 0
  fillers : BitVec 48 := 0
  failed : BitVec 32 := 0
  deriving DecidableEq, Repr

/-- A grant (R79). -/
structure Grant where
  block : BitVec 32
  capacity : Nat
  deriving DecidableEq, Repr

/-- Why a segment left OPEN (R83). -/
inductive EndCause where
  | full | broken | rotated
  deriving DecidableEq, Repr

/-- A segment record (R83). Its state is OPEN while the end cause is absent, and DRAINING from then on (R83). -/
structure Segment where
  stream : Nat
  lane : Nat
  block : BitVec 32
  capacity : Nat
  issued : Nat := 0
  done : Nat := 0
  failed : Nat := 0
  endCause : Option EndCause := none
  deriving DecidableEq, Repr

/-! ## Lanes (chapters 4, 5 and 6) -/

/-- Kind of a unit (R101). -/
inductive UnitKind where
  | normal | dump
  deriving DecidableEq, Repr

/-- An in-flight unit record (R101). -/
structure InFlight where
  kind : UnitKind
  seg : Option Nat
  block : BitVec 32
  unit : Nat
  slots : List Nat
  fillers : Nat
  trailer : Bool
  expiry : Nat
  deriving DecidableEq, Repr

/-- A lane parcel that waits at the lane link (R115): its head, and its place in the order of arrival at the part. -/
structure Waiting where
  head : Unit16
  arrival : Nat
  deriving DecidableEq, Repr

/-- All that the blocks hold for one lane: the lane record (R98), the outcome record (R114), the grants (R79), the two per-lane
parameters (R170) and the parcels waiting at the link (R115), at the reset values of R99, R114 and R79. -/
structure Lane where
  up : Bool := true
  window : Nat := 16
  inflight : List InFlight := []
  pass : Nat := 0
  position : Nat := 255
  unitsIssued : BitVec 32 := 0
  consecutive : Nat := 0
  done : BitVec 32 := 0
  failed : BitVec 32 := 0
  timeouts : BitVec 32 := 0
  stray : BitVec 32 := 0
  normal : List Grant := []
  dump : List Grant := []
  armed : Bool := false
  poolLowMark : Nat := 4
  waiting : List Waiting := []
  deriving DecidableEq, Repr

/-! ## Settlement (chapter 7) -/

/-- A durable write record in use (R138). -/
structure DurableRecord where
  tag : BitVec 16
  fn : Nat
  first : Nat
  count : Nat
  remaining : Nat
  deriving DecidableEq, Repr

/-- A flush record in use (R144); the table is keyed by its function (log 8). -/
structure FlushRecord where
  count : Nat := 0
  tags : List (BitVec 16) := []
  deriving DecidableEq, Repr

/-! ## Dump (chapter 8) -/

/-- State of the part (R151). -/
inductive PartState where
  | run | dumping | dumped
  deriving DecidableEq, Repr

/-- The code on DUMPRES (R151). -/
inductive DumpResult where
  | none | complete | truncated | failed
  deriving DecidableEq, Repr

/-- Phase of the dump engine (R154). -/
inductive DumpPhase where
  | idle | filling | trailing
  deriving DecidableEq, Repr

/-- A dump grant taken into use (R154). -/
structure TakenGrant where
  lane : Nat
  block : BitVec 32
  capacity : Nat
  assigned : Nat := 0
  deriving DecidableEq, Repr

/-- The content of a trailer (R162). -/
structure Trailer where
  generation : Nat
  first : Nat
  last : Nat
  dumped : Nat
  notDumped : Nat
  units : Nat
  /-- The block list: lane, block id, units used. -/
  blocks : List TakenGrant
  deriving DecidableEq, Repr

/-- The dump engine (R154), at the reset values of R154. -/
structure Dump where
  phase : DumpPhase := .idle
  cursor : Option Nat := none
  redo : List Nat := []
  taken : List TakenGrant := []
  remaining : Nat := 0
  sectors : Nat := 0
  units : Nat := 0
  first : Option Nat := none
  last : Option Nat := none
  /-- DUMP-GENERATION as it stood at the entry to DUMPING (R162, R170). -/
  generation : Nat := 0
  /-- The content of the trailer last sent: its TRUNCATED flag decides DUMPRES (R163). -/
  trailer : Option Trailer := none
  deriving DecidableEq, Repr

/-! ## Parameters (chapter 9) -/

/-- The part-wide parameters with a value of their own (R170), at their defaults. ISSUE-WINDOW and POOL-LOW-MARK stand in the
lanes; SEQUENCE-BASE is the landing sequence counter. -/
structure Params where
  heatStep : Nat := 256
  decayInterval : Nat := 1000
  programTimeout : Nat := 200
  timeoutLimit : Nat := 3
  pressureMark : Nat := 1024
  durableLinger : Nat := 1
  creditBatch : Nat := 64
  creditLinger : Nat := 20
  dumpGeneration : Nat := 0
  deriving DecidableEq, Repr

/-! ## Links (chapter 10) -/

/-- The ingress parcel that the parser holds (R184): its head, the body of a kind other than WRITE, and for a WRITE the slots its
blocks have landed in, in body order, the overrun decision of R34, and whether an abort mark ended it (R191). -/
structure Arriving where
  head : Unit16
  body : List Unit16 := []
  landed : List Nat := []
  overrun : Bool := false
  aborted : Bool := false
  deriving DecidableEq, Repr

/-- State of the ingress parser (R184). -/
inductive Parser where
  | awaiting
  | receiving (a : Arriving)
  | gated (a : Arriving)
  | holding (a : Arriving)
  deriving DecidableEq, Repr

/-- LANDED statuses (R187). -/
inductive LandedStatus where
  | ok | noTenant | noRoute | tenantFull | malformed | overrun
  deriving DecidableEq, Repr

/-- PEEKED statuses (R187). -/
inductive PeekedStatus where
  | found | notStaged | noTenant
  deriving DecidableEq, Repr

/-- FLUSHED statuses (R187). -/
inductive FlushedStatus where
  | ok | noTenant | busy
  deriving DecidableEq, Repr

/-- REPLY statuses (R169, R187). -/
inductive Status where
  | ok | badRequest | badField | wrongState | notQuiet | inUse | windowConflict | badRanges | full | laneDown
  deriving DecidableEq, Repr

/-- Reasons of PROGRAM-FAILED (R125). -/
inductive FailReason where
  | programError | blockRetired | addressError | timeout | laneDown
  deriving DecidableEq, Repr

/-- Causes of LANE-DOWN (R130). -/
inductive DownCause where
  | link | timeout
  deriving DecidableEq, Repr

/-- One entry of a PLACED parcel (R121). -/
structure PlacedEntry where
  position : Nat
  fn : Nat
  ns : Nat
  lba : Nat
  seq : Nat
  deriving DecidableEq, Repr

/-- A parcel of the return direction (R187, R188). -/
inductive ReturnParcel where
  | landed (tag : BitVec 16) (fn : Nat) (status : LandedStatus) (count : Nat) (first : Nat)
  | placed (seg lane : Nat) (block : BitVec 32) (unit : Nat) (entries : List PlacedEntry)
  | peeked (tag : BitVec 16) (fn : Nat) (status : PeekedStatus) (seq : Nat) (data : List Byte)
  | flushed (tag : BitVec 16) (fn : Nat) (status : FlushedStatus)
  | credit (count : Nat)
  | reply (tag : BitVec 16) (fn : Nat) (code : Nat) (status : Status) (body : List Byte)
  | ready
  | poolLow (lane left : Nat)
  | streamStarved (stream : Nat)
  | programFailed (lane : Nat) (reason : FailReason) (seg unit : Nat) (block : BitVec 32)
  | segmentClosed (id : Nat) (segment : Segment)
  | laneDown (lane : Nat) (cause : DownCause) (failed : Nat)
  | grantReturned (lane : Nat) (grants : List (UnitKind × Grant))
  deriving DecidableEq, Repr

/-- What a link has carried, in order: the bytes of a parcel, or an abort mark (R191). On the return link an abort mark stands
for a parcel that was partly sent; on a lane link it voids the PROGRAM before it (log 13). -/
inductive LinkItem where
  | parcel (bytes : List Byte)
  | abortMark
  deriving DecidableEq, Repr

/-- The levels of the input lines (section 10.8), `true` for asserted. -/
structure Lines where
  reset : Bool := false
  pfail : Bool := false
  laneflt : BitVec 8 := 0
  deriving DecidableEq, Repr

/-! ## The machine -/

/-- Why the part would stop. It has no constructor: the manual gives no event on which the part stops. Every refusal of the part is
a LANDED, FLUSHED, PEEKED or REPLY status, every failure of a lane or a dump a next state (log 2). -/
inductive Fault where
  deriving DecidableEq, Repr

/-- Why the model would refuse a command. -/
inductive Refusal where
  /-- A row of the table without a meaning yet; raised by an arm of `exec` alone. Safe: the model stops. No arm raises it. -/
  | notModelled (mnemonic : String)
  deriving DecidableEq, Repr

/-- The state of the part, at the values it has after the release of RESET_N (R178), with no command waiting. -/
structure State where
  /-- Model's own: the commands that wait, first in, first out. -/
  pending : List Instr := []
  /-- Model's own: the clock, in microseconds (log 1). -/
  now : Nat := 0
  lines : Lines := {}
  part : PartState := .run
  dumpres : DumpResult := .none
  parser : Parser := .awaiting
  tenants : Store Tenant := []
  ranges : Store Range := []
  /-- Next expiry of the heat decay timer (R23). -/
  decayTimer : Option Nat := some 1000000
  /-- Next expiry of the linger clock (R70). -/
  lingerClock : Option Nat := some 1000
  /-- Expiry of the credit linger timer (R31). -/
  creditTimer : Option Nat := none
  slots : Store Slot := []
  /-- Staging memory: byte `o` of slot `k` is at address `4096 k + o`. -/
  staging : List Host.Cell := []
  /-- Credits outstanding (R29). -/
  credits : Nat := 16384
  /-- The landing sequence counter (R43). -/
  sequence : Nat := 0
  /-- The landing index (R45), keyed by `identityKey`. -/
  index : Store Nat := []
  streams : Store Stream := []
  /-- Segment table entries in use, by segment id (R83). -/
  segments : Store Segment := []
  nextSegment : Nat := 0
  starved : List Nat := []
  lanes : Store Lane := []
  durables : Store DurableRecord := []
  flushes : Store FlushRecord := []
  dump : Dump := {}
  params : Params := {}
  /-- The return queue, head first (R191). -/
  returns : List ReturnParcel := [.ready, .credit 16384]
  /-- Model's own: lanes whose POOL-LOW is due in this event (R82). -/
  due : List Nat := []
  /-- Model's own: lane parcels arrived so far (R115, log 10). -/
  arrivals : Nat := 0
  /-- Model's own: free picks drawn so far (log 5). -/
  draws : Nat := 0
  /-- Model's own: what the return link has carried. -/
  returnLink : List LinkItem := []
  /-- Model's own: what each lane link has carried outward. -/
  laneLinks : Store (List LinkItem) := []
  deriving DecidableEq, Repr

/-- The part right after the release of RESET_N: every block at its reset values, READY and CREDIT 16384 enqueued, the heat decay
timer and the linger clock started (R178). -/
def State.reset : State := {}

end Sys2Proof.Machine
end

