-- ==== Sys2Proof/WellFormed.lean ====
section
/-! DEFINITION. Which commands can come at all: a block of a WRITE has 1 to 256 units of 16 bytes (R34, R35), and a parcel has
the body length that its head states (R181). Every other operand is right by its type. -/

namespace Sys2Proof

/-- The kind code of a parcel head, byte 0 (R181). -/
def headKind (h : Unit16) : Nat := (h.extractLsb' 0 8).toNat

/-- The body length of a parcel head in units, bytes 2 and 3 (R181). -/
def headBodyUnits (h : Unit16) : Nat := (h.extractLsb' 16 16).toNat

/-- The kind code of WRITE (R181). -/
abbrev kindWrite : Nat := 0x10

/-- The body that comes with a head is the body the head states; the body of a WRITE comes in blocks of its own. -/
def bodyFits (head : Unit16) (body : List Unit16) : Bool :=
  if headKind head = kindWrite then body.isEmpty else decide (body.length = headBodyUnits head)

/-- A block of a WRITE body is 1 to 256 units: a full block is 4096 bytes, a final part-block less (R34). -/
def blockFits (block : List Unit16) : Bool := decide (1 ≤ block.length ∧ block.length ≤ 256)

/-- A command that can come. -/
def Instr.wellFormed : Instr → Bool
  | .landing block => blockFits block
  | .parcelHeadArrival head body => bodyFits head body
  | _ => true

end Sys2Proof
end

