-- ==== Sys2Proof/Machine/Operands.lean ====
section
/-! DEFINITION. The fields of the parcels that the part receives: the common head (R181), the ingress kinds (R182), the requests
and their bodies (R185, R186), and ANSWER (R189). Bytes and bits that a layout does not name are ignored (R181). -/

namespace Sys2Proof.Machine

/-- The field of `len` bytes at byte `off` of a unit, little-endian (R181). -/
def field (u : Unit16) (off len : Nat) : Nat := (u.extractLsb' (8 * off) (8 * len)).toNat

/-- Bit `i` of byte `off` of a unit. -/
def bitAt (u : Unit16) (off i : Nat) : Bool := u.getLsbD (8 * off + i)

/-! ## The head (R181) -/

/-- Kind codes of the ingress kinds and of ANSWER (R181). -/
abbrev kindPeek : Nat := 0x11
abbrev kindFlush : Nat := 0x12
abbrev kindMgmt : Nat := 0x1F
abbrev kindAnswer : Nat := 0x31

/-- Kind code, byte 0. -/
def Arriving.kind (a : Arriving) : Nat := headKind a.head
/-- Body length in units, bytes 2 and 3. -/
def Arriving.bodyUnits (a : Arriving) : Nat := headBodyUnits a.head
/-- Tag, bytes 4 and 5. -/
def Arriving.tag (a : Arriving) : BitVec 16 := a.head.extractLsb' 32 16
/-- Function number as carried, bytes 6 and 7. -/
def Arriving.fn (a : Arriving) : Nat := field a.head 6 2

/-! ## WRITE, PEEK (R182) -/

/-- Flag bit 0 of a WRITE: DURABLE. -/
def Arriving.durableFlag (a : Arriving) : Bool := bitAt a.head 1 0
/-- Flag bit 1 of a WRITE: HINT-PRESENT. -/
def Arriving.hintPresent (a : Arriving) : Bool := bitAt a.head 1 1
/-- Namespace of a WRITE or PEEK, byte 8. -/
def Arriving.ns (a : Arriving) : Nat := field a.head 8 1
/-- Hint of a WRITE, byte 9. -/
def Arriving.hint (a : Arriving) : Nat := field a.head 9 1
/-- Sector count of a WRITE, byte 10. -/
def Arriving.count (a : Arriving) : Nat := field a.head 10 1
/-- Start LBA of a WRITE, or LBA of a PEEK, bytes 11 to 15. -/
def Arriving.lba (a : Arriving) : Nat := field a.head 11 5

/-- Credit need: 4096-byte blocks of the body, a final part-block counting as one (R34). -/
def creditNeed (bodyUnits : Nat) : Nat := (bodyUnits + 255) / 256

/-- Units of the block at position `i` of a WRITE body (R34, R35): 256, or what is left for the last. -/
def blockUnits (bodyUnits i : Nat) : Nat := min 256 (bodyUnits - 256 * i)

/-- The key of a sector identity in the landing index: function, namespace (0 to 7) and LBA (below 2^40) side by side (R45). -/
def identityKey (fn ns lba : Nat) : Nat := fn * 2 ^ 43 + ns * 2 ^ 40 + lba

/-! ## MGMT (R185) -/

/-- Request code, byte 8. -/
def Arriving.code (a : Arriving) : Nat := field a.head 8 1
/-- Argument byte `i` of the head, 9 to 15. -/
def Arriving.arg (a : Arriving) (i : Nat) : Nat := field a.head i 1
/-- Start index of PUT-RANGES and GET-RANGES, bytes 9 and 10. -/
def Arriving.start (a : Arriving) : Nat := field a.head 9 2
/-- Entry count of PUT-RANGES and GET-RANGES, grant count of GRANT-BLOCKS, byte 11. -/
def Arriving.entryCount (a : Arriving) : Nat := field a.head 11 1
/-- Body unit `i`. -/
def Arriving.bodyUnit (a : Arriving) (i : Nat) : Unit16 := a.body.getD i 0

/-- The request codes of R185. -/
def requestCodes : List Nat :=
  [0x01, 0x02, 0x03, 0x10, 0x11, 0x12, 0x18, 0x19, 0x20, 0x21, 0x22, 0x23, 0x24, 0x25, 0x26, 0x30, 0x38, 0x39, 0x3F]

/-- The body length that a request permits (R185): PUT-RANGES and GRANT-BLOCKS have one unit for each entry they count. -/
def permittedBody (a : Arriving) : Nat :=
  if a.code = 0x02 then 1
  else if a.code = 0x10 then 2
  else if a.code = 0x18 ∨ a.code = 0x30 then a.entryCount
  else 0

/-- A MGMT parcel whose code names a request and whose body has the length that the request permits (R168). -/
def Arriving.isRequest (a : Arriving) : Bool :=
  a.kind == kindMgmt && requestCodes.contains a.code && a.bodyUnits == permittedBody a

/-- A MGMT parcel that is the request with this code. -/
def Arriving.isCode (a : Arriving) (code : Nat) : Bool := a.isRequest && a.code == code

/-- The part parameters (R170). -/
inductive Param where
  | heatStep | decayInterval | programTimeout | timeoutLimit | issueWindow | poolLowMark | pressureMark
  | durableLinger | creditBatch | creditLinger | sequenceBase | dumpGeneration
  deriving DecidableEq, Repr

/-- The parameter that a parameter code names (R185). -/
def paramOfCode : Nat → Option Param
  | 1 => some .heatStep
  | 2 => some .decayInterval
  | 3 => some .programTimeout
  | 4 => some .timeoutLimit
  | 5 => some .issueWindow
  | 6 => some .poolLowMark
  | 7 => some .pressureMark
  | 8 => some .durableLinger
  | 9 => some .creditBatch
  | 10 => some .creditLinger
  | 11 => some .sequenceBase
  | 12 => some .dumpGeneration
  | _ => none

/-- The lowest and highest value of a parameter (R170). -/
def paramRange : Param → Nat × Nat
  | .heatStep => (1, 4096)
  | .decayInterval => (1, 65535)
  | .programTimeout => (1, 1000)
  | .timeoutLimit => (1, 15)
  | .issueWindow => (1, 32)
  | .poolLowMark => (0, 31)
  | .pressureMark => (0, 8192)
  | .durableLinger => (0, 255)
  | .creditBatch => (1, 4096)
  | .creditLinger => (1, 255)
  | .sequenceBase => (0, 2 ^ 48 - 1)
  | .dumpGeneration => (0, 2 ^ 32 - 1)

/-- Clamps a value into a range (R171). -/
def clampInto (r : Nat × Nat) (v : Nat) : Nat := max r.1 (min r.2 v)

/-- Parameters held once for each lane (R170). -/
def paramPerLane : Param → Bool
  | .issueWindow => true
  | .poolLowMark => true
  | _ => false

/-- The parameter named by a SET-PARAM or GET-PARAM, byte 9. -/
def Arriving.param (a : Arriving) : Option Param := paramOfCode (a.arg 9)
/-- The lane named by a SET-PARAM or GET-PARAM, byte 10. -/
def Arriving.paramLane (a : Arriving) : Nat := a.arg 10
/-- The value of a SET-PARAM, bytes 0 to 5 of its body. -/
def Arriving.paramValue (a : Arriving) : Nat := field (a.bodyUnit 0) 0 6

/-- A SET-PARAM that names the parameter `p`. -/
def Arriving.setsParam (a : Arriving) (p : Param) : Bool := a.isCode 0x02 && a.param == some p

/-- A SET-PARAM of a parameter without an act of its own, or of a code that names no parameter. -/
def Arriving.setsPlainParam (a : Arriving) : Bool :=
  a.isCode 0x02 && !(a.param == some .decayInterval || a.param == some .durableLinger || a.param == some .creditBatch
    || a.param == some .sequenceBase || a.param == some .poolLowMark)

/-! ## Bodies (R186) -/

/-- The firmware fields that a PUT-TENANT carries (R186). -/
structure TenantFields where
  valid : Bool
  defaultStream : Nat
  ackCode : Nat
  coalescing : Bool
  cap : Nat
  windowFirst : Nat
  windowCount : Nat
  hints : Store Nat
  deriving DecidableEq, Repr

/-- The body of a PUT-TENANT. -/
def Arriving.tenantFields (a : Arriving) : TenantFields :=
  let u := a.bodyUnit 0
  let v := a.bodyUnit 1
  { valid := bitAt u 0 0
    defaultStream := field u 1 1
    ackCode := field u 2 1
    coalescing := bitAt u 3 0
    cap := field u 4 2
    windowFirst := field u 6 2 % 4096
    windowCount := field u 8 1
    hints := (List.range' 1 15).filterMap fun h => if bitAt u 9 h then some (h, field v (h - 1) 1) else none }

/-- The range entry in one unit of a PUT-RANGES body: threshold 0 is stored as 1, heat 0 and hot flag clear (R12). -/
def rangeOfUnit (u : Unit16) : Range :=
  { ns := field u 0 1
    base := field u 6 5
    limit := field u 11 5
    cold := field u 1 1
    hotStream := if bitAt u 3 0 then some (field u 2 1) else none
    threshold := max 1 (field u 4 2)
    heat := 0
    hot := false }

/-- The grant in one unit of a GRANT-BLOCKS body, its capacity as carried. -/
def grantOfUnit (u : Unit16) : Grant := { block := u.extractLsb' 0 32, capacity := field u 4 2 }

/-- The grants of a GRANT-BLOCKS, capacities as carried. -/
def Arriving.grants (a : Arriving) : List Grant := (List.range a.entryCount).map fun i => grantOfUnit (a.bodyUnit i)

/-- Clamp of a cadence (R58): 0 becomes 1, 1 to 16 the power of two below, more becomes 16. -/
def clampCadence (c : Nat) : Nat := if c < 2 then 1 else if c < 4 then 2 else if c < 8 then 4 else if c < 16 then 8 else 16

/-! ## ANSWER (R189) -/

/-- A lane parcel that the part reads as an ANSWER: its kind code, and no body. -/
def isAnswer (h : Unit16) : Bool := headKind h == kindAnswer && headBodyUnits h == 0
/-- Block id of an ANSWER, bytes 8 to 11. -/
def answerBlock (h : Unit16) : BitVec 32 := h.extractLsb' 64 32
/-- Unit index of an ANSWER, bytes 12 and 13. -/
def answerUnit (h : Unit16) : Nat := field h 12 2

/-- How an ANSWER is handled (R116). -/
inductive Outcome where
  | done
  | fail (reason : FailReason)
  | unknown
  deriving DecidableEq, Repr

/-- Outcome and reason codes, bytes 14 and 15 (R116). -/
def answerOutcome (h : Unit16) : Outcome :=
  if field h 14 1 = 1 then .done
  else if field h 14 1 = 2 then
    .fail (if field h 15 1 = 2 then .blockRetired else if field h 15 1 = 3 then .addressError else .programError)
  else .unknown

end Sys2Proof.Machine
end

