-- ==== Sys2Proof/Machine/Formats.lean ====
section
/-! DEFINITION. The byte layouts of what the part sends: the return parcels (R187, R188), the result bodies (R186), PROGRAM and
the sector tag (R189), and the trailer (R190). Bytes that a layout does not name are sent as 0 (R181). -/

namespace Sys2Proof.Machine

/-- `n` bytes of a number, little-endian (R181). -/
def leBytes : Nat → Nat → List Byte
  | 0, _ => []
  | n + 1, v => BitVec.ofNat 8 v :: leBytes n (v / 256)

/-- Fields, each a width in bytes and a value, packed in order. -/
def packed (fields : List (Nat × Nat)) : List Byte := fields.flatMap fun f => leBytes f.1 f.2

/-- Fills up with zeros to `n` bytes. -/
def padTo (n : Nat) (bs : List Byte) : List Byte := bs ++ List.replicate (n - bs.length) 0

/-- Pads with zeros to a whole unit of 16 bytes (R186). -/
def padToUnit (bs : List Byte) : List Byte := padTo ((bs.length + 15) / 16 * 16) bs

/-- A flag as a number. -/
def flagNat (b : Bool) : Nat := if b then 1 else 0

/-- A parcel: the common header of R181 (flags 0), the kind fields in bytes 8 to 15, and the body. -/
def parcelBytes (kind tag fn : Nat) (kindFields : List (Nat × Nat)) (body : List Byte) : List Byte :=
  packed [(1, kind), (1, 0), (2, body.length / 16), (2, tag), (2, fn)] ++ padTo 8 (packed kindFields) ++ body

/-! ## Codes (R187, R188) -/

/-- LANDED status codes. -/
def LandedStatus.code : LandedStatus → Nat
  | .ok => 0 | .noTenant => 1 | .noRoute => 2 | .tenantFull => 3 | .malformed => 4 | .overrun => 5

/-- PEEKED status codes. -/
def PeekedStatus.code : PeekedStatus → Nat
  | .found => 0 | .notStaged => 1 | .noTenant => 2

/-- FLUSHED status codes. -/
def FlushedStatus.code : FlushedStatus → Nat
  | .ok => 0 | .noTenant => 1 | .busy => 2

/-- REPLY status codes. -/
def Status.code : Status → Nat
  | .ok => 0 | .badRequest => 1 | .badField => 2 | .wrongState => 3 | .notQuiet => 4 | .inUse => 5
  | .windowConflict => 6 | .badRanges => 7 | .full => 8 | .laneDown => 9

/-- PROGRAM-FAILED reason codes (R188). -/
def FailReason.code : FailReason → Nat
  | .programError => 1 | .blockRetired => 2 | .addressError => 3 | .timeout => 4 | .laneDown => 5

/-- SEGMENT-CLOSED end cause codes (R188); absent never closes. -/
def endCauseCode : Option EndCause → Nat
  | none => 0 | some .full => 1 | some .broken => 2 | some .rotated => 3

/-- LANE-DOWN cause codes (R188). -/
def DownCause.code : DownCause → Nat
  | .link => 0 | .timeout => 1

/-- Kind codes of a unit or a grant (R185, R189). -/
def UnitKind.code : UnitKind → Nat
  | .normal => 0 | .dump => 1

/-- Stream state codes (R186). -/
def StreamState.code : StreamState → Nat
  | .unbound => 0 | .idle => 1 | .opened => 2 | .starved => 3 | .held => 4

/-- Ack mode codes (R186). -/
def AckMode.code : AckMode → Nat
  | .staged => 0 | .durable => 1

/-! ## Sector tags, PROGRAM and the trailer (R189, R190) -/

/-- The 16-byte sector tag; its first byte is the tag flags in a PROGRAM and the position in a PLACED (R189). -/
def tagBytes (first ns fn lba seq : Nat) : List Byte := packed [(1, first), (1, ns), (2, fn), (5, lba), (6, seq), (1, 0)]

/-- A filler: its tag has FILLER set and all else 0, and its data is 0 (R109). -/
def fillerBytes : List Byte := tagBytes 1 0 0 0 0 ++ List.replicate Config.sectorBytes 0

/-- A PROGRAM parcel: sixteen sectors in position order, the real ones first (R109, R189). `sectors` are the real sectors, each its
tag and data. -/
def programBytes (kind : UnitKind) (block : BitVec 32) (unit fillers : Nat) (sectors : List (List Byte)) : List Byte :=
  parcelBytes 0x30 0 0 [(4, block.toNat), (2, unit), (1, kind.code), (1, fillers)]
    (sectors.flatten ++ (List.replicate fillers fillerBytes).flatten)

/-- The signature of a trailer (R162). -/
abbrev trailerSignature : Nat := 0x50475644

/-- The landing sequence in a trailer's tag, which no staged sector carries (R162). -/
abbrev trailerSequence : Nat := 2 ^ 48 - 1

/-- TRUNCATED is set when sectors not dumped is above 0 (R162). -/
def Trailer.truncated (t : Trailer) : Bool := decide (0 < t.notDumped)

/-- The 4096 data bytes of the trailer's sector 0 (R190). -/
def Trailer.bytes (t : Trailer) : List Byte :=
  padTo Config.sectorBytes
    (packed [(4, trailerSignature), (4, t.generation), (6, t.first), (6, t.last), (4, t.dumped), (4, t.notDumped), (4, t.units),
        (1, flagNat t.truncated), (1, t.blocks.length)]
      ++ t.blocks.flatMap fun g => packed [(1, g.lane), (4, g.block.toNat), (2, g.assigned)])

/-- Sector 0 of the trailer unit: FILLER clear, identity 0, sequence 2^48−1, and the content (R162, R190). -/
def Trailer.sector (t : Trailer) : List Byte := tagBytes 0 0 0 0 trailerSequence ++ t.bytes

/-! ## Return parcels (R187, R188) -/

/-- One entry of a GRANT-RETURNED, and one grant of a GET-LANE (R188). -/
def grantEntryBytes (g : UnitKind × Grant) : List Byte :=
  padToUnit (packed [(1, g.1.code), (3, 0), (4, g.2.block.toNat), (2, g.2.capacity)])

/-- A NOTICE: tag 0, function 0, its kind in byte 8 (R188). -/
def noticeBytes (kind : Nat) (fields : List (Nat × Nat)) (body : List Byte) : List Byte :=
  parcelBytes 0x2E 0 0 ((1, kind) :: fields) body

/-- The bytes of a return parcel (R187, R188). -/
def ReturnParcel.bytes : ReturnParcel → List Byte
  | .landed tag fn status count first => parcelBytes 0x20 tag.toNat fn [(1, status.code), (1, count), (6, first)] []
  | .placed seg lane block unit entries =>
    parcelBytes 0x21 seg 0 [(1, lane), (1, entries.length), (2, unit), (4, block.toNat)]
      (entries.flatMap fun e => tagBytes e.position e.ns e.fn e.lba e.seq)
  | .peeked tag fn status seq data => parcelBytes 0x22 tag.toNat fn [(1, status.code), (1, 0), (6, seq)] data
  | .flushed tag fn status => parcelBytes 0x23 tag.toNat fn [(1, status.code)] []
  | .credit count => parcelBytes 0x24 0 0 [(2, count)] []
  | .reply tag fn code status body => parcelBytes 0x2F tag.toNat fn [(1, code), (1, status.code)] body
  | .ready => noticeBytes 0x01 [] []
  | .poolLow lane left => noticeBytes 0x02 [(1, lane), (1, left)] []
  | .streamStarved stream => noticeBytes 0x03 [(1, stream)] []
  | .programFailed lane reason seg unit block =>
    noticeBytes 0x04 [(1, lane), (1, reason.code), (2, seg), (2, unit)] (padToUnit (leBytes 4 block.toNat))
  | .segmentClosed id g =>
    noticeBytes 0x05 [(1, g.lane), (1, g.stream), (1, endCauseCode g.endCause), (2, id)]
      (padToUnit (packed [(4, g.block.toNat), (2, g.capacity), (2, g.issued), (2, g.done), (2, g.failed)]))
  | .laneDown lane cause failed => noticeBytes 0x06 [(1, lane), (1, cause.code), (1, failed)] []
  | .grantReturned lane grants => noticeBytes 0x07 [(1, lane), (1, grants.length)] (grants.flatMap grantEntryBytes)

/-! ## Result bodies (R186) -/

/-- IDENTIFY: part code, revision and the eight capacities (R174). -/
def identifyBody : List Byte :=
  padToUnit (packed [(2, 0x4416), (1, 2), (2, Config.tenants), (2, Config.rangeEntries), (2, Config.streams), (2, Config.slots),
    (2, Config.lanes), (2, Config.segments), (2, Config.durableRecords), (2, Config.flushRecords)])

/-- SET-PARAM and GET-PARAM: code, lane as carried, value. -/
def paramBody (code lane value : Nat) : List Byte := padToUnit (packed [(1, code), (1, lane), (6, value)])

/-- One unit whose bytes 0 and 1 hold a function number or an entry index (R185). -/
def indexBody (n : Nat) : List Byte := padToUnit (leBytes 2 n)

/-- GRANT-BLOCKS: the two grant counts (R185, R186). -/
def countsBody (normal dump : Nat) : List Byte := padToUnit (packed [(1, normal), (1, dump)])

/-- The hint present mask and the hint streams of a tenant (R186). -/
def hintMask (hints : Store Nat) : Nat := (hints.map fun h => 2 ^ h.1).sum

/-- GET-TENANT: the PUT-TENANT layout, then the staged count and the three counters (R186). The stream byte of an absent hint is sent
as 0: DESIGN CHOICE (log 29). -/
def tenantBody (t : Tenant) : List Byte :=
  padToUnit (packed [(1, flagNat t.valid), (1, t.defaultStream), (1, t.ack.code), (1, flagNat t.coalescing), (2, t.cap),
      (2, t.windowFirst), (1, t.windowCount), (2, hintMask t.hints)])
    ++ padToUnit (packed ((List.range' 1 15).map fun h => (1, Store.getD 0 t.hints h)))
    ++ padToUnit (packed [(2, t.stagedCount), (6, t.landed.toNat), (6, t.superseded.toNat)])
    ++ padToUnit (leBytes 4 t.refused.toNat)

/-- GET-RANGES, one entry: the PUT-RANGES layout, then heat and hot flag (R186). The hot stream byte of an entry without a hot stream is
sent as 0: DESIGN CHOICE (log 29). -/
def rangeBody (r : Range) : List Byte :=
  packed [(1, r.ns), (1, r.cold), (1, r.hotStream.getD 0), (1, flagNat r.hotStream.isSome), (2, r.threshold), (5, r.base),
      (5, r.limit)]
    ++ padToUnit (packed [(2, r.heat), (1, flagNat r.hot)])

/-- One in-flight record of a GET-LANE (R186): a trailer reports 0 real sectors and 15 fillers (R113). The id bytes of an absent segment
are sent as 0: DESIGN CHOICE (log 29). -/
def recordBody (r : InFlight) : List Byte :=
  padToUnit (packed [(1, r.kind.code), (1, flagNat r.seg.isSome), (2, r.seg.getD 0), (4, r.block.toNat), (2, r.unit),
    (1, r.slots.length), (1, r.fillers), (1, flagNat r.trailer)])

/-- The grants of a lane, normal grants oldest first, then dump grants oldest first (R93, R97). -/
def Lane.grants (l : Lane) : List (UnitKind × Grant) := l.normal.map (UnitKind.normal, ·) ++ l.dump.map (UnitKind.dump, ·)

/-- GET-LANE (R135, R186). -/
def laneBody (l : Lane) (laneflt : Bool) : List Byte :=
  padToUnit (packed [(1, flagNat !l.up), (1, l.window), (2, l.pass), (1, l.position), (1, l.inflight.length),
      (4, l.unitsIssued.toNat), (1, l.consecutive), (4, l.done.toNat), (4, l.failed.toNat), (4, l.timeouts.toNat),
      (4, l.stray.toNat), (1, l.normal.length), (1, l.dump.length), (1, flagNat l.armed), (1, flagNat laneflt)])
    ++ l.inflight.flatMap recordBody
    ++ l.grants.flatMap grantEntryBytes

end Sys2Proof.Machine
end

