-- ==== Sys2Proof/Machine/Flags.lean ====
section
/-! DEFINITION. The flags and derived quantities of the manual, each computed in one place: partial tail and ready units (R67), the
linger limit (R72), the hot flag (R18), the gates (R192), candidacy (R102), FREE and returnable counts (R29), and the others. -/

namespace Sys2Proof.Machine

/-! ## Reading the tables -/

/-- Tenant record of a function number (R1). -/
def State.tenant (s : State) (t : Nat) : Tenant := Store.getD {} s.tenants t
/-- Range entry (R4). -/
def State.range (s : State) (i : Nat) : Range := Store.getD {} s.ranges i
/-- Slot record (R27). -/
def State.slot (s : State) (k : Nat) : Slot := Store.getD {} s.slots k
/-- Stream context (R53). -/
def State.stream (s : State) (k : Nat) : Stream := Store.getD {} s.streams k
/-- What is held for a lane (R79, R98, R114). -/
def State.lane (s : State) (l : Nat) : Lane := Store.getD {} s.lanes l
/-- What a lane link has carried outward. -/
def State.laneLink (s : State) (l : Nat) : List LinkItem := Store.getD [] s.laneLinks l

/-! ## The part -/

/-- RESET_N is deasserted and the part is in RUN (R151, R177). -/
def State.running (s : State) : Bool := !s.lines.reset && s.part == .run
/-- RESET_N is deasserted and the part is in RUN or DUMPING: lane events are taken (R115, R130, R164). -/
def State.live (s : State) : Bool := !s.lines.reset && s.part != .dumped
/-- DUMPACT is high while a dump is in progress (R151). -/
def State.dumpact (s : State) : Bool := s.part == .dumping
/-- The code on DUMPRES (R151). -/
def DumpResult.code : DumpResult → Nat
  | .none => 0 | .complete => 1 | .truncated => 2 | .failed => 3

/-- Free entries of the return queue: the empty entries less the reserve (R192). -/
def State.freeEntries (s : State) : Nat := Config.returnEntries - s.returns.length - Config.returnReserve
/-- The ingress gate is open (R192). -/
def State.ingressGateOpen (s : State) : Bool := decide (Config.ingressGate ≤ s.freeEntries)
/-- The answer gate is open (R115, R192). -/
def State.answerGateOpen (s : State) : Bool := decide (Config.answerGate ≤ s.freeEntries)

/-! ## Slots and credits -/

/-- In use: STAGED or ISSUED (R27). -/
def Slot.inUse (r : Slot) : Bool := r.state == .staged || r.state == .issued
/-- The number of FREE slots: all but the listed ones that are not FREE (R29). -/
def State.freeSlots (s : State) : Nat := Config.slots - (s.slots.filter fun e => e.2.state != .free).length
/-- Returnable credits (R29). -/
def State.returnable (s : State) : Nat := s.freeSlots - s.credits
/-- The lowest-numbered FREE slot (R27). -/
def State.lowestFree (s : State) : Option Nat := firstFrom (fun k => (s.slot k).state == .free) Config.slots 0
/-- The slots that `p` accepts, in ascending slot number. -/
def State.slotsWhere (s : State) (p : Slot → Bool) : List Nat := (s.slots.filter fun e => p e.2).map Prod.fst
/-- No slot is LANDING, STAGED or ISSUED (R44, R175). -/
def State.allFree (s : State) : Bool := s.slots.all fun e => e.2.state == .free
/-- The slot that the landing index names for a sector identity (R45). -/
def State.indexed (s : State) (fn ns lba : Nat) : Option Nat := Store.find? s.index (identityKey fn ns lba)

/-! ## Tenants -/

/-- The function number names a valid tenant (R1, R38). -/
def State.validTenant (s : State) (fn : Nat) : Bool := decide (fn < Config.tenants) && (s.tenant fn).valid
/-- The tenant has a slot in state STAGED or ISSUED (R8, R10). -/
def State.hasInUse (s : State) (fn : Nat) : Bool := s.slots.any fun e => e.2.inUse && e.2.fn == fn
/-- The tenant is quiet: no in-use slot, no durable write record, no flush record (R8, R10). -/
def State.tenantQuiet (s : State) (fn : Nat) : Bool :=
  !s.hasInUse fn && !(s.durables.any fun e => e.2.fn == fn) && (Store.find? s.flushes fn).isNone
/-- The window of a tenant holds this range index (R1). -/
def Tenant.holds (t : Tenant) (i : Nat) : Bool := decide (t.windowFirst ≤ i ∧ i < t.windowFirst + t.windowCount)
/-- The indices of the window (R1). -/
def Tenant.window (t : Tenant) : List Nat := List.range' t.windowFirst t.windowCount

/-! ## Ranges: cover and heat (R4, R17, R18, R24) -/

/-- The entry covers the sector (R4). -/
def Range.covers (r : Range) (ns lba : Nat) : Bool := decide (r.ns = ns ∧ r.base ≤ lba ∧ lba ≤ r.limit)
/-- ceil(T/2), below which a hot entry leaves hot (R18). -/
def Range.leave (r : Range) : Nat := (r.threshold + 1) / 2
/-- The hot flag after the hysteresis check of R18. -/
def Range.hotAfter (r : Range) : Bool :=
  r.hotStream.isSome && (if r.hot then decide (r.leave ≤ r.heat) else decide (r.threshold ≤ r.heat))
/-- The heat step and the hysteresis check of a sector routed through the entry (R17, R18). -/
def Range.routed (r : Range) (hit : Bool) (step : Nat) : Range :=
  let r := if hit then { r with heat := min 65535 (r.heat + step) } else r
  { r with hot := r.hotAfter }
/-- The stream that the entry names while its flag stands as it does (R18). -/
def Range.choice (r : Range) : Nat := if r.hot then r.hotStream.getD r.cold else r.cold
/-- One heat decay expiry on an entry (R24). -/
def Range.decayed (r : Range) : Range :=
  let r := { r with heat := 7 * r.heat / 8 }
  { r with hot := r.hot && decide (r.leave ≤ r.heat) }

/-! ## Streams (R55, R67, R72) -/

/-- Bound in every state but UNBOUND (R55). -/
def Stream.bound (t : Stream) : Bool := t.state != .unbound
/-- Size of the partial tail (R67). -/
def Stream.tailSize (t : Stream) : Nat := t.queue.length % 16
/-- The partial tail: the last (n mod 16) slots of the queue (R67). -/
def Stream.tail (t : Stream) : List Nat := t.queue.drop (t.queue.length - t.tailSize)
/-- Ready units (R67). -/
def Stream.ready (t : Stream) : Nat := t.queue.length / 16 + if t.pad then 1 else 0
/-- The tail may be padded: it is non-empty and pad pending is clear (section 3.5). -/
def Stream.paddable (t : Stream) : Bool := t.bound && decide (0 < t.tailSize) && !t.pad
/-- The lane is in the lane set. -/
def Stream.onLane (t : Stream) (l : Nat) : Bool := t.laneSet.getLsbD l
/-- A slot of the partial tail has a durable reference (R72). -/
def State.tailDurable (s : State) (t : Stream) : Bool := t.tail.any fun k => (s.slot k).durable.isSome
/-- The effective linger limit (R72). -/
def State.lingerLimit (s : State) (t : Stream) : Option Nat :=
  if s.tailDurable t then
    some (if t.lingerLimit = 0 then s.params.durableLinger else min t.lingerLimit s.params.durableLinger)
  else if t.lingerLimit = 0 then none else some t.lingerLimit
/-- The linger check of R72 finds the limit reached. -/
def State.lingerDue (s : State) (t : Stream) : Bool :=
  match s.lingerLimit t with
  | none => false
  | some l => decide (l ≤ t.linger)

/-! ## Segments and grants -/

/-- OPEN while the end cause is absent (R83). -/
def Segment.isOpen (g : Segment) : Bool := g.endCause.isNone
/-- No unit outstanding: units done + units failed = units issued (R92). -/
def Segment.settled (g : Segment) : Bool := g.done + g.failed == g.issued
/-- The lanes in the order a segment request examines them: from the first after the last lane used, circularly (R85). -/
def laneOrder (last : Nat) : List Nat := (List.range 8).map fun i => (last + 1 + i) % 8

/-! ## Lanes -/

/-- A grant of the lane may open a segment: the lane is UP and holds a normal grant (R85). -/
def Lane.canGrant (l : Lane) : Bool := l.up && !l.normal.isEmpty
/-- The level of a lane's LANEFLT line (R135). -/
def State.lanefltLevel (s : State) (l : Nat) : Bool := s.lines.laneflt.getLsbD l
/-- Room in the issue window for `n` more units (R103, R105). -/
def Lane.roomFor (l : Lane) (n : Nat) : Bool := decide (l.inflight.length + n ≤ l.window)
/-- The open segment of a stream, with its id. -/
def State.openSegment (s : State) (t : Stream) : Option (Nat × Segment) :=
  match t.openSeg with
  | none => none
  | some id => (Store.find? s.segments id).map fun g => (id, g)
/-- The stream is a candidate on the lane (R102). -/
def State.candidate (s : State) (l k : Nat) : Bool :=
  let t := s.stream k
  t.state == .opened && decide (1 ≤ t.ready) &&
    match s.openSegment t with
    | none => false
    | some (_, g) => g.lane == l
/-- The candidates of a lane in ascending stream number. -/
def State.candidates (s : State) (l : Nat) : List Nat := (List.range Config.streams).filter (s.candidate l)
/-- The stream is eligible in a pass (R102). -/
def State.eligible (s : State) (pass k : Nat) : Bool := pass % (s.stream k).cadence == (s.stream k).phase

/-- The first waiting parcel of the lane is the next of all lanes to be taken: the first waiting parcels of the lanes are taken in
the order of their arrival (R115). -/
def State.arrivedFirst (s : State) (w : Waiting) : Bool :=
  (List.range Config.lanes).all fun l =>
    match (s.lane l).waiting with
    | [] => true
    | v :: _ => decide (w.arrival ≤ v.arrival)

/-! ## Dump (R154 to R163) -/

/-- The current dump grant: the last taken (R154). -/
def Dump.current (d : Dump) : Option TakenGrant := d.taken.getLast?
/-- All positions assigned (R155). -/
def TakenGrant.used (g : TakenGrant) : Bool := decide (g.capacity ≤ g.assigned)
/-- An in-use slot that the cursor has not reached (section 8.4). -/
def Dump.aboveCursor (d : Dump) (r : Slot) : Bool :=
  r.inUse &&
    match d.cursor with
    | none => true
    | some c => decide (c < r.seq)
/-- Undumped sectors on the redo list: those still in use (section 8.4, R156). -/
def State.redoInUse (s : State) : List Nat := s.dump.redo.filter fun k => (s.slot k).inUse
/-- The number of undumped sectors (section 8.4). -/
def State.undumped (s : State) : Nat := s.redoInUse.length + (s.slotsWhere s.dump.aboveCursor).length
/-- The lane has a DUMP record in flight with this trailer flag. -/
def Lane.hasDump (l : Lane) (trailer : Bool) : Bool := l.inflight.any fun r => r.kind == .dump && r.trailer == trailer
/-- A DUMP data record, or the trailer, is in flight on some lane (R162, R163). -/
def State.dumpInFlight (s : State) (trailer : Bool) : Bool := (List.range Config.lanes).any fun l => (s.lane l).hasDump trailer
/-- The current grant's lane is UP with room in its window (R157, R162). -/
def State.dumpLaneReady (s : State) : Bool :=
  match s.dump.current with
  | none => false
  | some g => (s.lane g.lane).up && (s.lane g.lane).roomFor 1

end Sys2Proof.Machine
end

