-- ==== Sys2Proof/Machine/Ops.lean ====
section
/-! DEFINITION. The named operations over the tables, staging memory and the return queue that the meanings share: writing a
record, enqueuing a parcel, the credit engine (R29 to R32), freeing a slot (R28), and the notices that end an event (R82). -/

namespace Sys2Proof.Machine

/-! ## Writing the tables -/

/-- Writes a tenant record. -/
def State.setTenant (s : State) (t : Nat) (r : Tenant) : State := { s with tenants := Store.setD {} s.tenants t r }
/-- Writes a range entry. -/
def State.setRange (s : State) (i : Nat) (r : Range) : State := { s with ranges := Store.setD {} s.ranges i r }
/-- Writes a slot record. -/
def State.setSlot (s : State) (k : Nat) (r : Slot) : State := { s with slots := Store.setD {} s.slots k r }
/-- Writes a stream context. -/
def State.setStream (s : State) (k : Nat) (r : Stream) : State := { s with streams := Store.setD {} s.streams k r }
/-- Writes what is held for a lane. -/
def State.setLane (s : State) (l : Nat) (r : Lane) : State := { s with lanes := Store.setD {} s.lanes l r }
/-- Writes a segment table entry. -/
def State.setSegment (s : State) (id : Nat) (g : Segment) : State := { s with segments := Store.insert s.segments id g }
/-- Frees a segment table entry. -/
def State.dropSegment (s : State) (id : Nat) : State := { s with segments := Store.erase s.segments id }
/-- Writes a landing index entry (R46). -/
def State.setIndex (s : State) (key k : Nat) : State := { s with index := Store.insert s.index key k }
/-- Removes a landing index entry (R47). -/
def State.dropIndex (s : State) (key : Nat) : State := { s with index := Store.erase s.index key }
/-- Writes a durable write record (R138). -/
def State.setDurable (s : State) (i : Nat) (r : DurableRecord) : State := { s with durables := Store.insert s.durables i r }
/-- Frees a durable write record. -/
def State.dropDurable (s : State) (i : Nat) : State := { s with durables := Store.erase s.durables i }
/-- Writes a tenant's flush record (R144). -/
def State.setFlush (s : State) (t : Nat) (r : FlushRecord) : State := { s with flushes := Store.insert s.flushes t r }
/-- Frees a tenant's flush record. -/
def State.dropFlush (s : State) (t : Nat) : State := { s with flushes := Store.erase s.flushes t }

/-- Enqueues a parcel at the tail of the return queue (R191). None is ever dropped (R192, log 11). -/
def State.enqueue (s : State) (p : ReturnParcel) : State := { s with returns := s.returns ++ [p] }

/-- Puts an item on a lane link. -/
def State.sendLane (s : State) (l : Nat) (i : LinkItem) : State :=
  { s with laneLinks := Store.setD [] s.laneLinks l (s.laneLink l ++ [i]) }

/-! ## Staging memory -/

/-- The value of a byte of staging memory that nothing has landed in. DESIGN CHOICE (log 6). -/
abbrev unwritten : Byte := 0

/-- Reads a byte of staging memory. -/
def readByte (m : List Host.Cell) (a : Nat) : Byte := Store.getD unwritten m a

/-- The cells of a run of bytes from an address: only bytes that differ from an unlisted one are listed. -/
def cellsOf : Nat → List Byte → List Host.Cell
  | _, [] => []
  | a, b :: bs => if b = unwritten then cellsOf (a + 1) bs else (a, b) :: cellsOf (a + 1) bs

/-- Writes a run of bytes from an address. -/
def writeBytes (m : List Host.Cell) (a : Nat) (bs : List Byte) : List Host.Cell :=
  m.filter (fun e => e.1 < a) ++ cellsOf a bs ++ m.filter (fun e => a + bs.length ≤ e.1)

/-- The 16 bytes of a unit, in order. -/
def unitBytes (u : Unit16) : List Byte := (List.range 16).map fun i => u.extractLsb' (8 * i) 8

/-- The 4096 bytes of a slot (R27, R52). -/
def State.slotData (s : State) (k : Nat) : List Byte :=
  (List.range Config.sectorBytes).map fun i => readByte s.staging (Config.sectorBytes * k + i)

/-- The tag and data of the real sector in a slot, as a PROGRAM carries it: FILLER clear (R109). -/
def State.sectorBytes (s : State) (k : Nat) : List Byte :=
  let r := s.slot k
  tagBytes 0 r.ns r.fn r.lba r.seq ++ s.slotData k

/-! ## Streams -/

/-- What every act that changes a staged queue ends with: an empty tail clears pad pending and sets the linger counter to 0 (R67). -/
def Stream.settle (t : Stream) : Stream := if t.tailSize = 0 then { t with pad := false, linger := 0 } else t

/-- Pads a stream's tail, when it has one that is not yet padded (section 3.5). -/
def State.padStream (s : State) (k : Nat) : State :=
  if (s.stream k).paddable then s.setStream k { s.stream k with pad := true } else s

/-- Does `f` for every stream in ascending stream number. -/
def State.forStreams (s : State) (f : State → Nat → State) : State := (List.range Config.streams).foldl f s

/-- Inserts a slot into a list of slots in ascending landing sequence (R69, R160). -/
def State.insertBySeq (s : State) (k : Nat) : List Nat → List Nat
  | [] => [k]
  | j :: t => if (s.slot k).seq < (s.slot j).seq then k :: j :: t else j :: s.insertBySeq k t

/-- Merges slots into a list by landing sequence. -/
def State.mergeBySeq (s : State) (ks : List Nat) (l : List Nat) : List Nat := ks.foldl (fun l k => s.insertBySeq k l) l

/-! ## The credit engine -/

/-- Enqueues one CREDIT with the whole returnable count (R30, R31). -/
def State.sendCredit (s : State) : State :=
  { s.enqueue (.credit s.returnable) with credits := s.credits + s.returnable, creditTimer := none }

/-- The evaluation of the returnable count (R30, R31); none is made from DUMPING onward (R33). -/
def State.evalCredit (s : State) : State :=
  if s.part != .run then s
  else if 1 ≤ s.returnable ∧ s.params.creditBatch ≤ s.returnable then s.sendCredit
  else if 1 ≤ s.returnable ∧ s.creditTimer = none then
    { s with creditTimer := some (s.now + s.params.creditLinger) }
  else s

/-! ## Freeing a slot -/

/-- A slot becomes FREE (R28): its index entry goes when the entry names it (R47), its tenant's staged count falls when it was in
use (R3), its reference and mark go; the other fields and the data stay (log 18). -/
def State.freeSlot (s : State) (k : Nat) : State :=
  let r := s.slot k
  let s := if s.indexed r.fn r.ns r.lba = some k then s.dropIndex (identityKey r.fn r.ns r.lba) else s
  let s := if r.inUse then s.setTenant r.fn { s.tenant r.fn with stagedCount := (s.tenant r.fn).stagedCount - 1 } else s
  s.setSlot k { r with state := .free, durable := none, mark := false }

/-- Frees slots in order. -/
def State.freeSlotList (s : State) (ks : List Nat) : State := ks.foldl State.freeSlot s

/-! ## The end of an event -/

/-- Enqueues the POOL-LOW of each lane due, with its normal grant count as it stands now. The order among several lanes is free
(log 5). -/
def State.sendPoolLows : Nat → List Nat → State → State
  | 0, _, s => s
  | _ + 1, [], s => s
  | _ + 1, [l], s => s.enqueue (.poolLow l (s.lane l).normal.length)
  | n + 1, l :: ls, s =>
    let i := Config.freeChoice s.draws % (ls.length + 1)
    let x := (l :: ls).getD i l
    State.sendPoolLows n ((l :: ls).eraseIdx i)
      { s.enqueue (.poolLow x (s.lane x).normal.length) with draws := s.draws + 1 }

/-- The POOL-LOW notices due are enqueued at the end of the event, after every other parcel (R82). -/
def State.poolLowNotices (s : State) : State := State.sendPoolLows s.due.length s.due { s with due := [] }

/-! ## Taking an ingress parcel (R184, R192) -/

/-- The whole parcel that the parser holds, when the part is in RUN: a parcel in GATED, or a parcel in RECEIVING whose body does
not land in slots and has arrived with this command (log 3). A WRITE that lands its body is whole when its last block has landed,
and is in GATED from then on. -/
def State.wholeParcel (s : State) : Option Arriving :=
  if s.running then
    match s.parser with
    | .gated a => if a.aborted then none else some a
    | .receiving a => if a.kind = kindWrite ∧ a.overrun = false then none else some a
    | _ => none
  else none

/-- Takes the whole parcel when it is the one wanted and the ingress gate is open: the parser goes to AWAITING and the owning block
acts (R184). While the gate is closed the parcel waits in GATED. -/
def State.take (s : State) (want : Arriving → Bool) (act : State → Arriving → State) : State :=
  match s.wholeParcel with
  | none => s
  | some a =>
    if want a then
      if s.ingressGateOpen then act { s with parser := .awaiting } a else { s with parser := .gated a }
    else s

/-- Enqueues the REPLY to a MGMT parcel: tag, function and code as carried (R167, R187). -/
def State.reply (s : State) (a : Arriving) (status : Status) (body : List Byte := []) : State :=
  s.enqueue (.reply a.tag a.fn a.code status body)

end Sys2Proof.Machine
end

