-- ==== Sys2Proof/Machine/Segments.lean ====
section
/-! DEFINITION. The segment manager's acts (chapter 4): ids, opening a segment from a grant, segment requests, the starvation list,
draining and closing. -/

namespace Sys2Proof.Machine

/-- The first id at or above `n` (wrapping from 65535 to 0) that names no entry in use, of the next `fuel` (R84). -/
def freeId (m : Store Segment) : Nat → Nat → Nat
  | 0, n => n % 65536
  | fuel + 1, n => if (Store.find? m (n % 65536)).isNone then n % 65536 else freeId m fuel (n + 1)

/-- The id that the next segment takes (R84): of the entries in use plus one ids, one is free. -/
def State.nextSegmentId (s : State) : Nat := freeId s.segments (s.segments.length + 1) s.nextSegment

/-- The POOL-LOW check when a grant has left the normal queue of a lane (R82). -/
def State.poolLowCheck (s : State) (l : Nat) : State :=
  let r := s.lane l
  if r.armed ∧ r.normal.length ≤ r.poolLowMark then { s.setLane l { r with armed := false } with due := s.due ++ [l] } else s

/-- The grant at the front of the lane's normal queue opens a segment for the stream (R85, R88). -/
def State.openFrom (s : State) (k l : Nat) : State :=
  match (s.lane l).normal with
  | [] => s
  | g :: rest =>
    let id := s.nextSegmentId
    let s := s.setLane l { s.lane l with normal := rest }
    let s := { s.setSegment id { stream := k, lane := l, block := g.block, capacity := g.capacity } with
      nextSegment := (id + 1) % 65536 }
    let s := s.setStream k { s.stream k with state := .opened, openSeg := some id, lastLane := l }
    s.poolLowCheck l

/-- The stream becomes STARVED, joins the starvation list at its tail, and STREAM-STARVED is enqueued (R86). -/
def State.starve (s : State) (k : Nat) : State :=
  { s.setStream k { s.stream k with state := .starved } with starved := s.starved ++ [k] }.enqueue (.streamStarved k)

/-- The lane that a segment request of the stream is given (R85). -/
def State.laneFor (s : State) (t : Stream) : Option Nat :=
  (laneOrder t.lastLane).find? fun l => t.onLane l && (s.lane l).canGrant

/-- The answer to a segment request of the stream (R85, R86). -/
def State.requestSegment (s : State) (k : Nat) : State :=
  match s.laneFor (s.stream k) with
  | some l => s.openFrom k l
  | none => s.starve k

/-- A stream left IDLE with ready units requests a segment (R56). -/
def State.requestIfDue (s : State) (k : Nat) : State :=
  if (s.stream k).state = .idle ∧ 1 ≤ (s.stream k).ready then s.requestSegment k else s

/-- The segment requests at the end of an event, in ascending stream number; none is made from DUMPING onward (R56, log 16). -/
def State.segmentRequests (s : State) : State := if s.part = .run then s.forStreams State.requestIfDue else s

/-- What ends an event that may leave streams IDLE with ready units: the segment requests, then the POOL-LOW notices (R56, R82). -/
def State.endRequests (s : State) : State := s.segmentRequests.poolLowNotices

/-- The oldest listed stream that has the lane in its lane set (R88). -/
def State.oldestStarved (s : State) (l : Nat) : Option Nat := s.starved.find? fun k => (s.stream k).onLane l

/-- Serves the starvation list on a lane, at most `fuel` times (R88). -/
def State.serve (l : Nat) : Nat → State → State
  | 0, s => s
  | fuel + 1, s =>
    if (s.lane l).canGrant then
      match s.oldestStarved l with
      | none => s
      | some k => State.serve l fuel ({ s with starved := s.starved.erase k }.openFrom k l)
    else s

/-- The open segment of a stream becomes absent: an OPEN stream goes to IDLE, a HELD stream stays HELD (R57). -/
def Stream.released (t : Stream) : Stream :=
  { t with openSeg := none, state := if t.state = .opened then .idle else t.state }

/-- An OPEN segment goes DRAINING with this end cause, and its stream loses it (R57, R89 to R91). A segment goes DRAINING once. -/
def State.drain (s : State) (id : Nat) (cause : EndCause) : State :=
  match Store.find? s.segments id with
  | none => s
  | some g =>
    if g.isOpen then
      (s.setSegment id { g with endCause := some cause }).setStream g.stream (s.stream g.stream).released
    else s

/-- A DRAINING segment with no unit outstanding closes: SEGMENT-CLOSED is enqueued and its entry becomes free (R92). -/
def State.closeIfSettled (s : State) (id : Nat) : State :=
  match Store.find? s.segments id with
  | none => s
  | some g => if !g.isOpen && g.settled then (s.enqueue (.segmentClosed id g)).dropSegment id else s

/-- Drains a segment and closes it when it has no unit outstanding. -/
def State.drainAndClose (s : State) (id : Nat) (cause : EndCause) : State := (s.drain id cause).closeIfSettled id

/-- Drains and closes a stream's open segment, when it has one (R63, R64, R91). -/
def State.rotate (s : State) (k : Nat) : State :=
  match (s.stream k).openSeg with
  | none => s
  | some id => s.drainAndClose id .rotated

/-- Returns the grants of a lane in one GRANT-RETURNED, when it holds any, and clears its armed flag (R82, R93). -/
def State.returnGrants (s : State) (l : Nat) : State :=
  let r := s.lane l
  let s := if r.grants.isEmpty then s else s.enqueue (.grantReturned l r.grants)
  s.setLane l { r with normal := [], dump := [], armed := false }

end Sys2Proof.Machine
end

