-- ==== Sys2Proof/Machine/Streams.lean ====
section
/-! DEFINITION. The stream engine's acts (chapter 3): the linger check, the three pads made at the end of an event, and the requeue
of a failed unit. -/

namespace Sys2Proof.Machine

/-- The linger check of one stream (R72). -/
def State.lingerCheck (s : State) (k : Nat) : State := if s.lingerDue (s.stream k) then s.padStream k else s

/-- One stream at a linger clock expiry: the counter of an unpadded tail rises, saturating, and the check is made (R71). -/
def State.lingerTick (s : State) (k : Nat) : State :=
  if (s.stream k).paddable then
    (s.setStream k { s.stream k with linger := min 255 ((s.stream k).linger + 1) }).lingerCheck k
  else s

/-- The durable-linger pad at the end of an event: while DURABLE-LINGER is 0, every unpadded tail with a durable slot is padded
(R73, log 16). -/
def State.durablePads (s : State) : State :=
  if s.params.durableLinger = 0 then
    s.forStreams fun s k => if s.tailDurable (s.stream k) then s.padStream k else s
  else s

/-- The landing sequence of the first slot of a stream's tail. -/
def State.tailSeq (s : State) (k : Nat) : Nat := (s.slot ((s.stream k).tail.headD 0)).seq

/-- Of two streams, the one whose tail's first slot has the lower landing sequence; an unpaddable stream never (R74). -/
def State.olderTail (s : State) (best : Option Nat) (k : Nat) : Option Nat :=
  if (s.stream k).paddable then
    match best with
    | none => some k
    | some j => if s.tailSeq k < s.tailSeq j then some k else some j
  else best

/-- The stream that free-slot pressure pads (R74). -/
def State.pressureStream (s : State) : Option Nat := (List.range Config.streams).foldl s.olderTail none

/-- Free-slot pressure after an accepted WRITE (R74). -/
def State.pressure (s : State) : State :=
  if s.freeSlots < s.params.pressureMark then
    match s.pressureStream with
    | none => s
    | some k => s.padStream k
  else s

/-- Pads every stream whose tail holds a marked slot of the tenant (R75, R146). -/
def State.flushPads (s : State) (fn : Nat) : State :=
  s.forStreams fun s k =>
    if (s.stream k).tail.any (fun j => (s.slot j).mark && (s.slot j).fn == fn) then s.padStream k else s

/-- The slots of a failed unit go back into the stream's queue by landing sequence; a unit that had fillers pads its tail again
(R69). -/
def State.requeue (s : State) (k : Nat) (slots : List Nat) (fillers : Nat) : State :=
  let t := ({ s.stream k with queue := s.mergeBySeq slots (s.stream k).queue }).settle
  s.setStream k { t with pad := t.pad || (decide (0 < fillers) && decide (0 < t.tailSize)) }

/-- Sets the state of slots, keeping every other field (R106, R126). -/
def State.setSlotStates (s : State) (ks : List Nat) (st : SlotState) : State :=
  ks.foldl (fun s k => s.setSlot k { s.slot k with state := st }) s

end Sys2Proof.Machine
end

