-- ==== Sys2Proof/Machine/Staging.lean ====
section
/-! DEFINITION. Landing, classification and staging (chapters 1 and 2): the route of a sector, the staging of one sector with the
supersede rule, and the acceptance or refusal of a WRITE. -/

namespace Sys2Proof.Machine

/-- A block lands in a FREE slot: the slot becomes LANDING with the identity of the header, and a credit is consumed (R35). -/
def State.land (s : State) (a : Arriving) (k : Nat) (block : List Unit16) : State :=
  let i := a.landed.length
  let s := s.setSlot k { s.slot k with state := .landing, fn := a.fn, ns := a.ns, lba := a.lba + i }
  { s with
    staging := writeBytes s.staging (Config.sectorBytes * k) (block.flatMap unitBytes)
    credits := s.credits - 1 }

/-! ## The route of a sector (R14 to R20) -/

/-- The range entry of the tenant's window that covers the sector (R16). -/
def State.coveringEntry (s : State) (t : Tenant) (ns lba : Nat) : Option Nat :=
  t.window.find? fun i => (s.range i).covers ns lba

/-- The stream that a hint names (R19). -/
def hintStream (a : Arriving) (t : Tenant) : Option Nat :=
  if a.hintPresent ∧ 1 ≤ a.hint ∧ a.hint ≤ 15 then Store.find? t.hints a.hint else none

/-- The heat step and hysteresis check on the sector's range entry, when it has one (R17, R18). -/
def State.heatStep (s : State) (entry : Option Nat) (hit : Bool) : State :=
  match entry with
  | none => s
  | some i => s.setRange i ((s.range i).routed hit s.params.heatStep)

/-- The candidate stream before the hint: the entry's choice, or the default stream (R16, R18). -/
def State.rangeChoice (s : State) (t : Tenant) (entry : Option Nat) : Nat :=
  match entry with
  | none => t.defaultStream
  | some i => (s.range i).choice

/-- The fallback: an UNBOUND candidate gives way to the default stream (R20). -/
def State.fallback (s : State) (t : Tenant) (k : Nat) : Nat := if (s.stream k).bound then k else t.defaultStream

/-! ## Staging a sector (R21, R42 to R49) -/

/-- The slot takes the next landing sequence, becomes STAGED in the stream, and joins its queue at the tail (R42, R43, R66). -/
def State.appendStaged (s : State) (k stream : Nat) : State :=
  let q := s.sequence
  let s := { s.setSlot k { s.slot k with state := .staged, seq := q, stream := stream } with sequence := q + 1 }
  let t := s.stream stream
  s.setStream stream { ({ t with queue := t.queue ++ [k] }).settle with staged := t.staged + 1 }

/-- The older copy may be superseded (R48). -/
def supersedable (t : Tenant) (old : Slot) : Bool := t.coalescing && old.state == .staged && old.durable.isNone && !old.mark

/-- The older copy leaves its stream's queue and becomes FREE, and both superseded counters rise (R49, R68). -/
def State.supersede (s : State) (fn old : Nat) : State :=
  let k := (s.slot old).stream
  let t := s.stream k
  let s := s.setStream k { ({ t with queue := t.queue.filter (· != old) }).settle with superseded := t.superseded + 1 }
  let s := s.freeSlot old
  s.setTenant fn { s.tenant fn with superseded := (s.tenant fn).superseded + 1 }

/-- The landing index names the new slot, and the copy it named before is judged (R46, R48). -/
def State.indexStaged (s : State) (fn ns lba k : Nat) : State :=
  let old := s.indexed fn ns lba
  let s := s.setIndex (identityKey fn ns lba) k
  match old with
  | none => s
  | some o => if supersedable (s.tenant fn) (s.slot o) then s.supersede fn o else s

/-- The tenant's staged count and sectors landed rise by 1 (R3, R21). -/
def State.countLanded (s : State) (fn : Nat) : State :=
  let t := s.tenant fn
  s.setTenant fn { t with stagedCount := t.stagedCount + 1, landed := t.landed + 1 }

/-- The stream's linger counter returns to 0 (R21, R67). -/
def State.resetLinger (s : State) (k : Nat) : State := s.setStream k { s.stream k with linger := 0 }

/-- The route of one sector: the state with the range entry's heat and flag settled, and the stream chosen (R14 to R20). -/
def State.route (s : State) (a : Arriving) (lba : Nat) : State × Nat :=
  let t := s.tenant a.fn
  let hit := (s.indexed a.fn a.ns lba).isSome
  let entry := s.coveringEntry t a.ns lba
  let s := s.heatStep entry hit
  (s, s.fallback t ((hintStream a t).getD (s.rangeChoice t entry)))

/-- The sector of a WRITE at this LBA, landed in this slot, is routed and staged (R14, R21). -/
def State.stageSector (a : Arriving) (s : State) (sector : Nat × Nat) : State :=
  let lba := sector.1
  let k := sector.2
  let r := s.route a lba
  (((r.1.appendStaged k r.2).indexStaged a.fn a.ns lba k).countLanded a.fn).resetLinger r.2

/-- The sectors of a WRITE: its LBAs ascending, each with the slot its block landed in (R42). -/
def Arriving.sectors (a : Arriving) : List (Nat × Nat) := (List.range' a.lba a.landed.length).zip a.landed

/-- Routes and stages every sector of a WRITE in ascending LBA order (R14). -/
def State.stageAll (s : State) (a : Arriving) : State := a.sectors.foldl (State.stageSector a) s

/-! ## The checks of R36 -/

/-- A framing fault of a WRITE (R37). -/
def State.framingFault (s : State) (a : Arriving) : Bool :=
  decide (a.count = 0 ∨ Config.writeSectors < a.count ∨ a.bodyUnits ≠ a.count * 256 ∨ 7 < a.ns
    ∨ 2 ^ 40 < a.lba + a.count ∨ 2 ^ 48 - 1 < s.sequence + a.count)

/-- The WRITE is durable (R39, R137). -/
def State.isDurable (s : State) (a : Arriving) : Bool := a.durableFlag || (s.tenant a.fn).ack == .durable

/-- The lowest-numbered free durable write record (R139). -/
def State.freeDurable (s : State) : Option Nat :=
  firstFrom (fun i => (Store.find? s.durables i).isNone) Config.durableRecords 0

/-- Checks 3 to 5 of R36 (R38). -/
def State.writeRefusal (s : State) (a : Arriving) : Option LandedStatus :=
  let t := s.tenant a.fn
  if !s.validTenant a.fn then some .noTenant
  else if !(s.stream t.defaultStream).bound then some .noRoute
  else if t.cap < t.stagedCount + a.count then some .tenantFull
  else none

/-- Check 6 of R36: a durable WRITE that finds every durable write record in use (R39, R140). -/
def State.mustHold (s : State) (a : Arriving) : Bool := s.isDurable a && s.freeDurable.isNone

/-- A valid tenant's writes refused counter rises (R3). -/
def State.countRefused (s : State) (fn : Nat) : State :=
  if s.validTenant fn then s.setTenant fn { s.tenant fn with refused := (s.tenant fn).refused + 1 } else s

/-- A refused WRITE: its LANDING slots return to FREE, LANDED is enqueued, the refusal is counted, and the credit engine evaluates
when slots were freed (R30, R34, R40). -/
def State.refuseWrite (s : State) (a : Arriving) (status : LandedStatus) : State :=
  let s := ((s.freeSlotList a.landed).enqueue (.landed a.tag a.fn status a.count 0)).countRefused a.fn
  if a.landed.isEmpty then s else s.evalCredit

/-- A durable write record is created in the lowest-numbered free entry, and each slot of the write takes a reference to it (R139). -/
def State.createDurable (s : State) (a : Arriving) (first : Nat) : State :=
  match s.freeDurable with
  | none => s
  | some i =>
    a.landed.foldl (fun s k => s.setSlot k { s.slot k with durable := some i })
      (s.setDurable i { tag := a.tag, fn := a.fn, first := first, count := a.count, remaining := a.count })

/-- An accepted WRITE (R42): its sectors are staged; LANDED OK, or a durable write record; the durable-linger and the pressure
check; the credit evaluation when a supersede freed a slot; the segment requests and POOL-LOW notices. -/
def State.acceptWrite (s : State) (a : Arriving) : State :=
  let first := s.sequence
  let t := s.stageAll a
  let u := if s.isDurable a then t.createDurable a first else t.enqueue (.landed a.tag a.fn .ok a.count first)
  let v := u.durablePads.pressure
  (if s.freeSlots < v.freeSlots then v.evalCredit else v).endRequests

/-- Checks 3 to 6 of R36 and their outcomes, as made at the taking and at the re-taking (R39, R141). -/
def State.decideWrite (s : State) (a : Arriving) : State :=
  match s.writeRefusal a with
  | some status => s.refuseWrite a status
  | none => if s.mustHold a then { s with parser := .holding a } else s.acceptWrite a

end Sys2Proof.Machine
end

