-- ==== Sys2Proof/Machine/Settlement.lean ====
section
/-! DEFINITION. The settlement tracker (chapter 7): settling a slot's durable write and flush at a DONE, and the taking of a FLUSH. -/

namespace Sys2Proof.Machine

/-- A DONE for a slot with a durable reference lowers the remaining count of the record it names; at 0 LANDED OK is enqueued and the
record frees (R122, R142). -/
def State.settleDurable (s : State) (k : Nat) : State :=
  match (s.slot k).durable with
  | none => s
  | some i =>
    match Store.find? s.durables i with
    | none => s
    | some r =>
      if r.remaining ≤ 1 then (s.enqueue (.landed r.tag r.fn .ok r.count r.first)).dropDurable i
      else s.setDurable i { r with remaining := r.remaining - 1 }

/-- A DONE for a marked slot lowers the count of its tenant's flush record; at 0 FLUSHED OK is enqueued for each tag in order and the
record frees (R122, R147, R148). -/
def State.settleFlush (s : State) (k : Nat) : State :=
  if (s.slot k).mark then
    let fn := (s.slot k).fn
    match Store.find? s.flushes fn with
    | none => s
    | some r =>
      if r.count ≤ 1 then (r.tags.foldl (fun s tag => s.enqueue (.flushed tag fn .ok)) s).dropFlush fn
      else s.setFlush fn { r with count := r.count - 1 }
  else s

/-- What a DONE does for one slot: the durable record, then the flush record, then the slot becomes FREE (R122). -/
def State.settleSlot (s : State) (k : Nat) : State := ((s.settleDurable k).settleFlush k).freeSlot k

/-- What a DONE does for the slots of a unit, in position order (R122). -/
def State.settleSlots (s : State) (ks : List Nat) : State := ks.foldl State.settleSlot s

/-- The in-use slots of a tenant whose flush mark is clear (R146). -/
def State.unmarked (s : State) (fn : Nat) : List Nat := s.slotsWhere fun r => r.inUse && r.fn == fn && !r.mark

/-- Marks slots (R146). -/
def State.markSlots (s : State) (ks : List Nat) : State := ks.foldl (fun s k => s.setSlot k { s.slot k with mark := true }) s

/-- An accepted FLUSH (R146): the tenant's unmarked in-use slots are marked and counted, the tag is appended, and tails with marked
slots are padded; then the segment requests. -/
def State.acceptFlush (s : State) (a : Arriving) : State :=
  let r := (Store.find? s.flushes a.fn).getD {}
  let new := s.unmarked a.fn
  let s := (s.markSlots new).setFlush a.fn { count := r.count + new.length, tags := r.tags ++ [a.tag] }
  (s.flushPads a.fn).endRequests

/-- The taking of a FLUSH: the first case of R145 that applies decides. -/
def State.takeFlush (s : State) (a : Arriving) : State :=
  let answer (st : FlushedStatus) : State := s.enqueue (.flushed a.tag a.fn st)
  if !s.validTenant a.fn then answer .noTenant
  else
    match Store.find? s.flushes a.fn with
    | none =>
      if !s.hasInUse a.fn then answer .ok
      else if Config.flushRecords ≤ s.flushes.length then answer .busy
      else s.acceptFlush a
    | some r => if Config.flushTags ≤ r.tags.length then answer .busy else s.acceptFlush a

end Sys2Proof.Machine
end

