-- ==== Sys2Proof/Machine/DumpEngine.lean ====
section
/-! DEFINITION. The dump engine (chapter 8): entering DUMPING, taking dump grants, sending data units and the trailer, the outcomes of
dump units, and the end of the dump. -/

namespace Sys2Proof.Machine

/-- The part enters DUMPED with this code on DUMPRES; answers waiting at the lane links are discarded uncounted (R115, R163, log 20). -/
def State.enterDumped (s : State) (result : DumpResult) : State :=
  { s with
    part := .dumped
    dumpres := result
    dump := { s.dump with phase := .idle }
    lanes := Store.mapD {} (fun l => { l with waiting := [] }) s.lanes }

/-- The sum of the capacities of a lane's dump store. -/
def Lane.dumpCapacity (l : Lane) : Nat := (l.dump.map Grant.capacity).sum

/-- The capacity in the dump stores of all UP lanes (R154). -/
def State.dumpCapacity (s : State) : Nat :=
  ((List.range Config.lanes).map fun l => if (s.lane l).up then (s.lane l).dumpCapacity else 0).sum

/-- Takes the next dump grant in grant order, from the lane `l` on (R155): the front of the store of the first UP lane that has one
goes to the tail of the taken grants. -/
def State.takeGrant (s : State) (l : Nat) : State :=
  match firstFrom (fun j => (s.lane j).up && !(s.lane j).dump.isEmpty) (Config.lanes - l) l with
  | none => s
  | some j =>
    match (s.lane j).dump with
    | [] => s
    | g :: rest =>
      { s.setLane j { s.lane j with dump := rest } with
        dump := { s.dump with taken := s.dump.taken ++ [{ lane := j, block := g.block, capacity := g.capacity }] } }

/-- What the end of an event does in DUMPING: with no capacity left and no trailer in flight the dump has failed (R163); otherwise the
trailer's conditions may hold (R162). -/
def State.dumpCheck (s : State) : State :=
  if s.part = .dumping then
    if s.dump.remaining = 0 then if s.dumpInFlight true then s else s.enterDumped .failed
    else if s.dump.phase = .filling ∧ s.dumpInFlight false = false ∧ (s.undumped = 0 ∨ s.dump.remaining ≤ 1) then
      { s with dump := { s.dump with phase := .trailing } }
    else s
  else s

/-- The LANDING slots of the WRITE that the parser holds, arriving, whole, held or ended by an abort mark (R41, R184). -/
def Parser.landedSlots : Parser → List Nat
  | .awaiting => []
  | .receiving a => a.landed
  | .gated a => a.landed
  | .holding a => a.landed

/-- The part is in DUMPING: no timer runs, the parser is empty, and the dump engine is FILLING with the whole capacity (R152, R154). R184
stops the parser in whatever state it is in and does not name the state it stands in once its parcel is abandoned or discarded: that this
is AWAITING is the model's DESIGN CHOICE (log 31). -/
def State.beginDump (s : State) : State :=
  { s with
    parser := .awaiting
    part := .dumping
    decayTimer := none
    lingerClock := none
    creditTimer := none
    dump := { s.dump with phase := .filling, remaining := s.dumpCapacity, generation := s.params.dumpGeneration } }

/-- The entry to DUMPING (R152, R154). -/
def State.enterDumping (s : State) : State := ((s.freeSlotList s.parser.landedSlots).beginDump.takeGrant 0).dumpCheck

/-! ## Sending -/

/-- The last taken grant with one more position assigned (R157, R162). -/
def assignPosition (taken : List TakenGrant) : List TakenGrant :=
  match taken.getLast? with
  | none => taken
  | some g => taken.dropLast ++ [{ g with assigned := g.assigned + 1 }]

/-- When the current grant is used, the next is taken (R155). -/
def State.nextGrantIfUsed (s : State) : State :=
  match s.dump.current with
  | none => s
  | some g => if g.used then s.takeGrant g.lane else s

/-- The acts of a dump send after the unit's content is settled (R112, R157): the record, the count, the parcel, and the next grant. -/
def State.sendDump (s : State) (g : TakenGrant) (slots : List Nat) (fillers : Nat) (trailer : Bool) (sectors : List (List Byte)) :
    State :=
  let r : InFlight :=
    { kind := .dump, seg := none, block := g.block, unit := g.assigned, slots := slots, fillers := fillers, trailer := trailer,
      expiry := s.now + 1000 * s.params.programTimeout }
  let l := s.lane g.lane
  let s := s.setLane g.lane { l with inflight := l.inflight ++ [r], unitsIssued := l.unitsIssued + 1 }
  (s.sendLane g.lane (.parcel (programBytes .dump g.block g.assigned fillers sectors))).nextGrantIfUsed

/-- The slots of the next data unit: redo slots still in use, then in-use slots above the cursor in ascending sequence (R156). -/
def State.dumpSlots (s : State) : List Nat × List Nat :=
  let redo := s.redoInUse.take 16
  let above := s.mergeBySeq (s.slotsWhere s.dump.aboveCursor) []
  (redo, above.take (16 - redo.length))

/-- The conditions of R157. -/
def State.mayDumpUnit (s : State) : Bool :=
  s.live && s.part == .dumping && s.dump.phase == .filling && decide (0 < s.undumped) && decide (2 ≤ s.dump.remaining)
    && s.dumpLaneReady

/-- One data unit is composed and sent (R156, R157). -/
def State.dumpUnit (s : State) : State :=
  match s.dump.current with
  | none => s
  | some g =>
    let p := s.dumpSlots
    let slots := p.1 ++ p.2
    let cursor := match p.2.getLast? with
      | none => s.dump.cursor
      | some k => some (s.slot k).seq
    let s := { s with
      dump := { s.dump with
        redo := s.redoInUse.drop p.1.length
        cursor := cursor
        taken := assignPosition s.dump.taken
        remaining := s.dump.remaining - 1 } }
    s.sendDump g slots (16 - slots.length) false (slots.map s.sectorBytes)

/-- The trailer's content as the state stands (R162). -/
def State.trailerContent (s : State) : Trailer :=
  { generation := s.dump.generation
    first := s.dump.first.getD 0
    last := s.dump.last.getD 0
    dumped := s.dump.sectors
    notDumped := s.undumped
    units := s.dump.units
    blocks := s.dump.taken.filter fun g => 1 ≤ g.assigned }

/-- The trailer may be sent: TRAILING, none in flight, capacity left, and the current grant's lane ready (R162, R163). -/
def State.mayTrailer (s : State) : Bool :=
  s.live && s.part == .dumping && s.dump.phase == .trailing && !s.dumpInFlight true && decide (1 ≤ s.dump.remaining)
    && s.dumpLaneReady

/-- The trailer is sent: its position is assigned, then its content is computed (R162). -/
def State.trailerUnit (s : State) : State :=
  match s.dump.current with
  | none => s
  | some g =>
    let s := { s with dump := { s.dump with taken := assignPosition s.dump.taken, remaining := s.dump.remaining - 1 } }
    let t := s.trailerContent
    let s := { s with dump := { s.dump with trailer := some t } }
    (s.sendDump g [] 15 true [t.sector]).dumpCheck

/-! ## Outcomes (R159 to R163) -/

/-- The lower of a sequence and an optional one (R159). -/
def lowerSeq (o : Option Nat) (q : Nat) : Nat := match o with
  | none => q
  | some p => min p q

/-- The higher of a sequence and an optional one (R159). -/
def higherSeq (o : Option Nat) (q : Nat) : Nat := match o with
  | none => q
  | some p => max p q

/-- A DONE for a data unit: its sectors and the unit are counted, and the first and last dumped sequences move (R159). -/
def State.dumpDone (s : State) (r : InFlight) : State :=
  let seqs := r.slots.map fun k => (s.slot k).seq
  { s with
    dump := { s.dump with
      sectors := s.dump.sectors + r.slots.length
      units := s.dump.units + 1
      first := seqs.foldl (fun o q => some (lowerSeq o q)) s.dump.first
      last := seqs.foldl (fun o q => some (higherSeq o q)) s.dump.last } }

/-- A DONE for the trailer: DUMPED, COMPLETE or TRUNCATED by the flag of the trailer sent (R163). -/
def State.trailerDone (s : State) : State :=
  s.enterDumped (if (s.dump.trailer.map Trailer.truncated).getD false then .truncated else .complete)

/-- A failed data unit: its slots still in use join the redo list by landing sequence (R160). A failed trailer leaves its position
assigned and nothing else (R163). -/
def State.dumpFailed (s : State) (r : InFlight) : State :=
  if r.trailer then s
  else
    let ks := (r.slots.filter fun k => (s.slot k).inUse).filter fun k => !s.dump.redo.contains k
    { s with dump := { s.dump with redo := s.mergeBySeq ks s.dump.redo } }

/-- A lane lost in DUMPING: when the current grant lies on it, its unassigned positions are lost and the engine takes the next grant
(R161). -/
def State.loseDumpLane (s : State) (l : Nat) : State :=
  match s.dump.current with
  | none => s
  | some g =>
    if g.lane = l then
      { s with dump := { s.dump with remaining := s.dump.remaining - (g.capacity - g.assigned) } }.takeGrant l
    else s

end Sys2Proof.Machine
end

