-- ==== Sys2Proof/Machine/Outcomes.lean ====
section
/-! DEFINITION. The outcome handler (chapter 6): DONE, FAIL, expiry and lane down, for NORMAL and DUMP records. -/

namespace Sys2Proof.Machine

/-- Changes what is held for a lane. -/
def State.updLane (s : State) (l : Nat) (f : Lane → Lane) : State := s.setLane l (f (s.lane l))

/-- Changes a stream context. -/
def State.updStream (s : State) (k : Nat) (f : Stream → Stream) : State := s.setStream k (f (s.stream k))

/-- Counts a unit of a segment as DONE (R90). -/
def State.countDone (s : State) (id : Nat) : State :=
  match Store.find? s.segments id with
  | none => s
  | some g => s.setSegment id { g with done := g.done + 1 }

/-- Counts a unit of a segment as failed; an OPEN segment goes DRAINING as BROKEN (R90, R124 act 2). -/
def State.countFailed (s : State) (id : Nat) : State :=
  match Store.find? s.segments id with
  | none => s
  | some g => (s.setSegment id { g with failed := g.failed + 1 }).drain id .broken

/-- The stream that a record's segment serves. -/
def State.streamOf (s : State) (id : Nat) : Option Nat := (Store.find? s.segments id).map Segment.stream

/-- One fewer unit of the stream in flight (R123, R124). -/
def Stream.landedUnit (t : Stream) : Stream := { t with inflight := t.inflight - 1 }

/-- The entries of a PLACED: the real sectors in position order, as held in the slot records (R121). -/
def State.placedEntries (s : State) (slots : List Nat) : List PlacedEntry :=
  slots.zipIdx.map fun p =>
    let r := s.slot p.1
    { position := p.2, fn := r.fn, ns := r.ns, lba := r.lba, seq := r.seq }

/-! ## A NORMAL record -/

/-- A DONE that matches a NORMAL record (R120 to R123). -/
def State.normalDone (s : State) (l : Nat) (r : InFlight) : State :=
  let id := r.seg.getD 0
  let owner := s.streamOf id
  let s := s.enqueue (.placed id l r.block r.unit (s.placedEntries r.slots))
  let s := s.settleSlots r.slots
  let s := (s.countDone id).closeIfSettled id
  let s := match owner with
    | none => s
    | some k => s.updStream k Stream.landedUnit
  (s.updLane l fun x => { x with done := x.done + 1 }).evalCredit

/-- Acts 1 to 6 of R124 for a failed NORMAL record, which has left its lane's list. -/
def State.normalFailed (s : State) (l : Nat) (reason : FailReason) (r : InFlight) : State :=
  let id := r.seg.getD 0
  let owner := s.streamOf id
  let s := s.enqueue (.programFailed l reason id r.unit r.block)
  let s := (s.countFailed id).updLane l fun x => { x with failed := x.failed + 1 }
  let s := s.setSlotStates r.slots .staged
  let s := match owner with
    | none => s
    | some k => ((s.updStream k fun t => { t with failed := t.failed + 1 }).requeue k r.slots r.fillers).updStream k Stream.landedUnit
  s.closeIfSettled id

/-! ## A record of either kind -/

/-- A failed record, which has left its lane's list (R119, R124, R132, R160, R163). -/
def State.recordFailed (s : State) (l : Nat) (reason : FailReason) (r : InFlight) : State :=
  match r.kind with
  | .normal => s.normalFailed l reason r
  | .dump => (s.updLane l fun x => { x with failed := x.failed + 1 }).dumpFailed r

/-- A DONE for a record, which has left its lane's list (R119, R120, R159, R163). -/
def State.recordDone (s : State) (l : Nat) (r : InFlight) : State :=
  match r.kind with
  | .normal => s.normalDone l r
  | .dump =>
    let s := s.updLane l fun x => { x with done := x.done + 1 }
    if r.trailer then s.trailerDone else s.dumpDone r

/-! ## Lane down -/

/-- Action 3 of R132 for one stream: its open segment, when it lies on the lane, goes DRAINING as BROKEN and closes. -/
def State.breakOn (l : Nat) (s : State) (k : Nat) : State :=
  match s.openSegment (s.stream k) with
  | none => s
  | some (id, g) => if g.lane = l then s.drainAndClose id .broken else s

/-- Action 3 of R132 for every stream. -/
def State.breakLane (s : State) (l : Nat) : State := s.forStreams (State.breakOn l)

/-- Records of a lane lost with it fail with reason LANE-DOWN, oldest first (R132). -/
def State.failRecords (s : State) (l : Nat) (rs : List InFlight) : State :=
  rs.foldl (fun s r => s.recordFailed l .laneDown r) s

/-- The dump engine's part in a lane down: the capacity of the lane's dump store, and the current grant when it lies on the lane, are
lost (R161). -/
def State.dumpLosesLane (s : State) (l lost : Nat) : State :=
  if s.part = .dumping then { s with dump := { s.dump with remaining := s.dump.remaining - lost } }.loseDumpLane l else s

/-- The actions 1 to 5 of R132, and the dump engine's part in them (R161). -/
def State.laneDown (s : State) (l : Nat) (cause : DownCause) : State :=
  let x := s.lane l
  let s := s.setLane l
    { x with up := false, inflight := [], stray := x.stray + BitVec.ofNat 32 x.waiting.length, waiting := [] }
  let s := (s.failRecords l x.inflight).breakLane l
  let lost := (s.lane l).dumpCapacity
  let s := s.returnGrants l
  (s.enqueue (.laneDown l cause x.inflight.length)).dumpLosesLane l lost

/-- What ends an event in which records failed: the durable-linger check, the segment requests and POOL-LOW notices, and in DUMPING
the conditions of the trailer and of a failed dump (R56, R73, R124 act 7, R162, R163). -/
def State.endFailure (s : State) : State := s.durablePads.endRequests.dumpCheck

/-! ## Events -/

/-- The place in a lane's list of the oldest record with the pair that an ANSWER carries (R117). -/
def Lane.matching (x : Lane) (h : Unit16) : Option Nat :=
  x.inflight.findIdx? fun r => r.block == answerBlock h && r.unit == answerUnit h

/-- An answer or lane parcel is discarded and counted as stray (R118, R189). -/
def State.strayAnswer (s : State) (l : Nat) : State := s.updLane l fun x => { x with stray := x.stray + 1 }

/-- A matched answer: the record leaves the list, the consecutive timeout counter is set to 0, and the unit is DONE or failed (R117). -/
def State.answerMatched (s : State) (l i : Nat) (r : InFlight) (o : Outcome) : State :=
  let s := s.updLane l fun x => { x with inflight := x.inflight.eraseIdx i, consecutive := 0 }
  match o with
  | .done => (s.recordDone l r).dumpCheck
  | .fail reason => (s.recordFailed l reason r).endFailure
  | .unknown => s

/-- A taken ANSWER: matched against the lane's records unless its outcome code is unknown (R116 to R118). -/
def State.answerTaken (s : State) (l : Nat) (h : Unit16) : State :=
  match answerOutcome h with
  | .unknown => s.strayAnswer l
  | o =>
    match (s.lane l).matching h with
    | none => s.strayAnswer l
    | some i =>
      match (s.lane l).inflight[i]? with
      | none => s.strayAnswer l
      | some r => s.answerMatched l i r o

/-- The first lane parcel waiting at a lane that may be taken now: RESET_N deasserted, RUN or DUMPING, the answer gate open, and no
other lane's first parcel arrived before it (R115). -/
def State.takeable (s : State) (l : Nat) : Option Waiting :=
  match (s.lane l).waiting with
  | [] => none
  | w :: _ => if s.live && s.answerGateOpen && s.arrivedFirst w then some w else none

/-- The first waiting lane parcel leaves the lane's line. -/
def State.popWaiting (s : State) (l : Nat) : State := s.updLane l fun x => { x with waiting := x.waiting.tail }

/-- The expiry of a record (R128, R160): it fails with reason TIMEOUT, both timeout counters rise, and at TIMEOUT-LIMIT the lane goes
DOWN within the same event. -/
def State.expire (s : State) (l i : Nat) (r : InFlight) : State :=
  let s := { s with now := max s.now r.expiry }.updLane l fun x => { x with inflight := x.inflight.eraseIdx i }
  let s := s.recordFailed l .timeout r
  let s := s.updLane l fun x => { x with timeouts := x.timeouts + 1, consecutive := min 15 (x.consecutive + 1) }
  (if s.params.timeoutLimit ≤ (s.lane l).consecutive then s.laneDown l .timeout else s).endFailure

end Sys2Proof.Machine
end

