-- ==== Sys2Proof/Machine/Ingress.lean ====
section
/-! DEFINITION. The meanings of the ingress steps: head arrival, landing, the taking of WRITE, PEEK and FLUSH, discards and abort
marks (R34 to R52, R141, R145, R183, R184, R191). -/

namespace Sys2Proof.Machine

/-- Every command leads to a next state: the manual gives no event on which the part stops. -/
abbrev Result := Host.Outcome State Fault Refusal

/-- PARCEL_HEAD_ARRIVAL (R34, R184). The parser leaves AWAITING; for a WRITE the credit need is compared with credits outstanding. A
parcel with nothing more to come is whole at once. In any other parser state, outside RUN or in reset the parcel waits at the link. -/
def State.headArrives (s : State) (head : Unit16) (body : List Unit16) : State :=
  if s.running && s.parser == .awaiting && bodyFits head body then
    let a : Arriving :=
      { head := head, body := body
        overrun := headKind head == kindWrite && decide (s.credits < creditNeed (headBodyUnits head)) }
    if a.bodyUnits = 0 then { s with parser := .gated a } else { s with parser := .receiving a }
  else s

/-- PARCEL_HEAD_ARRIVAL. -/
def execParcelHeadArrival (head : Unit16) (body : List Unit16) (s : State) : Result := .next (s.headArrives head body)

/-- The parcel being received and the slot its next block lands in: a WRITE that is no overrun (R34, R35). -/
def State.landingTarget (s : State) (block : List Unit16) : Option (Arriving × Nat) :=
  match s.parser with
  | .receiving a =>
    if s.running && a.kind == kindWrite && !a.overrun && block.length == blockUnits a.bodyUnits a.landed.length && blockFits block then
      s.lowestFree.map fun k => (a, k)
    else none
  | _ => none

/-- LANDING (R35): the block fills the lowest-numbered FREE slot; with the last block the parcel is whole (R184). -/
def State.landBlock (s : State) (block : List Unit16) : State :=
  match s.landingTarget block with
  | none => s
  | some (a, k) =>
    let b := { a with landed := a.landed ++ [k] }
    { s.land a k block with
      parser := if creditNeed a.bodyUnits ≤ b.landed.length then .gated b else .receiving b }

/-- LANDING. -/
def execLanding (block : List Unit16) (s : State) : Result := .next (s.landBlock block)

/-- The taking of a WRITE: the checks of R36 in order. -/
def State.takeWrite (s : State) (a : Arriving) : State :=
  if a.overrun then s.refuseWrite a .overrun
  else if s.framingFault a then s.refuseWrite a .malformed
  else s.decideWrite a

/-- WRITE (R34, R36 to R49). -/
def execWrite (s : State) : Result := .next (s.take (fun a => a.kind == kindWrite) State.takeWrite)

/-- The held WRITE is taken again (R141): a durable write record is free and the ingress gate is open. -/
def State.retake (s : State) : State :=
  match s.parser with
  | .holding a =>
    if s.running && s.freeDurable.isSome && s.ingressGateOpen then { s with parser := .awaiting }.decideWrite a else s
  | _ => s

/-- HELD_WRITE_RETAKING. -/
def execHeldWriteRetaking (s : State) : Result := .next s.retake

/-- ABORT_MARK (R191): a parcel whose body is not complete is discarded; a partly landed WRITE then waits for the ingress gate to
release its slots (log 4). -/
def State.abortParcel (s : State) : State :=
  match s.parser with
  | .receiving a =>
    if s.running then
      if a.landed.isEmpty then { s with parser := .awaiting } else { s with parser := .gated { a with aborted := true } }
    else s
  | _ => s

/-- ABORT_MARK. -/
def execAbortMark (s : State) : Result := .next s.abortParcel

/-- ABORTED_WRITE_RELEASE (R191): under the ingress gate the LANDING slots return to FREE without LANDED, and the credit engine
evaluates. -/
def State.releaseAborted (s : State) : State :=
  match s.parser with
  | .gated a =>
    if s.running && a.aborted && s.ingressGateOpen then ({ s with parser := .awaiting }.freeSlotList a.landed).evalCredit else s
  | _ => s

/-- ABORTED_WRITE_RELEASE. -/
def execAbortedWriteRelease (s : State) : Result := .next s.releaseAborted

/-- The answer to a PEEK: the first case of R50 that applies. -/
def State.peekAnswer (s : State) (a : Arriving) : ReturnParcel :=
  if 7 < a.ns then .peeked a.tag a.fn .notStaged 0 []
  else if !s.validTenant a.fn then .peeked a.tag a.fn .noTenant 0 []
  else
    match s.indexed a.fn a.ns a.lba with
    | none => .peeked a.tag a.fn .notStaged 0 []
    | some k => .peeked a.tag a.fn .found (s.slot k).seq (s.slotData k)

/-- PEEK (R50). A body is discarded (R183). -/
def execPeek (s : State) : Result := .next (s.take (fun a => a.kind == kindPeek) fun s a => s.enqueue (s.peekAnswer a))

/-- FLUSH (R145, R146). A body is discarded (R183). -/
def execFlush (s : State) : Result := .next (s.take (fun a => a.kind == kindFlush) State.takeFlush)

/-- No ingress kind (R183). -/
def Arriving.isForeign (a : Arriving) : Bool :=
  a.kind != kindWrite && a.kind != kindPeek && a.kind != kindFlush && a.kind != kindMgmt

/-- PARCEL_DISCARDED (R183): no slot, no credit, no reply; no gate holds it (log 3). -/
def State.discardParcel (s : State) : State :=
  match s.wholeParcel with
  | none => s
  | some a => if a.isForeign then { s with parser := .awaiting } else s

/-- PARCEL_DISCARDED. -/
def execParcelDiscarded (s : State) : Result := .next s.discardParcel

end Sys2Proof.Machine
end

