-- ==== Sys2Proof/Machine/Parameters.lean ====
section
/-! DEFINITION. The management service's own requests: BAD-REQUEST, IDENTIFY, SET-PARAM, GET-PARAM (R168 to R174). -/

namespace Sys2Proof.Machine

/-- A MGMT parcel that R168 refuses. -/
def Arriving.isBadRequest (a : Arriving) : Bool := a.kind == kindMgmt && !a.isRequest

/-- BAD_REQUEST (R168). -/
def execBadRequest (s : State) : Result := .next (s.take Arriving.isBadRequest fun s a => s.reply a .badRequest)

/-- IDENTIFY (R174). -/
def execIdentify (s : State) : Result := .next (s.take (·.isCode 0x01) fun s a => s.reply a .ok identifyBody)

/-- The value of a parameter as it stands; the lane is read for the per-lane ones alone (R170, R173). -/
def State.paramValue (s : State) (p : Param) (l : Nat) : Nat :=
  match p with
  | .heatStep => s.params.heatStep
  | .decayInterval => s.params.decayInterval
  | .programTimeout => s.params.programTimeout
  | .timeoutLimit => s.params.timeoutLimit
  | .issueWindow => (s.lane l).window
  | .poolLowMark => (s.lane l).poolLowMark
  | .pressureMark => s.params.pressureMark
  | .durableLinger => s.params.durableLinger
  | .creditBatch => s.params.creditBatch
  | .creditLinger => s.params.creditLinger
  | .sequenceBase => s.sequence
  | .dumpGeneration => s.params.dumpGeneration

/-- Stores a parameter (R171). -/
def State.storeParam (s : State) (p : Param) (l v : Nat) : State :=
  match p with
  | .heatStep => { s with params := { s.params with heatStep := v } }
  | .decayInterval => { s with params := { s.params with decayInterval := v } }
  | .programTimeout => { s with params := { s.params with programTimeout := v } }
  | .timeoutLimit => { s with params := { s.params with timeoutLimit := v } }
  | .issueWindow => s.setLane l { s.lane l with window := v }
  | .poolLowMark => s.setLane l { s.lane l with poolLowMark := v }
  | .pressureMark => { s with params := { s.params with pressureMark := v } }
  | .durableLinger => { s with params := { s.params with durableLinger := v } }
  | .creditBatch => { s with params := { s.params with creditBatch := v } }
  | .creditLinger => { s with params := { s.params with creditLinger := v } }
  | .sequenceBase => { s with sequence := v }
  | .dumpGeneration => { s with params := { s.params with dumpGeneration := v } }

/-- Checks 1 and 2 of R171: the parameter, unless BAD-FIELD applies. -/
def Arriving.checkedParam (a : Arriving) : Option Param :=
  match a.param with
  | none => none
  | some p => if paramPerLane p ∧ 7 < a.paramLane then none else some p

/-- A SET-PARAM that passes the checks: the clamped value is stored, the REPLY carries it, and then the parameter's act is made
(R171, R172). -/
def State.writeParam (s : State) (a : Arriving) (p : Param) (act : State → State) : State :=
  let v := clampInto (paramRange p) a.paramValue
  act ((s.storeParam p a.paramLane v).reply a .ok (paramBody (a.arg 9) a.paramLane v))

/-- A SET-PARAM: its checks in order, then the write (R171). -/
def State.setParam (s : State) (a : Arriving) (act : State → State) : State :=
  match a.checkedParam with
  | none => s.reply a .badField
  | some p => if p = .sequenceBase ∧ s.allFree = false then s.reply a .notQuiet else s.writeParam a p act

/-- SET_PARAM: a parameter without an act of its own, or a code that names none (R171). -/
def execSetParam (s : State) : Result := .next (s.take Arriving.setsPlainParam fun s a => s.setParam a id)

/-- Restarts the heat decay timer with the interval in force (R23). -/
def State.restartDecay (s : State) : State := { s with decayTimer := some (s.now + 1000 * s.params.decayInterval) }

/-- SET_DECAY_INTERVAL (R23). -/
def execSetDecayInterval (s : State) : Result :=
  .next (s.take (·.setsParam .decayInterval) fun s a => s.setParam a State.restartDecay)

/-- A linger check of every bound stream, then the segment requests (R72). -/
def State.checkAllLinger (s : State) : State := (s.forStreams State.lingerCheck).endRequests

/-- SET_DURABLE_LINGER (R72). -/
def execSetDurableLinger (s : State) : Result :=
  .next (s.take (·.setsParam .durableLinger) fun s a => s.setParam a State.checkAllLinger)

/-- SET_CREDIT_BATCH (R32). -/
def execSetCreditBatch (s : State) : Result :=
  .next (s.take (·.setsParam .creditBatch) fun s a => s.setParam a State.evalCredit)

/-- SET_SEQUENCE_BASE (R44). -/
def execSetSequenceBase (s : State) : Result := .next (s.take (·.setsParam .sequenceBase) fun s a => s.setParam a id)

/-- Sets or clears a lane's armed flag against its new mark (R82). -/
def State.rearm (l : Nat) (s : State) : State :=
  s.setLane l { s.lane l with armed := decide ((s.lane l).poolLowMark < (s.lane l).normal.length) }

/-- SET_POOL_LOW_MARK (R82). -/
def execSetPoolLowMark (s : State) : Result :=
  .next (s.take (·.setsParam .poolLowMark) fun s a => s.setParam a (State.rearm a.paramLane))

/-- The answer to a GET-PARAM (R173). -/
def State.getParam (s : State) (a : Arriving) : State :=
  match a.checkedParam with
  | none => s.reply a .badField
  | some p => s.reply a .ok (paramBody (a.arg 9) a.paramLane (s.paramValue p a.paramLane))

/-- GET_PARAM (R173). -/
def execGetParam (s : State) : Result := .next (s.take (·.isCode 0x03) State.getParam)

end Sys2Proof.Machine
end

