-- ==== Sys2Proof/Machine/Tenants.lean ====
section
/-! DEFINITION. The tenant and range requests (R5 to R13). -/

namespace Sys2Proof.Machine

/-- The checks of R5. -/
def tenantBadField (fn : Nat) (f : TenantFields) : Bool :=
  decide (511 < fn ∨ 1 < f.ackCode ∨ (f.coalescing ∧ f.ackCode = 1) ∨ 64 < f.windowCount ∨ 4096 < f.windowFirst + f.windowCount)

/-- Range entry `i` is at fault in a window that begins at `first`: its base exceeds its limit, or it does not follow the entry before
it in the window (R6). -/
def State.entryFault (s : State) (first i : Nat) : Bool :=
  let f := s.range i
  let e := s.range (i - 1)
  decide (f.limit < f.base) || (decide (first < i) && !decide (e.ns < f.ns ∨ (e.ns = f.ns ∧ e.limit < f.base)))

/-- The first entry at fault of a window (R6). -/
def State.windowFault (s : State) (first count : Nat) : Option Nat := (List.range' first count).find? (s.entryFault first)

/-- The two windows share an index (R7). -/
def windowsMeet (first count first' count' : Nat) : Bool :=
  decide (0 < count ∧ 0 < count' ∧ first < first' + count' ∧ first' < first + count)

/-- The lowest function number, other than `fn`, of a valid tenant whose window shares an index (R7, R11). -/
def State.windowOwner (s : State) (other : Nat → Bool) (first count : Nat) : Option Nat :=
  firstFrom (fun t => other t && (s.tenant t).valid && windowsMeet first count (s.tenant t).windowFirst (s.tenant t).windowCount)
    Config.tenants 0

/-- The record that an accepted PUT-TENANT leaves (R5, R8): the staged count and the counters are kept. -/
def Tenant.rewritten (t : Tenant) (f : TenantFields) : Tenant :=
  { t with
    valid := f.valid
    defaultStream := f.defaultStream
    ack := if f.ackCode = 1 then .durable else .staged
    coalescing := f.coalescing
    cap := clampInto (16, 16384) f.cap
    windowFirst := f.windowFirst
    windowCount := f.windowCount
    hints := f.hints }

/-- PUT-TENANT: R5, R6, R7, the quiet check of R8, the write. -/
def State.putTenant (s : State) (a : Arriving) : State :=
  let f := a.tenantFields
  if tenantBadField a.fn f then s.reply a .badField
  else
    match (if f.valid then s.windowFault f.windowFirst f.windowCount else none) with
    | some i => s.reply a .badRanges (indexBody i)
    | none =>
      match (if f.valid then s.windowOwner (· != a.fn) f.windowFirst f.windowCount else none) with
      | some t => s.reply a .windowConflict (indexBody t)
      | none =>
        if !f.valid && (s.tenant a.fn).valid && !s.tenantQuiet a.fn then s.reply a .notQuiet
        else (s.setTenant a.fn ((s.tenant a.fn).rewritten f)).reply a .ok

/-- PUT_TENANT. -/
def execPutTenant (s : State) : Result := .next (s.take (·.isCode 0x10) State.putTenant)

/-- GET-TENANT (R9). -/
def State.getTenant (s : State) (a : Arriving) : State :=
  if 511 < a.fn then s.reply a .badField else s.reply a .ok (tenantBody (s.tenant a.fn))

/-- GET_TENANT. -/
def execGetTenant (s : State) : Result := .next (s.take (·.isCode 0x11) State.getTenant)

/-- DROP-TENANT (R10). -/
def State.dropTenant (s : State) (a : Arriving) : State :=
  if 511 < a.fn then s.reply a .badField
  else if !s.tenantQuiet a.fn then s.reply a .notQuiet
  else (s.setTenant a.fn {}).reply a .ok

/-- DROP_TENANT. -/
def execDropTenant (s : State) : Result := .next (s.take (·.isCode 0x12) State.dropTenant)

/-- The count and index checks of PUT-RANGES and GET-RANGES (R11, R13). -/
def Arriving.badRun (a : Arriving) : Bool := decide (a.entryCount = 0 ∨ 32 < a.entryCount ∨ 4096 < a.start + a.entryCount)

/-- The entries that a PUT-RANGES carries, with their indices. -/
def Arriving.carriedRanges (a : Arriving) : List (Nat × Range) :=
  (List.range a.entryCount).map fun i => (a.start + i, rangeOfUnit (a.bodyUnit i))

/-- PUT-RANGES (R11, R12). -/
def State.putRanges (s : State) (a : Arriving) : State :=
  if a.badRun || a.carriedRanges.any fun e => decide (7 < e.2.ns) then s.reply a .badField
  else
    match s.windowOwner (fun _ => true) a.start a.entryCount with
    | some t => s.reply a .inUse (indexBody t)
    | none => (a.carriedRanges.foldl (fun s e => s.setRange e.1 e.2) s).reply a .ok

/-- PUT_RANGES. -/
def execPutRanges (s : State) : Result := .next (s.take (·.isCode 0x18) State.putRanges)

/-- GET-RANGES (R13). -/
def State.getRanges (s : State) (a : Arriving) : State :=
  if a.badRun then s.reply a .badField
  else s.reply a .ok ((List.range' a.start a.entryCount).flatMap fun i => rangeBody (s.range i))

/-- GET_RANGES. -/
def execGetRanges (s : State) : Result := .next (s.take (·.isCode 0x19) State.getRanges)

end Sys2Proof.Machine
end

