-- ==== Sys2Proof/Machine/StreamRequests.lean ====
section
/-! DEFINITION. The stream requests (R58 to R65). Each names a stream in byte 9. -/

namespace Sys2Proof.Machine

/-- The stream that a request names. -/
def Arriving.stream (a : Arriving) : Nat := a.arg 9
/-- The lane mask of a PUT-STREAM (R185). -/
def Arriving.laneMask (a : Arriving) : BitVec 8 := a.head.extractLsb' 80 8

/-- The request fields of a PUT-STREAM, clamped (R58). -/
def Stream.configured (t : Stream) (a : Arriving) : Stream :=
  { t with
    laneSet := a.laneMask
    cadence := clampCadence (a.arg 11)
    phase := a.arg 12 % clampCadence (a.arg 11)
    lingerLimit := a.arg 13 }

/-- A stream that PUT-STREAM binds: configured, counters 0, IDLE (R59). -/
def Stream.bind (t : Stream) (a : Arriving) : Stream :=
  { t.configured a with state := .idle, staged := 0, superseded := 0, issued := 0, fillers := 0, failed := 0 }

/-- The stream's open segment lies on a lane outside the new lane set (R59). -/
def State.movedOff (s : State) (k : Nat) (mask : BitVec 8) : Bool :=
  match s.openSegment (s.stream k) with
  | none => false
  | some (_, g) => !mask.getLsbD g.lane

/-- PUT-STREAM (R58, R59). -/
def State.putStream (s : State) (a : Arriving) : State :=
  let k := a.stream
  let t := s.stream k
  if a.laneMask = 0 then s.reply a .badField
  else
    match t.state with
    | .unbound => (s.setStream k (t.bind a)).reply a .ok
    | .held =>
      let moved := s.movedOff k a.laneMask
      let s := (s.setStream k (t.configured a)).reply a .ok
      if moved then s.rotate k else s
    | _ => s.reply a .wrongState

/-- PUT_STREAM. -/
def execPutStream (s : State) : Result := .next (s.take (·.isCode 0x20) State.putStream)

/-- The result body of GET-STREAM (R65, R186). The bytes of an absent first sequence and of an absent open segment id are sent as 0:
DESIGN CHOICE (log 29). -/
def State.streamBody (s : State) (t : Stream) : List Byte :=
  padToUnit (packed [(1, t.state.code), (1, t.laneSet.toNat), (1, t.cadence), (1, t.phase), (1, t.lingerLimit),
    (2, t.queue.length), (1, flagNat !t.queue.isEmpty), (6, if t.queue.isEmpty then 0 else (s.slot (t.queue.headD 0)).seq),
    (1, t.tailSize), (1, flagNat t.pad), (2, t.ready), (1, t.linger), (1, flagNat t.openSeg.isSome), (2, t.openSeg.getD 0),
    (1, t.lastLane), (2, t.inflight), (6, t.staged.toNat), (6, t.superseded.toNat), (4, t.issued.toNat), (6, t.fillers.toNat),
    (4, t.failed.toNat)])

/-- GET_STREAM (R65). -/
def execGetStream (s : State) : Result :=
  .next (s.take (·.isCode 0x21) fun s a => s.reply a .ok (s.streamBody (s.stream a.stream)))

/-- HOLD-STREAM (R60). -/
def State.holdStream (s : State) (a : Arriving) : State :=
  let k := a.stream
  let t := s.stream k
  let held := s.setStream k { t with state := .held }
  match t.state with
  | .unbound => s.reply a .wrongState
  | .held => s.reply a .ok
  | .starved => { held with starved := s.starved.erase k }.reply a .ok
  | _ => held.reply a .ok

/-- HOLD_STREAM. -/
def execHoldStream (s : State) : Result := .next (s.take (·.isCode 0x22) State.holdStream)

/-- RELEASE-STREAM (R61). -/
def State.releaseStream (s : State) (a : Arriving) : State :=
  let k := a.stream
  let t := s.stream k
  if t.state = .held then
    ((s.setStream k { t with state := if t.openSeg.isSome then .opened else .idle }).reply a .ok).endRequests
  else s.reply a .wrongState

/-- RELEASE_STREAM. -/
def execReleaseStream (s : State) : Result := .next (s.take (·.isCode 0x23) State.releaseStream)

/-- FLUSH-STREAM (R62). -/
def State.flushStream (s : State) (a : Arriving) : State :=
  if (s.stream a.stream).bound then ((s.padStream a.stream).reply a .ok).endRequests else s.reply a .wrongState

/-- FLUSH_STREAM. -/
def execFlushStream (s : State) : Result := .next (s.take (·.isCode 0x24) State.flushStream)

/-- ROTATE-STREAM (R63): the REPLY stands before the SEGMENT-CLOSED and the notices of the request. -/
def State.rotateStream (s : State) (a : Arriving) : State :=
  let k := a.stream
  if (s.stream k).state = .opened ∨ (s.stream k).state = .held then (((s.padStream k).reply a .ok).rotate k).endRequests
  else s.reply a .wrongState

/-- ROTATE_STREAM. -/
def execRotateStream (s : State) : Result := .next (s.take (·.isCode 0x25) State.rotateStream)

/-- A valid tenant names the stream as its default (R64). -/
def State.isDefault (s : State) (k : Nat) : Bool := s.tenants.any fun e => e.2.valid && e.2.defaultStream == k

/-- A retired stream: its reset values, counters kept (R64). -/
def Stream.retired (t : Stream) : Stream :=
  { staged := t.staged, superseded := t.superseded, issued := t.issued, fillers := t.fillers, failed := t.failed }

/-- UNBIND-STREAM (R64). -/
def State.unbindStream (s : State) (a : Arriving) : State :=
  let k := a.stream
  let t := s.stream k
  if t.state ≠ .idle ∧ t.state ≠ .held then s.reply a .wrongState
  else if t.queue ≠ [] ∨ t.inflight ≠ 0 then s.reply a .notQuiet
  else if s.isDefault k then s.reply a .inUse
  else
    let s := (s.reply a .ok).rotate k
    s.setStream k (s.stream k).retired

/-- UNBIND_STREAM. -/
def execUnbindStream (s : State) : Result := .next (s.take (·.isCode 0x26) State.unbindStream)

end Sys2Proof.Machine
end

