-- ==== Sys2Proof/Machine/LaneRequests.lean ====
section
/-! DEFINITION. GRANT-BLOCKS, GET-LANE, RESTART-LANE and CLEAR-PART (R80, R81, R134, R135, R175, R176). Each lane request names a
lane in byte 9. -/

namespace Sys2Proof.Machine

/-- The lane that a request names. -/
def Arriving.lane (a : Arriving) : Nat := a.arg 9
/-- The kind code of a GRANT-BLOCKS. -/
def Arriving.grantKind (a : Arriving) : Nat := a.arg 10

/-- Check 1 of R80. -/
def Arriving.grantsBad (a : Arriving) : Bool :=
  decide (7 < a.lane ∨ 1 < a.grantKind ∨ a.entryCount = 0 ∨ 8 < a.entryCount) || a.grants.any fun g => g.capacity == 0

/-- A grant as queued: its capacity clamped to 4096 (R80). -/
def Grant.clamped (g : Grant) : Grant := { g with capacity := min 4096 g.capacity }

/-- Check 3 of R80: the grants would not fit. -/
def Lane.grantsFull (x : Lane) (kind n : Nat) : Bool :=
  if kind = 0 then decide (Config.normalGrants < x.normal.length + n) else decide (Config.dumpGrants < x.dump.length + n)

/-- Grants join the tail of the normal queue or the dump store; a normal count above the mark sets the armed flag (R81, R82). -/
def Lane.granted (x : Lane) (kind : Nat) (gs : List Grant) : Lane :=
  if kind = 0 then
    { x with normal := x.normal ++ gs, armed := x.armed || decide (x.poolLowMark < (x.normal ++ gs).length) }
  else { x with dump := x.dump ++ gs }

/-- The result body of GRANT-BLOCKS: the lane's two counts (R80). -/
def Lane.counts (x : Lane) : List Byte := countsBody x.normal.length x.dump.length

/-- GRANT-BLOCKS: the checks of R80, the grants, the REPLY, the serve of the starvation list and the POOL-LOW notice (R81, R82, R88). -/
def State.grantBlocks (s : State) (a : Arriving) : State :=
  let l := a.lane
  let x := s.lane l
  if a.grantsBad then s.reply a .badField (countsBody 0 0)
  else if !x.up then s.reply a .laneDown x.counts
  else if x.grantsFull a.grantKind a.entryCount then s.reply a .full x.counts
  else
    let y := x.granted a.grantKind (a.grants.map Grant.clamped)
    let s := (s.setLane l y).reply a .ok y.counts
    if a.grantKind = 0 then (State.serve l y.normal.length s).poolLowNotices else s

/-- GRANT_BLOCKS. -/
def execGrantBlocks (s : State) : Result := .next (s.take (·.isCode 0x30) State.grantBlocks)

/-- GET-LANE (R135). -/
def State.getLane (s : State) (a : Arriving) : State :=
  if 7 < a.lane then s.reply a .badField else s.reply a .ok (laneBody (s.lane a.lane) (s.lanefltLevel a.lane))

/-- GET_LANE. -/
def execGetLane (s : State) : Result := .next (s.take (·.isCode 0x38) State.getLane)

/-- RESTART-LANE (R134). -/
def State.restartLane (s : State) (a : Arriving) : State :=
  let l := a.lane
  if 7 < l then s.reply a .badField
  else if (s.lane l).up then s.reply a .wrongState
  else if s.lanefltLevel l then s.reply a .laneDown
  else (s.updLane l fun x => { x with up := true, pass := 0, position := 255, consecutive := 0 }).reply a .ok

/-- RESTART_LANE. -/
def execRestartLane (s : State) : Result := .next (s.take (·.isCode 0x39) State.restartLane)

/-- The conditions under which CLEAR-PART is refused do not hold (R175). -/
def State.quiet (s : State) : Bool :=
  s.allFree && ((List.range Config.lanes).all fun l => (s.lane l).inflight.isEmpty) && s.durables.isEmpty && s.flushes.isEmpty

/-- Clears a lane's counters (R176 act 6). -/
def Lane.cleared (x : Lane) : Lane := { x with unitsIssued := 0, consecutive := 0, done := 0, failed := 0, timeouts := 0, stray := 0 }

/-- CLEAR-PART (R175, R176): the REPLY, the SEGMENT-CLOSED of every open segment in ascending stream number, the GRANT-RETURNED of
every lane in ascending lane number, and then the tables at their reset values. -/
def State.clearPart (s : State) (a : Arriving) : State :=
  if !s.quiet then s.reply a .notQuiet
  else
    let s := (s.reply a .ok).forStreams State.rotate
    let s := (List.range Config.lanes).foldl State.returnGrants s
    let s := { s with segments := [], starved := [], streams := [], tenants := [], ranges := [] }
    (List.range Config.lanes).foldl (fun s l => s.updLane l Lane.cleared) s

/-- CLEAR_PART. -/
def execClearPart (s : State) : Result := .next (s.take (·.isCode 0x3F) State.clearPart)

end Sys2Proof.Machine
end

