-- ==== Sys2Proof/Machine/LaneEvents.lean ====
section
/-! DEFINITION. The lane events: ISSUE (R103 to R110), the arrival and taking of answers (R115 to R118, R189, R191), EXPIRY (R127,
R128) and LANEFLT (R130). -/

namespace Sys2Proof.Machine

/-! ## Issue -/

/-- The stream of one pass that the search stops at: the first candidate, of those after the position in the current pass, that is
eligible in the pass (R104). -/
def State.searchPass (s : State) (cands : List Nat) (pass : Nat) : Option Nat := cands.find? fun k => s.eligible pass k

/-- The search over later passes, at most `fuel` of them, from pass `p` (R104). -/
def State.searchFrom (s : State) (cands : List Nat) : Nat → Nat → Option (Nat × Nat)
  | 0, _ => none
  | fuel + 1, p =>
    match s.searchPass cands (p % 65536) with
    | some k => some (p % 65536, k)
    | none => s.searchFrom cands fuel (p + 1)

/-- The (pass, stream) pair that the search of the lane's arbiter finds: the rest of pass P, then passes P + 1 to P + 16 (R104). -/
def State.search (s : State) (l : Nat) : Option (Nat × Nat) :=
  let x := s.lane l
  let cands := s.candidates l
  match s.searchPass (cands.filter fun k => x.position < k) x.pass with
  | some k => some (x.pass, k)
  | none => s.searchFrom cands 16 (x.pass + 1)

/-- The stream is granted two units (R105). -/
def State.grantsTwo (s : State) (l k : Nat) : Bool :=
  let t := s.stream k
  decide (2 ≤ t.ready) && (s.lane l).roomFor 2 &&
    match s.openSegment t with
    | none => false
    | some (_, g) => decide (g.issued + 2 ≤ g.capacity)

/-- The stream's context after a unit of its first `n` slots has been composed (R76, R77). -/
def Stream.composed (t : Stream) (n : Nat) : Stream :=
  { ({ t with queue := t.queue.drop n }).settle with
    inflight := t.inflight + 1
    issued := t.issued + 1
    fillers := t.fillers + BitVec.ofNat 48 (16 - n) }

/-- The issue of one unit of the stream on the lane (R106). -/
def State.issueUnit (s : State) (l k : Nat) : State :=
  let t := s.stream k
  match s.openSegment t with
  | none => s
  | some (id, g) =>
    let slots := t.queue.take 16
    let fill := 16 - slots.length
    let sectors := slots.map s.sectorBytes
    let s := (s.setSlotStates slots .issued).setStream k (t.composed slots.length)
    let s := s.setSegment id { g with issued := g.issued + 1 }
    let r : InFlight :=
      { kind := .normal, seg := some id, block := g.block, unit := g.issued, slots := slots, fillers := fill, trailer := false,
        expiry := s.now + 1000 * s.params.programTimeout }
    let s := s.updLane l fun x => { x with inflight := x.inflight ++ [r], unitsIssued := x.unitsIssued + 1 }
    let s := s.sendLane l (.parcel (programBytes .normal g.block g.issued fill sectors))
    if g.capacity ≤ g.issued + 1 then s.drain id .full else s

/-- One issue event of the lane's arbiter (R103 to R106). -/
def State.issueOn (s : State) (l : Nat) : State :=
  if s.running && (s.lane l).up && (s.lane l).roomFor 1 then
    match s.search l with
    | none => s
    | some (p, k) =>
      let two := s.grantsTwo l k
      let s := s.updLane l fun x => { x with pass := p, position := k }
      let s := s.issueUnit l k
      let s := if two then s.issueUnit l k else s
      s.durablePads.endRequests
  else s

/-- ISSUE (R103). -/
def execIssue (lane : Fin 8) (s : State) : Result := .next (s.issueOn lane.val)

/-! ## Answers -/

/-- A lane parcel arrives: it waits at the lane link in its order of arrival; in DUMPED it is discarded (R115, R189). In reset no lane
parcel is received (R177, log 15). -/
def State.laneArrives (s : State) (l : Nat) (head : Unit16) : State :=
  if s.live then
    { s.updLane l fun x => { x with waiting := x.waiting ++ [{ head := head, arrival := s.arrivals }] } with
      arrivals := s.arrivals + 1 }
  else s

/-- ANSWER_ARRIVAL. -/
def execAnswerArrival (lane : Fin 8) (head : Unit16) (s : State) : Result := .next (s.laneArrives lane.val head)

/-- ANSWER (R115 to R118): the lane's first waiting parcel is an ANSWER and may be taken now. -/
def State.takeAnswer (s : State) (l : Nat) : State :=
  match s.takeable l with
  | none => s
  | some w => if isAnswer w.head then (s.popWaiting l).answerTaken l w.head else s

/-- ANSWER. -/
def execAnswer (lane : Fin 8) (s : State) : Result := .next (s.takeAnswer lane.val)

/-- MALFORMED_LANE_PARCEL (R189): the lane's first waiting parcel is no bodiless ANSWER and may be taken now. -/
def State.takeMalformed (s : State) (l : Nat) : State :=
  match s.takeable l with
  | none => s
  | some w => if isAnswer w.head then s else (s.popWaiting l).strayAnswer l

/-- MALFORMED_LANE_PARCEL. -/
def execMalformedLaneParcel (lane : Fin 8) (s : State) : Result := .next (s.takeMalformed lane.val)

/-- LANE_ABORT_MARK (R191): a partly received ANSWER is discarded uncounted; it had not joined the lane's line (log 24). -/
def execLaneAbortMark (_lane : Fin 8) (s : State) : Result := .next s

/-! ## Expiry and LANEFLT -/

/-- EXPIRY (R127, R128): a record that is no longer in the list has no expiry. -/
def State.expireRecord (s : State) (l i : Nat) : State :=
  match (s.lane l).inflight[i]? with
  | none => s
  | some r => if s.live then s.expire l i r else s

/-- EXPIRY. -/
def execExpiry (lane : Fin 8) (record : Nat) (s : State) : Result := .next (s.expireRecord lane.val record)

/-- The LANEFLT level of a lane written. -/
def State.setLaneflt (s : State) (l : Nat) (level : Bool) : State :=
  let bit := BitVec.ofNat 8 (2 ^ l)
  { s with lines := { s.lines with laneflt := if level then s.lines.laneflt ||| bit else s.lines.laneflt &&& ~~~bit } }

/-- LANEFLT (R130): a transition to asserted takes an UP lane DOWN with cause LINK, in RUN and DUMPING. -/
def State.lanefltTo (s : State) (l : Nat) (level : Bool) : State :=
  let t := s.setLaneflt l level
  if level && !s.lanefltLevel l && s.live && (s.lane l).up then (t.laneDown l .link).endFailure else t

/-- LANEFLT. -/
def execLaneflt (lane : Fin 8) (asserted : Bool) (s : State) : Result := .next (s.lanefltTo lane.val asserted)

end Sys2Proof.Machine
end

