-- ==== Sys2Proof/Machine/Timers.lean ====
section
/-! DEFINITION. The timer expiries: heat decay (R23, R24), linger clock (R70, R71), credit linger (R31). Each row says that the time of
its timer has come, so the model's clock reaches it (log 1). -/

namespace Sys2Proof.Machine

/-- The clock reaches a time. -/
def State.reachTime (s : State) (t : Nat) : State := { s with now := max s.now t }

/-- DECAY_EXPIRY (R24): every range entry decays, and the timer starts again (R23, log 17). -/
def State.decayExpires (s : State) : State :=
  match s.decayTimer with
  | none => s
  | some t =>
    if s.running then
      { s.reachTime t with
        ranges := Store.mapD {} Range.decayed s.ranges
        decayTimer := some (t + 1000 * s.params.decayInterval) }
    else s

/-- DECAY_EXPIRY. -/
def execDecayExpiry (s : State) : Result := .next s.decayExpires

/-- LINGER_CLOCK_EXPIRY (R70, R71): every stream's counter and check, then the segment requests. -/
def State.lingerExpires (s : State) : State :=
  match s.lingerClock with
  | none => s
  | some t =>
    if s.running then ({ s.reachTime t with lingerClock := some (t + 1000) }.forStreams State.lingerTick).endRequests else s

/-- LINGER_CLOCK_EXPIRY. -/
def execLingerClockExpiry (s : State) : Result := .next s.lingerExpires

/-- CREDIT_LINGER_EXPIRY (R31). -/
def State.creditExpires (s : State) : State :=
  match s.creditTimer with
  | none => s
  | some t =>
    if s.running then
      let s := { s.reachTime t with creditTimer := none }
      if 1 ≤ s.returnable then s.sendCredit else s
    else s

/-- CREDIT_LINGER_EXPIRY. -/
def execCreditLingerExpiry (s : State) : Result := .next s.creditExpires

end Sys2Proof.Machine
end

