-- ==== Sys2Proof/Machine/Power.lean ====
section
/-! DEFINITION. PFAIL, the dump engine's sends, the return link, and RESET_N (R151 to R164, R177, R178, R191). -/

namespace Sys2Proof.Machine

/-- PFAIL (R151, R152): a transition to asserted in RUN enters DUMPING; nothing else does. During reset the line is not read; a line
asserted at the release counts then (R178). -/
def State.pfailTo (s : State) (level : Bool) : State :=
  let t := { s with lines := { s.lines with pfail := level } }
  if level && !s.lines.pfail && s.running then t.enterDumping else t

/-- PFAIL. -/
def execPfail (asserted : Bool) (s : State) : Result := .next (s.pfailTo asserted)

/-- DUMP_UNIT_SEND (R157): while its conditions fail the engine waits. -/
def execDumpUnitSend (s : State) : Result := .next (if s.mayDumpUnit then s.dumpUnit else s)

/-- TRAILER_SEND (R162, R163): while its conditions fail the trailer waits. -/
def execTrailerSend (s : State) : Result := .next (if s.mayTrailer then s.trailerUnit else s)

/-- PARCEL_SENT (R191): the head of the return queue has left its entry; in reset nothing is sent (R177). -/
def State.sendHead (s : State) : State :=
  match s.returns with
  | [] => s
  | p :: rest => if s.lines.reset then s else { s with returns := rest, returnLink := s.returnLink ++ [.parcel p.bytes] }

/-- PARCEL_SENT. -/
def execParcelSent (s : State) : Result := .next s.sendHead

/-- A lane link on which a PROGRAM was being sent gets an abort mark (R191). -/
def State.cutLane (cut : BitVec 8) (s : State) (l : Nat) : State :=
  if cut.getLsbD l then
    match (s.laneLink l).getLast? with
    | some (.parcel _) => s.sendLane l .abortMark
    | _ => s
  else s

/-- The part at its reset values, with the lines, the clock, the waiting commands and the links' records as they are; the return
queue is empty, no credit is out, no timer runs (R33, R177). Lane parcels that waited at a link are dropped uncounted: DESIGN CHOICE
(log 30). -/
def State.blank (s : State) : State :=
  { pending := s.pending, now := s.now, lines := s.lines, decayTimer := none, lingerClock := none, credits := 0, returns := [],
    arrivals := s.arrivals, draws := s.draws, returnLink := s.returnLink, laneLinks := s.laneLinks }

/-- RESET_ASSERT (R177): every block loses its state; a parcel partly sent on either link is ended with an abort mark (R191). -/
def State.assertReset (s : State) (returnCut : Bool) (lanesCut : BitVec 8) : State :=
  if s.lines.reset then s
  else
    let s := if returnCut && !s.returns.isEmpty then { s with returnLink := s.returnLink ++ [.abortMark] } else s
    let s := (List.range Config.lanes).foldl (State.cutLane lanesCut) s
    { s.blank with lines := { s.lines with reset := true } }

/-- RESET_ASSERT. -/
def execResetAssert (returnCut : Bool) (lanesCut : BitVec 8) (s : State) : Result := .next (s.assertReset returnCut lanesCut)

/-- RESET_RELEASE (R178): reset values, READY, the credit evaluation, the two timers; then a PFAIL that is asserted is taken (R151). -/
def State.releaseReset (s : State) : State :=
  if s.lines.reset then
    let s := { s.blank with lines := { s.lines with reset := false } }
    let s := (s.enqueue .ready).evalCredit
    let s := { s.restartDecay with lingerClock := some (s.now + 1000) }
    if s.lines.pfail then s.enterDumping else s
  else s

/-- RESET_RELEASE. -/
def execResetRelease (s : State) : Result := .next s.releaseReset

end Sys2Proof.Machine
end

