-- ==== Sys2Proof/Machine/Dispatch.lean ====
section
/-! DEFINITION. The meaning of every command: one arm for each row of spec/opcode_table.json. -/

namespace Sys2Proof.Machine

/-- A command's effect on everything but the queue of waiting commands. -/
def exec (i : Instr) (s : State) : Host.Outcome State Fault Refusal :=
  match i with
  | .landing block => Sys2Proof.Machine.execLanding block s
  | .write => Sys2Proof.Machine.execWrite s
  | .heldWriteRetaking => Sys2Proof.Machine.execHeldWriteRetaking s
  | .abortMark => Sys2Proof.Machine.execAbortMark s
  | .abortedWriteRelease => Sys2Proof.Machine.execAbortedWriteRelease s
  | .peek => Sys2Proof.Machine.execPeek s
  | .flush => Sys2Proof.Machine.execFlush s
  | .parcelDiscarded => Sys2Proof.Machine.execParcelDiscarded s
  | .badRequest => Sys2Proof.Machine.execBadRequest s
  | .identify => Sys2Proof.Machine.execIdentify s
  | .setParam => Sys2Proof.Machine.execSetParam s
  | .setDecayInterval => Sys2Proof.Machine.execSetDecayInterval s
  | .setDurableLinger => Sys2Proof.Machine.execSetDurableLinger s
  | .setCreditBatch => Sys2Proof.Machine.execSetCreditBatch s
  | .setSequenceBase => Sys2Proof.Machine.execSetSequenceBase s
  | .setPoolLowMark => Sys2Proof.Machine.execSetPoolLowMark s
  | .getParam => Sys2Proof.Machine.execGetParam s
  | .putTenant => Sys2Proof.Machine.execPutTenant s
  | .getTenant => Sys2Proof.Machine.execGetTenant s
  | .dropTenant => Sys2Proof.Machine.execDropTenant s
  | .putRanges => Sys2Proof.Machine.execPutRanges s
  | .getRanges => Sys2Proof.Machine.execGetRanges s
  | .putStream => Sys2Proof.Machine.execPutStream s
  | .getStream => Sys2Proof.Machine.execGetStream s
  | .holdStream => Sys2Proof.Machine.execHoldStream s
  | .releaseStream => Sys2Proof.Machine.execReleaseStream s
  | .flushStream => Sys2Proof.Machine.execFlushStream s
  | .rotateStream => Sys2Proof.Machine.execRotateStream s
  | .unbindStream => Sys2Proof.Machine.execUnbindStream s
  | .grantBlocks => Sys2Proof.Machine.execGrantBlocks s
  | .getLane => Sys2Proof.Machine.execGetLane s
  | .restartLane => Sys2Proof.Machine.execRestartLane s
  | .clearPart => Sys2Proof.Machine.execClearPart s
  | .issue lane => Sys2Proof.Machine.execIssue lane s
  | .answer lane => Sys2Proof.Machine.execAnswer lane s
  | .malformedLaneParcel lane => Sys2Proof.Machine.execMalformedLaneParcel lane s
  | .laneAbortMark lane => Sys2Proof.Machine.execLaneAbortMark lane s
  | .expiry lane record => Sys2Proof.Machine.execExpiry lane record s
  | .laneflt lane asserted => Sys2Proof.Machine.execLaneflt lane asserted s
  | .decayExpiry => Sys2Proof.Machine.execDecayExpiry s
  | .lingerClockExpiry => Sys2Proof.Machine.execLingerClockExpiry s
  | .creditLingerExpiry => Sys2Proof.Machine.execCreditLingerExpiry s
  | .dumpUnitSend => Sys2Proof.Machine.execDumpUnitSend s
  | .trailerSend => Sys2Proof.Machine.execTrailerSend s
  | .parcelSent => Sys2Proof.Machine.execParcelSent s
  | .pfail asserted => Sys2Proof.Machine.execPfail asserted s
  | .resetAssert returnCut lanesCut => Sys2Proof.Machine.execResetAssert returnCut lanesCut s
  | .resetRelease => Sys2Proof.Machine.execResetRelease s
  | .parcelHeadArrival head body => Sys2Proof.Machine.execParcelHeadArrival head body s
  | .answerArrival lane head => Sys2Proof.Machine.execAnswerArrival lane head s

end Sys2Proof.Machine
end

