-- ==== Sys2Proof/Safety.lean ====
section
/-! DEFINITION. The terms in which the claims speak: taking a parcel, reading a field of a run of bytes, and the laws of the device
that every step keeps (R4, R6, R7, R43, R53, R67, R79, R82, R87, R101, R170), each as a predicate on State. -/

namespace Sys2Proof.Machine

/-! ## Taking an ingress parcel -/

/-- The part is in RUN, the parser holds the whole parcel `a`, and the ingress gate is open: `a` is the parcel taken next (R184,
R192). -/
def State.offers (s : State) (a : Arriving) : Prop := s.wholeParcel = some a ∧ s.ingressGateOpen = true

/-- `a` is a MGMT parcel with this request code and a body of this many units (R185). -/
def Arriving.asks (a : Arriving) (code units : Nat) : Prop := a.kind = kindMgmt ∧ a.code = code ∧ a.bodyUnits = units

/-- The parcel that was held has been taken, and the parcels `ps` have been enqueued. -/
def State.answered (s : State) (ps : List ReturnParcel) : State := { s with parser := .awaiting, returns := s.returns ++ ps }

/-- The REPLY to a MGMT parcel (R167). -/
def Arriving.replyOf (a : Arriving) (status : Status) (body : List Byte) : ReturnParcel := .reply a.tag a.fn a.code status body

/-- The command that carries out a SET-PARAM of the parameter p (the rows of the table). -/
def setParamCommand : Param → Instr
  | .decayInterval => .setDecayInterval
  | .durableLinger => .setDurableLinger
  | .creditBatch => .setCreditBatch
  | .sequenceBase => .setSequenceBase
  | .poolLowMark => .setPoolLowMark
  | _ => .setParam

/-- The number that `len` bytes of a run hold at an offset, little-endian (R181). -/
def bytesAt (bs : List Byte) (off len : Nat) : Nat := ((bs.drop off).take len).foldr (fun b n => b.toNat + 256 * n) 0

/-- No IDLE stream has a ready unit and no POOL-LOW is due: as every event in RUN leaves the part (R56, R82). -/
def State.calm (s : State) : Prop :=
  (∀ k, k < Config.streams → (s.stream k).state = .idle → (s.stream k).ready = 0) ∧ s.due = []

/-! ## The end of an event -/

/-- The credit evaluation that ends an event from `s` to `t` finds at least 1 returnable credit and at least CREDIT-BATCH (R30). -/
def State.creditDue (s t : State) : Bool :=
  decide (1 ≤ t.freeSlots - s.credits ∧ s.params.creditBatch ≤ t.freeSlots - s.credits)

/-- The CREDIT that the evaluation enqueues: the whole returnable count, or none (R30). -/
def State.creditParcels (s t : State) : List ReturnParcel :=
  if s.creditDue t = true then [.credit (t.freeSlots - s.credits)] else []

/-- What the credit evaluation at the end of an event from `s` to `t` leaves: a CREDIT takes the whole returnable count and stops the
linger timer; with less returnable than CREDIT-BATCH the timer is started unless it runs; with none nothing changes (R30, R31). -/
def State.creditsFollow (s t : State) : Prop :=
  if s.creditDue t = true then t.credits = s.credits + (t.freeSlots - s.credits) ∧ t.creditTimer = none
  else t.credits = s.credits ∧ t.creditTimer =
    if 1 ≤ t.freeSlots - s.credits ∧ s.creditTimer = none then some (s.now + s.params.creditLinger) else s.creditTimer

/-- What an event in DUMPING leaves that found the dump engine in this phase: with no capacity and no trailer in flight the part is DUMPED
with FAILED (R163); with capacity, FILLING becomes TRAILING once no data unit is in flight and either nothing is undumped or the
capacity is 1 (R162). -/
def State.dumpSettled (phase : DumpPhase) (t : State) : Prop :=
  (t.dump.remaining = 0 → t.dumpInFlight true = false → t.part = .dumped ∧ t.dumpres = .failed ∧ t.dump.phase = .idle)
    ∧ (t.dump.remaining = 0 → t.dumpInFlight true = true → t.part = .dumping ∧ t.dump.phase = phase)
    ∧ (t.dump.remaining ≠ 0 → t.part = .dumping ∧ t.dump.phase =
        if phase = .filling ∧ t.dumpInFlight false = false ∧ (t.undumped = 0 ∨ t.dump.remaining ≤ 1) then .trailing else phase)

/-! ## Failed units and lost lanes (R90, R93, R124, R132, R161) -/

/-- The segment at its close after a failure: every unit that was not DONE has failed, and the end cause is BROKEN unless it went DRAINING
before (R90, R92). -/
def Segment.lost (g : Segment) : Segment := { g with failed := g.issued - g.done, endCause := some (g.endCause.getD .broken) }

/-- The stream of a record's unit, that of its segment; a DUMP record has none (R101, R124). -/
def State.unitStream (s : State) (r : InFlight) : Option Nat :=
  match r.kind with
  | .normal => r.seg.bind s.streamOf
  | .dump => none

/-- How many of these units are the stream's. -/
def State.unitsOf (s : State) (rs : List InFlight) (k : Nat) : Nat := (rs.filter fun r => s.unitStream r == some k).length

/-- What the failures of these records, in this order, enqueue: nothing for a DUMP record; PROGRAM-FAILED for a NORMAL one, and
SEGMENT-CLOSED after it when no record of its segment is left, neither later in the list nor among those that stay (R92, R124, R132). -/
def State.failureParcels (s : State) (l : Nat) (stay : List InFlight) : List (FailReason × InFlight) → List ReturnParcel
  | [] => []
  | (why, r) :: rest =>
    (match r.kind with
      | .dump => []
      | .normal => .programFailed l why (r.seg.getD 0) r.unit r.block ::
          if (rest.map Prod.snd ++ stay).any (fun q => q.seg == r.seg) then []
          else ((Store.find? s.segments (r.seg.getD 0)).map fun g => ReturnParcel.segmentClosed (r.seg.getD 0) g.lost).toList)
      ++ State.failureParcels s l stay rest

/-- The SEGMENT-CLOSED of the lane's OPEN segments of which no unit is in flight, in ascending stream number (R93, R132 action 3). -/
def State.brokenParcels (s : State) (l : Nat) : List ReturnParcel :=
  (List.range Config.streams).filterMap fun k =>
    match s.openSegment (s.stream k) with
    | none => none
    | some (id, g) =>
      if g.lane = l ∧ ((s.lane l).inflight.any fun r => r.seg == some id) = false then some (.segmentClosed id g.lost) else none

/-- The GRANT-RETURNED of the lane, when it holds any grant: normal grants first (R93). -/
def State.grantParcels (s : State) (l : Nat) : List ReturnParcel :=
  if (s.lane l).normal ++ (s.lane l).dump = [] then []
  else [.grantReturned l ((s.lane l).normal.map (UnitKind.normal, ·) ++ (s.lane l).dump.map (UnitKind.dump, ·))]

/-- The units of these records merged back into their streams' queues, in this order (R69). -/
def State.requeueUnits (s : State) (rs : List InFlight) : State :=
  rs.foldl (fun u r =>
    match s.unitStream r with
    | none => u
    | some k => u.requeue k r.slots r.fillers) s

/-- The stream's open segment goes DRAINING with the failure of these records, or with the loss of the lane. -/
def State.losesSegment (s : State) (l : Nat) (rs : List InFlight) (down : Bool) (k : Nat) : Bool :=
  match s.openSegment (s.stream k) with
  | none => false
  | some (id, g) => rs.any (fun r => r.seg == some id) || (down && g.lane == l)

/-- At the end of the event from `s` to `t` the lane can give the stream no grant: it is outside the stream's lane set, or DOWN, or its
normal queue is empty (R85). -/
def State.givesNone (s t : State) (k l : Nat) : Prop :=
  (s.stream k).laneSet.getLsbD l = true → (t.lane l).up = true → (t.lane l).normal = []

/-- How an event from `s` to `t` that leaves the stream without an open segment ends for it: in RUN, with ready units, it requests a segment
and opens a new one on an UP lane of its set, the lanes before that one in circular order after the last lane used having nothing to give,
or, with nothing to give on any lane, is STARVED; else it is IDLE (R56, R85, R86). -/
def State.asksSegment (s t : State) (k : Nat) : Prop :=
  if s.part = .run ∧ 1 ≤ (t.stream k).ready
  then ((t.stream k).state = .opened ∧ ∃ id g i, (t.stream k).openSeg = some id ∧ Store.find? t.segments id = some g ∧ g.stream = k
          ∧ g.issued = 0 ∧ g.endCause = none ∧ (t.lane g.lane).up = true ∧ (s.stream k).laneSet.getLsbD g.lane = true
          ∧ (t.stream k).lastLane = g.lane ∧ i < 8 ∧ g.lane = ((s.stream k).lastLane + 1 + i) % 8
          ∧ ∀ j, j < i → s.givesNone t k (((s.stream k).lastLane + 1 + j) % 8))
        ∨ ((t.stream k).state = .starved ∧ (t.stream k).openSeg = none ∧ k ∈ t.starved ∧ ∀ l, l < 8 → s.givesNone t k l)
  else (t.stream k).state = .idle ∧ (t.stream k).openSeg = none ∧ (t.stream k).lastLane = (s.stream k).lastLane

/-- What the segment requests and the POOL-LOW notices leave that end an event from `s` to `t` which before them changes no stream's state,
open segment or last lane, no segment and no lane, and enqueues up to `before` (R56, R82, R85 to R87). That every IDLE stream with ready units
requests, whether or not the event concerned it, is DEDUCED (log 16). -/
structure State.RequestsMade (s t : State) (before : List ReturnParcel) (law : Prop) : Prop where
  /-- An IDLE stream with ready units requests a segment in RUN. -/
  idle : law → ∀ k, k < 256 → (s.stream k).state = .idle → s.asksSegment t k
  /-- No other stream requests one. -/
  others : ∀ k, (s.stream k).state ≠ .idle → (t.stream k).state = (s.stream k).state
    ∧ (t.stream k).openSeg = (s.stream k).openSeg ∧ (t.stream k).lastLane = (s.stream k).lastLane
  /-- Every segment stays as it was, and a new one is the open segment of a stream that was IDLE. -/
  segments : law → (∀ id g, Store.find? s.segments id = some g → Store.find? t.segments id = some g)
    ∧ ∀ id g, Store.find? t.segments id = some g → Store.find? s.segments id = some g
        ∨ (s.stream g.stream).state = .idle ∧ (t.stream g.stream).openSeg = some id
  /-- Grants leave the front of a normal queue, which clears the armed flag at or below the mark; nothing else held for a lane changes. -/
  lanes : ∀ l, (t.lane l).normal.IsSuffix (s.lane l).normal ∧ t.lane l = { s.lane l with
    normal := (t.lane l).normal
    armed := (s.lane l).armed
      && !decide ((t.lane l).normal ≠ (s.lane l).normal ∧ (t.lane l).normal.length ≤ (s.lane l).poolLowMark) }
  links : t.laneLinks = s.laneLinks
  /-- The streams that starve join the list at its tail in ascending number, each with STREAM-STARVED; after those come the POOL-LOW of
  exactly the lanes whose armed flag the requests cleared. -/
  notices : ∃ starved low, t.starved = s.starved ++ starved ∧ starved.Pairwise (· < ·)
    ∧ (∀ k, k ∈ starved ↔ (s.stream k).state = .idle ∧ (t.stream k).state = .starved)
    ∧ t.returns = before ++ starved.map ReturnParcel.streamStarved ++ low
    ∧ (∀ p ∈ low, ∃ l n, p = .poolLow l n)
    ∧ (s.due = [] → ∀ p, p ∈ low ↔ ∃ l, (s.lane l).armed = true ∧ (t.lane l).armed = false ∧ p = .poolLow l (t.lane l).normal.length)

/-- What the failure of the units `rs` of lane `l`, with the loss of the lane when `down`, leaves of the slots, the streams and the
segments at the end of the event from `s` to `t` (R56, R57, R69, R73, R90, R93, R124 acts 2 to 7, R132 actions 2 and 3). -/
structure State.UnitsFail (s t : State) (l : Nat) (rs : List InFlight) (down : Bool) : Prop where
  /-- The slots of the NORMAL units are STAGED again, with every other field kept; no other slot changes. -/
  slots : ∀ k, t.slot k = if rs.any (fun r => r.kind == .normal && r.slots.contains k) = true
    then { s.slot k with state := .staged } else s.slot k
  /-- The units are merged into the queues, the durable pads follow, and the failed and in-flight counts move. -/
  streams : ∀ k, t.stream k = { s.stream k with
    state := (t.stream k).state
    openSeg := (t.stream k).openSeg
    lastLane := (t.stream k).lastLane
    queue := ((s.requeueUnits rs).stream k).queue
    pad := ((s.requeueUnits rs).durablePads.stream k).pad
    linger := ((s.requeueUnits rs).stream k).linger
    inflight := (s.stream k).inflight - s.unitsOf rs k
    failed := (s.stream k).failed + BitVec.ofNat 32 (s.unitsOf rs k) }
  /-- A HELD stream stays HELD, without its segment when that is lost. -/
  held : ∀ k, k < 256 → (s.stream k).state = .held → (t.stream k).state = .held
    ∧ (t.stream k).openSeg = if s.losesSegment l rs down k = true then none else (s.stream k).openSeg
  /-- An OPEN stream whose segment is not lost keeps it; STARVED and UNBOUND streams stay so. -/
  others : ∀ k, k < 256 →
    ((s.stream k).state = .opened → s.losesSegment l rs down k = false →
      (t.stream k).state = .opened ∧ (t.stream k).openSeg = (s.stream k).openSeg ∧ (t.stream k).lastLane = (s.stream k).lastLane)
    ∧ ((s.stream k).state = .starved → (t.stream k).state = .starved ∧ (t.stream k).openSeg = none)
    ∧ ((s.stream k).state = .unbound → (t.stream k).state = .unbound ∧ (t.stream k).openSeg = none)
  /-- An OPEN stream whose segment is lost goes to IDLE, and an IDLE stream with ready units requests a segment in RUN. -/
  idle : ∀ k, k < 256 → ((s.stream k).state = .idle ∨ (s.stream k).state = .opened ∧ s.losesSegment l rs down k = true) →
    s.asksSegment t k
  /-- Each unit is counted as failed in its segment; a segment that it finds OPEN, or that is lost with the lane, goes DRAINING as BROKEN;
  a DRAINING segment without a unit in flight has closed, and its id, if it stands for a segment, stands for a new one. -/
  segments : ∀ id g h, Store.find? s.segments id = some g →
    h = { g with
      failed := g.failed + (rs.filter fun r => r.seg == some id).length
      endCause := if rs.any (fun r => r.seg == some id) = true ∨ (down = true ∧ g.lane = l) then some (g.endCause.getD .broken)
        else g.endCause } →
    if h.endCause ≠ none ∧ h.done + h.failed = h.issued
    then ∀ h', Store.find? t.segments id = some h' → h'.issued = 0 ∧ h'.endCause = none
    else Store.find? t.segments id = some h
  /-- No segment names a lane that is lost. -/
  lane : down = true → ∀ id g, Store.find? t.segments id = some g → g.lane ≠ l

/-- What a lane down leaves, with cause and with the records that fail in the event, in this order: the units of `UnitsFail`, and the
parcels of R132 in order: the failures, the SEGMENT-CLOSED of the other OPEN segments, GRANT-RETURNED, and LANE-DOWN with the number of
records lost with the lane; then the notices of the streams that request a segment, and in DUMPING none. -/
def State.laneLost (s t : State) (l : Nat) (cause : DownCause) (fails : List (FailReason × InFlight)) (lost : Nat) : Prop :=
  s.UnitsFail t l (fails.map Prod.snd) true
    ∧ ∃ after, t.returns = s.returns ++ s.failureParcels l [] fails ++ s.brokenParcels l ++ s.grantParcels l
          ++ .laneDown l cause lost :: after
        ∧ (∀ p ∈ after, (∃ k, p = .streamStarved k) ∨ ∃ x n, p = .poolLow x n)
        ∧ (s.part = .dumping → s.due = [] → after = [])

/-- The next grant in grant order from lane `l` on, where there is one: the front of the store of the first UP lane whose store is not
empty has left it for the tail of the taken grants (R155). -/
def State.takesNext (s t : State) (l : Nat) : Prop :=
  (∀ j d ds, l ≤ j → j < 8 → (s.lane j).up = true → (s.lane j).dump = d :: ds →
      (∀ h, l ≤ h → h < j → (s.lane h).up = true → (s.lane h).dump = []) →
      t.dump.taken.length = s.dump.taken.length + 1 ∧ t.dump.taken.getLast? = some ⟨j, d.block, d.capacity, 0⟩ ∧ (t.lane j).dump = ds)
    ∧ ((∀ j, l ≤ j → j < 8 → (s.lane j).up = true → (s.lane j).dump = []) → t.dump.taken.length = s.dump.taken.length)

/-- What the loss of a lane in DUMPING leaves of the dump engine (R161): the slots of the lane's DUMP data records that are still in use
are on the redo list; the capacities of its dump store, and the unassigned positions of the current grant when that lies on the lane,
are lost, and then the next grant is taken; the counts and the cursor stay; R162 and R163 are met. -/
def State.dumpLoses (s t : State) (l : Nat) : Prop :=
  (∀ k, k ∈ t.dump.redo ↔ k ∈ s.dump.redo
      ∨ ∃ r ∈ (s.lane l).inflight, r.kind = .dump ∧ r.trailer = false ∧ k ∈ r.slots ∧ (s.slot k).inUse = true)
    ∧ t.dump.remaining = s.dump.remaining - (((s.lane l).dump.map Grant.capacity).sum
        + match s.dump.current with
          | some g => if g.lane = l then g.capacity - g.assigned else 0
          | none => 0)
    ∧ s.dump.taken.IsPrefix t.dump.taken
    ∧ ((∃ c, s.dump.current = some c ∧ c.lane = l) → s.takesNext t (l + 1))
    ∧ ((∀ c, s.dump.current = some c → c.lane ≠ l) →
        t.dump.taken = s.dump.taken ∧ ∀ j, j ≠ l → (t.lane j).dump = (s.lane j).dump)
    ∧ t.dump.cursor = s.dump.cursor ∧ t.dump.sectors = s.dump.sectors ∧ t.dump.units = s.dump.units
    ∧ t.dump.first = s.dump.first ∧ t.dump.last = s.dump.last ∧ t.dump.generation = s.dump.generation
    ∧ t.dumpSettled s.dump.phase

/-! ## Staging -/

/-- The state in which sector `i` of the WRITE is routed: the parcel has been taken and the sectors before it are staged (R14). -/
def State.beforeSector (s : State) (a : Arriving) (i : Nat) : State :=
  (a.sectors.take i).foldl (State.stageSector a) { s with parser := .awaiting }

/-- The stream that sector `i` of the WRITE is routed to (R14 to R20). -/
def State.routedTo (s : State) (a : Arriving) (i : Nat) : Nat := ((s.beforeSector a i).route a (a.lba + i)).2

/-- The staging of one sector changes nothing but the landing index, slots, the sequence counter, its range entry as the route does, the
queue, pad, linger counter and two counters of streams, and three counters of its own tenant (R14, R17, R21, R42, R46, R49). -/
def State.StagedFrame (s t : State) (a : Arriving) (lba : Nat) : Prop :=
  (∀ u, u ≠ a.fn → t.tenant u = s.tenant u)
    ∧ t.tenant a.fn = { s.tenant a.fn with
        stagedCount := (t.tenant a.fn).stagedCount, landed := (t.tenant a.fn).landed, superseded := (t.tenant a.fn).superseded }
    ∧ (∀ i, t.stream i = { s.stream i with
        queue := (t.stream i).queue, pad := (t.stream i).pad, linger := (t.stream i).linger, staged := (t.stream i).staged,
        superseded := (t.stream i).superseded })
    ∧ t = { s with
        index := t.index, slots := t.slots, sequence := t.sequence, ranges := (s.route a lba).1.ranges, streams := t.streams,
        tenants := t.tenants }

/-- What the taking of an accepted WRITE leaves after its sectors are staged and its pads are made, which gives `u`, with the parcels up to
`before` enqueued: the credit evaluation when a supersede freed a slot, and the segment requests with their notices (R30, R49, R56, R82).
Every field that these do not change, every other field of a stream among them, is that of `u`. -/
structure State.WriteEnds (s u t : State) (before : List ReturnParcel) (law : Prop) : Prop where
  streams : ∀ j, t.stream j = { u.stream j with
    state := (t.stream j).state, openSeg := (t.stream j).openSeg, lastLane := (t.stream j).lastLane }
  frame : t = { u with
    streams := t.streams, starved := t.starved, segments := t.segments, nextSegment := t.nextSegment, lanes := t.lanes,
    returns := t.returns, credits := t.credits, creditTimer := t.creditTimer, due := [], draws := t.draws }
  credits : if s.freeSlots < t.freeSlots then s.creditsFollow t else t.credits = s.credits ∧ t.creditTimer = s.creditTimer
  requests : s.RequestsMade t (before ++ if s.freeSlots < t.freeSlots then s.creditParcels t else []) law

/-- What the staging of a durable WRITE in the durable write record `i` leaves (R42, R43, R46, R66, R139): the record, the reference to it of
each landed slot and of no other, no LANDED, the pads and the end of the event; and, in a state that obeys the laws (`law`), each sector
STAGED in the slot it landed in, with its sequence, in the queue of its route's stream, and named by the landing index. -/
structure State.DurablyStaged (s t : State) (a : Arriving) (i : Nat) (law : Prop) : Prop where
  parser : t.parser = .awaiting
  sequence : t.sequence = s.sequence + a.landed.length
  record : Store.find? t.durables i = some { tag := a.tag, fn := a.fn, first := s.sequence, count := a.count, remaining := a.count }
  records : ∀ j, j ≠ i → Store.find? t.durables j = Store.find? s.durables j
  landed : (t.tenant a.fn).landed = (s.tenant a.fn).landed + BitVec.ofNat 48 a.landed.length
  frame : t.staging = s.staging ∧ t.flushes = s.flushes ∧ t.params = s.params ∧ t.dump = s.dump
  staged : ∀ u, u = s.beforeSector a a.landed.length →
    (∀ k, t.slot k = if k ∈ a.landed then { u.slot k with durable := some i } else u.slot k)
      ∧ t.index = u.index ∧ t.tenants = u.tenants ∧ t.ranges = u.ranges
  ends : s.WriteEnds (((s.beforeSector a a.landed.length).createDurable a s.sequence).durablePads.pressure) t s.returns law
  slots : law → ∀ n k, a.landed[n]? = some k →
    t.slot k = { s.slot k with state := .staged, seq := s.sequence + n, stream := s.routedTo a n, durable := some i }
      ∧ k ∈ (t.stream (s.routedTo a n)).queue ∧ t.indexed a.fn a.ns (a.lba + n) = some k

/-- What a refused WRITE leaves (R30, R31, R40): its slots are FREE and no other slot changes, LANDED with the status carries first sequence
0, a valid tenant's writes refused counter rises by 1, and the credit engine evaluates when slots were freed; in a state that obeys the
laws (`law`) no other field of a tenant changes, no other tenant does, and neither does the landing index. That a FREE slot keeps its
other fields is log 18. -/
structure State.WriteRefused (s t : State) (a : Arriving) (status : LandedStatus) (law : Prop) : Prop where
  returns : t.returns = s.returns ++ .landed a.tag a.fn status a.count 0 :: (if a.landed = [] then [] else s.creditParcels t)
  credits : if a.landed = [] then t.credits = s.credits ∧ t.creditTimer = s.creditTimer else s.creditsFollow t
  slots : ∀ k, t.slot k = if k ∈ a.landed then { s.slot k with state := .free, durable := none, mark := false } else s.slot k
  refused : a.fn < 512 → (s.tenant a.fn).valid = true → (t.tenant a.fn).refused = (s.tenant a.fn).refused + 1
  tenants : law → ∀ u, t.tenant u = if u = a.fn ∧ u < 512 ∧ (s.tenant u).valid = true
    then { s.tenant u with refused := (s.tenant u).refused + 1 } else s.tenant u
  index : law → t.index = s.index
  frame : t = { s with
    parser := .awaiting, slots := t.slots, index := t.index, tenants := t.tenants, returns := t.returns, credits := t.credits,
    creditTimer := t.creditTimer }

/-! ## The laws -/

/-- Every table and staging memory are in their canonical form: keys strictly rising, and nothing listed that equals what an unlisted
entry reads as. -/
def State.canonical (s : State) : Bool :=
  Store.canon {} s.tenants && Store.canon {} s.ranges && Store.canon {} s.slots && Store.canon {} s.streams
    && Store.canon {} s.lanes && Store.canon [] s.laneLinks && Store.canon unwritten s.staging
    && Store.sorted s.index && Store.sorted s.segments && Store.sorted s.durables && Store.sorted s.flushes

/-- The canonical form of staging memory. -/
abbrev Memory.wf (m : List Host.Cell) : Bool := Store.canon unwritten m

/-- R4: the values of a range entry, and its law: 0 ≤ H ≤ 65535, and the hot flag is set only while a hot stream is named. -/
def Range.lawful (r : Range) : Prop :=
  r.ns ≤ 7 ∧ r.base < 2 ^ 40 ∧ r.limit < 2 ^ 40 ∧ r.cold ≤ 255 ∧ (∀ k ∈ r.hotStream, k ≤ 255) ∧ 1 ≤ r.threshold
    ∧ r.threshold ≤ 65535 ∧ r.heat ≤ 65535 ∧ (r.hot = true → r.hotStream.isSome = true)

/-- Every range entry obeys R4. -/
def State.rangesLawful (s : State) : Prop := ∀ i, (s.range i).lawful

/-- R6: a window's entries have base ≤ limit, and each follows the one before it. -/
def State.windowSorted (s : State) (t : Tenant) : Prop :=
  ∀ i, t.holds i = true → s.entryFault t.windowFirst i = false

/-- R6 and R7: the window of every valid tenant is sorted, and no range entry lies in the windows of two valid tenants. -/
def State.windowsLawful (s : State) : Prop :=
  (∀ t, s.validTenant t = true → s.windowSorted (s.tenant t))
    ∧ ∀ t u i, s.validTenant t = true → s.validTenant u = true → (s.tenant t).holds i = true → (s.tenant u).holds i = true → t = u

/-- R170: every part-wide parameter but SEQUENCE-BASE lies in its range. -/
def Params.lawful (p : Params) : Prop :=
  (1 ≤ p.heatStep ∧ p.heatStep ≤ 4096) ∧ (1 ≤ p.decayInterval ∧ p.decayInterval ≤ 65535)
    ∧ (1 ≤ p.programTimeout ∧ p.programTimeout ≤ 1000) ∧ (1 ≤ p.timeoutLimit ∧ p.timeoutLimit ≤ 15) ∧ p.pressureMark ≤ 8192
    ∧ p.durableLinger ≤ 255 ∧ (1 ≤ p.creditBatch ∧ p.creditBatch ≤ 4096) ∧ (1 ≤ p.creditLinger ∧ p.creditLinger ≤ 255)
    ∧ p.dumpGeneration ≤ 2 ^ 32 - 1

/-- R53 and R67: the values of a stream context, and pad pending only over a non-empty tail. -/
def Stream.lawful (t : Stream) : Prop :=
  t.cadence ∈ [1, 2, 4, 8, 16] ∧ t.phase < t.cadence ∧ t.lingerLimit ≤ 255 ∧ t.linger ≤ 255 ∧ t.lastLane ≤ 7
    ∧ (t.pad = true → 0 < t.tailSize)

/-- Every stream context obeys R53 and R67. -/
def State.streamsLawful (s : State) : Prop := ∀ k, (s.stream k).lawful

/-- R87: the starvation list holds no stream twice, and exactly the streams in state STARVED. -/
def State.starvationLawful (s : State) : Prop := s.starved.Nodup ∧ ∀ k, k ∈ s.starved ↔ (s.stream k).state = .starved

/-- R79, R82, R98, R101 and R114: the values of what is held for a lane; an armed lane holds more grants than its mark; a DOWN lane
holds no in-flight record and no grant. -/
def Lane.lawful (x : Lane) : Prop :=
  (1 ≤ x.window ∧ x.window ≤ 32) ∧ x.inflight.length ≤ 32 ∧ x.pass < 65536 ∧ x.position ≤ 255 ∧ x.consecutive ≤ 15
    ∧ x.normal.length ≤ 32 ∧ x.dump.length ≤ 4 ∧ (∀ g ∈ x.normal ++ x.dump, 1 ≤ g.capacity ∧ g.capacity ≤ 4096)
    ∧ x.poolLowMark ≤ 31 ∧ (x.armed = true → x.poolLowMark < x.normal.length)
    ∧ (x.up = false → x.inflight = [] ∧ x.normal = [] ∧ x.dump = [])

/-- Every lane obeys its law. -/
def State.lanesLawful (s : State) : Prop := ∀ l, (s.lane l).lawful

/-- R37, R43 and R184: a parcel still arriving has blocks to come; a whole WRITE has landed all its blocks; a held WRITE is framed
correctly and has landed all its sectors; and the landing sequence counter never passes 2^48−1, held WRITE included. -/
def State.landingLawful (s : State) : Prop :=
  s.sequence ≤ 2 ^ 48 - 1 ∧
    match s.parser with
    | .awaiting => True
    | .receiving a => a.aborted = false ∧ (a.overrun = true → a.landed = []) ∧ (a.landed = [] ∨ a.landed.length < creditNeed a.bodyUnits)
    | .gated a => a.aborted = false → if a.overrun then a.landed = [] else a.kind = kindWrite → a.landed.length = creditNeed a.bodyUnits
    | .holding a => s.framingFault a = false ∧ a.landed.length = a.count

/-! ## The ledger of slots: the laws of the device that hold together (R3, R27, R29, R43, R45, R66, R83, R85, R89, R138, R144) -/

/-- The slots of the NORMAL in-flight records of a lane, in their order. -/
def Lane.issuedSlots (x : Lane) : List Nat := (x.inflight.filter fun r => r.kind == .normal).flatMap InFlight.slots

/-- The parcel that the parser handles. -/
def Parser.parcel : Parser → Option Arriving
  | .awaiting => none
  | .receiving a => some a
  | .gated a => some a
  | .holding a => some a

/-- The number of slots that `p` accepts. -/
def State.slotCount (s : State) (p : Slot → Bool) : Nat := (s.slotsWhere p).length

/-- R27, R35: slot numbers are below 16384; the LANDING slots are the landed slots of the WRITE that the parser handles, each once and
with the identity of its sector; no slot out of use has a durable reference or a flush mark. -/
def State.landingSlotsLawful (s : State) : Prop :=
  (∀ k, (s.slot k).state ≠ .free → k < 16384)
    ∧ s.parser.landedSlots.Nodup ∧ (∀ k, (s.slot k).state = .landing ↔ k ∈ s.parser.landedSlots)
    ∧ (∀ a, s.parser.parcel = some a → (a.kind ≠ kindWrite → a.landed = [])
        ∧ ∀ i k, a.landed[i]? = some k → (s.slot k).fn = a.fn ∧ (s.slot k).ns = a.ns ∧ (s.slot k).lba = a.lba + i)
    ∧ ∀ k, (s.slot k).inUse = false → (s.slot k).durable = none ∧ (s.slot k).mark = false

/-- R66: every STAGED slot stands in the staged queue of the stream its record names and in no other, and each queue is in strictly
ascending landing sequence, so no slot stands in it twice. -/
def State.queuesLawful (s : State) : Prop :=
  (∀ j k, k ∈ (s.stream j).queue ↔ (s.slot k).state = .staged ∧ (s.slot k).stream = j)
    ∧ ∀ j, ((s.stream j).queue.map fun k => (s.slot k).seq).Pairwise (· < ·)

/-- R106: every ISSUED slot stands in one NORMAL in-flight record, once. -/
def State.issuedSlotsLawful (s : State) : Prop :=
  (∀ k, (s.slot k).state = .issued ↔ ∃ l, k ∈ (s.lane l).issuedSlots)
    ∧ (∀ l, (s.lane l).issuedSlots.Nodup)
    ∧ ∀ l m k, k ∈ (s.lane l).issuedSlots → k ∈ (s.lane m).issuedSlots → l = m

/-- R43: no two in-use slots have the same landing sequence, and the counter is above them all; R37, R38: the identity of an in-use slot
has passed the checks of the WRITE. -/
def State.sequencesLawful (s : State) : Prop :=
  (∀ k, (s.slot k).inUse = true →
      (s.slot k).seq < s.sequence ∧ (s.slot k).fn < 512 ∧ (s.slot k).ns ≤ 7 ∧ (s.slot k).lba < 2 ^ 40)
    ∧ ∀ j k, (s.slot j).inUse = true → (s.slot k).inUse = true → (s.slot j).seq = (s.slot k).seq → j = k

/-- R45: every landing index entry names an in-use slot of its key, the one with the highest landing sequence of the key. -/
def State.indexLawful (s : State) : Prop :=
  ∀ key k, Store.find? s.index key = some k →
    (s.slot k).inUse = true ∧ key = identityKey (s.slot k).fn (s.slot k).ns (s.slot k).lba
      ∧ ∀ j, (s.slot j).inUse = true → (s.slot j).fn = (s.slot k).fn → (s.slot j).ns = (s.slot k).ns →
          (s.slot j).lba = (s.slot k).lba → (s.slot j).seq ≤ (s.slot k).seq

/-- R3, R29, R138 and R144: a tenant's staged count is the number of its in-use slots; credits outstanding do not exceed the FREE slots;
a durable write record's remaining count is at least 1 and is the number of slots that refer to it, and a referred record is in use; a
flush record's count is at least 1 and is the number of the tenant's marked slots, and a marked slot's tenant has a record. -/
def State.countsLawful (s : State) : Prop :=
  (∀ fn, (s.tenant fn).stagedCount = s.slotCount fun r => r.inUse && r.fn == fn)
    ∧ s.credits ≤ s.freeSlots
    ∧ (∀ i r, Store.find? s.durables i = some r → 1 ≤ r.remaining ∧ r.remaining ≤ r.count
        ∧ r.remaining = s.slotCount fun q => q.durable == some i)
    ∧ (∀ k i, (s.slot k).durable = some i → (Store.find? s.durables i).isSome = true)
    ∧ (∀ fn r, Store.find? s.flushes fn = some r → 1 ≤ r.count ∧ 1 ≤ r.tags.length ∧ r.tags.length ≤ 4
        ∧ r.count = s.slotCount fun q => q.mark && q.fn == fn)
    ∧ ∀ k, (s.slot k).mark = true → (Store.find? s.flushes (s.slot k).fn).isSome = true

/-- The units of a segment that are in flight on its lane. -/
def State.outstanding (s : State) (id : Nat) (g : Segment) : Nat := ((s.lane g.lane).inflight.filter fun r => r.seg == some id).length

/-- R83, R89, R90 and R92: units issued stays within the capacity, and below it while the segment is OPEN; done + failed + outstanding is
issued; a DRAINING segment has a unit outstanding; every NORMAL record names a segment of its lane whose stream its slots name; a DUMP
record names none. -/
def State.segmentsLawful (s : State) : Prop :=
  (∀ id g, Store.find? s.segments id = some g →
      id < 65536 ∧ g.issued ≤ g.capacity ∧ g.done + g.failed + s.outstanding id g = g.issued
        ∧ (g.endCause = none → g.issued < g.capacity) ∧ (g.endCause ≠ none → g.done + g.failed < g.issued))
    ∧ (∀ l r, r ∈ (s.lane l).inflight → r.kind = .normal →
        ∃ id g, r.seg = some id ∧ Store.find? s.segments id = some g ∧ g.lane = l ∧ ∀ k ∈ r.slots, (s.slot k).stream = g.stream)
    ∧ ∀ l r, r ∈ (s.lane l).inflight → r.kind = .dump → r.seg = none

/-- R55, R83, R85: the open segment of a stream is its one OPEN segment, on a lane of its lane set; an OPEN stream has one, a HELD stream
may have one, no other has; and only the 256 streams are bound. -/
def State.openSegmentsLawful (s : State) : Prop :=
  (∀ k id, (s.stream k).openSeg = some id →
      ∃ g, Store.find? s.segments id = some g ∧ g.stream = k ∧ g.endCause = none ∧ (s.stream k).laneSet.getLsbD g.lane = true)
    ∧ (∀ id g, Store.find? s.segments id = some g → g.endCause = none → (s.stream g.stream).openSeg = some id)
    ∧ (∀ k, (s.stream k).state = .opened → (s.stream k).openSeg.isSome = true)
    ∧ (∀ k, (s.stream k).openSeg.isSome = true → (s.stream k).state = .opened ∨ (s.stream k).state = .held)
    ∧ ∀ k, (s.stream k).state ≠ .unbound → k < 256

/-- Only the eight lanes hold anything, and dump grants were taken on them (R98, R154). -/
def State.lanesExist (s : State) : Prop := (∀ l, 8 ≤ l → s.lane l = {}) ∧ ∀ g ∈ s.dump.taken, g.lane < 8

/-- The ledger: the laws that every event keeps together. -/
structure State.Ledger (s : State) : Prop where
  canonical : s.canonical = true
  lanes : s.lanesLawful
  starvation : s.starvationLawful
  landing : s.landingLawful
  landingSlots : s.landingSlotsLawful
  queues : s.queuesLawful
  issuedSlots : s.issuedSlotsLawful
  sequences : s.sequencesLawful
  index : s.indexLawful
  counts : s.countsLawful
  segments : s.segmentsLawful
  openSegments : s.openSegmentsLawful
  exist : s.lanesExist

/-! ## Units in flight, segment requests and the dump engine -/

/-- The NORMAL units of a stream in flight on the eight lanes. -/
def State.unitsInFlight (s : State) (k : Nat) : Nat :=
  ((List.range Config.lanes).map fun l => s.unitsOf (s.lane l).inflight k).sum

/-- R53, R55 and R123: a stream's in-flight count is the number of its units in flight; an UNBOUND stream has no queue, no pad pending and
no unit in flight. -/
def State.unitsLawful (s : State) : Prop :=
  (∀ k, (s.stream k).inflight = s.unitsInFlight k)
    ∧ ∀ k, (s.stream k).state = .unbound → (s.stream k).queue = [] ∧ (s.stream k).pad = false ∧ (s.stream k).inflight = 0

/-- R56 and R82: in RUN no IDLE stream has a ready unit, and no POOL-LOW is due. -/
def State.calmInRun (s : State) : Prop := s.part = .run → s.calm

/-- The unassigned positions of the current grant, none of them once its lane is lost (R154, R161). -/
def State.unassigned (s : State) : Nat :=
  match s.dump.current with
  | none => 0
  | some g => if (s.lane g.lane).up = true then g.capacity - g.assigned else 0

/-- R154 and R155: the remaining capacity is the unassigned positions of the current grant and the capacities in the dump stores of UP
lanes; while the current grant has no unassigned position those stores are empty; and so are those of the lanes before it in grant
order. -/
def State.grantsLawful (s : State) : Prop :=
  s.dump.remaining = s.unassigned + s.dumpCapacity ∧ (s.unassigned = 0 → s.dumpCapacity = 0)
    ∧ ∀ g, s.dump.current = some g → g.assigned ≤ g.capacity ∧ ∀ l, l < g.lane → (s.lane l).up = true → (s.lane l).dump = []

/-- The slot's sequence has been composed into a data unit (R154). -/
def State.composed (s : State) (k : Nat) : Prop := ∃ c, s.dump.cursor = some c ∧ (s.slot k).seq ≤ c

/-- R154 and R156: the redo list is in strictly ascending landing sequence, so no slot stands on it twice, and at or below the cursor; a
slot of a DUMP record stands in it once and at or below the cursor; and no two slots on the list or in use share a landing sequence. -/
def State.redoLawful (s : State) : Prop :=
  (s.dump.redo.map fun k => (s.slot k).seq).Pairwise (· < ·) ∧ (∀ k ∈ s.dump.redo, s.composed k)
    ∧ (∀ l r, r ∈ (s.lane l).inflight → r.kind = .dump → r.slots.Nodup ∧ ∀ k ∈ r.slots, s.composed k)
    ∧ ∀ j k, (j ∈ s.dump.redo ∨ (s.slot j).inUse = true) → (k ∈ s.dump.redo ∨ (s.slot k).inUse = true) →
        (s.slot j).seq = (s.slot k).seq → j = k

/-- R151, R154 and R163: in RUN the dump engine is at its reset values and no DUMP record is in flight; in DUMPING its phase is FILLING or
TRAILING, its grants and its redo list obey their laws, and with no capacity left the trailer is in flight; in DUMPED its phase is
IDLE. -/
def State.dumpLawful (s : State) : Prop :=
  (s.part = .run → s.dump = {} ∧ ∀ l r, r ∈ (s.lane l).inflight → r.kind = .normal)
    ∧ (s.part = .dumping → s.dump.phase ≠ .idle ∧ s.grantsLawful ∧ s.redoLawful
        ∧ (s.dump.remaining = 0 → s.dumpInFlight true = true))
    ∧ (s.part = .dumped → s.dump.phase = .idle)

end Sys2Proof.Machine
end

