-- ==== Sys2Proof/Certificates/Slice0/Obligations.lean ====
section
/-! DEFINITION. The statements for the provers, one `def Obligations.<Name> : Prop` each, in the order of OBLIGATIONS.json. -/

open Sys2Proof Sys2Proof.Machine

/-- One step takes the command at the front of the queue and carries it out with the queue's rest. -/
def Obligations.StepRunsFrontCommand : Prop :=
  ∀ (s : State) (c : Instr) (rest : List Instr), s.pending = c :: rest → step s = exec c { s with pending := rest }

/-- The state right after reset, table by table and each record whole (R2, R4, R27, R29, R33, R43, R45, R54, R79, R82, R83, R84, R87, R99,
R114, R138, R144, R154, R170, R178), and every law of this model holds in it. The state after reset is taken as the one right after the
release (log 14); the model's own fields `now`, `arrivals` and `draws` are no part of this statement. -/
def Obligations.ResetHoldsSpecValuesAndLaws : Prop :=
  (State.reset.part = .run ∧ State.reset.dumpres = .none ∧ State.reset.dumpact = false ∧ State.reset.parser = .awaiting
    ∧ State.reset.returns = [.ready, .credit 16384] ∧ State.reset.credits = 16384 ∧ State.reset.returnable = 0
    ∧ State.reset.freeSlots = 16384 ∧ State.reset.sequence = 0 ∧ State.reset.nextSegment = 0 ∧ State.reset.starved = []
    ∧ (∀ i, State.reset.range i = ⟨0, 0, 0, 0, none, 1, 0, false⟩)
    ∧ (∀ t, State.reset.tenant t = ⟨false, 0, .staged, false, 0, 0, 0, [], 0, 0, 0, 0⟩)
    ∧ (∀ k, State.reset.slot k = ⟨.free, 0, 0, 0, 0, 0, none, false⟩)
    ∧ (∀ k, State.reset.stream k = ⟨.unbound, 0, 1, 0, 0, [], false, 0, none, 7, 0, 0, 0, 0, 0, 0⟩)
    ∧ (∀ l, State.reset.lane l = ⟨true, 16, [], 0, 255, 0, 0, 0, 0, 0, 0, [], [], false, 4, []⟩)
    ∧ State.reset.segments = [] ∧ State.reset.durables = [] ∧ State.reset.flushes = []
    ∧ State.reset.dump = ⟨.idle, none, [], [], 0, 0, 0, none, none, 0, none⟩
    ∧ State.reset.params = ⟨256, 1000, 200, 3, 1024, 1, 64, 20, 0⟩
    ∧ State.reset.decayTimer.isSome = true ∧ State.reset.lingerClock.isSome = true ∧ State.reset.creditTimer = none
    ∧ ∀ fn ns lba, State.reset.indexed fn ns lba = none)
  ∧ State.reset.canonical = true ∧ State.reset.rangesLawful ∧ State.reset.windowsLawful ∧ State.reset.params.lawful
    ∧ State.reset.streamsLawful ∧ State.reset.Ledger ∧ State.reset.calm ∧ State.reset.unitsLawful ∧ State.reset.dumpLawful

/-- RESET_ASSERT: every block loses its state, unsent return parcels are lost, no credit is out and no timer runs, and a parcel being sent
is ended with an abort mark, on the return link and on each lane link named whose last item is a PROGRAM (R177, R191). Which parcels are
partly sent is given with the command, and the links' records are the model's own (log 13). That lane parcels waiting at a lane link are
dropped uncounted, and that staging memory reads as 0 after it, are the model's choices (log 30, log 6). RESET_RELEASE with PFAIL
deasserted: every block at its reset values, READY and CREDIT 16384 enqueued, the two timers started (R178). The clock, the waiting
commands, the lines, the links' records and the counters `arrivals` and `draws` are the model's own and stay. RESET_RELEASE with PFAIL
asserted: READY and CREDIT 16384 are enqueued, and then the dump fails at entry (R151, R154, R178). -/
def Obligations.ResetAssertAndRelease : Prop :=
  (∀ (s : State) (returnCut : Bool) (lanesCut : BitVec 8), s.lines.reset = false →
    ∃ t, exec (.resetAssert returnCut lanesCut) s = .next t
      ∧ t = { State.reset with
          pending := s.pending, now := s.now, lines := { s.lines with reset := true }, arrivals := s.arrivals, draws := s.draws,
          decayTimer := none, lingerClock := none, creditTimer := none, credits := 0, returns := [],
          returnLink := t.returnLink, laneLinks := t.laneLinks }
      ∧ t.part = .run ∧ t.dumpres = .none ∧ t.dumpact = false ∧ t.sequence = 0 ∧ t.nextSegment = 0 ∧ t.due = []
      ∧ t.returnLink = (if returnCut = true ∧ s.returns ≠ [] then s.returnLink ++ [.abortMark] else s.returnLink)
      ∧ ∀ l, (∀ bs, lanesCut.getLsbD l = true → (s.laneLink l).getLast? = some (.parcel bs) →
            t.laneLink l = s.laneLink l ++ [.abortMark])
          ∧ ((lanesCut.getLsbD l = false ∨ ∀ bs, (s.laneLink l).getLast? ≠ some (.parcel bs)) → t.laneLink l = s.laneLink l))
  ∧ (∀ s : State, s.lines.reset = true → s.lines.pfail = false →
      exec .resetRelease s = .next
        { State.reset with
          pending := s.pending, now := s.now, lines := { s.lines with reset := false }, arrivals := s.arrivals, draws := s.draws,
          returnLink := s.returnLink, laneLinks := s.laneLinks, decayTimer := some (s.now + 1000000),
          lingerClock := some (s.now + 1000) })
  ∧ (∀ s : State, s.lines.reset = true → s.lines.pfail = true →
      ∃ t, exec .resetRelease s = .next t ∧ t.part = .dumped ∧ t.dumpres = .failed ∧ t.dumpact = false
        ∧ t.returns = [.ready, .credit 16384] ∧ t.decayTimer = none ∧ t.lingerClock = none ∧ t.creditTimer = none
        ∧ t.parser = .awaiting ∧ t.slots = [])

/-! ## The ingress parser, landing and taking a WRITE -/

/-- PARCEL_HEAD_ARRIVAL: the parser leaves AWAITING with the parcel; a WRITE is an overrun exactly when its body, in 4096-byte blocks
rounded up, exceeds the credits outstanding (R34, R184). PARCEL_DISCARDED: a whole parcel that is no ingress kind leaves without trace
(R183). ABORT_MARK: a parcel whose body is not complete is discarded; a partly landed WRITE waits in GATED for its release (R191; that it
waits in GATED is the model's choice, log 4). ABORTED_WRITE_RELEASE: the LANDING slots return to FREE with no LANDED, no other slot, field
or table changes, in a state that obeys the laws neither the landing index nor any tenant record, and the credit engine evaluates: it
sends the whole returnable count from CREDIT-BATCH on, and else starts its timer (R30, R31, R191). That a body of another kind than WRITE
comes with the head, and that no gate holds a discarded parcel, is the model's choice (log 3), and that a freed slot keeps its identity is
its reading (log 18). -/
def Obligations.ParserOpensDiscardsAndAborts : Prop :=
  (∀ (s : State) (head : Unit16) (body : List Unit16), s.running = true → s.parser = .awaiting → bodyFits head body = true →
      ∃ a : Arriving, a.head = head ∧ a.body = body ∧ a.landed = [] ∧ a.aborted = false
        ∧ (a.overrun = true ↔ headKind head = 0x10 ∧ s.credits < (headBodyUnits head + 255) / 256)
        ∧ exec (.parcelHeadArrival head body) s
            = .next { s with parser := if headBodyUnits head = 0 then .gated a else .receiving a })
  ∧ (∀ (s : State) (a : Arriving), s.wholeParcel = some a → a.kind ≠ 0x10 → a.kind ≠ 0x11 → a.kind ≠ 0x12 → a.kind ≠ 0x1F →
      exec .parcelDiscarded s = .next { s with parser := .awaiting })
  ∧ (∀ (s : State) (a : Arriving), s.running = true → s.parser = .receiving a →
      exec .abortMark s = .next { s with parser := if a.landed = [] then .awaiting else .gated { a with aborted := true } })
  ∧ (∀ (s : State) (a : Arriving), s.running = true → s.parser = .gated a → a.aborted = true → s.ingressGateOpen = true →
      ∃ t, exec .abortedWriteRelease s = .next t
        ∧ (∀ k, t.slot k = if k ∈ a.landed then { s.slot k with state := .free, durable := none, mark := false } else s.slot k)
        ∧ t.returns = s.returns ++ s.creditParcels t ∧ s.creditsFollow t
        ∧ (s.Ledger → t.index = s.index ∧ t.tenants = s.tenants)
        ∧ t = { s with
            parser := .awaiting, slots := t.slots, index := t.index, tenants := t.tenants, returns := t.returns, credits := t.credits,
            creditTimer := t.creditTimer })

/-- LANDING: the block fills the lowest-numbered FREE slot, which becomes LANDING under the header's identity; one credit is consumed; the
slot's bytes are the block's and no other byte of staging memory changes (R35, R27). That the rest of a slot keeps its bytes under a block
of less than 4096 bytes is the model's choice (log 6). -/
def Obligations.LandingFillsLowestFreeSlot : Prop :=
  ∀ (s : State) (a : Arriving) (block : List Unit16) (k : Nat), s.running = true → s.parser = .receiving a → a.kind = 0x10 →
    a.overrun = false → 1 ≤ block.length → block.length ≤ 256 →
    block.length = min 256 (a.bodyUnits - 256 * a.landed.length) →
    k < 16384 → (s.slot k).state = .free → (∀ j, j < k → (s.slot j).state ≠ .free) →
    ∃ t, exec (.landing block) s = .next t
      ∧ t.slot k = { s.slot k with state := .landing, fn := a.fn, ns := a.ns, lba := a.lba + a.landed.length }
      ∧ (∀ j, j ≠ k → t.slot j = s.slot j)
      ∧ (∀ i, i < 16 * block.length → readByte t.staging (4096 * k + i) = (block.flatMap unitBytes).getD i 0)
      ∧ (∀ x, (x < 4096 * k ∨ 4096 * k + 16 * block.length ≤ x) → readByte t.staging x = readByte s.staging x)
      ∧ t = { s with
          slots := t.slots, staging := t.staging, credits := s.credits - 1,
          parser := if (a.bodyUnits + 255) / 256 ≤ a.landed.length + 1 then .gated { a with landed := a.landed ++ [k] }
            else .receiving { a with landed := a.landed ++ [k] } }

/-- The checks of R36 in order. A WRITE that is no overrun is refused with the status of the first of the checks 2 to 5 that applies: its
slots return to FREE, LANDED carries first sequence 0, no landing sequence is taken, no range entry, stream or staged data changes, and a
valid tenant's writes refused counter rises by 1; the credit engine evaluates after it when slots were freed (R30, R31, R40). In a state
that obeys the laws the landing index stays, and so does every tenant record but for that counter. An overrun is refused first and takes
no slot. That a freed slot keeps its identity, sequence and stream is the model's reading (log 18). -/
def Obligations.WriteRefusedByFirstCheck : Prop :=
  ∀ (s : State) (a : Arriving) (status : LandedStatus), s.offers a → a.kind = 0x10 →
    status = (if a.overrun = true then .overrun
      else if a.count = 0 ∨ 64 < a.count ∨ a.bodyUnits ≠ a.count * 256 ∨ 7 < a.ns ∨ 2 ^ 40 < a.lba + a.count
        ∨ 2 ^ 48 - 1 < s.sequence + a.count then .malformed
      else if 511 < a.fn ∨ (s.tenant a.fn).valid = false then .noTenant
      else if (s.stream (s.tenant a.fn).defaultStream).state = .unbound then .noRoute
      else if (s.tenant a.fn).cap < (s.tenant a.fn).stagedCount + a.count then .tenantFull else .ok) →
    status ≠ .ok →
    ∃ t, exec .write s = .next t ∧ s.WriteRefused t a status s.Ledger

/-- A WRITE that passes the checks 1 to 5 and is not durable is accepted: its sectors take the next landing sequences, LANDED OK carries
the first of them and is the first parcel enqueued, followed by the CREDIT due, and then by STREAM-STARVED and POOL-LOW parcels only (R42,
R43); its tenant's sectors landed rise by the sectors staged (R3). No staged byte, durable record, flush record or parameter changes. In a
state that obeys the laws, sector i stands in the slot that its block landed in: STAGED, with the first sequence plus i and the stream
that its route gives in the state in which the sectors before it are staged, in that stream's queue, and named by the landing index (R14,
R21, R42, R43, R46, R66). The pads are those of the durable-linger check and then of the pressure check (R73, R74), and the credit engine
evaluates exactly when a supersede freed a slot (R30, R49). Everything else, slots, landing index, tenants, ranges and each stream's queue
and counters, is as the staging of the sectors one after another leaves it. An IDLE stream that is left with ready units then requests a
segment; no other stream's state, no segment and no in-flight record changes, and from a lane only grants are taken (R56, R82, R85, R86).
That the requests of an event are made by a sweep over all streams is the model's deduction (log 16). -/
def Obligations.WriteAcceptedStagesSectors : Prop :=
  ∀ (s : State) (a : Arriving), s.offers a → a.kind = 0x10 → a.overrun = false → s.framingFault a = false →
    s.validTenant a.fn = true → (s.stream (s.tenant a.fn).defaultStream).bound = true →
    (s.tenant a.fn).stagedCount + a.count ≤ (s.tenant a.fn).cap → a.durableFlag = false → (s.tenant a.fn).ack = .staged →
    ∃ t, exec .write s = .next t ∧ t.parser = .awaiting ∧ t.sequence = s.sequence + a.landed.length
      ∧ (t.tenant a.fn).landed = (s.tenant a.fn).landed + BitVec.ofNat 48 a.landed.length
      ∧ t.staging = s.staging ∧ t.durables = s.durables ∧ t.flushes = s.flushes ∧ t.params = s.params ∧ t.dump = s.dump
      ∧ (∀ u, u = s.beforeSector a a.landed.length →
          t.slots = u.slots ∧ t.index = u.index ∧ t.tenants = u.tenants ∧ t.ranges = u.ranges)
      ∧ s.WriteEnds (s.beforeSector a a.landed.length).durablePads.pressure t
          (s.returns ++ [.landed a.tag a.fn .ok a.count s.sequence]) s.Ledger
      ∧ (s.Ledger → ∀ i k, a.landed[i]? = some k →
          t.slot k = { s.slot k with state := .staged, seq := s.sequence + i, stream := s.routedTo a i }
            ∧ k ∈ (t.stream (s.routedTo a i)).queue ∧ t.indexed a.fn a.ns (a.lba + i) = some k)

/-- A durable WRITE that passes the checks 1 to 5 while every durable write record is in use is held, and nothing else changes (R39,
R140). HELD_WRITE_RETAKING: once a durable write record is free and the gate is open, the held durable WRITE passes the checks 3 to 5
again and is staged. A durable WRITE that finds a free record is staged at once. In both, the record takes the lowest-numbered free entry,
with its tag, its first sequence and its counts, no LANDED is enqueued, the tenant's sectors landed rise, and the credit engine evaluates
exactly when a supersede freed a slot (R30, R42, R139, R141). In a state that obeys the laws each sector is STAGED in the slot it landed
in, with its sequence, in the queue of its route's stream, named by the landing index, and refers to that record (R42, R43, R46, R66,
R139). The pads are those of the durable-linger check and then of the pressure check (R73, R74), everything else is as the staging of the
sectors one after another leaves it, and the IDLE streams that are left with ready units request a segment, as after any accepted WRITE
(R56). A held WRITE that a check of 3 to 5 refuses at its re-taking is answered as a WRITE that is refused when it is taken: with that
status, its slots FREE and no other slot changed, the tenant's writes refused counter raised, and a credit evaluation; in a state that
obeys the laws no other field of a tenant and no entry of the landing index changes (R30, R31, R40, R141). That a freed slot keeps its
identity, and that segments are requested by a sweep over all streams, is the model's reading (log 18, log 16). -/
def Obligations.DurableWriteHeldAndRetaken : Prop :=
  (∀ (s : State) (a : Arriving), s.offers a → a.kind = 0x10 → a.overrun = false → s.framingFault a = false →
      s.validTenant a.fn = true → (s.stream (s.tenant a.fn).defaultStream).bound = true →
      (s.tenant a.fn).stagedCount + a.count ≤ (s.tenant a.fn).cap →
      a.durableFlag = true ∨ (s.tenant a.fn).ack = .durable → (∀ i, i < 1024 → (Store.find? s.durables i).isSome = true) →
      exec .write s = .next { s with parser := .holding a })
  ∧ (∀ (s : State) (a : Arriving) (i : Nat), s.running = true → s.parser = .holding a → s.ingressGateOpen = true →
      s.validTenant a.fn = true → (s.stream (s.tenant a.fn).defaultStream).bound = true →
      (s.tenant a.fn).stagedCount + a.count ≤ (s.tenant a.fn).cap →
      a.durableFlag = true ∨ (s.tenant a.fn).ack = .durable →
      i < 1024 → Store.find? s.durables i = none → (∀ j, j < i → (Store.find? s.durables j).isSome = true) →
      ∃ t, exec .heldWriteRetaking s = .next t ∧ s.DurablyStaged t a i s.Ledger)
  ∧ (∀ (s : State) (a : Arriving) (status : LandedStatus), s.running = true → s.parser = .holding a → s.ingressGateOpen = true →
      (∃ i, i < 1024 ∧ Store.find? s.durables i = none) →
      status = (if 511 < a.fn ∨ (s.tenant a.fn).valid = false then .noTenant
        else if (s.stream (s.tenant a.fn).defaultStream).state = .unbound then .noRoute
        else if (s.tenant a.fn).cap < (s.tenant a.fn).stagedCount + a.count then .tenantFull else .ok) →
      status ≠ .ok →
      ∃ t, exec .heldWriteRetaking s = .next t ∧ s.WriteRefused t a status s.Ledger)
  ∧ (∀ (s : State) (a : Arriving) (i : Nat), s.offers a → a.kind = 0x10 → a.overrun = false → s.framingFault a = false →
      s.validTenant a.fn = true → (s.stream (s.tenant a.fn).defaultStream).bound = true →
      (s.tenant a.fn).stagedCount + a.count ≤ (s.tenant a.fn).cap →
      a.durableFlag = true ∨ (s.tenant a.fn).ack = .durable →
      i < 1024 → Store.find? s.durables i = none → (∀ j, j < i → (Store.find? s.durables j).isSome = true) →
      ∃ t, exec .write s = .next t ∧ s.DurablyStaged t a i s.Ledger)

/-- The staging of one sector with an older copy, in the act between its route and the next sector's: the landing index names the new slot
under its key and is as before under every other key; the slot is STAGED at the tail of its stream's queue; the stream's sectors staged
rises by 1 and its linger counter is 0 (R42, R67, R78). When the tenant's coalescing is on and the older slot is STAGED with no durable
reference and no flush mark, the older slot leaves its own stream's queue and becomes FREE, both superseded counters rise by 1 and the
staged count stays; else the older slot is as it was and the staged count rises by 1 (R46 to R49, R68). No marked or referred slot is ever
superseded. A staging or a supersede that leaves a stream's tail empty clears its pad pending and its linger counter; every other pad flag
and counter, and every other tenant, stays (R67, R68). When a slot becomes FREE, the index entry of its key goes exactly when it names
that slot, and no other entry does; of tenants only the staged count of an in-use slot's own changes (R3, R47). That a superseded, FREE
slot keeps its identity, sequence and stream is the model's reading (log 18). -/
def Obligations.SectorStagingIndexesAndSupersedes : Prop :=
  (∀ (s t : State) (a : Arriving) (lba k o j c : Nat), t = s.stageSector a (lba, k) → s.indexed a.fn a.ns lba = some o → o ≠ k →
      (s.slot o).fn = a.fn → (s.slot o).stream = j → (s.route a lba).2 = c →
      t.indexed a.fn a.ns lba = some k
      ∧ ((s.slot o).ns = a.ns → (s.slot o).lba = lba →
          ∀ key, key ≠ identityKey a.fn a.ns lba → Store.find? t.index key = Store.find? s.index key)
      ∧ t.slot k = { s.slot k with state := .staged, seq := s.sequence, stream := c } ∧ t.sequence = s.sequence + 1
      ∧ (t.tenant a.fn).landed = (s.tenant a.fn).landed + 1
      ∧ (∀ i, (t.stream i).staged = (s.stream i).staged + if i = c then 1 else 0)
      ∧ (((s.tenant a.fn).coalescing = true ∧ (s.slot o).state = .staged ∧ (s.slot o).durable = none ∧ (s.slot o).mark = false) →
          t.slot o = { s.slot o with state := .free }
          ∧ (∀ i, (t.stream i).queue = (if i = j then (s.stream i).queue.filter (· != o) else (s.stream i).queue)
              ++ if i = c then [k] else [])
          ∧ (∀ i, (t.stream i).pad = ((s.stream i).pad && decide (i = c → ((s.stream i).queue.length + 1) % 16 ≠ 0)
              && decide (i = j → (t.stream i).queue.length % 16 ≠ 0)))
          ∧ (∀ i, (t.stream i).linger
              = if i = c ∨ i = j ∧ (t.stream i).queue.length % 16 = 0 then 0 else (s.stream i).linger)
          ∧ (∀ i, (t.stream i).superseded = (s.stream i).superseded + if i = j then 1 else 0)
          ∧ (t.tenant a.fn).superseded = (s.tenant a.fn).superseded + 1
          ∧ (1 ≤ (s.tenant a.fn).stagedCount → (t.tenant a.fn).stagedCount = (s.tenant a.fn).stagedCount))
      ∧ (¬ ((s.tenant a.fn).coalescing = true ∧ (s.slot o).state = .staged ∧ (s.slot o).durable = none ∧ (s.slot o).mark = false) →
          t.slot o = s.slot o
          ∧ (∀ i, (t.stream i).queue = (s.stream i).queue ++ if i = c then [k] else [])
          ∧ (∀ i, (t.stream i).pad = ((s.stream i).pad && decide (i = c → ((s.stream i).queue.length + 1) % 16 ≠ 0)))
          ∧ (∀ i, (t.stream i).linger = if i = c then 0 else (s.stream i).linger)
          ∧ (∀ i, (t.stream i).superseded = (s.stream i).superseded)
          ∧ (t.tenant a.fn).superseded = (s.tenant a.fn).superseded
          ∧ (t.tenant a.fn).stagedCount = (s.tenant a.fn).stagedCount + 1)
      ∧ (∀ i, i ≠ k → i ≠ o → t.slot i = s.slot i) ∧ s.StagedFrame t a lba)
  ∧ (∀ (s t : State) (a : Arriving) (lba k c : Nat), t = s.stageSector a (lba, k) → s.indexed a.fn a.ns lba = none →
      (s.route a lba).2 = c →
      t.indexed a.fn a.ns lba = some k
      ∧ (∀ key, key ≠ identityKey a.fn a.ns lba → Store.find? t.index key = Store.find? s.index key)
      ∧ t.slot k = { s.slot k with state := .staged, seq := s.sequence, stream := c } ∧ (∀ i, i ≠ k → t.slot i = s.slot i)
      ∧ (∀ i, (t.stream i).queue = (s.stream i).queue ++ if i = c then [k] else [])
      ∧ (∀ i, (t.stream i).pad = ((s.stream i).pad && decide (i = c → ((s.stream i).queue.length + 1) % 16 ≠ 0)))
      ∧ (∀ i, (t.stream i).linger = if i = c then 0 else (s.stream i).linger)
      ∧ (∀ i, (t.stream i).staged = (s.stream i).staged + if i = c then 1 else 0)
      ∧ (∀ i, (t.stream i).superseded = (s.stream i).superseded)
      ∧ (t.tenant a.fn).landed = (s.tenant a.fn).landed + 1 ∧ t.sequence = s.sequence + 1
      ∧ (t.tenant a.fn).stagedCount = (s.tenant a.fn).stagedCount + 1 ∧ (t.tenant a.fn).superseded = (s.tenant a.fn).superseded
      ∧ s.StagedFrame t a lba)
  ∧ (∀ (s : State) (k fn ns lba : Nat), (s.slot k).fn = fn → (s.slot k).ns = ns → (s.slot k).lba = lba →
      (s.indexed fn ns lba = some k → (s.freeSlot k).indexed fn ns lba = none
        ∧ ∀ key, key ≠ identityKey fn ns lba → Store.find? (s.freeSlot k).index key = Store.find? s.index key)
      ∧ (s.indexed fn ns lba ≠ some k → (s.freeSlot k).index = s.index)
      ∧ (∀ j, (s.freeSlot k).slot j
          = if j = k then { s.slot k with state := .free, durable := none, mark := false } else s.slot j)
      ∧ (∀ u, (s.freeSlot k).tenant u = if u = fn ∧ (s.slot k).inUse = true
          then { s.tenant u with stagedCount := (s.tenant u).stagedCount - 1 } else s.tenant u)
      ∧ s.freeSlot k = { s with
          slots := (s.freeSlot k).slots, index := (s.freeSlot k).index, tenants := (s.freeSlot k).tenants })

/-- The route of a sector (R15 to R20). On a hit the covering entry's H rises by HEAT-STEP, saturating at 65535; its flag then follows the
table of R18; the stream is the hint's where the tenant's map has one, else the entry's hot or cold stream, else the default stream; and
an UNBOUND candidate gives way to the default stream. Nothing else changes. A sector without an entry changes nothing. The covering entry
lies in the tenant's window, is of the sector's namespace and has the LBA in its run; in a sorted window there is no other, and there is
none exactly when no entry of the window covers the sector (R4, R16). -/
def Obligations.RouteFollowsHeatAndHint : Prop :=
  (∀ (s : State) (t : Tenant) (ns lba i : Nat), s.coveringEntry t ns lba = some i →
    (t.windowFirst ≤ i ∧ i < t.windowFirst + t.windowCount) ∧ (s.range i).ns = ns ∧ (s.range i).base ≤ lba ∧ lba ≤ (s.range i).limit
    ∧ (s.windowSorted t → ∀ j, t.windowFirst ≤ j → j < t.windowFirst + t.windowCount → (s.range j).ns = ns → (s.range j).base ≤ lba →
        lba ≤ (s.range j).limit → j = i)) ∧
  (∀ (s : State) (t : Tenant) (ns lba : Nat), s.coveringEntry t ns lba = none ↔ ∀ j, t.windowFirst ≤ j →
    j < t.windowFirst + t.windowCount → ¬ ((s.range j).ns = ns ∧ (s.range j).base ≤ lba ∧ lba ≤ (s.range j).limit)) ∧
  (∀ (s : State) (a : Arriving) (lba : Nat), s.coveringEntry (s.tenant a.fn) a.ns lba = none →
    s.route a lba = (s,
      let c := if a.hintPresent = true ∧ 1 ≤ a.hint ∧ a.hint ≤ 15 ∧ (Store.find? (s.tenant a.fn).hints a.hint).isSome = true
        then Store.getD 0 (s.tenant a.fn).hints a.hint else (s.tenant a.fn).defaultStream
      if (s.stream c).state = .unbound then (s.tenant a.fn).defaultStream else c)) ∧
  ∀ (s : State) (a : Arriving) (lba i : Nat) (r r' : Range), s.coveringEntry (s.tenant a.fn) a.ns lba = some i → s.range i = r →
    r' = { r with heat := if (s.indexed a.fn a.ns lba).isSome = true then min 65535 (r.heat + s.params.heatStep) else r.heat } →
    ∃ t k, s.route a lba = (t, k)
      ∧ t.range i = { r' with hot :=
          if r.hotStream.isSome = false then false
          else if r.hot = true then !decide (r'.heat < (r.threshold + 1) / 2) else decide (r.threshold ≤ r'.heat) }
      ∧ (∀ j, j ≠ i → t.range j = s.range j)
      ∧ t = { s with ranges := t.ranges }
      ∧ k = (let c := if a.hintPresent = true ∧ 1 ≤ a.hint ∧ a.hint ≤ 15 ∧ (Store.find? (s.tenant a.fn).hints a.hint).isSome = true
                then Store.getD 0 (s.tenant a.fn).hints a.hint
                else if (t.range i).hot = true then r.hotStream.getD 0 else r.cold
              if (s.stream c).state = .unbound then (s.tenant a.fn).defaultStream else c)

/-! ## PEEK, FLUSH and the management service -/

/-- BAD_REQUEST: an unknown code, or a body length the code does not permit, is answered before any other check, with the tag and code as
carried and an empty body; nothing else changes (R168, R185). For a request of the catalogue with the body length that its code permits
the command BAD_REQUEST does nothing, whatever function number its header carries: that a command whose conditions do not hold leaves the
state as it is, is the model's reading (log 2). -/
def Obligations.BadRequestIsExactlyR168 : Prop :=
  (∀ (s : State) (a : Arriving), s.offers a → a.kind = 0x1F →
      (a.code ∉ [0x01, 0x02, 0x03, 0x10, 0x11, 0x12, 0x18, 0x19, 0x20, 0x21, 0x22, 0x23, 0x24, 0x25, 0x26, 0x30, 0x38, 0x39, 0x3F]
        ∨ a.bodyUnits ≠ (if a.code = 0x02 then 1 else if a.code = 0x10 then 2
            else if a.code = 0x18 ∨ a.code = 0x30 then field a.head 11 1 else 0)) →
      exec .badRequest s = .next (s.answered [a.replyOf .badRequest []]))
  ∧ (∀ (s : State) (a : Arriving), s.offers a → a.kind = 0x1F →
      a.code ∈ [0x01, 0x02, 0x03, 0x10, 0x11, 0x12, 0x18, 0x19, 0x20, 0x21, 0x22, 0x23, 0x24, 0x25, 0x26, 0x30, 0x38, 0x39, 0x3F] →
      a.bodyUnits = (if a.code = 0x02 then 1 else if a.code = 0x10 then 2
        else if a.code = 0x18 ∨ a.code = 0x30 then field a.head 11 1 else 0) →
      exec .badRequest s = .next s)

/-- PEEK: the first case of R50 that applies decides the status, and nothing but the PEEKED changes. -/
def Obligations.PeekAnswersFromIndex : Prop :=
  ∀ (s : State) (a : Arriving), s.offers a → a.kind = 0x11 →
    exec .peek s = .next (s.answered [
      if 7 < a.ns then .peeked a.tag a.fn .notStaged 0 []
      else if 511 < a.fn ∨ (s.tenant a.fn).valid = false then .peeked a.tag a.fn .noTenant 0 []
      else match s.indexed a.fn a.ns a.lba with
        | none => .peeked a.tag a.fn .notStaged 0 []
        | some k => .peeked a.tag a.fn .found (s.slot k).seq
            ((List.range 4096).map fun i => readByte s.staging (4096 * k + i))])

/-- FLUSH, the cases 1 to 4 of R145: answered at once, with nothing else changed. FLUSH, case 5: every in-use slot of the tenant is
marked, the record's count rises by those that were not, and the tag joins its list; no other slot field changes, and no FLUSHED is
enqueued (R146). Exactly the bound streams whose tail holds a marked slot of the tenant are padded beside those that were (R75, R146). An
IDLE stream that this leaves with ready units requests a segment; no other stream's state and no in-flight record changes, and only
STREAM-STARVED and POOL-LOW are enqueued (R56, R82). That the requests of an event are made by a sweep over all streams is the model's
deduction (log 16). -/
def Obligations.FlushAnswersOrMarks : Prop :=
  (∀ (s : State) (a : Arriving) (status : FlushedStatus), s.offers a → a.kind = 0x12 →
      ((511 < a.fn ∨ (s.tenant a.fn).valid = false) ∧ status = .noTenant
        ∨ (a.fn ≤ 511 ∧ (s.tenant a.fn).valid = true) ∧
          (Store.find? s.flushes a.fn = none ∧
              (s.hasInUse a.fn = false ∧ status = .ok ∨ s.hasInUse a.fn = true ∧ 32 ≤ s.flushes.length ∧ status = .busy)
            ∨ ∃ r, Store.find? s.flushes a.fn = some r ∧ 4 ≤ r.tags.length ∧ status = .busy)) →
      exec .flush s = .next (s.answered [.flushed a.tag a.fn status]))
  ∧ (∀ (s : State) (a : Arriving), s.offers a → a.kind = 0x12 → a.fn ≤ 511 → (s.tenant a.fn).valid = true →
      Store.canon {} s.slots = true →
      (Store.find? s.flushes a.fn = none ∧ s.hasInUse a.fn = true ∧ s.flushes.length < 32
        ∨ ∃ r, Store.find? s.flushes a.fn = some r ∧ r.tags.length < 4) →
      ∃ t, exec .flush s = .next t
        ∧ Store.find? t.flushes a.fn = some
            { count := ((Store.find? s.flushes a.fn).getD {}).count
                + (s.slots.filter fun e => e.2.inUse && e.2.fn == a.fn && !e.2.mark).length
              tags := ((Store.find? s.flushes a.fn).getD {}).tags ++ [a.tag] }
        ∧ (∀ fn, fn ≠ a.fn → Store.find? t.flushes fn = Store.find? s.flushes fn)
        ∧ (∀ k, t.slot k = if (s.slot k).inUse = true ∧ (s.slot k).fn = a.fn then { s.slot k with mark := true } else s.slot k)
        ∧ (∀ k, (t.stream k).pad = true ↔ (s.stream k).pad = true ∨ (k < 256 ∧ (s.stream k).state ≠ .unbound
            ∧ ∃ j ∈ (s.stream k).tail, (t.slot j).mark = true ∧ (t.slot j).fn = a.fn))
        ∧ s.RequestsMade t s.returns s.Ledger
        ∧ (∀ k, t.stream k = { s.stream k with
            pad := (t.stream k).pad, state := (t.stream k).state, openSeg := (t.stream k).openSeg, lastLane := (t.stream k).lastLane })
        ∧ t = { s with
            parser := .awaiting, slots := t.slots, flushes := t.flushes, streams := t.streams, starved := t.starved,
            segments := t.segments, nextSegment := t.nextSegment, lanes := t.lanes, returns := t.returns, due := [], draws := t.draws })

/-- IDENTIFY reports the part code 0x4416, revision 2 and the eight capacities, and changes nothing; with a body it is BAD-REQUEST (R174,
R186). -/
def Obligations.IdentifyReportsCapacities : Prop :=
  ∀ (s : State) (a : Arriving), s.offers a → a.kind = 0x1F → a.code = 0x01 →
    (a.bodyUnits = 0 →
      exec .identify s = .next (s.answered [a.replyOf .ok
        ([0x16, 0x44, 2, 0, 2, 0, 16, 0, 1, 0, 64, 8, 0, 0, 2, 0, 4, 32, 0] ++ List.replicate 13 0)]))
    ∧ (a.bodyUnits ≠ 0 → exec .badRequest s = .next (s.answered [a.replyOf .badRequest []]))

/-- GET-PARAM reports the parameter named as it stands, and refuses an unknown code and a per-lane parameter with a lane above 7
BAD-FIELD; it changes nothing (R173). The codes are those of R185. A SET-PARAM that no check refuses stores the carried value clamped into
the range that R170 gives the parameter, for the named lane alone where the parameter is per lane, and changes no other parameter; its
REPLY carries the code, the lane as carried and the value as stored, and stands before every other parcel that it enqueues (R167, R171).
The six SET rows of the table. SET-PARAM refusals: an unknown parameter code and a per-lane parameter with a lane above 7 are BAD-FIELD;
SEQUENCE-BASE while a slot is LANDING, STAGED or ISSUED is NOT-QUIET; a refused request changes nothing (R44, R171). -/
def Obligations.ParamsReportedStoredOrRefused : Prop :=
  (∀ (c : Nat) (p : Param), paramOfCode c = some p ↔ (c, p) ∈ [(1, Param.heatStep), (2, .decayInterval), (3, .programTimeout),
      (4, .timeoutLimit), (5, .issueWindow), (6, .poolLowMark), (7, .pressureMark), (8, .durableLinger), (9, .creditBatch),
      (10, .creditLinger), (11, .sequenceBase), (12, .dumpGeneration)])
  ∧ (∀ p : Param, (p, paramRange p) ∈ [(Param.heatStep, (1, 4096)), (.decayInterval, (1, 65535)), (.programTimeout, (1, 1000)),
      (.timeoutLimit, (1, 15)), (.issueWindow, (1, 32)), (.poolLowMark, (0, 31)), (.pressureMark, (0, 8192)), (.durableLinger, (0, 255)),
      (.creditBatch, (1, 4096)), (.creditLinger, (1, 255)), (.sequenceBase, (0, 2 ^ 48 - 1)), (.dumpGeneration, (0, 2 ^ 32 - 1))])
  ∧
  (∀ (s : State) (a : Arriving), s.offers a → a.asks 0x03 0 →
    exec .getParam s = .next (s.answered [
      match paramOfCode (field a.head 9 1) with
      | none => a.replyOf .badField []
      | some p =>
        if (p = .issueWindow ∨ p = .poolLowMark) ∧ 7 < field a.head 10 1 then a.replyOf .badField []
        else a.replyOf .ok (padToUnit (packed [(1, field a.head 9 1), (1, field a.head 10 1),
          (6, match p with
            | .sequenceBase => s.sequence
            | .issueWindow => (s.lane (field a.head 10 1)).window
            | .poolLowMark => (s.lane (field a.head 10 1)).poolLowMark
            | .heatStep => s.params.heatStep
            | .decayInterval => s.params.decayInterval
            | .programTimeout => s.params.programTimeout
            | .timeoutLimit => s.params.timeoutLimit
            | .pressureMark => s.params.pressureMark
            | .durableLinger => s.params.durableLinger
            | .creditBatch => s.params.creditBatch
            | .creditLinger => s.params.creditLinger
            | .dumpGeneration => s.params.dumpGeneration)]))]))
  ∧ (∀ (s : State) (a : Arriving) (p : Param), s.offers a → a.asks 0x02 1 → paramOfCode (field a.head 9 1) = some p →
      ((p = .issueWindow ∨ p = .poolLowMark) → field a.head 10 1 ≤ 7) → (p = .sequenceBase → s.allFree = true) →
      ∃ t rest, exec (setParamCommand p) s = .next t ∧ t.parser = .awaiting
        ∧ t.paramValue p (field a.head 10 1) = max (paramRange p).1 (min (field (a.bodyUnit 0) 0 6) (paramRange p).2)
        ∧ (∀ q l, q ≠ p → t.paramValue q l = s.paramValue q l)
        ∧ (∀ l, (p = .issueWindow ∨ p = .poolLowMark) → l ≠ field a.head 10 1 → t.paramValue p l = s.paramValue p l)
        ∧ t.returns = s.returns ++ a.replyOf .ok (padToUnit (packed [(1, field a.head 9 1), (1, field a.head 10 1),
            (6, max (paramRange p).1 (min (field (a.bodyUnit 0) 0 6) (paramRange p).2))])) :: rest
        ∧ t.tenants = s.tenants ∧ t.ranges = s.ranges ∧ t.slots = s.slots ∧ t.index = s.index ∧ t.durables = s.durables
        ∧ t.flushes = s.flushes ∧ (∀ l, (t.lane l).inflight = (s.lane l).inflight ∧ (t.lane l).up = (s.lane l).up))
  ∧ (∀ (s : State) (a : Arriving), s.offers a → a.asks 0x02 1 →
      (paramOfCode (field a.head 9 1) = none → exec .setParam s = .next (s.answered [a.replyOf .badField []]))
      ∧ (paramOfCode (field a.head 9 1) = some .issueWindow → 7 < field a.head 10 1 →
          exec .setParam s = .next (s.answered [a.replyOf .badField []]))
      ∧ (paramOfCode (field a.head 9 1) = some .poolLowMark → 7 < field a.head 10 1 →
          exec .setPoolLowMark s = .next (s.answered [a.replyOf .badField []]))
      ∧ (paramOfCode (field a.head 9 1) = some .sequenceBase → s.allFree = false →
          exec .setSequenceBase s = .next (s.answered [a.replyOf .notQuiet []])))

/-- The acts that a SET-PARAM makes at once (R172): DECAY-INTERVAL restarts the decay timer, CREDIT-BATCH is followed by a credit
evaluation with the new value, which sends the whole returnable count, starts the linger timer, or does neither (R30, R31), POOL-LOW-MARK
sets or clears the armed flag and enqueues no POOL-LOW, SEQUENCE-BASE sets the counter, and the plain parameters make none; beside the
REPLY and a CREDIT due nothing is enqueued, and nothing else changes. SET-PARAM of DURABLE-LINGER checks every bound stream: an unpadded
non-empty tail whose effective limit (R72) is reached by its linger counter becomes padded, and every other pad flag, queue and linger
counter stays (R72); an IDLE stream that this leaves with ready units requests a segment after the REPLY, and nothing else changes (R56,
R82). That the requests of an event are made by a sweep over all streams is the model's deduction (log 16). -/
def Obligations.SetParamActsAtOnce : Prop :=
  (∀ (s : State) (a : Arriving) (p : Param), s.offers a → a.asks 0x02 1 → paramOfCode (field a.head 9 1) = some p →
      ((p = .issueWindow ∨ p = .poolLowMark) → field a.head 10 1 ≤ 7) → (p = .sequenceBase → s.allFree = true) →
      p ≠ .durableLinger →
      ∃ t, exec (setParamCommand p) s = .next t
        ∧ (t.decayTimer = if p = .decayInterval then some (s.now + 1000 * t.params.decayInterval) else s.decayTimer)
        ∧ (∀ l, (t.lane l).armed = if p = .poolLowMark ∧ l = field a.head 10 1
            then decide ((t.lane l).poolLowMark < (t.lane l).normal.length) else (s.lane l).armed)
        ∧ (∀ l, (t.lane l).normal = (s.lane l).normal)
        ∧ (∀ l, t.lane l = { s.lane l with
            window := (t.lane l).window, poolLowMark := (t.lane l).poolLowMark, armed := (t.lane l).armed })
        ∧ t.returns = s.returns ++ a.replyOf .ok (padToUnit (packed [(1, field a.head 9 1), (1, field a.head 10 1),
              (6, max (paramRange p).1 (min (field (a.bodyUnit 0) 0 6) (paramRange p).2))])) ::
            (if p = .creditBatch then { s with params := t.params }.creditParcels t else [])
        ∧ (if p = .creditBatch then { s with params := t.params }.creditsFollow t
            else t.credits = s.credits ∧ t.creditTimer = s.creditTimer)
        ∧ (t.sequence = if p = .sequenceBase then field (a.bodyUnit 0) 0 6 else s.sequence)
        ∧ t = { s with
            parser := .awaiting, params := t.params, lanes := t.lanes, sequence := t.sequence, decayTimer := t.decayTimer,
            returns := t.returns, credits := t.credits, creditTimer := t.creditTimer })
  ∧ (∀ (s : State) (a : Arriving), s.offers a → a.asks 0x02 1 → paramOfCode (field a.head 9 1) = some .durableLinger →
      ∃ t, exec .setDurableLinger s = .next t ∧ t.params = { s.params with durableLinger := min 255 (field (a.bodyUnit 0) 0 6) }
        ∧ (∀ k, t.stream k = { s.stream k with
              pad := (t.stream k).pad, state := (t.stream k).state, openSeg := (t.stream k).openSeg, lastLane := (t.stream k).lastLane }
          ∧ ((t.stream k).pad = true ↔ (s.stream k).pad = true ∨
              (k < 256 ∧ (s.stream k).state ≠ .unbound ∧ 0 < (s.stream k).queue.length % 16 ∧
                if ((s.stream k).tail.any fun j => (s.slot j).durable.isSome) = true
                then (if (s.stream k).lingerLimit = 0 then t.params.durableLinger
                    else min (s.stream k).lingerLimit t.params.durableLinger) ≤ (s.stream k).linger
                else 0 < (s.stream k).lingerLimit ∧ (s.stream k).lingerLimit ≤ (s.stream k).linger)))
        ∧ s.RequestsMade t (s.returns ++ [a.replyOf .ok (padToUnit (packed [(1, field a.head 9 1), (1, field a.head 10 1),
            (6, min 255 (field (a.bodyUnit 0) 0 6))]))]) s.Ledger
        ∧ t = { s with
            parser := .awaiting, params := t.params, streams := t.streams, starved := t.starved, segments := t.segments,
            nextSegment := t.nextSegment, lanes := t.lanes, returns := t.returns, due := [], draws := t.draws })

/-- CLEAR-PART on a quiet part: the REPLY, then SEGMENT-CLOSED and GRANT-RETURNED parcels alone, in a state that obeys the laws one
SEGMENT-CLOSED with end cause ROTATED for each stream with an open segment, in ascending stream number, and then one GRANT-RETURNED for
each lane with grants, in ascending lane number; segments, streams, tenants, ranges, the starvation list and every lane's grants, armed
flag and counters return to their reset values, and everything that R176 lists as kept is kept. CLEAR-PART is refused NOT-QUIET, and
changes nothing, while a slot is LANDING, STAGED or ISSUED, a unit is in flight on a lane, or a durable write or flush record is in use
(R175). -/
def Obligations.ClearPartClearsOrRefuses : Prop :=
  (∀ (s : State) (a : Arriving), s.offers a → a.asks 0x3F 0 → s.allFree = true →
      (∀ l, l < 8 → (s.lane l).inflight = []) → s.durables = [] → s.flushes = [] →
      ∃ t rest, exec .clearPart s = .next t ∧ t.returns = s.returns ++ a.replyOf .ok [] :: rest
        ∧ (∀ p ∈ rest, (∃ i g, p = .segmentClosed i g) ∨ ∃ l gs, p = .grantReturned l gs)
        ∧ (s.Ledger → rest = (List.range 256).filterMap (fun k => (s.openSegment (s.stream k)).map fun e =>
              .segmentClosed e.1 { e.2 with endCause := some .rotated })
            ++ (List.range 8).flatMap s.grantParcels)
        ∧ (∀ l, l < 8 → t.lane l = { s.lane l with
            normal := [], dump := [], armed := false, unitsIssued := 0, consecutive := 0, done := 0, failed := 0, timeouts := 0,
            stray := 0 })
        ∧ t = { s with
            parser := .awaiting, returns := t.returns, lanes := t.lanes, segments := [], starved := [], streams := [],
            tenants := [], ranges := [] })
  ∧ (∀ (s : State) (a : Arriving), s.offers a → a.asks 0x3F 0 →
      (s.allFree = false ∨ (∃ l, l < 8 ∧ (s.lane l).inflight ≠ []) ∨ s.durables ≠ [] ∨ s.flushes ≠ []) →
      exec .clearPart s = .next (s.answered [a.replyOf .notQuiet []]))

/-! ## Tenants and ranges -/

/-- PUT-TENANT that passes R5 to R8: the firmware fields take the carried values, the cap clamped into 16 to 16384, the staged count and
the counters are kept, and no other record changes. The refusals of PUT-TENANT in the order of R5 to R8: BAD-FIELD; BAD-RANGES with the
index of the first entry at fault of the window; WINDOW-CONFLICT with the lowest function number among the other valid tenants whose
windows share an index; NOT-QUIET for a valid tenant that would be made invalid while it has work outstanding. A refused request changes
nothing. An entry of a window that begins at `first` is at fault when its base exceeds its limit, or when it is not the first and neither
lies in a higher namespace than the entry before it nor begins above that entry's limit in the same namespace (R6). The firmware fields
are the bytes of the body that R186 names, and `field` reads a run of bytes of a unit as a little-endian number (R181, R186). -/
def Obligations.PutTenantWritesOrRefuses : Prop :=
  (∀ (s : State) (a : Arriving) (f : TenantFields), s.offers a → a.asks 0x10 2 → a.tenantFields = f →
      a.fn ≤ 511 → f.ackCode ≤ 1 → (f.coalescing = true → f.ackCode = 0) → f.windowCount ≤ 64 →
      f.windowFirst + f.windowCount ≤ 4096 →
      (f.valid = true → ∀ i, f.windowFirst ≤ i → i < f.windowFirst + f.windowCount → s.entryFault f.windowFirst i = false) →
      (f.valid = true → ∀ u i, u ≠ a.fn → s.validTenant u = true → (s.tenant u).holds i = true →
        ¬ (f.windowFirst ≤ i ∧ i < f.windowFirst + f.windowCount)) →
      (f.valid = false → (s.tenant a.fn).valid = true → s.tenantQuiet a.fn = true) →
      ∃ t, exec .putTenant s = .next t
        ∧ t.tenant a.fn = { s.tenant a.fn with
            valid := f.valid, defaultStream := f.defaultStream, ack := if f.ackCode = 1 then .durable else .staged,
            coalescing := f.coalescing, cap := max 16 (min f.cap 16384), windowFirst := f.windowFirst,
            windowCount := f.windowCount, hints := f.hints }
        ∧ (∀ u, u ≠ a.fn → t.tenant u = s.tenant u)
        ∧ t = { s.answered [a.replyOf .ok []] with tenants := t.tenants })
  ∧ (∀ (s : State) (a : Arriving) (f : TenantFields), s.offers a → a.asks 0x10 2 → a.tenantFields = f →
      ((511 < a.fn ∨ 1 < f.ackCode ∨ (f.coalescing = true ∧ f.ackCode = 1) ∨ 64 < f.windowCount ∨ 4096 < f.windowFirst + f.windowCount) →
        exec .putTenant s = .next (s.answered [a.replyOf .badField []]))
      ∧ (a.fn ≤ 511 → f.ackCode ≤ 1 → (f.coalescing = true → f.ackCode = 0) → f.windowCount ≤ 64 →
        f.windowFirst + f.windowCount ≤ 4096 →
        (∀ i, f.valid = true → f.windowFirst ≤ i → i < f.windowFirst + f.windowCount → s.entryFault f.windowFirst i = true →
          (∀ j, f.windowFirst ≤ j → j < i → s.entryFault f.windowFirst j = false) →
          ∃ body, exec .putTenant s = .next (s.answered [a.replyOf .badRanges body]) ∧ body.length = 16 ∧ bytesAt body 0 2 = i)
        ∧ (∀ u, f.valid = true →
          (∀ i, f.windowFirst ≤ i → i < f.windowFirst + f.windowCount → s.entryFault f.windowFirst i = false) →
          u ≠ a.fn → s.validTenant u = true →
          (∃ i, (s.tenant u).holds i = true ∧ f.windowFirst ≤ i ∧ i < f.windowFirst + f.windowCount) →
          (∀ v, v < u → v ≠ a.fn → s.validTenant v = true → ∀ i, (s.tenant v).holds i = true →
            ¬ (f.windowFirst ≤ i ∧ i < f.windowFirst + f.windowCount)) →
          ∃ body, exec .putTenant s = .next (s.answered [a.replyOf .windowConflict body]) ∧ body.length = 16 ∧ bytesAt body 0 2 = u)
        ∧ (f.valid = false → (s.tenant a.fn).valid = true →
          (s.hasInUse a.fn = true ∨ (∃ i r, (i, r) ∈ s.durables ∧ r.fn = a.fn) ∨ (Store.find? s.flushes a.fn).isSome = true) →
          exec .putTenant s = .next (s.answered [a.replyOf .notQuiet []]))))
  ∧ (∀ (s : State) (first i : Nat), s.entryFault first i = true ↔ ((s.range i).limit < (s.range i).base
      ∨ (first < i ∧ ¬ ((s.range (i - 1)).ns < (s.range i).ns
          ∨ ((s.range (i - 1)).ns = (s.range i).ns ∧ (s.range (i - 1)).limit < (s.range i).base)))))
  ∧ (∀ (a : Arriving) (u v : Unit16) (f : TenantFields), a.bodyUnit 0 = u → a.bodyUnit 1 = v → a.tenantFields = f →
      f.valid = bitAt u 0 0 ∧ f.defaultStream = field u 1 1 ∧ f.ackCode = field u 2 1 ∧ f.coalescing = bitAt u 3 0
      ∧ f.cap = field u 4 2 ∧ f.windowFirst = field u 6 2 % 4096 ∧ f.windowCount = field u 8 1
      ∧ ∀ h, Store.find? f.hints h
          = if 1 ≤ h ∧ h ≤ 15 ∧ bitAt u 9 h = true then some (field v (h - 1) 1) else none)
  ∧ (∀ (u : Unit16) (off len : Nat), field u off len = u.toNat / 2 ^ (8 * off) % 2 ^ (8 * len))
  ∧ (∀ (u : Unit16) (off i : Nat), bitAt u off i = u.toNat.testBit (8 * off + i))

/-- GET-TENANT returns the whole record, valid or not, and changes nothing; above 511 it is BAD-FIELD (R9). The body of a GET-TENANT holds
each field at the bytes R186 gives: units 0 and 1 in the PUT-TENANT layout, the hint present mask among them, unit 2 the staged count,
sectors landed and sectors superseded, unit 3 writes refused. GET-RANGES returns the entries named in ascending order, two units each,
with H and the hot flag, and changes nothing; it is BAD-FIELD when the count is 0 or above 32 or the run passes entry 4095 (R13). That the
byte of an absent hint or hot stream is sent as 0 is the model's choice (log 29). -/
def Obligations.GetTenantAndGetRangesReturnRecords : Prop :=
  (∀ (s : State) (a : Arriving), s.offers a → a.asks 0x11 0 →
      exec .getTenant s = .next (s.answered [
        if 511 < a.fn then a.replyOf .badField [] else a.replyOf .ok (tenantBody (s.tenant a.fn))]))
  ∧ (∀ t : Tenant, (tenantBody t).length = 64 ∧ bytesAt (tenantBody t) 0 1 = (if t.valid = true then 1 else 0)
      ∧ bytesAt (tenantBody t) 1 1 = t.defaultStream % 256 ∧ bytesAt (tenantBody t) 2 1 = (if t.ack = .durable then 1 else 0)
      ∧ bytesAt (tenantBody t) 3 1 = (if t.coalescing = true then 1 else 0) ∧ bytesAt (tenantBody t) 4 2 = t.cap % 65536
      ∧ bytesAt (tenantBody t) 6 2 = t.windowFirst % 65536 ∧ bytesAt (tenantBody t) 8 1 = t.windowCount % 256
      ∧ (∀ h, 1 ≤ h → h ≤ 15 → bytesAt (tenantBody t) (15 + h) 1 = Store.getD 0 t.hints h % 256)
      ∧ bytesAt (tenantBody t) 32 2 = t.stagedCount % 65536 ∧ bytesAt (tenantBody t) 34 6 = t.landed.toNat
      ∧ bytesAt (tenantBody t) 40 6 = t.superseded.toNat ∧ bytesAt (tenantBody t) 48 4 = t.refused.toNat
      ∧ (Store.sorted t.hints = true → (∀ e ∈ t.hints, 1 ≤ e.1 ∧ e.1 ≤ 15) →
          ∀ h, h < 16 → (bytesAt (tenantBody t) 9 2).testBit h = (Store.find? t.hints h).isSome))
  ∧
  (∀ (s : State) (a : Arriving), s.offers a → a.asks 0x19 0 →
    ((a.entryCount = 0 ∨ 32 < a.entryCount ∨ 4095 < a.start + a.entryCount - 1) →
      exec .getRanges s = .next (s.answered [a.replyOf .badField []]))
    ∧ (1 ≤ a.entryCount → a.entryCount ≤ 32 → a.start + a.entryCount - 1 ≤ 4095 →
      ∃ body, exec .getRanges s = .next (s.answered [a.replyOf .ok body]) ∧ body.length = 32 * a.entryCount
        ∧ ∀ i, i < a.entryCount → ∀ r, s.range (a.start + i) = r →
          bytesAt body (32 * i) 1 = r.ns % 256 ∧ bytesAt body (32 * i + 1) 1 = r.cold % 256
          ∧ bytesAt body (32 * i + 2) 1 = r.hotStream.getD 0 % 256
          ∧ bytesAt body (32 * i + 3) 1 = (if r.hotStream.isSome = true then 1 else 0)
          ∧ bytesAt body (32 * i + 4) 2 = r.threshold % 65536 ∧ bytesAt body (32 * i + 6) 5 = r.base % 2 ^ 40
          ∧ bytesAt body (32 * i + 11) 5 = r.limit % 2 ^ 40 ∧ bytesAt body (32 * i + 16) 2 = r.heat % 65536
          ∧ bytesAt body (32 * i + 18) 1 = (if r.hot = true then 1 else 0)))

/-- DROP-TENANT on a quiet tenant returns its record to the values of R2 and touches no other record and no range entry; it is BAD-FIELD
above 511 and NOT-QUIET otherwise (R10). -/
def Obligations.DropTenantReturnsResetValues : Prop :=
  ∀ (s : State) (a : Arriving), s.offers a → a.asks 0x12 0 →
    (511 < a.fn → exec .dropTenant s = .next (s.answered [a.replyOf .badField []]))
    ∧ (a.fn ≤ 511 → (s.hasInUse a.fn = true ∨ (∃ i r, (i, r) ∈ s.durables ∧ r.fn = a.fn) ∨ (Store.find? s.flushes a.fn).isSome = true) →
        exec .dropTenant s = .next (s.answered [a.replyOf .notQuiet []]))
    ∧ (a.fn ≤ 511 → s.hasInUse a.fn = false → (∀ i r, (i, r) ∈ s.durables → r.fn ≠ a.fn) → Store.find? s.flushes a.fn = none →
        ∃ t, exec .dropTenant s = .next t
          ∧ t.tenant a.fn = ⟨false, 0, .staged, false, 0, 0, 0, [], 0, 0, 0, 0⟩
          ∧ (∀ u, u ≠ a.fn → t.tenant u = s.tenant u) ∧ t = { s.answered [a.replyOf .ok []] with tenants := t.tenants })

/-- PUT-RANGES that passes R11 writes every entry it carries, with H 0, the hot flag clear and a threshold of 0 stored as 1, and no other
entry (R12). PUT-RANGES refused: BAD-FIELD first, then IN-USE with the lowest function number whose window holds an index written; no
entry is written (R11). -/
def Obligations.PutRangesWritesOrRefuses : Prop :=
  (∀ (s : State) (a : Arriving) (n : Nat), s.offers a → a.asks 0x18 n → a.entryCount = n → 1 ≤ n → n ≤ 32 → a.start + n ≤ 4096 →
      (∀ i, i < n → field (a.bodyUnit i) 0 1 ≤ 7) →
      (∀ u i, s.validTenant u = true → (s.tenant u).holds i = true → ¬ (a.start ≤ i ∧ i < a.start + n)) →
      ∃ t, exec .putRanges s = .next t
        ∧ (∀ i, i < n → t.range (a.start + i) =
            { ns := field (a.bodyUnit i) 0 1, base := field (a.bodyUnit i) 6 5, limit := field (a.bodyUnit i) 11 5,
              cold := field (a.bodyUnit i) 1 1,
              hotStream := if bitAt (a.bodyUnit i) 3 0 = true then some (field (a.bodyUnit i) 2 1) else none,
              threshold := if field (a.bodyUnit i) 4 2 = 0 then 1 else field (a.bodyUnit i) 4 2, heat := 0, hot := false })
        ∧ (∀ i, (i < a.start ∨ a.start + n ≤ i) → t.range i = s.range i)
        ∧ t = { s.answered [a.replyOf .ok []] with ranges := t.ranges })
  ∧ (∀ (s : State) (a : Arriving) (n : Nat), s.offers a → a.asks 0x18 n → a.entryCount = n →
      ((n = 0 ∨ 32 < n ∨ 4096 < a.start + n ∨ ∃ i, i < n ∧ 7 < field (a.bodyUnit i) 0 1) →
          exec .putRanges s = .next (s.answered [a.replyOf .badField []]))
      ∧ ∀ u, 1 ≤ n → n ≤ 32 → a.start + n ≤ 4096 → (∀ i, i < n → field (a.bodyUnit i) 0 1 ≤ 7) →
          s.validTenant u = true → (∃ i, (s.tenant u).holds i = true ∧ a.start ≤ i ∧ i < a.start + n) →
          (∀ v, v < u → s.validTenant v = true → ∀ i, (s.tenant v).holds i = true → ¬ (a.start ≤ i ∧ i < a.start + n)) →
          ∃ body, exec .putRanges s = .next (s.answered [a.replyOf .inUse body]) ∧ body.length = 16 ∧ bytesAt body 0 2 = u)

/-- DECAY_EXPIRY (R24): every one of the range entries, in a window or not, has H become floor(7H/8), and a hot flag stays set only while
the new H is at least ceil(T/2); no flag is set, no H rises, and nothing else changes but the timer and the model's clock. An H of 2 to 7
falls by 1, an H of 1 goes to 0, every H above 0 falls, and an H of 0 stays. -/
def Obligations.DecayLowersEveryEntry : Prop :=
  (∀ h : Nat, 1 ≤ h → 7 * h / 8 < h) ∧ (∀ h : Nat, 2 ≤ h → h ≤ 7 → 7 * h / 8 = h - 1) ∧ 7 * 0 / 8 = 0 ∧
  ∀ (s : State) (d : Nat), s.running = true → s.decayTimer = some d → Store.canon {} s.ranges = true →
    ∃ t, exec .decayExpiry s = .next t
      ∧ (∀ i, t.range i = { s.range i with
          heat := 7 * (s.range i).heat / 8
          hot := (s.range i).hot && decide (((s.range i).threshold + 1) / 2 ≤ 7 * (s.range i).heat / 8) })
      ∧ { t with now := s.now, decayTimer := s.decayTimer } = { s with ranges := t.ranges }

/-! ## Streams -/

/-- PUT-STREAM: an empty lane mask is BAD-FIELD; an UNBOUND stream becomes IDLE with the clamped fields and its counters 0; IDLE, OPEN and
STARVED are WRONG-STATE (R58, R59). The cadence stored is the greatest power of two not above the carried value, within 1 to 16, and the
phase is taken modulo it. PUT-STREAM on a HELD stream: the request fields change and everything else is kept; an open segment on a lane
outside the new set goes DRAINING as ROTATED and closes at once when no unit of it is outstanding, its SEGMENT-CLOSED after the REPLY
(R59, R91, R92). -/
def Obligations.PutStreamBindsOrReconfigures : Prop :=
  (∀ (s : State) (a : Arriving) (k d : Nat), s.offers a → a.asks 0x20 0 → field a.head 9 1 = k →
      d = (if field a.head 11 1 = 0 then 1 else if 16 < field a.head 11 1 then 16 else 2 ^ Nat.log2 (field a.head 11 1)) →
      (field a.head 10 1 = 0 → exec .putStream s = .next (s.answered [a.replyOf .badField []]))
      ∧ (field a.head 10 1 ≠ 0 → (s.stream k).state = .unbound →
          ∃ t, exec .putStream s = .next t
            ∧ t.stream k = { s.stream k with
                state := .idle, laneSet := BitVec.ofNat 8 (field a.head 10 1), cadence := d, phase := field a.head 12 1 % d,
                lingerLimit := field a.head 13 1, staged := 0, superseded := 0, issued := 0, fillers := 0, failed := 0 }
            ∧ (∀ j, j ≠ k → t.stream j = s.stream j) ∧ t = { s.answered [a.replyOf .ok []] with streams := t.streams })
      ∧ (field a.head 10 1 ≠ 0 → (s.stream k).state ≠ .unbound → (s.stream k).state ≠ .held →
          exec .putStream s = .next (s.answered [a.replyOf .wrongState []])))
  ∧ (∀ (s : State) (a : Arriving) (k d : Nat), s.offers a → a.asks 0x20 0 → field a.head 9 1 = k →
      d = (if field a.head 11 1 = 0 then 1 else if 16 < field a.head 11 1 then 16 else 2 ^ Nat.log2 (field a.head 11 1)) →
      field a.head 10 1 ≠ 0 → (s.stream k).state = .held →
      ((∀ id g, s.openSegment (s.stream k) = some (id, g) → (BitVec.ofNat 8 (field a.head 10 1)).getLsbD g.lane = true) →
        ∃ t, exec .putStream s = .next t
          ∧ t.stream k = { s.stream k with
              laneSet := BitVec.ofNat 8 (field a.head 10 1), cadence := d, phase := field a.head 12 1 % d,
              lingerLimit := field a.head 13 1 }
          ∧ (∀ j, j ≠ k → t.stream j = s.stream j) ∧ t = { s.answered [a.replyOf .ok []] with streams := t.streams })
      ∧ ∀ id g, s.openSegment (s.stream k) = some (id, g) → (BitVec.ofNat 8 (field a.head 10 1)).getLsbD g.lane = false →
        g.endCause = none → g.stream = k →
        ∃ t, exec .putStream s = .next t
          ∧ t.stream k = { s.stream k with
              laneSet := BitVec.ofNat 8 (field a.head 10 1), cadence := d, phase := field a.head 12 1 % d,
              lingerLimit := field a.head 13 1, openSeg := none }
          ∧ (∀ j, j ≠ k → t.stream j = s.stream j)
          ∧ (if g.done + g.failed = g.issued
              then Store.find? t.segments id = none ∧ t.returns = s.returns
                ++ [a.replyOf .ok [], .segmentClosed id { g with endCause := some .rotated }]
              else Store.find? t.segments id = some { g with endCause := some .rotated }
                ∧ t.returns = s.returns ++ [a.replyOf .ok []])
          ∧ (∀ i, i ≠ id → Store.find? t.segments i = Store.find? s.segments i)
          ∧ t = { s with parser := .awaiting, returns := t.returns, streams := t.streams, segments := t.segments })

/-- HOLD-STREAM in each of the five states (R60): IDLE and OPEN go to HELD keeping their segment, STARVED goes to HELD and leaves the
starvation list, HELD changes nothing, UNBOUND is WRONG-STATE. FLUSH-STREAM pads the stream's non-empty tail, in every bound state; the
queue stays, no other stream's pad flag changes, and the REPLY comes first; a stream that was IDLE and has a ready unit then requests a
segment, no other stream's state changes, and no in-flight record does (R56, R82); UNBOUND is WRONG-STATE (R62). That the requests of an
event are made by a sweep over all streams is the model's deduction (log 16). -/
def Obligations.HoldAndFlushStreamByState : Prop :=
  (∀ (s : State) (a : Arriving) (k : Nat), s.offers a → a.asks 0x22 0 → field a.head 9 1 = k →
    ((s.stream k).state = .unbound → exec .holdStream s = .next (s.answered [a.replyOf .wrongState []]))
    ∧ ((s.stream k).state = .held → exec .holdStream s = .next (s.answered [a.replyOf .ok []]))
    ∧ ((s.stream k).state ≠ .unbound → (s.stream k).state ≠ .held →
        ∃ t, exec .holdStream s = .next t ∧ t.stream k = { s.stream k with state := .held }
          ∧ (∀ j, j ≠ k → t.stream j = s.stream j)
          ∧ t = { s.answered [a.replyOf .ok []] with
              streams := t.streams
              starved := if (s.stream k).state = .starved then s.starved.erase k else s.starved }))
  ∧
  (∀ (s : State) (a : Arriving) (k : Nat), s.offers a → a.asks 0x24 0 → field a.head 9 1 = k →
    ((s.stream k).state = .unbound → exec .flushStream s = .next (s.answered [a.replyOf .wrongState []]))
    ∧ ((s.stream k).state ≠ .unbound →
        ∃ t, exec .flushStream s = .next t
          ∧ (t.stream k).pad = ((s.stream k).pad || decide (0 < (s.stream k).queue.length % 16))
          ∧ (∀ j, j ≠ k → (t.stream j).pad = (s.stream j).pad)
          ∧ (∀ j, t.stream j = { s.stream j with
              pad := (t.stream j).pad, state := (t.stream j).state, openSeg := (t.stream j).openSeg, lastLane := (t.stream j).lastLane })
          ∧ s.RequestsMade t (s.returns ++ [a.replyOf .ok []]) s.Ledger
          ∧ t = { s with
              parser := .awaiting, streams := t.streams, starved := t.starved, segments := t.segments, nextSegment := t.nextSegment,
              lanes := t.lanes, returns := t.returns, due := [], draws := t.draws }
          ∧ (s.calm → (s.stream k).state ≠ .idle →
              t = { s.answered [a.replyOf .ok []] with streams := t.streams } ∧ ∀ j, j ≠ k → t.stream j = s.stream j)))

/-- RELEASE-STREAM: a HELD stream with an open segment goes to OPEN; one without goes to IDLE when it has no ready unit, and otherwise
requests a segment: it opens on the first UP lane of its set, in circular order after the last lane used, that holds a normal grant, and
else becomes STARVED at the tail of the list with STREAM-STARVED after the REPLY; any other state is WRONG-STATE (R61, R85, R86). -/
def Obligations.ReleaseStreamByState : Prop :=
  ∀ (s : State) (a : Arriving) (k : Nat), s.offers a → a.asks 0x23 0 → field a.head 9 1 = k → s.calm →
    ((s.stream k).state ≠ .held → exec .releaseStream s = .next (s.answered [a.replyOf .wrongState []]))
    ∧ ((s.stream k).state = .held → (s.stream k).openSeg.isSome = true →
        ∃ t, exec .releaseStream s = .next t ∧ t.stream k = { s.stream k with state := .opened }
          ∧ (∀ j, j ≠ k → t.stream j = s.stream j) ∧ t = { s.answered [a.replyOf .ok []] with streams := t.streams })
    ∧ ((s.stream k).state = .held → (s.stream k).openSeg = none → (s.stream k).ready = 0 →
        ∃ t, exec .releaseStream s = .next t ∧ t.stream k = { s.stream k with state := .idle }
          ∧ (∀ j, j ≠ k → t.stream j = s.stream j) ∧ t = { s.answered [a.replyOf .ok []] with streams := t.streams })
    ∧ ((s.stream k).state = .held → (s.stream k).openSeg = none → 1 ≤ (s.stream k).ready →
        (∀ l, l < 8 → (s.stream k).laneSet.getLsbD l = true → (s.lane l).up = true → (s.lane l).normal = []) →
        ∃ t, exec .releaseStream s = .next t ∧ t.stream k = { s.stream k with state := .starved }
          ∧ (∀ j, j ≠ k → t.stream j = s.stream j)
          ∧ t = { s.answered [a.replyOf .ok [], .streamStarved k] with streams := t.streams, starved := s.starved ++ [k] })
    ∧ ∀ i l g gs, (s.stream k).state = .held → (s.stream k).openSeg = none → 1 ≤ (s.stream k).ready →
        i < 8 → l = ((s.stream k).lastLane + 1 + i) % 8 →
        (s.stream k).laneSet.getLsbD l = true → (s.lane l).up = true → (s.lane l).normal = g :: gs →
        (∀ j, j < i → (s.stream k).laneSet.getLsbD (((s.stream k).lastLane + 1 + j) % 8) = true →
          (s.lane (((s.stream k).lastLane + 1 + j) % 8)).up = true →
          (s.lane (((s.stream k).lastLane + 1 + j) % 8)).normal = []) →
        ∃ t, exec .releaseStream s = .next t
          ∧ t.stream k = { s.stream k with state := .opened, openSeg := some s.nextSegmentId, lastLane := l }
          ∧ (∀ j, j ≠ k → t.stream j = s.stream j)
          ∧ Store.find? t.segments s.nextSegmentId
              = some { stream := k, lane := l, block := g.block, capacity := g.capacity, issued := 0, done := 0, failed := 0,
                       endCause := none }
          ∧ (∀ id, id ≠ s.nextSegmentId → Store.find? t.segments id = Store.find? s.segments id)
          ∧ t.nextSegment = (s.nextSegmentId + 1) % 65536
          ∧ t.lane l = { s.lane l with
              normal := gs, armed := (s.lane l).armed && decide ((s.lane l).poolLowMark < gs.length) }
          ∧ (∀ j, j ≠ l → t.lane j = s.lane j)
          ∧ t.returns = s.returns ++ a.replyOf .ok [] ::
              (if (s.lane l).armed = true ∧ gs.length ≤ (s.lane l).poolLowMark then [.poolLow l gs.length] else [])
          ∧ t = { s with
              parser := .awaiting, returns := t.returns, streams := t.streams, segments := t.segments,
              nextSegment := t.nextSegment, lanes := t.lanes }

/-- ROTATE-STREAM on an OPEN or HELD stream pads its tail and ends its open segment as ROTATED: the segment closes at once with no unit
outstanding, and else stays DRAINING in the segment table with that end cause. A HELD stream stays HELD without a segment. An OPEN stream
with no ready unit is IDLE; one with ready units opens its next segment from the first grant of the first UP lane of its set, in circular
order after the last lane used, that holds one, and with none is STARVED (R56, R85, R86); nothing else changes. IDLE, STARVED and UNBOUND
are WRONG-STATE (R63, R91, R92). -/
def Obligations.RotateStreamEndsSegment : Prop :=
  ∀ (s : State) (a : Arriving) (k : Nat), s.offers a → a.asks 0x25 0 → field a.head 9 1 = k → k < 256 →
    (((s.stream k).state = .idle ∨ (s.stream k).state = .starved ∨ (s.stream k).state = .unbound) →
      exec .rotateStream s = .next (s.answered [a.replyOf .wrongState []]))
    ∧ ((s.stream k).state = .held → (s.stream k).openSeg = none → s.calm →
        ∃ t, exec .rotateStream s = .next t
          ∧ t.stream k = { s.stream k with pad := (s.stream k).pad || decide (0 < (s.stream k).queue.length % 16) }
          ∧ (∀ j, j ≠ k → t.stream j = s.stream j) ∧ t = { s.answered [a.replyOf .ok []] with streams := t.streams })
    ∧ ∀ id g, ((s.stream k).state = .opened ∨ (s.stream k).state = .held) → s.openSegment (s.stream k) = some (id, g) →
        g.endCause = none → g.stream = k → s.calm →
        ∃ t rest, exec .rotateStream s = .next t ∧ t.parser = .awaiting
          ∧ (t.stream k).pad = ((s.stream k).pad || decide (0 < (s.stream k).queue.length % 16))
          ∧ (t.stream k).queue = (s.stream k).queue
          ∧ ((s.stream k).state = .held → (t.stream k).state = .held ∧ (t.stream k).openSeg = none)
          ∧ ((s.stream k).state = .opened →
              (t.stream k).ready = 0 ∧ (t.stream k).state = .idle
              ∨ 1 ≤ (t.stream k).ready ∧ ((t.stream k).state = .opened ∨ (t.stream k).state = .starved))
          ∧ t.returns = s.returns ++ a.replyOf .ok [] ::
              ((if g.done + g.failed = g.issued then [.segmentClosed id { g with endCause := some .rotated }] else []) ++ rest)
          ∧ (s.segments.length ≤ 512 → g.done + g.failed ≠ g.issued →
              Store.find? t.segments id = some { g with endCause := some .rotated })
          ∧ (s.segments.length ≤ 512 → g.done + g.failed = g.issued → (t.stream k).openSeg ≠ some id → Store.find? t.segments id = none)
          ∧ (∀ j, j ≠ k → t.stream j = s.stream j)
          ∧ t.stream k = { s.stream k with
              pad := (t.stream k).pad, state := (t.stream k).state, openSeg := (t.stream k).openSeg, lastLane := (t.stream k).lastLane }
          ∧ t = { s with
              parser := .awaiting, returns := t.returns, streams := t.streams, segments := t.segments, nextSegment := t.nextSegment,
              lanes := t.lanes, starved := t.starved }
          ∧ (∀ p ∈ rest, p = .streamStarved k ∨ ∃ l n, p = .poolLow l n)
          ∧ ∀ w, w = { s with segments := if g.done + g.failed = g.issued then Store.erase s.segments id
                else Store.insert s.segments id { g with endCause := some .rotated } } →
            ((s.stream k).state = .held ∨ (t.stream k).ready = 0 →
              (t.stream k).openSeg = none ∧ (t.stream k).lastLane = (s.stream k).lastLane ∧ rest = [] ∧ t.segments = w.segments
                ∧ t.nextSegment = s.nextSegment ∧ t.lanes = s.lanes ∧ t.starved = s.starved)
            ∧ ((s.stream k).state = .opened → 1 ≤ (t.stream k).ready →
              (∀ l, l < 8 → (s.stream k).laneSet.getLsbD l = true → (s.lane l).up = true → (s.lane l).normal = []) →
              (t.stream k).state = .starved ∧ (t.stream k).openSeg = none ∧ (t.stream k).lastLane = (s.stream k).lastLane
                ∧ rest = [.streamStarved k] ∧ t.segments = w.segments ∧ t.nextSegment = s.nextSegment ∧ t.lanes = s.lanes
                ∧ t.starved = s.starved ++ [k])
            ∧ ∀ i l d ds, (s.stream k).state = .opened → 1 ≤ (t.stream k).ready → i < 8 → l = ((s.stream k).lastLane + 1 + i) % 8 →
              (s.stream k).laneSet.getLsbD l = true → (s.lane l).up = true → (s.lane l).normal = d :: ds →
              (∀ j, j < i → (s.stream k).laneSet.getLsbD (((s.stream k).lastLane + 1 + j) % 8) = true →
                (s.lane (((s.stream k).lastLane + 1 + j) % 8)).up = true →
                (s.lane (((s.stream k).lastLane + 1 + j) % 8)).normal = []) →
              (t.stream k).state = .opened ∧ (t.stream k).openSeg = some w.nextSegmentId ∧ (t.stream k).lastLane = l
                ∧ Store.find? t.segments w.nextSegmentId
                  = some { stream := k, lane := l, block := d.block, capacity := d.capacity, issued := 0, done := 0, failed := 0,
                           endCause := none }
                ∧ (∀ x, x ≠ w.nextSegmentId → Store.find? t.segments x = Store.find? w.segments x)
                ∧ t.nextSegment = (w.nextSegmentId + 1) % 65536
                ∧ t.lane l = { s.lane l with
                    normal := ds, armed := (s.lane l).armed && decide ((s.lane l).poolLowMark < ds.length) }
                ∧ (∀ j, j ≠ l → t.lane j = s.lane j) ∧ t.starved = s.starved
                ∧ rest = if (s.lane l).armed = true ∧ ds.length ≤ (s.lane l).poolLowMark then [.poolLow l ds.length] else []

/-- UNBIND-STREAM: the checks of R64 in order; an IDLE or quiet HELD stream becomes UNBOUND at its reset values with its five counters
kept. An open segment of it ends as ROTATED, after the REPLY, and closes when no unit of it is outstanding (R91, R92); no other stream,
segment, slot or lane changes. -/
def Obligations.UnbindStreamRetires : Prop :=
  ∀ (s : State) (a : Arriving) (k : Nat), s.offers a → a.asks 0x26 0 → field a.head 9 1 = k →
    (((s.stream k).state = .opened ∨ (s.stream k).state = .starved ∨ (s.stream k).state = .unbound) →
      exec .unbindStream s = .next (s.answered [a.replyOf .wrongState []]))
    ∧ (((s.stream k).state = .idle ∨ (s.stream k).state = .held) → ((s.stream k).queue ≠ [] ∨ (s.stream k).inflight ≠ 0) →
      exec .unbindStream s = .next (s.answered [a.replyOf .notQuiet []]))
    ∧ (((s.stream k).state = .idle ∨ (s.stream k).state = .held) → (s.stream k).queue = [] → (s.stream k).inflight = 0 →
      (∃ u r, (u, r) ∈ s.tenants ∧ r.valid = true ∧ r.defaultStream = k) →
      exec .unbindStream s = .next (s.answered [a.replyOf .inUse []]))
    ∧ (((s.stream k).state = .idle ∨ (s.stream k).state = .held) → (s.stream k).queue = [] → (s.stream k).inflight = 0 →
      (∀ u r, (u, r) ∈ s.tenants → r.valid = true → r.defaultStream ≠ k) →
      ∃ t, exec .unbindStream s = .next t
        ∧ t.stream k = ⟨.unbound, 0, 1, 0, 0, [], false, 0, none, 7, 0, (s.stream k).staged, (s.stream k).superseded,
            (s.stream k).issued, (s.stream k).fillers, (s.stream k).failed⟩
        ∧ ((s.stream k).openSeg = none →
            (∀ j, j ≠ k → t.stream j = s.stream j) ∧ t = { s.answered [a.replyOf .ok []] with streams := t.streams })
        ∧ ∀ id g, s.openSegment (s.stream k) = some (id, g) → g.endCause = none → g.stream = k →
            (if g.done + g.failed = g.issued
              then Store.find? t.segments id = none
                ∧ t.returns = s.returns ++ [a.replyOf .ok [], .segmentClosed id { g with endCause := some .rotated }]
              else Store.find? t.segments id = some { g with endCause := some .rotated } ∧ t.returns = s.returns ++ [a.replyOf .ok []])
            ∧ (∀ i, i ≠ id → Store.find? t.segments i = Store.find? s.segments i)
            ∧ (∀ j, j ≠ k → t.stream j = s.stream j)
            ∧ t = { s with parser := .awaiting, returns := t.returns, streams := t.streams, segments := t.segments })

/-- GET-STREAM replies OK in every state and changes nothing; its body holds the fields of R65 at the bytes R186 gives. GET-LANE replies
OK for an UP or a DOWN lane and changes nothing; its body holds the fields of R135 at the bytes R186 gives, then one unit for each
in-flight record and then one for each queued grant, normal grants first (R97, R186, R188); a lane above 7 is BAD-FIELD. That the bytes of
an absent first sequence and of an absent segment id are sent as 0 is the model's choice (log 29). -/
def Obligations.GetStreamAndGetLaneReport : Prop :=
  (∀ (s : State) (a : Arriving) (t : Stream), s.offers a → a.asks 0x21 0 → s.stream (field a.head 9 1) = t →
    ∃ b, exec .getStream s = .next (s.answered [a.replyOf .ok b]) ∧ b.length = 64
      ∧ bytesAt b 0 1 = (match t.state with | .unbound => 0 | .idle => 1 | .opened => 2 | .starved => 3 | .held => 4)
      ∧ bytesAt b 1 1 = t.laneSet.toNat ∧ bytesAt b 2 1 = t.cadence % 256 ∧ bytesAt b 3 1 = t.phase % 256
      ∧ bytesAt b 4 1 = t.lingerLimit % 256 ∧ bytesAt b 5 2 = t.queue.length % 65536
      ∧ bytesAt b 7 1 = (if t.queue = [] then 0 else 1)
      ∧ bytesAt b 8 6 = (match t.queue with | [] => 0 | k :: _ => (s.slot k).seq % 2 ^ 48)
      ∧ bytesAt b 14 1 = t.queue.length % 16 ∧ bytesAt b 15 1 = (if t.pad = true then 1 else 0)
      ∧ bytesAt b 16 2 = (t.queue.length / 16 + if t.pad = true then 1 else 0) % 65536 ∧ bytesAt b 18 1 = t.linger % 256
      ∧ bytesAt b 19 1 = (if t.openSeg.isSome = true then 1 else 0) ∧ bytesAt b 20 2 = t.openSeg.getD 0 % 65536
      ∧ bytesAt b 22 1 = t.lastLane % 256 ∧ bytesAt b 23 2 = t.inflight % 65536 ∧ bytesAt b 25 6 = t.staged.toNat
      ∧ bytesAt b 31 6 = t.superseded.toNat ∧ bytesAt b 37 4 = t.issued.toNat ∧ bytesAt b 41 6 = t.fillers.toNat
      ∧ bytesAt b 47 4 = t.failed.toNat)
  ∧
  (∀ (s : State) (a : Arriving) (x : Lane), s.offers a → a.asks 0x38 0 → s.lane (field a.head 9 1) = x →
    (7 < field a.head 9 1 → exec .getLane s = .next (s.answered [a.replyOf .badField []]))
    ∧ (field a.head 9 1 ≤ 7 →
      ∃ b, exec .getLane s = .next (s.answered [a.replyOf .ok b])
        ∧ b.length = 16 * (2 + x.inflight.length + x.normal.length + x.dump.length)
        ∧ bytesAt b 0 1 = (if x.up = true then 0 else 1) ∧ bytesAt b 1 1 = x.window % 256 ∧ bytesAt b 2 2 = x.pass % 65536
        ∧ bytesAt b 4 1 = x.position % 256 ∧ bytesAt b 5 1 = x.inflight.length % 256 ∧ bytesAt b 6 4 = x.unitsIssued.toNat
        ∧ bytesAt b 10 1 = x.consecutive % 256 ∧ bytesAt b 11 4 = x.done.toNat ∧ bytesAt b 15 4 = x.failed.toNat
        ∧ bytesAt b 19 4 = x.timeouts.toNat ∧ bytesAt b 23 4 = x.stray.toNat ∧ bytesAt b 27 1 = x.normal.length % 256
        ∧ bytesAt b 28 1 = x.dump.length % 256 ∧ bytesAt b 29 1 = (if x.armed = true then 1 else 0)
        ∧ bytesAt b 30 1 = (if s.lines.laneflt.getLsbD (field a.head 9 1) = true then 1 else 0)
        ∧ (∀ i r, x.inflight[i]? = some r →
            bytesAt b (32 + 16 * i) 1 = (if r.kind = .dump then 1 else 0)
            ∧ bytesAt b (33 + 16 * i) 1 = (if r.seg.isSome = true then 1 else 0)
            ∧ bytesAt b (34 + 16 * i) 2 = r.seg.getD 0 % 65536 ∧ bytesAt b (36 + 16 * i) 4 = r.block.toNat
            ∧ bytesAt b (40 + 16 * i) 2 = r.unit % 65536 ∧ bytesAt b (42 + 16 * i) 1 = r.slots.length % 256
            ∧ bytesAt b (43 + 16 * i) 1 = r.fillers % 256 ∧ bytesAt b (44 + 16 * i) 1 = (if r.trailer = true then 1 else 0))
        ∧ (∀ i kind g, (x.normal.map (UnitKind.normal, ·) ++ x.dump.map (UnitKind.dump, ·))[i]? = some (kind, g) →
            bytesAt b (32 + 16 * (x.inflight.length + i)) 1 = (if kind = .dump then 1 else 0)
            ∧ bytesAt b (33 + 16 * (x.inflight.length + i)) 3 = 0
            ∧ bytesAt b (36 + 16 * (x.inflight.length + i)) 4 = g.block.toNat
            ∧ bytesAt b (40 + 16 * (x.inflight.length + i)) 2 = g.capacity % 65536
            ∧ bytesAt b (42 + 16 * (x.inflight.length + i)) 6 = 0)))

/-- The requeue of a failed unit (R69): its slots join the queue by landing sequence, each before the first slot of higher sequence, so
that a queue in ascending sequence stays so; a unit that had fillers pads a non-empty tail; nothing else of the queue is lost. The
durable-linger check at the end of an event: while DURABLE-LINGER is 0, exactly the bound streams with a durable slot in the tail are
padded beside those that were (R73). The pressure check: below PRESSURE-MARK, of the bound streams with an unpadded tail the one whose
tail begins with the lowest landing sequence is padded, the lowest-numbered of equals, and no other; at or above the mark, or with no such
stream, nothing changes (R74). -/
def Obligations.TailsRequeueAndPad : Prop :=
  (∀ (s : State) (k fillers : Nat) (slots : List Nat),
    ((s.stream k).queue.map fun j => (s.slot j).seq).Pairwise (· ≤ ·) →
    (((s.requeue k slots fillers).stream k).queue.map fun j => (s.slot j).seq).Pairwise (· ≤ ·)
      ∧ ((s.requeue k slots fillers).stream k).queue.Perm ((s.stream k).queue ++ slots)
      ∧ (((s.requeue k slots fillers).stream k).pad = true ↔
          0 < ((s.stream k).queue.length + slots.length) % 16 ∧ ((s.stream k).pad = true ∨ 0 < fillers))
      ∧ ((s.requeue k slots fillers).stream k).linger
          = (if ((s.stream k).queue.length + slots.length) % 16 = 0 then 0 else (s.stream k).linger)
      ∧ ∀ j, j ≠ k → (s.requeue k slots fillers).stream j = s.stream j)
  ∧ (∀ (s : State) (k : Nat), s.durablePads.stream k = { s.stream k with pad := (s.stream k).pad ||
        (decide (s.params.durableLinger = 0 ∧ k < 256 ∧ (s.stream k).state ≠ .unbound)
          && (s.stream k).tail.any fun j => (s.slot j).durable.isSome) })
  ∧ (∀ s : State, s.durablePads = { s with streams := s.durablePads.streams })
  ∧ (∀ s : State, (s.params.pressureMark ≤ s.freeSlots
        ∨ ∀ k, k < 256 → (s.stream k).state ≠ .unbound → (s.stream k).tail ≠ [] → (s.stream k).pad = true) → s.pressure = s)
  ∧ (∀ (s : State) (k : Nat) (first : Nat → Nat), s.freeSlots < s.params.pressureMark →
      (∀ j, first j = (s.slot ((s.stream j).tail.headD 0)).seq) →
      k < 256 → (s.stream k).state ≠ .unbound → (s.stream k).tail ≠ [] → (s.stream k).pad = false →
      (∀ j, j < 256 → (s.stream j).state ≠ .unbound → (s.stream j).tail ≠ [] → (s.stream j).pad = false →
        first k < first j ∨ first k = first j ∧ k ≤ j) →
      s.pressure.stream k = { s.stream k with pad := true } ∧ (∀ j, j ≠ k → s.pressure.stream j = s.stream j)
        ∧ s.pressure = { s with streams := s.pressure.streams })

/-! ## Grants, segments and lanes by request -/

/-- GRANT-BLOCKS: the checks of R80 in order, each refusal carrying the lane's two counts (zeros for BAD-FIELD) and changing nothing.
GRANT-BLOCKS accepted (R80 to R82): the grants join the tail of the named queue in order, capacities clamped to 4096; a normal count above
the mark arms the lane; the REPLY carries the counts before the serve. Dump grants, and normal grants that no listed stream of the lane
waits for, change nothing else. -/
def Obligations.GrantBlocksQueuesOrRefuses : Prop :=
  (∀ (s : State) (a : Arriving) (l kind n : Nat), s.offers a → a.asks 0x30 n → a.entryCount = n → field a.head 9 1 = l →
      field a.head 10 1 = kind →
      ((7 < l ∨ 1 < kind ∨ n = 0 ∨ 8 < n ∨ ∃ i, i < n ∧ field (a.bodyUnit i) 4 2 = 0) →
        exec .grantBlocks s = .next (s.answered [a.replyOf .badField (countsBody 0 0)]))
      ∧ (l ≤ 7 → kind ≤ 1 → 1 ≤ n → n ≤ 8 → (∀ i, i < n → field (a.bodyUnit i) 4 2 ≠ 0) →
        ((s.lane l).up = false → exec .grantBlocks s
            = .next (s.answered [a.replyOf .laneDown (countsBody (s.lane l).normal.length (s.lane l).dump.length)]))
        ∧ ((s.lane l).up = true →
            (kind = 0 ∧ 32 < (s.lane l).normal.length + n ∨ kind = 1 ∧ 4 < (s.lane l).dump.length + n) →
            exec .grantBlocks s
              = .next (s.answered [a.replyOf .full (countsBody (s.lane l).normal.length (s.lane l).dump.length)]))))
  ∧ (∀ (s : State) (a : Arriving) (l kind n : Nat) (gs : List Grant), s.offers a → a.asks 0x30 n → a.entryCount = n →
      field a.head 9 1 = l → field a.head 10 1 = kind → l ≤ 7 → kind ≤ 1 → 1 ≤ n → n ≤ 8 →
      (∀ i, i < n → field (a.bodyUnit i) 4 2 ≠ 0) → (s.lane l).up = true →
      (kind = 0 → (s.lane l).normal.length + n ≤ 32) → (kind = 1 → (s.lane l).dump.length + n ≤ 4) →
      gs = (List.range n).map (fun i => ⟨BitVec.ofNat 32 (field (a.bodyUnit i) 0 4), min 4096 (field (a.bodyUnit i) 4 2)⟩) →
      (kind = 0 → s.due = [] ∧ ∀ k ∈ s.starved, (s.stream k).laneSet.getLsbD l = false) →
      ∃ t, exec .grantBlocks s = .next t
        ∧ t.lane l = (if kind = 0 then
            { s.lane l with
              normal := (s.lane l).normal ++ gs
              armed := (s.lane l).armed || decide ((s.lane l).poolLowMark < (s.lane l).normal.length + n) }
          else { s.lane l with dump := (s.lane l).dump ++ gs })
        ∧ (∀ j, j ≠ l → t.lane j = s.lane j)
        ∧ t = { s.answered [a.replyOf .ok (countsBody ((s.lane l).normal.length + if kind = 0 then n else 0)
              ((s.lane l).dump.length + if kind = 0 then 0 else n))] with lanes := t.lanes })

/-- After an accepted GRANT-BLOCKS of kind NORMAL the serve has run dry: the lane holds no normal grant, or no listed stream has the lane
in its set; and what is left on the list is what was there, in its order. Of the listed streams with the lane, the oldest are served, as
many as there are grants, the others keep their places; the i-th served opens a segment from the i-th grant of the queue, and the grants
taken leave it (R85, R88). The REPLY carries the counts as they stand after the grants are appended and before the serve (R80, R81). The
armed flag is set when the count has risen above the mark; when the serve then takes the count to the mark or below, it is cleared, and
the one POOL-LOW, with the grants left, follows the REPLY (R82). Nothing else changes: no other lane, and no segment in use. -/
def Obligations.GrantServesStarvedStreams : Prop :=
  ∀ (s : State) (a : Arriving) (l n : Nat), s.offers a → a.asks 0x30 n → a.entryCount = n → field a.head 9 1 = l →
    field a.head 10 1 = 0 → l ≤ 7 → 1 ≤ n → n ≤ 8 → (∀ i, i < n → field (a.bodyUnit i) 4 2 ≠ 0) → (s.lane l).up = true →
    (s.lane l).normal.length + n ≤ 32 →
    ∃ t rest, exec .grantBlocks s = .next t ∧ t.starved.Sublist s.starved
      ∧ t.returns = s.returns ++ a.replyOf .ok (countsBody ((s.lane l).normal.length + n) (s.lane l).dump.length) :: rest
      ∧ (∀ p ∈ rest, ∃ x left, p = .poolLow x left) ∧ (∀ j, j ≠ l → t.lane j = s.lane j)
      ∧ (s.segments.length ≤ 512 → ∀ id g, Store.find? s.segments id = some g → Store.find? t.segments id = some g)
      ∧ t = { s with
          parser := .awaiting, returns := t.returns, lanes := t.lanes, segments := t.segments, nextSegment := t.nextSegment,
          starved := t.starved, streams := t.streams, due := [], draws := t.draws }
      ∧ ((t.lane l).normal = [] ∨ ∀ k ∈ t.starved, (s.stream k).laneSet.getLsbD l = false)
      ∧ (t.lane l).normal.length + s.starved.length = (s.lane l).normal.length + n + t.starved.length
      ∧ (∀ k ∈ s.starved, k ∈ t.starved ∨ (t.stream k).state = .opened ∧ (t.stream k).lastLane = l)
      ∧ (∀ k, k ∉ s.starved → t.stream k = s.stream k)
      ∧ (s.starved.Nodup → ∀ k, k ∈ t.starved → t.stream k = s.stream k)
      ∧ ∀ (w : List Nat) (m : Nat) (gs : List Grant) (armed low : Bool), w = s.starved.filter (fun k => (s.stream k).laneSet.getLsbD l) →
          gs = (s.lane l).normal
            ++ (List.range n).map (fun i => ⟨BitVec.ofNat 32 (field (a.bodyUnit i) 0 4), min 4096 (field (a.bodyUnit i) 4 2)⟩) →
          m = min gs.length w.length → armed = ((s.lane l).armed || decide ((s.lane l).poolLowMark < gs.length)) →
          low = decide (1 ≤ m ∧ gs.length - m ≤ (s.lane l).poolLowMark) →
          t.starved.filter (fun k => (s.stream k).laneSet.getLsbD l) = w.drop m
          ∧ t.starved.filter (fun k => !(s.stream k).laneSet.getLsbD l) = s.starved.filter (fun k => !(s.stream k).laneSet.getLsbD l)
          ∧ t.lane l = { s.lane l with normal := gs.drop m, armed := armed && !low }
          ∧ (s.due = [] → rest = if armed && low then [.poolLow l (gs.length - m)] else [])
          ∧ (s.segments.length ≤ 512 → s.starved.Nodup → ∀ i k g, i < m → w[i]? = some k → gs[i]? = some g →
              ∃ id, t.stream k = { s.stream k with state := .opened, openSeg := some id, lastLane := l }
                ∧ Store.find? s.segments id = none
                ∧ Store.find? t.segments id = some
                    { stream := k, lane := l, block := g.block, capacity := g.capacity, issued := 0, done := 0, failed := 0, endCause := none })

/-- The next segment id: the counter's value, or the first above it, wrapping at 65536, that names no entry in use (R84). A unit that
fills its segment: units issued reaches the capacity, the segment is DRAINING with end cause FULL, and the stream has left it (R89, R106
act 5). Stated of the one act of issue, before the event's segment requests. -/
def Obligations.SegmentIdsAndFullSegments : Prop :=
  (∀ s : State, s.segments.length ≤ 512 →
      ∃ i, i ≤ 512 ∧ s.nextSegmentId = (s.nextSegment + i) % 65536 ∧ Store.find? s.segments s.nextSegmentId = none
        ∧ ∀ j, j < i → (Store.find? s.segments ((s.nextSegment + j) % 65536)).isSome = true)
  ∧ (∀ (s : State) (l k id : Nat) (g : Segment), s.openSegment (s.stream k) = some (id, g) → g.endCause = none → g.stream = k →
      (s.stream k).state = .opened →
      Store.find? (s.issueUnit l k).segments id
          = some { g with issued := g.issued + 1, endCause := if g.capacity ≤ g.issued + 1 then some .full else none }
        ∧ ((s.issueUnit l k).stream k).state = (if g.capacity ≤ g.issued + 1 then .idle else .opened)
        ∧ ((s.issueUnit l k).stream k).openSeg = (if g.capacity ≤ g.issued + 1 then none else some id)
        ∧ ∀ i, i ≠ id → Store.find? (s.issueUnit l k).segments i = Store.find? s.segments i)

/-- RESTART-LANE: the checks of R134 in order; a DOWN lane with its LANEFLT deasserted comes UP with P 0, s 255 and the consecutive
timeout counter 0, and everything else is kept. -/
def Obligations.RestartLaneBringsUp : Prop :=
  ∀ (s : State) (a : Arriving) (l : Nat), s.offers a → a.asks 0x39 0 → field a.head 9 1 = l →
    (7 < l → exec .restartLane s = .next (s.answered [a.replyOf .badField []]))
    ∧ (l ≤ 7 → (s.lane l).up = true → exec .restartLane s = .next (s.answered [a.replyOf .wrongState []]))
    ∧ (l ≤ 7 → (s.lane l).up = false → s.lines.laneflt.getLsbD l = true →
        exec .restartLane s = .next (s.answered [a.replyOf .laneDown []]))
    ∧ (l ≤ 7 → (s.lane l).up = false → s.lines.laneflt.getLsbD l = false →
        ∃ t, exec .restartLane s = .next t
          ∧ t.lane l = { s.lane l with up := true, pass := 0, position := 255, consecutive := 0 }
          ∧ (∀ j, j ≠ l → t.lane j = s.lane j) ∧ t = { s.answered [a.replyOf .ok []] with lanes := t.lanes })

/-! ## Issue, answers, expiries and lane faults -/

/-- The search (R104). The pair found is a candidate on the lane that is eligible in its pass; no pair before it, from the one after the
position on, by pass and then by stream, has an eligible candidate; and where every candidate has a lawful cadence and phase (R53) and
there is a candidate at all, the search finds one. -/
def Obligations.SearchFindsEligibleCandidate : Prop :=
  ∀ (s : State) (l : Nat),
    (∀ p k, s.search l = some (p, k) →
      k < 256 ∧ (s.stream k).state = .opened ∧ 1 ≤ (s.stream k).ready ∧ p % (s.stream k).cadence = (s.stream k).phase
        ∧ (∃ id g, s.openSegment (s.stream k) = some (id, g) ∧ g.lane = l)
        ∧ (p = (s.lane l).pass ∧ (s.lane l).position < k ∨ ∃ i, 1 ≤ i ∧ i ≤ 16 ∧ p = ((s.lane l).pass + i) % 65536))
    ∧ (∀ p k, s.search l = some (p, k) → ∀ cand : Nat → Prop, (∀ j, cand j ↔ s.candidate l j = true ∧ j < 256) →
        ∃ i, i ≤ 16 ∧ p = (if i = 0 then (s.lane l).pass else ((s.lane l).pass + i) % 65536)
          ∧ (i = 0 → (s.lane l).position < k)
          ∧ (∀ j, cand j → (i = 0 → (s.lane l).position < j) → j < k → p % (s.stream j).cadence ≠ (s.stream j).phase)
          ∧ ∀ h j, h < i → cand j → (h = 0 → (s.lane l).position < j) →
              (if h = 0 then (s.lane l).pass else ((s.lane l).pass + h) % 65536) % (s.stream j).cadence ≠ (s.stream j).phase)
    ∧ (∀ k, s.candidate l k = true ↔ (s.stream k).state = .opened ∧ 1 ≤ (s.stream k).ready
        ∧ ∃ id g, s.openSegment (s.stream k) = some (id, g) ∧ g.lane = l)
    ∧ ((∃ k, s.candidate l k = true ∧ k < 256) →
        (∀ k, k < 256 → (s.stream k).cadence ∈ [1, 2, 4, 8, 16] ∧ (s.stream k).phase < (s.stream k).cadence) →
        (s.search l).isSome = true)

/-- ISSUE: with the conditions of R103, the stream that the search finds is granted two units when R105 allows and else one. Each unit
takes the next 16 slots, or what is left, from the front of the queue, and the segment's next unit index; its slots become ISSUED; its
record, with the expiry of R108, joins the tail of the lane's list; its PROGRAM parcel goes out on the lane link (R76, R101, R105, R106,
R108 to R110). The stream's units issued and filler sectors written rise by what was sent; pad pending clears and the linger counter
returns to 0 when the tail has become empty, and the durable-linger check follows (R67, R73, R77, R78). Only STREAM-STARVED and POOL-LOW
parcels are enqueued. The segment's units issued rises by the units sent, and every other segment stays. Below its capacity the stream
keeps it and stays OPEN. At its capacity it goes DRAINING with end cause FULL, the stream loses it, and at the end of the event the stream
requests a segment when it has ready units, and else is IDLE (R56, R57, R89, R106). In a part at rest, with DURABLE-LINGER above 0, no
other stream changes; without a request nothing is enqueued; a request opens a segment on the first UP lane of the set, in circular order
after the last lane used, that holds a normal grant, with the POOL-LOW of R82 when that is due, and else starves the stream at the tail of
the list, with one STREAM-STARVED (R85, R86). -/
def Obligations.IssueSendsGrantedUnits : Prop :=
  ∀ (s : State) (lane : Fin 8) (l p k id n : Nat) (g : Segment), l = lane.val → s.running = true → (s.lane l).up = true →
    (s.lane l).inflight.length < (s.lane l).window → s.search l = some (p, k) → s.openSegment (s.stream k) = some (id, g) →
    g.issued < g.capacity →
    n = (if 2 ≤ (s.stream k).ready ∧ (s.lane l).inflight.length + 2 ≤ (s.lane l).window ∧ g.issued + 2 ≤ g.capacity
      then 2 else 1) →
    ∃ t rest, exec (.issue lane) s = .next t
      ∧ (t.lane l).pass = p ∧ (t.lane l).position = k ∧ (t.lane l).unitsIssued = (s.lane l).unitsIssued + BitVec.ofNat 32 n
      ∧ (t.lane l).inflight = (s.lane l).inflight ++ (List.range n).map (fun i =>
          let slots := ((s.stream k).queue.drop (16 * i)).take 16
          { kind := .normal, seg := some id, block := g.block, unit := g.issued + i, slots := slots, fillers := 16 - slots.length,
            trailer := false, expiry := s.now + 1000 * s.params.programTimeout })
      ∧ t.laneLink l = s.laneLink l ++ (List.range n).map (fun i =>
          let slots := ((s.stream k).queue.drop (16 * i)).take 16
          .parcel (programBytes .normal g.block (g.issued + i) (16 - slots.length) (slots.map s.sectorBytes)))
      ∧ (t.stream k).queue = (s.stream k).queue.drop (16 * n)
      ∧ (t.stream k).inflight = (s.stream k).inflight + n
      ∧ (t.stream k).issued = (s.stream k).issued + BitVec.ofNat 32 n
      ∧ (t.stream k).fillers = (s.stream k).fillers + BitVec.ofNat 48 (16 * n - ((s.stream k).queue.take (16 * n)).length)
      ∧ (t.stream k).pad = (if ((s.stream k).queue.length - 16 * n) % 16 = 0 then false
          else (s.stream k).pad || (decide (s.params.durableLinger = 0) && (s.stream k).tail.any fun j => (s.slot j).durable.isSome))
      ∧ (t.stream k).linger = (if ((s.stream k).queue.length - 16 * n) % 16 = 0 then 0 else (s.stream k).linger)
      ∧ (∀ j, t.slot j = if j ∈ (s.stream k).queue.take (16 * n) then { s.slot j with state := .issued } else s.slot j)
      ∧ (∀ j, j ≠ l → t.laneLink j = s.laneLink j ∧ (t.lane j).inflight = (s.lane j).inflight)
      ∧ (∀ j, j ≠ k → (t.stream j).queue = (s.stream j).queue)
      ∧ t.returns = s.returns ++ rest ∧ (∀ q ∈ rest, (∃ j, q = .streamStarved j) ∨ ∃ x left, q = .poolLow x left)
      ∧ (g.endCause = none → g.stream = k → s.segments.length ≤ 512 →
          Store.find? t.segments id
              = some { g with issued := g.issued + n, endCause := if g.capacity ≤ g.issued + n then some .full else none }
          ∧ (∀ i h, i ≠ id → Store.find? s.segments i = some h → Store.find? t.segments i = some h)
          ∧ (g.issued + n < g.capacity → (t.stream k).state = .opened ∧ (t.stream k).openSeg = some id
              ∧ (t.stream k).lastLane = (s.stream k).lastLane)
          ∧ (g.capacity ≤ g.issued + n → s.asksSegment t k)
          ∧ (s.calm → s.params.durableLinger ≠ 0 →
              (∀ j, j ≠ k → t.stream j = s.stream j)
              ∧ (g.issued + n < g.capacity ∨ (t.stream k).ready = 0 → rest = [] ∧ t.starved = s.starved
                  ∧ ∀ j, (t.lane j).normal = (s.lane j).normal ∧ (t.lane j).armed = (s.lane j).armed)
              ∧ (g.capacity ≤ g.issued + n → 1 ≤ (t.stream k).ready →
                  (∀ x, x < 8 → (s.stream k).laneSet.getLsbD x = true → (s.lane x).up = true → (s.lane x).normal = []) →
                  (t.stream k).state = .starved ∧ t.starved = s.starved ++ [k] ∧ rest = [.streamStarved k])
              ∧ ∀ i x d ds, g.capacity ≤ g.issued + n → 1 ≤ (t.stream k).ready → i < 8 → x = ((s.stream k).lastLane + 1 + i) % 8 →
                  (s.stream k).laneSet.getLsbD x = true → (s.lane x).up = true → (s.lane x).normal = d :: ds →
                  (∀ j, j < i → (s.stream k).laneSet.getLsbD (((s.stream k).lastLane + 1 + j) % 8) = true →
                    (s.lane (((s.stream k).lastLane + 1 + j) % 8)).up = true →
                    (s.lane (((s.stream k).lastLane + 1 + j) % 8)).normal = []) →
                  (t.stream k).state = .opened ∧ (t.stream k).lastLane = x ∧ t.starved = s.starved
                  ∧ (∃ new, (t.stream k).openSeg = some new ∧ Store.find? s.segments new = none
                      ∧ Store.find? t.segments new = some
                          { stream := k, lane := x, block := d.block, capacity := d.capacity, issued := 0, done := 0, failed := 0,
                            endCause := none })
                  ∧ (t.lane x).normal = ds ∧ (t.lane x).armed = ((s.lane x).armed && decide ((s.lane x).poolLowMark < ds.length))
                  ∧ rest = if (s.lane x).armed = true ∧ ds.length ≤ (s.lane x).poolLowMark then [.poolLow x ds.length] else []))
      ∧ t.staging = s.staging ∧ t.index = s.index ∧ t.tenants = s.tenants ∧ t.ranges = s.ranges ∧ t.durables = s.durables
      ∧ t.flushes = s.flushes ∧ t.credits = s.credits ∧ t.sequence = s.sequence ∧ t.params = s.params

/-- ANSWER_ARRIVAL: in RUN and DUMPING the parcel joins the tail of its lane's line, and nothing else changes (R115). A stray ANSWER
(R116, R118): one with no matching record, or with an unknown outcome code, leaves the line, raises the lane's stray counter and changes
nothing else, the consecutive timeout counter included. MALFORMED_LANE_PARCEL: a lane parcel of another kind, or an ANSWER with a body, is
taken in its lane's order, counted as stray and discarded (R189). LANE_ABORT_MARK: a partly received ANSWER is discarded uncounted (R191).
The counter of arrivals is the model's own (log 10), and so is the reading that only a whole parcel joins the line (log 24). -/
def Obligations.LaneParcelsWaitAndStrayAnswersCount : Prop :=
  (∀ (s : State) (lane : Fin 8) (head : Unit16), s.live = true →
      ∃ t, exec (.answerArrival lane head) s = .next t
        ∧ t.lane lane.val = { s.lane lane.val with waiting := (s.lane lane.val).waiting ++ [{ head := head, arrival := s.arrivals }] }
        ∧ (∀ j, j ≠ lane.val → t.lane j = s.lane j) ∧ t = { s with lanes := t.lanes, arrivals := s.arrivals + 1 })
  ∧ (∀ (s : State) (lane : Fin 8) (l : Nat) (w : Waiting), l = lane.val → s.takeable l = some w →
      headKind w.head = 0x31 → headBodyUnits w.head = 0 →
      ((field w.head 14 1 ≠ 1 ∧ field w.head 14 1 ≠ 2)
        ∨ ∀ r ∈ (s.lane l).inflight, ¬ (r.block = answerBlock w.head ∧ r.unit = answerUnit w.head)) →
      ∃ t, exec (.answer lane) s = .next t
        ∧ t.lane l = { s.lane l with waiting := (s.lane l).waiting.tail, stray := (s.lane l).stray + 1 }
        ∧ (∀ j, j ≠ l → t.lane j = s.lane j) ∧ t = { s with lanes := t.lanes })
  ∧ (∀ (s : State) (lane : Fin 8) (l : Nat), l = lane.val →
      (∀ w, s.takeable l = some w → (headKind w.head ≠ 0x31 ∨ headBodyUnits w.head ≠ 0) →
        ∃ t, exec (.malformedLaneParcel lane) s = .next t
          ∧ t.lane l = { s.lane l with waiting := (s.lane l).waiting.tail, stray := (s.lane l).stray + 1 }
          ∧ (∀ j, j ≠ l → t.lane j = s.lane j) ∧ t = { s with lanes := t.lanes })
      ∧ exec (.laneAbortMark lane) s = .next s)

/-- ANSWER with DONE for a NORMAL record (R117, R120 to R123): the oldest record with its pair leaves the lane's list; PLACED, with one
entry for each real sector, is the first parcel enqueued; every slot of the unit becomes FREE without reference or mark; units done rises
and the consecutive timeout counter is 0. The slots are settled one after another in position order, each as one slot is settled; the
LANDED and FLUSHED that this makes due follow PLACED in that order, and durable records, flush records, index and tenants are as it leaves
them (R120, R122, R142, R148). Then comes SEGMENT-CLOSED when it is due, and the credit engine evaluates last (R30, R31). No queue, pad
flag or stream state changes; the stream's in-flight count falls by 1 and the segment's units done rises by 1, and a DRAINING segment
whose last unit this was closes (R92, R123). In DUMPING the same, but that no CREDIT is enqueued and the conditions of R162 are met after
it (R123, R153). That a FREE slot keeps its identity, sequence and stream is the model's reading (log 18). -/
def Obligations.DonePlacesAndFreesTheUnit : Prop :=
  ∀ (s : State) (lane : Fin 8) (l i : Nat) (w : Waiting) (r : InFlight), l = lane.val → s.takeable l = some w →
    headKind w.head = 0x31 → headBodyUnits w.head = 0 → field w.head 14 1 = 1 →
    (s.lane l).inflight[i]? = some r → r.block = answerBlock w.head → r.unit = answerUnit w.head →
    (∀ j q, j < i → (s.lane l).inflight[j]? = some q → ¬ (q.block = answerBlock w.head ∧ q.unit = answerUnit w.head)) →
    r.kind = .normal → (s.part = .dumping → s.dump.remaining ≠ 0 ∨ s.dumpInFlight true = true) →
    ∃ t paid closed, exec (.answer lane) s = .next t
      ∧ t.lane l = { s.lane l with
          waiting := (s.lane l).waiting.tail, inflight := (s.lane l).inflight.eraseIdx i, consecutive := 0,
          done := (s.lane l).done + 1 }
      ∧ (∀ j, j ≠ l → t.lane j = s.lane j)
      ∧ t.returns = s.returns ++ .placed (r.seg.getD 0) l r.block r.unit (r.slots.zipIdx.map fun e =>
          { position := e.2, fn := (s.slot e.1).fn, ns := (s.slot e.1).ns, lba := (s.slot e.1).lba, seq := (s.slot e.1).seq })
          :: (paid ++ closed ++ if s.part = .run then s.creditParcels t else [])
      ∧ (∀ u, u = r.slots.foldl State.settleSlot s →
          u.returns = s.returns ++ paid ∧ t.slots = u.slots ∧ t.durables = u.durables ∧ t.flushes = u.flushes ∧ t.index = u.index
            ∧ t.tenants = u.tenants)
      ∧ (∀ p ∈ paid, (∃ tag fn c q, p = .landed tag fn .ok c q) ∨ ∃ tag fn, p = .flushed tag fn .ok)
      ∧ (∀ p ∈ closed, ∃ id g, p = .segmentClosed id g)
      ∧ (s.part = .run → s.creditsFollow t ∧ t.part = .run ∧ t.dump = s.dump)
      ∧ (s.part = .dumping → t.credits = s.credits ∧ t.creditTimer = s.creditTimer
          ∧ t.dump = { s.dump with phase := t.dump.phase } ∧ t.dumpSettled s.dump.phase)
      ∧ (∀ id g k, r.seg = some id → Store.find? s.segments id = some g → g.stream = k →
          t.stream k = { s.stream k with inflight := (s.stream k).inflight - 1 } ∧ (∀ j, j ≠ k → t.stream j = s.stream j)
          ∧ (if g.endCause ≠ none ∧ g.done + 1 + g.failed = g.issued
              then Store.find? t.segments id = none ∧ closed = [.segmentClosed id { g with done := g.done + 1 }]
              else Store.find? t.segments id = some { g with done := g.done + 1 } ∧ closed = [])
          ∧ ∀ j, j ≠ id → Store.find? t.segments j = Store.find? s.segments j)
      ∧ (∀ k ∈ r.slots, t.slot k = { s.slot k with state := .free, durable := none, mark := false })
      ∧ (∀ k, k ∉ r.slots → t.slot k = s.slot k)
      ∧ (∀ k, (t.stream k).queue = (s.stream k).queue ∧ (t.stream k).pad = (s.stream k).pad
          ∧ (t.stream k).state = (s.stream k).state)
      ∧ t.staging = s.staging ∧ t.ranges = s.ranges ∧ t.sequence = s.sequence ∧ t.params = s.params ∧ t.starved = s.starved
      ∧ t.nextSegment = s.nextSegment ∧ t.laneLinks = s.laneLinks

/-- One slot's settlement at a DONE (R122, R142, R147, R148), for a slot with both a durable reference and a flush mark, with one of them,
or with neither: the durable record it names is settled before the flush record of its tenant, each lowered by 1, and at 0 enqueuing its
parcels and freeing itself; every other record stays; then the slot is FREE, its tenant's staged count falls by 1 when it was in use, and
the index entry that names it goes; every other index entry and every other field of a tenant stay, and nothing else changes. That a FREE
slot keeps its identity, sequence and stream is the model's reading (log 18). -/
def Obligations.SlotSettlesRecordsThenFrees : Prop :=
  ∀ (s : State) (k : Nat) (d : Option DurableRecord) (f : Option FlushRecord),
    d = (s.slot k).durable.bind (Store.find? s.durables ·) →
    f = (if (s.slot k).mark = true then Store.find? s.flushes (s.slot k).fn else none) →
    (∀ r, d = some r → 1 ≤ r.remaining) → (∀ r, f = some r → 1 ≤ r.count) →
    (s.settleSlot k).slot k = { s.slot k with state := .free, durable := none, mark := false }
      ∧ (∀ j, j ≠ k → (s.settleSlot k).slot j = s.slot j)
      ∧ (∀ r i, d = some r → (s.slot k).durable = some i → Store.find? (s.settleSlot k).durables i
          = if r.remaining = 1 then none else some { r with remaining := r.remaining - 1 })
      ∧ (∀ i, (s.slot k).durable ≠ some i → Store.find? (s.settleSlot k).durables i = Store.find? s.durables i)
      ∧ (∀ r, f = some r → Store.find? (s.settleSlot k).flushes (s.slot k).fn
          = if r.count = 1 then none else some { r with count := r.count - 1 })
      ∧ (∀ fn, ((s.slot k).mark = false ∨ fn ≠ (s.slot k).fn) → Store.find? (s.settleSlot k).flushes fn = Store.find? s.flushes fn)
      ∧ (s.settleSlot k).returns = s.returns
          ++ (match d with
              | some r => if r.remaining = 1 then [.landed r.tag r.fn .ok r.count r.first] else []
              | none => [])
          ++ (match f with
              | some r => if r.count = 1 then r.tags.map (fun tag => .flushed tag (s.slot k).fn .ok) else []
              | none => [])
      ∧ ((s.settleSlot k).tenant (s.slot k).fn).stagedCount
          = (s.tenant (s.slot k).fn).stagedCount - (if (s.slot k).inUse = true then 1 else 0)
      ∧ (∀ u, (s.settleSlot k).tenant u = if u = (s.slot k).fn ∧ (s.slot k).inUse = true
          then { s.tenant u with stagedCount := (s.tenant u).stagedCount - 1 } else s.tenant u)
      ∧ (s.indexed (s.slot k).fn (s.slot k).ns (s.slot k).lba = some k →
          (s.settleSlot k).indexed (s.slot k).fn (s.slot k).ns (s.slot k).lba = none
          ∧ ∀ key, key ≠ identityKey (s.slot k).fn (s.slot k).ns (s.slot k).lba →
              Store.find? (s.settleSlot k).index key = Store.find? s.index key)
      ∧ (s.indexed (s.slot k).fn (s.slot k).ns (s.slot k).lba ≠ some k → (s.settleSlot k).index = s.index)
      ∧ s.settleSlot k = { s with
          slots := (s.settleSlot k).slots, durables := (s.settleSlot k).durables, flushes := (s.settleSlot k).flushes,
          returns := (s.settleSlot k).returns, tenants := (s.settleSlot k).tenants, index := (s.settleSlot k).index }

/-- ANSWER with FAIL for a NORMAL record (R116, R117, R124 to R126): PROGRAM-FAILED with its reason is the first parcel enqueued; the
record leaves the list; its slots are STAGED with every other field kept; units failed rises and the consecutive timeout counter is 0. No
slot is freed and no CREDIT enqueued. In a state that obeys the laws: an OPEN segment goes DRAINING as BROKEN, and one whose last unit
this was closes after the PROGRAM-FAILED; the unit is merged back into its stream's queue; the failed counts of segment and stream rise
and the in-flight count falls; an OPEN stream goes to IDLE and requests a segment when it has ready units, a HELD one stays HELD without
the segment (R56, R57, R69, R90, R92). In DUMPING the same, but that no stream requests a segment and the conditions of R162 and R163 are
met after it (R153). -/
def Obligations.FailReturnsUnitToStaging : Prop :=
  ∀ (s : State) (lane : Fin 8) (l i : Nat) (w : Waiting) (r : InFlight) (why : FailReason), l = lane.val → s.takeable l = some w →
    headKind w.head = 0x31 → headBodyUnits w.head = 0 → field w.head 14 1 = 2 →
    (s.lane l).inflight[i]? = some r → r.block = answerBlock w.head → r.unit = answerUnit w.head →
    (∀ j q, j < i → (s.lane l).inflight[j]? = some q → ¬ (q.block = answerBlock w.head ∧ q.unit = answerUnit w.head)) →
    r.kind = .normal → (s.part = .dumping → Store.canon {} s.lanes = true) →
    why = (if field w.head 15 1 = 2 then .blockRetired else if field w.head 15 1 = 3 then .addressError else .programError) →
    ∃ t rest, exec (.answer lane) s = .next t
      ∧ (t.lane l).inflight = (s.lane l).inflight.eraseIdx i ∧ (t.lane l).consecutive = 0
      ∧ (t.lane l).failed = (s.lane l).failed + 1 ∧ (t.lane l).done = (s.lane l).done ∧ (t.lane l).up = (s.lane l).up
      ∧ t.returns = s.returns ++ .programFailed l why (r.seg.getD 0) r.unit r.block :: rest
      ∧ (∀ p ∈ rest, (∃ j g, p = .segmentClosed j g) ∨ (∃ k, p = .streamStarved k) ∨ ∃ x n, p = .poolLow x n)
      ∧ (∀ k, t.slot k = if k ∈ r.slots then { s.slot k with state := .staged } else s.slot k)
      ∧ t.index = s.index ∧ t.tenants = s.tenants ∧ t.durables = s.durables ∧ t.flushes = s.flushes ∧ t.credits = s.credits
      ∧ t.staging = s.staging ∧ t.ranges = s.ranges ∧ t.sequence = s.sequence ∧ t.params = s.params
      ∧ (s.part = .run → t.part = .run ∧ t.dump = s.dump)
      ∧ (s.part = .dumping → t.dump = { s.dump with phase := t.dump.phase } ∧ t.dumpSettled s.dump.phase)
      ∧ (s.Ledger → s.UnitsFail t l [r] false
          ∧ ∃ after, .programFailed l why (r.seg.getD 0) r.unit r.block :: rest
              = s.failureParcels l ((s.lane l).inflight.eraseIdx i) [(why, r)] ++ after
            ∧ (∀ p ∈ after, (∃ k, p = .streamStarved k) ∨ ∃ x n, p = .poolLow x n) ∧ (s.part = .dumping → s.due = [] → after = []))

/-- EXPIRY of a NORMAL record, in RUN or in DUMPING (R127, R128, R132, R153): PROGRAM-FAILED with reason TIMEOUT is the first parcel; the
record leaves the list; timeouts and units failed rise; at TIMEOUT-LIMIT the lane is DOWN with no record and no grant left, and LANE-DOWN
with cause TIMEOUT names the records failed with it. In a state that obeys the laws, below the limit: its segment breaks, closes or keeps
draining, and the unit goes back to its stream's queue as at a FAIL. At the limit, for a record of either kind, on a lane with records of
both kinds: the expired record fails first, then every other in issue order as LANE-DOWN, then every other OPEN segment of the lane breaks
and closes, then the grants are returned and LANE-DOWN is sent, and last the streams without a segment request one, in DUMPING none (R93,
R124, R132). In DUMPING, below the limit, the conditions of R162 and R163 are met after the event. The model's clock reaches the expiry
(log 1), and that a malformed parcel that waits at the lane is discarded with the answers at a lane down is the model's reading (log
9). -/
def Obligations.ExpiryFailsAsTimeout : Prop :=
  (∀ (s : State) (lane : Fin 8) (l i : Nat) (r : InFlight), l = lane.val → s.live = true → (s.lane l).inflight[i]? = some r →
    r.kind = .normal → (s.part = .dumping → Store.canon {} s.lanes = true) → s.params.timeoutLimit ≤ 15 →
    ∃ t rest, exec (.expiry lane i) s = .next t ∧ t.now = max s.now r.expiry
      ∧ t.returns = s.returns ++ .programFailed l .timeout (r.seg.getD 0) r.unit r.block :: rest
      ∧ (t.lane l).timeouts = (s.lane l).timeouts + 1
      ∧ (t.lane l).consecutive = min 15 ((s.lane l).consecutive + 1)
      ∧ (∀ k ∈ r.slots, t.slot k = { s.slot k with state := .staged })
      ∧ (if s.params.timeoutLimit ≤ (s.lane l).consecutive + 1
          then (t.lane l).up = false ∧ (t.lane l).inflight = [] ∧ (t.lane l).normal = [] ∧ (t.lane l).dump = []
            ∧ (t.lane l).failed = (s.lane l).failed + BitVec.ofNat 32 (s.lane l).inflight.length
            ∧ .laneDown l .timeout ((s.lane l).inflight.length - 1) ∈ rest
          else (t.lane l).up = (s.lane l).up ∧ (t.lane l).inflight = (s.lane l).inflight.eraseIdx i
            ∧ (t.lane l).failed = (s.lane l).failed + 1)
      ∧ t.staging = s.staging ∧ t.index = s.index ∧ t.tenants = s.tenants ∧ t.credits = s.credits ∧ t.sequence = s.sequence
      ∧ t.durables = s.durables ∧ t.flushes = s.flushes ∧ t.ranges = s.ranges ∧ t.params = s.params
      ∧ (s.part = .run → (∀ q ∈ (s.lane l).inflight, q.kind = .normal) → t.part = .run ∧ t.dump = s.dump)
      ∧ (s.Ledger → (s.lane l).consecutive + 1 < s.params.timeoutLimit →
          s.UnitsFail t l [r] false
          ∧ (s.part = .dumping → t.dump = { s.dump with phase := t.dump.phase } ∧ t.dumpSettled s.dump.phase)
          ∧ ∃ after, t.returns
              = s.returns ++ s.failureParcels l ((s.lane l).inflight.eraseIdx i) [(.timeout, r)] ++ after
            ∧ (∀ p ∈ after, (∃ k, p = .streamStarved k) ∨ ∃ x n, p = .poolLow x n) ∧ (s.part = .dumping → s.due = [] → after = [])))
  ∧ (∀ (s : State) (lane : Fin 8) (l i : Nat) (r : InFlight), l = lane.val → s.live = true → (s.lane l).inflight[i]? = some r →
    s.Ledger → s.params.timeoutLimit ≤ (s.lane l).consecutive + 1 → s.params.timeoutLimit ≤ 15 →
    ∃ t, exec (.expiry lane i) s = .next t
      ∧ s.laneLost t l .timeout ((.timeout, r) :: ((s.lane l).inflight.eraseIdx i).map fun q => (.laneDown, q))
          ((s.lane l).inflight.length - 1)
      ∧ (t.lane l).up = false ∧ (t.lane l).inflight = [] ∧ (t.lane l).normal = [] ∧ (t.lane l).dump = [] ∧ (t.lane l).armed = false
      ∧ (t.lane l).waiting = [] ∧ (t.lane l).timeouts = (s.lane l).timeouts + 1
      ∧ (t.lane l).failed = (s.lane l).failed + BitVec.ofNat 32 (s.lane l).inflight.length)

/-- LANEFLT asserted on an UP lane in RUN or in DUMPING, with records of either kind (R130, R132, R93, R153): the lane is DOWN, holds no
record and no grant, and is not armed; every answer waiting is counted as stray; its grants leave in one GRANT-RETURNED, normal grants
first, with LANE-DOWN, cause LINK and the number of records failed, directly after it; no slot is freed. In a state that obeys the laws:
every record fails in issue order, each NORMAL unit goes back to its stream's queue, each segment of the lane breaks and closes, with its
SEGMENT-CLOSED at its last record, or after all records in ascending stream number; no segment names the lane; the streams that lost
theirs are IDLE, or request one at the end in RUN, or stay HELD (R56, R57, R69, R90, R92). A LANEFLT that is deasserted, already asserted,
or asserted on a DOWN lane or in DUMPED, changes the line's level alone (R130). The command carries the new level (log 12); that a
malformed parcel waiting counts as stray is the model's reading (log 9). -/
def Obligations.LanefltTakesLaneDownOrSetsLevel : Prop :=
  (∀ (s : State) (lane : Fin 8) (l : Nat), l = lane.val → s.live = true → (s.lane l).up = true →
      s.lines.laneflt.getLsbD l = false → (s.part = .dumping → Store.canon {} s.lanes = true) →
      ∃ t before after, exec (.laneflt lane true) s = .next t
        ∧ (∀ j, t.lines.laneflt.getLsbD j = (s.lines.laneflt.getLsbD j || j == l))
        ∧ t.lane l = { s.lane l with
            up := false, inflight := [], normal := [], dump := [], armed := false, waiting := [],
            stray := (s.lane l).stray + BitVec.ofNat 32 (s.lane l).waiting.length,
            failed := (s.lane l).failed + BitVec.ofNat 32 (s.lane l).inflight.length }
        ∧ t.returns = s.returns ++ before
            ++ (if (s.lane l).normal ++ (s.lane l).dump = [] then [] else [.grantReturned l
                ((s.lane l).normal.map (UnitKind.normal, ·) ++ (s.lane l).dump.map (UnitKind.dump, ·))])
            ++ .laneDown l .link (s.lane l).inflight.length :: after
        ∧ (∀ p ∈ before, (∃ x u b, p = .programFailed l .laneDown x u b) ∨ ∃ j g, p = .segmentClosed j g)
        ∧ (∀ p ∈ after, (∃ k, p = .streamStarved k) ∨ ∃ x n, p = .poolLow x n)
        ∧ (∀ k, (t.slot k).state = .free ↔ (s.slot k).state = .free ∧ ∀ q ∈ (s.lane l).inflight, q.kind = .normal → k ∉ q.slots)
        ∧ t.staging = s.staging ∧ t.index = s.index ∧ t.tenants = s.tenants ∧ t.credits = s.credits ∧ t.durables = s.durables
        ∧ t.flushes = s.flushes ∧ t.ranges = s.ranges ∧ t.sequence = s.sequence ∧ t.params = s.params
        ∧ (s.part = .run → (∀ q ∈ (s.lane l).inflight, q.kind = .normal) → t.part = .run ∧ t.dump = s.dump)
        ∧ (s.Ledger → s.laneLost t l .link ((s.lane l).inflight.map fun q => (.laneDown, q)) (s.lane l).inflight.length))
  ∧ (∀ (s : State) (lane : Fin 8) (level : Bool), (level = false ∨ s.lines.laneflt.getLsbD lane.val = true
        ∨ (s.lane lane.val).up = false ∨ s.part = .dumped ∨ s.lines.reset = true) →
      ∃ t, exec (.laneflt lane level) s = .next t
        ∧ (∀ j, t.lines.laneflt.getLsbD j = if j = lane.val then level else s.lines.laneflt.getLsbD j)
        ∧ t = { s with lines := t.lines } ∧ t.lines.reset = s.lines.reset ∧ t.lines.pfail = s.lines.pfail)

/-! ## Timers, power fail and the dump -/

/-- LINGER_CLOCK_EXPIRY (R70 to R72): the linger counter of every bound stream with an unpadded non-empty tail rises by 1, saturating at
255, and its tail is padded when the raised counter reaches the effective limit; every other counter and pad flag stays, and so does every
queue; the clock runs on, 1 ms later. An IDLE stream that this leaves with ready units requests a segment; no other stream's state, no
segment and no in-flight record changes, and only STREAM-STARVED and POOL-LOW are enqueued (R56, R71, R82). CREDIT_LINGER_EXPIRY: the
timer stops, and one CREDIT with the whole returnable count is enqueued when that is at least 1 (R31). DECAY_EXPIRY restarts its timer
with the interval in force, counted from the expiry (R23); the model's clock reaches the expiry (log 1, log 17). That the requests of an
event are made by a sweep over all streams is the model's deduction (log 16). -/
def Obligations.TimersActAndRunOn : Prop :=
  (∀ (s : State) (d : Nat), s.running = true → s.lingerClock = some d →
      ∃ t, exec .lingerClockExpiry s = .next t ∧ t.lingerClock = some (d + 1000) ∧ t.now = max s.now d
        ∧ (∀ k, k < 256 → (s.stream k).state ≠ .unbound → 0 < (s.stream k).queue.length % 16 → (s.stream k).pad = false →
            (t.stream k).linger = min 255 ((s.stream k).linger + 1)
            ∧ ((t.stream k).pad = true ↔
                if ((s.stream k).tail.any fun j => (s.slot j).durable.isSome) = true
                then (if (s.stream k).lingerLimit = 0 then s.params.durableLinger
                    else min (s.stream k).lingerLimit s.params.durableLinger) ≤ min 255 ((s.stream k).linger + 1)
                else 0 < (s.stream k).lingerLimit ∧ (s.stream k).lingerLimit ≤ min 255 ((s.stream k).linger + 1)))
        ∧ (∀ k, ((s.stream k).state = .unbound ∨ (s.stream k).queue.length % 16 = 0 ∨ (s.stream k).pad = true) →
            (t.stream k).linger = (s.stream k).linger ∧ (t.stream k).pad = (s.stream k).pad)
        ∧ (∀ k, t.stream k = { s.stream k with
            linger := (t.stream k).linger, pad := (t.stream k).pad, state := (t.stream k).state, openSeg := (t.stream k).openSeg,
            lastLane := (t.stream k).lastLane })
        ∧ s.RequestsMade t s.returns s.Ledger
        ∧ t = { s with
            now := t.now, lingerClock := t.lingerClock, streams := t.streams, starved := t.starved, segments := t.segments,
            nextSegment := t.nextSegment, lanes := t.lanes, returns := t.returns, due := [], draws := t.draws })
  ∧ (∀ (s : State) (d : Nat), s.running = true → s.creditTimer = some d →
      exec .creditLingerExpiry s = .next
        { s with
          now := max s.now d, creditTimer := none, credits := s.credits + s.returnable
          returns := s.returns ++ if s.returnable = 0 then [] else [.credit s.returnable] })
  ∧ (∀ (s : State) (d : Nat), s.running = true → s.decayTimer = some d →
      ∃ t, exec .decayExpiry s = .next t ∧ t.decayTimer = some (d + 1000 * s.params.decayInterval) ∧ t.now = max s.now d)

/-- PFAIL asserted in RUN (R152, R154, R155): every timer stops, the parcel being handled is abandoned without an answer and its LANDING
slots are FREE, and the parser stands in AWAITING, which is the model's choice (log 31); with no dump capacity on an UP lane the part is
DUMPED with FAILED; else it is DUMPING with the whole capacity and the first grant in grant order taken, FILLING, or TRAILING at once with
nothing to dump (R162). An assertion of PFAIL in DUMPING or DUMPED, and its deassertion, change the line's level alone (R151). The command
carries the new level (log 12). -/
def Obligations.PfailEntersDumpingOrSetsLevel : Prop :=
  (∀ (s : State) (c : Nat), s.running = true → s.lines.pfail = false → Store.canon {} s.lanes = true →
      (∀ l q, l < 8 → q ∈ (s.lane l).inflight → q.kind = .normal) →
      c = ((List.range 8).map fun l => if (s.lane l).up = true then ((s.lane l).dump.map Grant.capacity).sum else 0).sum →
      ∃ t, exec (.pfail true) s = .next t ∧ t.lines = { s.lines with pfail := true } ∧ t.parser = .awaiting
        ∧ t.decayTimer = none ∧ t.lingerClock = none ∧ t.creditTimer = none ∧ t.returns = s.returns
        ∧ (∀ k ∈ s.parser.landedSlots, (t.slot k).state = .free) ∧ (∀ k, k ∉ s.parser.landedSlots → t.slot k = s.slot k)
        ∧ t.dump.remaining = c ∧ t.dump.generation = s.params.dumpGeneration ∧ t.dumpSettled .filling
        ∧ (c = 0 → t.part = .dumped ∧ t.dumpres = .failed ∧ t.dump.phase = .idle)
        ∧ (0 < c → t.part = .dumping ∧ t.dumpact = true ∧ t.dumpres = s.dumpres
            ∧ ∀ l g gs, l < 8 → (s.lane l).up = true → (s.lane l).dump = g :: gs →
                (∀ j, j < l → (s.lane j).up = true → (s.lane j).dump = []) →
                t.dump.taken = s.dump.taken ++ [⟨l, g.block, g.capacity, 0⟩] ∧ (t.lane l).dump = gs)
        ∧ (∀ l, (t.lane l).inflight = (s.lane l).inflight ∧ (t.lane l).normal = (s.lane l).normal
            ∧ (t.lane l).pass = (s.lane l).pass ∧ (t.lane l).position = (s.lane l).position)
        ∧ t.staging = s.staging ∧ t.streams = s.streams ∧ t.segments = s.segments ∧ t.starved = s.starved ∧ t.ranges = s.ranges
        ∧ t.credits = s.credits ∧ t.sequence = s.sequence ∧ t.durables = s.durables ∧ t.flushes = s.flushes ∧ t.params = s.params)
  ∧ (∀ (s : State) (level : Bool), (level = false ∨ s.lines.pfail = true ∨ s.running = false) →
      exec (.pfail level) s = .next { s with lines := { s.lines with pfail := level } })

/-- DUMP_UNIT_SEND (R112, R156, R157): the unit carries up to 16 undumped sectors, those of the redo list that are still in use first and
then those above the cursor in ascending sequence; it takes the next position of the current grant; the capacity falls by 1; the cursor
becomes the highest sequence taken from above it; its record and its PROGRAM parcel go on the grant's lane. No slot changes. That every
redo slot out of use leaves the list at the composition is the model's reading (log 23). TRAILER_SEND (R162, R101, R190): the trailer
takes the next position of the current grant; its content counts that position; its record has the trailer flag set, no slot and filler
count 15; its tag carries sequence 2^48−1. A unit or a trailer that uses the current grant takes the next in grant order at once: the
front of the first store that is not empty, of an UP lane from the grant's own on; below that the taken grants and the stores stay (R155,
R157). -/
def Obligations.DumpSendsCarrySectorsAndAccount : Prop :=
  (∀ (s : State) (taken : List TakenGrant) (g : TakenGrant) (n : Nat), s.live = true → s.part = .dumping →
    Store.canon {} s.slots = true → s.dump.phase = .filling → 0 < s.undumped → 2 ≤ s.dump.remaining → s.dump.taken = taken ++ [g] → (s.lane g.lane).up = true →
    (s.lane g.lane).inflight.length < (s.lane g.lane).window → n = min 16 s.undumped →
    ∃ t slots, exec .dumpUnitSend s = .next t ∧ slots.length = n
      ∧ (s.redoInUse.take 16).IsPrefix slots
      ∧ (∀ k ∈ slots.drop (min 16 s.redoInUse.length), s.dump.aboveCursor (s.slot k) = true)
      ∧ ((slots.drop (min 16 s.redoInUse.length)).map fun k => (s.slot k).seq).Pairwise (· ≤ ·)
      ∧ (∀ j, s.dump.aboveCursor (s.slot j) = true → j ∉ slots.drop (min 16 s.redoInUse.length) →
          ∀ k ∈ slots.drop (min 16 s.redoInUse.length), (s.slot k).seq ≤ (s.slot j).seq)
      ∧ (t.lane g.lane).inflight = (s.lane g.lane).inflight ++ [{
          kind := .dump, seg := none, block := g.block, unit := g.assigned, slots := slots, fillers := 16 - n, trailer := false,
          expiry := s.now + 1000 * s.params.programTimeout }]
      ∧ (t.lane g.lane).unitsIssued = (s.lane g.lane).unitsIssued + 1
      ∧ t.laneLink g.lane = s.laneLink g.lane
          ++ [.parcel (programBytes .dump g.block g.assigned (16 - n) (slots.map s.sectorBytes))]
      ∧ t.dump.cursor = (match (slots.drop (min 16 s.redoInUse.length)).getLast? with
          | none => s.dump.cursor
          | some k => some (s.slot k).seq)
      ∧ t.dump.first = s.dump.first ∧ t.dump.last = s.dump.last ∧ t.dump.sectors = s.dump.sectors ∧ t.dump.units = s.dump.units
      ∧ t.dump.phase = .filling ∧ t.part = .dumping
      ∧ t.dump.remaining = s.dump.remaining - 1 ∧ t.dump.redo = s.redoInUse.drop 16
      ∧ (∃ more, t.dump.taken = taken ++ { g with assigned := g.assigned + 1 } :: more)
      ∧ (g.assigned + 1 < g.capacity → t.dump.taken = taken ++ [{ g with assigned := g.assigned + 1 }]
          ∧ ∀ j, (t.lane j).dump = (s.lane j).dump)
      ∧ (g.capacity ≤ g.assigned + 1 → s.takesNext t g.lane)
      ∧ (∀ j, j ≠ g.lane → (t.lane j).inflight = (s.lane j).inflight ∧ t.laneLink j = s.laneLink j)
      ∧ t.slots = s.slots ∧ t.staging = s.staging ∧ t.returns = s.returns ∧ t.streams = s.streams ∧ t.segments = s.segments
      ∧ t.tenants = s.tenants ∧ t.index = s.index ∧ t.durables = s.durables ∧ t.flushes = s.flushes ∧ t.params = s.params)
  ∧ (∀ (s : State) (taken : List TakenGrant) (g : TakenGrant) (c : Trailer), s.live = true → s.part = .dumping →
    s.dump.phase = .trailing → s.dumpInFlight true = false → 1 ≤ s.dump.remaining → s.dump.taken = taken ++ [g] → g.lane < 8 →
    (s.lane g.lane).up = true → (s.lane g.lane).inflight.length < (s.lane g.lane).window →
    c = { generation := s.dump.generation, first := s.dump.first.getD 0, last := s.dump.last.getD 0, dumped := s.dump.sectors,
          notDumped := s.undumped, units := s.dump.units,
          blocks := (taken ++ [{ g with assigned := g.assigned + 1 }]).filter fun b => 1 ≤ b.assigned } →
    ∃ t, exec .trailerSend s = .next t ∧ t.dump.trailer = some c ∧ t.part = .dumping ∧ t.dump.phase = .trailing ∧ t.dump.remaining = s.dump.remaining - 1
      ∧ (t.lane g.lane).inflight = (s.lane g.lane).inflight ++ [{
          kind := .dump, seg := none, block := g.block, unit := g.assigned, slots := [], fillers := 15, trailer := true,
          expiry := s.now + 1000 * s.params.programTimeout }]
      ∧ t.laneLink g.lane = s.laneLink g.lane
          ++ [.parcel (programBytes .dump g.block g.assigned 15 [tagBytes 0 0 0 0 (2 ^ 48 - 1) ++ c.bytes])]
      ∧ (∃ more, t.dump.taken = taken ++ { g with assigned := g.assigned + 1 } :: more)
      ∧ (g.assigned + 1 < g.capacity → t.dump.taken = taken ++ [{ g with assigned := g.assigned + 1 }]
          ∧ ∀ j, (t.lane j).dump = (s.lane j).dump)
      ∧ (g.capacity ≤ g.assigned + 1 → s.takesNext t g.lane)
      ∧ t.slots = s.slots ∧ t.staging = s.staging ∧ t.returns = s.returns ∧ t.streams = s.streams ∧ t.params = s.params)

/-- The end of the dump (R159, R163): a DONE for a data unit counts its sectors and itself; a DONE for the trailer enters DUMPED with
COMPLETE, or TRUNCATED when the trailer sent counted sectors not dumped. Each resolves its record as any other, and no parcel is enqueued.
That a slot freed since the composition still shows its sequence to the account of R159 is the model's reading (log 18). ANSWER with FAIL
for a DUMP data record (R119, R160): the record leaves the list, the lane's units failed rises, its slots still in use that are not yet on
the redo list join it, its position stays assigned, and no parcel is enqueued. A DONE moves the first and last dumped sequences to the
lowest and highest seen (R159). A FAIL for the trailer leaves its position assigned, the redo list and the counts as they were and the
engine TRAILING, so that it sends again while capacity is left (R163). After a DONE for a data unit or a FAIL, FILLING becomes TRAILING
under the conditions of R162, and with the capacity used and no trailer in flight the part is DUMPED with FAILED (R163). -/
def Obligations.DumpAnswersCountReturnOrEnd : Prop :=
  (∀ (s : State) (lane : Fin 8) (l i : Nat) (w : Waiting) (r : InFlight), l = lane.val → s.takeable l = some w → s.part = .dumping →
      headKind w.head = 0x31 → headBodyUnits w.head = 0 → field w.head 14 1 = 1 →
      (s.lane l).inflight[i]? = some r → r.block = answerBlock w.head → r.unit = answerUnit w.head →
      (∀ j q, j < i → (s.lane l).inflight[j]? = some q → ¬ (q.block = answerBlock w.head ∧ q.unit = answerUnit w.head)) →
      r.kind = .dump → Store.canon {} s.lanes = true →
      ∃ t, exec (.answer lane) s = .next t ∧ t.returns = s.returns ∧ t.slots = s.slots
        ∧ (t.lane l).inflight = (s.lane l).inflight.eraseIdx i ∧ (t.lane l).consecutive = 0 ∧ (t.lane l).done = (s.lane l).done + 1
        ∧ (r.trailer = false → t.dump.sectors = s.dump.sectors + r.slots.length ∧ t.dump.units = s.dump.units + 1
            ∧ t.dump.redo = s.dump.redo ∧ t.dump.cursor = s.dump.cursor ∧ t.dump.taken = s.dump.taken
            ∧ t.dump.remaining = s.dump.remaining ∧ t.dumpSettled s.dump.phase
            ∧ (r.slots ≠ [] → ∃ low high, t.dump.first = some low ∧ t.dump.last = some high
                ∧ (∀ k ∈ r.slots, low ≤ (s.slot k).seq ∧ (s.slot k).seq ≤ high)
                ∧ (∀ q, s.dump.first = some q → low ≤ q) ∧ (∀ q, s.dump.last = some q → q ≤ high)
                ∧ (s.dump.first = some low ∨ ∃ k ∈ r.slots, (s.slot k).seq = low)
                ∧ (s.dump.last = some high ∨ ∃ k ∈ r.slots, (s.slot k).seq = high)))
        ∧ (r.trailer = true → t.part = .dumped ∧ t.dumpact = false ∧ t.dump.phase = .idle
            ∧ ∀ c, s.dump.trailer = some c → t.dumpres = if 0 < c.notDumped then .truncated else .complete))
  ∧ (∀ (s : State) (lane : Fin 8) (l i : Nat) (w : Waiting) (r : InFlight), l = lane.val → s.takeable l = some w → s.part = .dumping →
      s.due = [] → headKind w.head = 0x31 → headBodyUnits w.head = 0 → field w.head 14 1 = 2 →
      (s.lane l).inflight[i]? = some r → r.block = answerBlock w.head → r.unit = answerUnit w.head →
      (∀ j q, j < i → (s.lane l).inflight[j]? = some q → ¬ (q.block = answerBlock w.head ∧ q.unit = answerUnit w.head)) →
      r.kind = .dump → Store.canon {} s.lanes = true →
      ∃ t, exec (.answer lane) s = .next t ∧ t.returns = s.returns ∧ t.slots = s.slots
        ∧ (t.lane l).inflight = (s.lane l).inflight.eraseIdx i ∧ (t.lane l).consecutive = 0 ∧ (t.lane l).failed = (s.lane l).failed + 1
        ∧ (r.trailer = false →
            t.dump.redo.Perm (s.dump.redo ++ r.slots.filter fun k => (s.slot k).inUse && !s.dump.redo.contains k))
        ∧ (r.trailer = true → t.dump.redo = s.dump.redo) ∧ t.dumpSettled s.dump.phase
        ∧ t.dump.cursor = s.dump.cursor ∧ t.dump.first = s.dump.first ∧ t.dump.last = s.dump.last
        ∧ t.dump.taken = s.dump.taken ∧ t.dump.remaining = s.dump.remaining ∧ t.dump.sectors = s.dump.sectors
        ∧ t.dump.units = s.dump.units)

/-- EXPIRY of a DUMP record, a data unit or the trailer, below TIMEOUT-LIMIT (R128, R160, R163): the record leaves the list, units failed,
timeouts and the consecutive timeout counter rise by 1, a data unit's slots still in use join the redo list, the position stays assigned,
and no parcel is enqueued. A lane down in DUMPING (R132, R161), by LANEFLT, or by the expiry of a record of either kind at TIMEOUT-LIMIT,
on a lane with records of both kinds: the lane is DOWN with no record and no grant; the slots of its DUMP data units still in use join the
redo list; the capacities of its dump store, and the unassigned positions of the current grant when that lies on the lane, are lost, and
then, when the current grant lay on it, the engine takes the next grant in grant order, from a later UP lane, wherever one has a dump
grant; no stream requests a segment. After each, the conditions of R162 and R163 are met. The command LANEFLT carries the new level (log
12), the model's clock reaches the expiry (log 1), and that a malformed parcel waiting counts as stray is the model's reading (log 9). -/
def Obligations.DumpExpiryAndLaneDown : Prop :=
  (∀ (s : State) (lane : Fin 8) (l i : Nat) (r : InFlight), l = lane.val → s.live = true → s.part = .dumping → s.due = [] →
      (s.lane l).inflight[i]? = some r → r.kind = .dump → Store.canon {} s.lanes = true →
      (s.lane l).consecutive + 1 < s.params.timeoutLimit → s.params.timeoutLimit ≤ 15 →
      ∃ t, exec (.expiry lane i) s = .next t ∧ t.now = max s.now r.expiry ∧ t.returns = s.returns ∧ t.slots = s.slots
        ∧ (t.lane l).inflight = (s.lane l).inflight.eraseIdx i ∧ (t.lane l).failed = (s.lane l).failed + 1
        ∧ (t.lane l).timeouts = (s.lane l).timeouts + 1 ∧ (t.lane l).consecutive = (s.lane l).consecutive + 1
        ∧ (t.lane l).up = (s.lane l).up ∧ (t.lane l).done = (s.lane l).done
        ∧ (r.trailer = false →
            t.dump.redo.Perm (s.dump.redo ++ r.slots.filter fun k => (s.slot k).inUse && !s.dump.redo.contains k))
        ∧ (r.trailer = true → t.dump.redo = s.dump.redo)
        ∧ t.dump.taken = s.dump.taken ∧ t.dump.remaining = s.dump.remaining ∧ t.dump.cursor = s.dump.cursor
        ∧ t.dump.sectors = s.dump.sectors ∧ t.dump.units = s.dump.units ∧ t.dumpSettled s.dump.phase)
  ∧ (∀ (s : State) (lane : Fin 8) (l : Nat), l = lane.val → s.live = true → s.part = .dumping → s.due = [] → s.Ledger →
      (s.lane l).up = true → s.lines.laneflt.getLsbD l = false →
      ∃ t, exec (.laneflt lane true) s = .next t
        ∧ (t.lane l).up = false ∧ (t.lane l).inflight = [] ∧ (t.lane l).normal = [] ∧ (t.lane l).dump = []
        ∧ (t.lane l).armed = false ∧ (t.lane l).waiting = []
        ∧ (t.lane l).stray = (s.lane l).stray + BitVec.ofNat 32 (s.lane l).waiting.length
        ∧ (t.lane l).failed = (s.lane l).failed + BitVec.ofNat 32 (s.lane l).inflight.length
        ∧ t.returns = s.returns ++ s.failureParcels l [] ((s.lane l).inflight.map fun q => (.laneDown, q)) ++ s.brokenParcels l
            ++ s.grantParcels l ++ [.laneDown l .link (s.lane l).inflight.length]
        ∧ t.starved = s.starved ∧ t.nextSegment = s.nextSegment ∧ s.dumpLoses t l)
  ∧ (∀ (s : State) (lane : Fin 8) (l i : Nat) (r : InFlight), l = lane.val → s.live = true → s.part = .dumping → s.due = [] → s.Ledger →
      (s.lane l).inflight[i]? = some r → s.params.timeoutLimit ≤ (s.lane l).consecutive + 1 → s.params.timeoutLimit ≤ 15 →
      ∃ t, exec (.expiry lane i) s = .next t ∧ t.now = max s.now r.expiry
        ∧ (t.lane l).up = false ∧ (t.lane l).inflight = [] ∧ (t.lane l).normal = [] ∧ (t.lane l).dump = []
        ∧ (t.lane l).timeouts = (s.lane l).timeouts + 1
        ∧ (t.lane l).failed = (s.lane l).failed + BitVec.ofNat 32 (s.lane l).inflight.length
        ∧ t.returns = s.returns
            ++ s.failureParcels l [] ((.timeout, r) :: ((s.lane l).inflight.eraseIdx i).map fun q => (.laneDown, q))
            ++ s.brokenParcels l ++ s.grantParcels l ++ [.laneDown l .timeout ((s.lane l).inflight.length - 1)]
        ∧ t.starved = s.starved ∧ t.nextSegment = s.nextSegment ∧ s.dumpLoses t l)

/-! ## Links and layouts -/

/-- PARCEL_SENT: the head of the return queue goes out on the link, and the rest keep their order (R191). Every command but the sending of
a parcel and RESET_N leaves what is in the return queue in its place and enqueues only at the tail (R191, R192). READY is enqueued at the
release of RESET_N and at no other time (R179). -/
def Obligations.ReturnQueueKeepsOrder : Prop :=
  (∀ (s : State) (p : ReturnParcel) (rest : List ReturnParcel), s.lines.reset = false → s.returns = p :: rest →
      exec .parcelSent s = .next { s with returns := rest, returnLink := s.returnLink ++ [.parcel p.bytes] })
  ∧ (∀ (s : State) (c : Instr) (t : State), exec c s = .next t → c ≠ .parcelSent → c ≠ .resetRelease →
      (∀ r l, c ≠ .resetAssert r l) → s.returns.IsPrefix t.returns)
  ∧ (∀ (s : State) (c : Instr) (t : State), exec c s = .next t → c ≠ .resetRelease → t.returns.count .ready ≤ s.returns.count .ready)

/-- The bytes of every kind of return parcel, each of its head and body, at the places that R181, R187 and R188 give, with 0 in every byte
and flag that the layout does not name, in the tag and function of a NOTICE, and in the function of a PLACED; and the numeric codes of the
statuses, reasons, causes and kinds (R187, R188). -/
def Obligations.ReturnParcelLayout : Prop :=
  ((∀ tag fn st n q, let b := (ReturnParcel.landed tag fn st n q).bytes
      b.length = 16 ∧ bytesAt b 0 1 = 0x20 ∧ bytesAt b 1 3 = 0 ∧ bytesAt b 4 2 = tag.toNat ∧ bytesAt b 6 2 = fn % 65536
        ∧ bytesAt b 8 1 = st.code ∧ bytesAt b 9 1 = n % 256 ∧ bytesAt b 10 6 = q % 2 ^ 48)
    ∧ (∀ seg l blk u es, let b := (ReturnParcel.placed seg l blk u es).bytes
      b.length = 16 + 16 * es.length ∧ bytesAt b 0 1 = 0x21 ∧ bytesAt b 1 1 = 0 ∧ bytesAt b 2 2 = es.length % 65536
        ∧ bytesAt b 4 2 = seg % 65536 ∧ bytesAt b 6 2 = 0
        ∧ bytesAt b 8 1 = l % 256 ∧ bytesAt b 9 1 = es.length % 256 ∧ bytesAt b 10 2 = u % 65536 ∧ bytesAt b 12 4 = blk.toNat
        ∧ ∀ i e, es[i]? = some e →
            bytesAt b (16 + 16 * i) 1 = e.position % 256 ∧ bytesAt b (17 + 16 * i) 1 = e.ns % 256
            ∧ bytesAt b (18 + 16 * i) 2 = e.fn % 65536 ∧ bytesAt b (20 + 16 * i) 5 = e.lba % 2 ^ 40
            ∧ bytesAt b (25 + 16 * i) 6 = e.seq % 2 ^ 48 ∧ bytesAt b (31 + 16 * i) 1 = 0)
    ∧ (∀ n, let b := (ReturnParcel.credit n).bytes
      b.length = 16 ∧ bytesAt b 0 1 = 0x24 ∧ bytesAt b 1 7 = 0 ∧ bytesAt b 8 2 = n % 65536 ∧ bytesAt b 10 6 = 0)
    ∧ (∀ l n, let b := (ReturnParcel.poolLow l n).bytes
      b.length = 16 ∧ bytesAt b 0 1 = 0x2E ∧ bytesAt b 1 7 = 0 ∧ bytesAt b 8 1 = 2 ∧ bytesAt b 9 1 = l % 256
        ∧ bytesAt b 10 1 = n % 256 ∧ bytesAt b 11 5 = 0)
    ∧ (∀ l r seg u blk, let b := (ReturnParcel.programFailed l r seg u blk).bytes
      b.length = 32 ∧ bytesAt b 0 1 = 0x2E ∧ bytesAt b 1 1 = 0 ∧ bytesAt b 2 2 = 1 ∧ bytesAt b 4 4 = 0 ∧ bytesAt b 8 1 = 4
        ∧ bytesAt b 9 1 = l % 256 ∧ bytesAt b 10 1 = r.code ∧ bytesAt b 11 2 = seg % 65536 ∧ bytesAt b 13 2 = u % 65536
        ∧ bytesAt b 15 1 = 0 ∧ bytesAt b 16 4 = blk.toNat ∧ bytesAt b 20 12 = 0)
    ∧ ∀ id g, let b := (ReturnParcel.segmentClosed id g).bytes
      b.length = 32 ∧ bytesAt b 0 1 = 0x2E ∧ bytesAt b 1 1 = 0 ∧ bytesAt b 2 2 = 1 ∧ bytesAt b 4 4 = 0 ∧ bytesAt b 8 1 = 5
        ∧ bytesAt b 9 1 = g.lane % 256 ∧ bytesAt b 10 1 = g.stream % 256 ∧ bytesAt b 11 1 = endCauseCode g.endCause
        ∧ bytesAt b 12 2 = id % 65536 ∧ bytesAt b 14 2 = 0 ∧ bytesAt b 16 4 = g.block.toNat
        ∧ bytesAt b 20 2 = g.capacity % 65536 ∧ bytesAt b 22 2 = g.issued % 65536 ∧ bytesAt b 24 2 = g.done % 65536
        ∧ bytesAt b 26 2 = g.failed % 65536 ∧ bytesAt b 28 4 = 0)
  ∧ (∀ tag fn st q data, let b := (ReturnParcel.peeked tag fn st q data).bytes
      b.length = 16 + data.length ∧ bytesAt b 0 1 = 0x22 ∧ bytesAt b 1 1 = 0 ∧ bytesAt b 2 2 = data.length / 16 % 65536
        ∧ bytesAt b 4 2 = tag.toNat ∧ bytesAt b 6 2 = fn % 65536 ∧ bytesAt b 8 1 = st.code ∧ bytesAt b 9 1 = 0
        ∧ bytesAt b 10 6 = q % 2 ^ 48 ∧ b.drop 16 = data)
  ∧ (∀ tag fn st, let b := (ReturnParcel.flushed tag fn st).bytes
      b.length = 16 ∧ bytesAt b 0 1 = 0x23 ∧ bytesAt b 1 3 = 0 ∧ bytesAt b 4 2 = tag.toNat ∧ bytesAt b 6 2 = fn % 65536
        ∧ bytesAt b 8 1 = st.code ∧ bytesAt b 9 7 = 0)
  ∧ (∀ tag fn code st body, let b := (ReturnParcel.reply tag fn code st body).bytes
      b.length = 16 + body.length ∧ bytesAt b 0 1 = 0x2F ∧ bytesAt b 1 1 = 0 ∧ bytesAt b 2 2 = body.length / 16 % 65536
        ∧ bytesAt b 4 2 = tag.toNat ∧ bytesAt b 6 2 = fn % 65536 ∧ bytesAt b 8 1 = code % 256 ∧ bytesAt b 9 1 = st.code
        ∧ bytesAt b 10 6 = 0 ∧ b.drop 16 = body)
  ∧ (ReturnParcel.ready.bytes = [0x2E, 0, 0, 0, 0, 0, 0, 0, 1, 0, 0, 0, 0, 0, 0, 0])
  ∧ (∀ k, let b := (ReturnParcel.streamStarved k).bytes
      b.length = 16 ∧ bytesAt b 0 1 = 0x2E ∧ bytesAt b 1 7 = 0 ∧ bytesAt b 8 1 = 3 ∧ bytesAt b 9 1 = k % 256 ∧ bytesAt b 10 6 = 0)
  ∧ (∀ l c n, let b := (ReturnParcel.laneDown l c n).bytes
      b.length = 16 ∧ bytesAt b 0 1 = 0x2E ∧ bytesAt b 1 7 = 0 ∧ bytesAt b 8 1 = 6 ∧ bytesAt b 9 1 = l % 256
        ∧ bytesAt b 10 1 = c.code ∧ bytesAt b 11 1 = n % 256 ∧ bytesAt b 12 4 = 0)
  ∧ (∀ l gs, let b := (ReturnParcel.grantReturned l gs).bytes
      b.length = 16 + 16 * gs.length ∧ bytesAt b 0 1 = 0x2E ∧ bytesAt b 1 1 = 0 ∧ bytesAt b 2 2 = gs.length % 65536
        ∧ bytesAt b 4 4 = 0 ∧ bytesAt b 8 1 = 7 ∧ bytesAt b 9 1 = l % 256 ∧ bytesAt b 10 1 = gs.length % 256 ∧ bytesAt b 11 5 = 0
        ∧ ∀ i kind g, gs[i]? = some (kind, g) → bytesAt b (16 + 16 * i) 1 = (if kind = .dump then 1 else 0)
            ∧ bytesAt b (17 + 16 * i) 3 = 0 ∧ bytesAt b (20 + 16 * i) 4 = g.block.toNat
            ∧ bytesAt b (24 + 16 * i) 2 = g.capacity % 65536 ∧ bytesAt b (26 + 16 * i) 6 = 0)
  ∧ ([LandedStatus.ok, .noTenant, .noRoute, .tenantFull, .malformed, .overrun].map LandedStatus.code = [0, 1, 2, 3, 4, 5]
    ∧ [PeekedStatus.found, .notStaged, .noTenant].map PeekedStatus.code = [0, 1, 2]
    ∧ [FlushedStatus.ok, .noTenant, .busy].map FlushedStatus.code = [0, 1, 2]
    ∧ [Status.ok, .badRequest, .badField, .wrongState, .notQuiet, .inUse, .windowConflict, .badRanges, .full, .laneDown].map Status.code
        = [0, 1, 2, 3, 4, 5, 6, 7, 8, 9]
    ∧ [FailReason.programError, .blockRetired, .addressError, .timeout, .laneDown].map FailReason.code = [1, 2, 3, 4, 5]
    ∧ [some EndCause.full, some .broken, some .rotated].map endCauseCode = [1, 2, 3]
    ∧ [DownCause.link, .timeout].map DownCause.code = [0, 1] ∧ [UnitKind.normal, .dump].map UnitKind.code = [0, 1]
    ∧ [DumpResult.none, .complete, .truncated, .failed].map DumpResult.code = [0, 1, 2, 3])

/-- A PROGRAM parcel holds its block id, unit index, kind and filler count at the bytes R189 gives, and then sixteen sectors of 4112
bytes: the real ones in position order, and fillers, whose tag has FILLER set and all else 0 (R109, R189). A real sector is its tag, with
FILLER clear, and the data of its slot. The 4096 data bytes of the trailer stand at the places that R190 gives. The result body of
GRANT-BLOCKS holds the two counts in its first two bytes (R185). -/
def Obligations.ProgramAndTrailerLayout : Prop :=
  (∀ (kind : UnitKind) (block : BitVec 32) (unit fillers : Nat) (sectors : List (List Byte)) (b : List Byte),
      (∀ x ∈ sectors, x.length = 4112) → sectors.length + fillers = 16 → b = programBytes kind block unit fillers sectors →
      b.length = 16 + 16 * 4112 ∧ bytesAt b 0 1 = 0x30 ∧ bytesAt b 1 1 = 0 ∧ bytesAt b 2 2 = 4112 ∧ bytesAt b 4 4 = 0
        ∧ bytesAt b 8 4 = block.toNat ∧ bytesAt b 12 2 = unit % 65536 ∧ bytesAt b 14 1 = (if kind = .dump then 1 else 0)
        ∧ bytesAt b 15 1 = fillers
        ∧ (∀ i x, sectors[i]? = some x → (b.drop (16 + 4112 * i)).take 4112 = x)
        ∧ ∀ i, sectors.length ≤ i → i < 16 → (b.drop (16 + 4112 * i)).take 4112 = 1 :: List.replicate 4111 0)
  ∧ (∀ (s : State) (k : Nat), (s.sectorBytes k).length = 4112 ∧ bytesAt (s.sectorBytes k) 0 1 = 0
      ∧ bytesAt (s.sectorBytes k) 1 1 = (s.slot k).ns % 256 ∧ bytesAt (s.sectorBytes k) 2 2 = (s.slot k).fn % 65536
      ∧ bytesAt (s.sectorBytes k) 4 5 = (s.slot k).lba % 2 ^ 40 ∧ bytesAt (s.sectorBytes k) 9 6 = (s.slot k).seq % 2 ^ 48
      ∧ bytesAt (s.sectorBytes k) 15 1 = 0
      ∧ ∀ i, i < 4096 → (s.sectorBytes k).getD (16 + i) 0 = readByte s.staging (4096 * k + i))
  ∧ (∀ c : Trailer, c.blocks.length ≤ 32 →
      c.bytes.length = 4096 ∧ c.bytes.take 4 = [0x44, 0x56, 0x47, 0x50] ∧ bytesAt c.bytes 4 4 = c.generation % 2 ^ 32
        ∧ bytesAt c.bytes 8 6 = c.first % 2 ^ 48 ∧ bytesAt c.bytes 14 6 = c.last % 2 ^ 48
        ∧ bytesAt c.bytes 20 4 = c.dumped % 2 ^ 32 ∧ bytesAt c.bytes 24 4 = c.notDumped % 2 ^ 32
        ∧ bytesAt c.bytes 28 4 = c.units % 2 ^ 32 ∧ bytesAt c.bytes 32 1 = (if 0 < c.notDumped then 1 else 0)
        ∧ bytesAt c.bytes 33 1 = c.blocks.length
        ∧ (∀ i g, c.blocks[i]? = some g → bytesAt c.bytes (34 + 7 * i) 1 = g.lane % 256
            ∧ bytesAt c.bytes (35 + 7 * i) 4 = g.block.toNat ∧ bytesAt c.bytes (39 + 7 * i) 2 = g.assigned % 65536)
        ∧ ∀ i, 34 + 7 * c.blocks.length ≤ i → i < 4096 → c.bytes.getD i 0 = 0)
  ∧ (∀ n d : Nat, (countsBody n d).length = 16 ∧ bytesAt (countsBody n d) 0 1 = n % 256 ∧ bytesAt (countsBody n d) 1 1 = d % 256
      ∧ bytesAt (countsBody n d) 2 14 = 0)

/-! ## Whole-machine rules -/

/-- From DUMPING on, and while RESET_N is asserted, no ingress command, issue or timer expiry changes anything (R152, R164, R177). In
DUMPED no command but the sending of return parcels, the lines and RESET_N changes anything (R164). While the ingress gate is closed no
ingress parcel is taken: a command that takes one leaves the state as it is, but that a parcel whose body is whole is then GATED; while
the answer gate is closed no lane parcel is taken (R115, R184, R192). That a command whose conditions do not hold leaves the state as it
is, is the model's reading (log 2); so is that nothing is received in reset (log 15); and that the taking command leaves a whole parcel
GATED is its choice (log 3). -/
def Obligations.PartStateAndGatesHoldCommands : Prop :=
  (∀ (s : State) (c : Instr), s.running = false →
      c ∈ [Instr.write, .heldWriteRetaking, .abortMark, .abortedWriteRelease, .peek, .flush, .parcelDiscarded, .badRequest, .identify,
        .setParam, .setDecayInterval, .setDurableLinger, .setCreditBatch, .setSequenceBase, .setPoolLowMark, .getParam, .putTenant,
        .getTenant, .dropTenant, .putRanges, .getRanges, .putStream, .getStream, .holdStream, .releaseStream, .flushStream,
        .rotateStream, .unbindStream, .grantBlocks, .getLane, .restartLane, .clearPart, .decayExpiry, .lingerClockExpiry,
        .creditLingerExpiry] ∨ (∃ b, c = .landing b) ∨ (∃ h b, c = .parcelHeadArrival h b) ∨ (∃ l, c = .issue l) →
      exec c s = .next s)
  ∧ (∀ (s : State) (c : Instr) (t : State), s.part = .dumped → exec c s = .next t → c ≠ .parcelSent → c ≠ .resetRelease →
      (∀ r l, c ≠ .resetAssert r l) → t = { s with lines := t.lines } ∧ t.lines.reset = s.lines.reset)
  ∧ ((∀ (s : State) (c : Instr), s.ingressGateOpen = false →
      c ∈ [Instr.write, .heldWriteRetaking, .abortedWriteRelease, .peek, .flush, .badRequest, .identify, .setParam, .setDecayInterval,
        .setDurableLinger, .setCreditBatch, .setSequenceBase, .setPoolLowMark, .getParam, .putTenant, .getTenant, .dropTenant, .putRanges,
        .getRanges, .putStream, .getStream, .holdStream, .releaseStream, .flushStream, .rotateStream, .unbindStream, .grantBlocks, .getLane,
        .restartLane, .clearPart] →
      exec c s = .next s ∨ ∃ a, s.parser = .receiving a ∧ exec c s = .next { s with parser := .gated a })
    ∧ ∀ (s : State) (lane : Fin 8), s.answerGateOpen = false →
      exec (.answer lane) s = .next s ∧ exec (.malformedLaneParcel lane) s = .next s)

/-- No step changes a byte of a slot that is not FREE, until RESET_N (R52). -/
def Obligations.SlotDataKeptUntilFreed : Prop :=
  ∀ (s : State) (c : Instr) (t : State) (k i : Nat), exec c s = .next t → (s.slot k).state ≠ .free → i < 4096 →
    c ≠ .resetRelease → (∀ r l, c ≠ .resetAssert r l) →
    readByte t.staging (4096 * k + i) = readByte s.staging (4096 * k + i)

/-- Every step keeps the canonical form of every table and of staging memory. The form is the one the model keeps its tables in, and a
byte in which nothing has landed reads as 0 (log 6). -/
def Obligations.StepKeepsCanonicalForm : Prop := ∀ s t : State, s.canonical = true → step s = .next t → t.canonical = true

/-- Every step keeps the law of the range entries (R4). Every step keeps the law of the windows: each valid tenant's window sorted with
disjoint runs, and no range entry in the windows of two valid tenants (R6, R7, R11). -/
def Obligations.StepKeepsRangeAndWindowLaws : Prop :=
  (∀ s t : State, s.canonical = true → s.rangesLawful → step s = .next t → t.rangesLawful)
  ∧ (∀ s t : State, s.canonical = true → s.windowsLawful → step s = .next t → t.windowsLawful)

/-- Every step keeps every part-wide parameter in its range (R170, R171). Every step keeps the law of the lanes: at most 32 records, none
and no grant on a DOWN lane, the grant counts and capacities in range, and an armed lane above its mark (R79, R80, R82, R98, R101). -/
def Obligations.StepKeepsParamAndLaneLaws : Prop :=
  (∀ s t : State, s.params.lawful → step s = .next t → t.params.lawful)
  ∧ (∀ s t : State, s.canonical = true → s.lanesLawful → step s = .next t → t.lanesLawful)

/-- Every step keeps the values of the stream contexts, and pad pending only over a non-empty tail (R53, R67). Every step keeps the
starvation list at exactly the STARVED streams, each once (R87). In a state that obeys the ledger, every step keeps each stream's
in-flight count at the number of its units in flight, and an UNBOUND stream without queue, pad and units (R53, R55, R123); and with that
it keeps what RUN rests in: no IDLE stream with a ready unit, and no POOL-LOW due (R56, R82). -/
def Obligations.StepKeepsStreamAndStarvationLaws : Prop :=
  (∀ s t : State, s.streamsLawful → step s = .next t → t.streamsLawful)
  ∧ (∀ s t : State, s.starvationLawful → step s = .next t → t.starvationLawful)
  ∧ (∀ s t : State, s.Ledger → s.unitsLawful → step s = .next t → t.unitsLawful)
  ∧ (∀ s t : State, s.Ledger → s.unitsLawful → s.calmInRun → step s = .next t → t.calmInRun)

/-- Every step keeps the landing law: the sequence counter at most 2^48−1, a whole WRITE with all its blocks landed, a held WRITE framed
correctly and landed whole (R37, R43, R184). The landing sequence counter never falls but at RESET_N and at a SET-PARAM of SEQUENCE-BASE
(R43). -/
def Obligations.StepKeepsLandingLaw : Prop :=
  (∀ s t : State, s.landingLawful → step s = .next t → t.landingLawful)
  ∧ (∀ (s : State) (c : Instr) (t : State), exec c s = .next t → c ≠ .setSequenceBase → c ≠ .resetRelease →
      (∀ r l, c ≠ .resetAssert r l) → s.sequence ≤ t.sequence)

/-- Every step keeps, in a state that obeys the ledger, the laws of where a slot stands: the LANDING slots are those of the WRITE that the
parser handles; every STAGED slot is in the queue of its stream and in no other, each queue in strictly ascending landing sequence (R66);
every ISSUED slot is in one in-flight record; no two in-use slots share a landing sequence, and the counter is above them all (R43); every
landing index entry names an in-use slot of its key, the one with the highest landing sequence (R45). -/
def Obligations.StepKeepsSlotPlacesAndIndex : Prop :=
  ∀ s t : State, s.Ledger → step s = .next t →
    t.landingSlotsLawful ∧ t.queuesLawful ∧ t.issuedSlotsLawful ∧ t.sequencesLawful ∧ t.indexLawful

/-- Every step keeps, in a state that obeys the ledger, the counts: a tenant's staged count is the number of its in-use slots (R3);
credits outstanding do not exceed the FREE slots (R29); a durable write record's remaining count is the number of slots that refer to it
(R138); a flush record's count is the number of its tenant's marked slots (R144). -/
def Obligations.StepKeepsCounts : Prop := ∀ s t : State, s.Ledger → step s = .next t → t.countsLawful

/-- Every step keeps, in a state that obeys the ledger, the laws of the segments: units issued within the capacity, done + failed +
outstanding equal to issued, a DRAINING segment with a unit outstanding (R83, R89, R90, R92), and a stream's open segment its one OPEN
segment, on a lane of its lane set (R83, R85). In a state that obeys the ledger at most 512 segments are in use, so that a request always
finds a free entry (R83). -/
def Obligations.StepKeepsSegmentLaws : Prop :=
  (∀ s t : State, s.Ledger → step s = .next t → t.segmentsLawful ∧ t.openSegmentsLawful ∧ t.lanesExist)
  ∧ (∀ s : State, s.Ledger → s.segments.length ≤ 512 ∧ (s.segments.filter fun e => e.2.endCause.isNone).length ≤ 256
      ∧ (s.segments.filter fun e => e.2.endCause.isSome).length ≤ 256)

/-- Every step keeps, in a state that obeys the ledger, the law of the dump engine. In RUN the engine is at its reset values. In DUMPING
the remaining capacity is the unassigned positions of the current grant, while its lane is UP, and the capacities in the dump stores of UP
lanes, and those stores are empty once the current grant has no position left; the redo list is in ascending landing sequence, no slot
twice, and at or below the cursor; with no capacity left the trailer is in flight. In DUMPED the phase is IDLE (R151, R154 to R156, R161,
R163). That a FREE slot on the redo list keeps its sequence is the model's reading (log 18). -/
def Obligations.StepKeepsDumpLaw : Prop := ∀ s t : State, s.Ledger → s.dumpLawful → step s = .next t → t.dumpLawful
end

