-- ==== Sys2Proof/Laws/Store.lean ====
section
/-! SUPPORT. The laws of the sparse tables and of staging memory: a read after a write to the same place gives the value written, a
write leaves every other place alone, and every operation keeps the canonical form. -/

namespace Sys2Proof.Machine

variable {α : Type}

/-! ## Reading after writing -/

@[simp] theorem Store.find?_nil (n : Nat) : Store.find? ([] : Store α) n = none := rfl

theorem Store.find?_insert (m : Store α) (n : Nat) (a : α) (k : Nat) :
    Store.find? (Store.insert m n a) k = if k = n then some a else Store.find? m k := by
  induction m with
  | nil => simp [Store.insert, Store.find?]
  | cons e t ih =>
    obtain ⟨j, v⟩ := e
    simp only [Store.insert]
    split
    · simp [Store.find?]
    · split
      · subst_vars; simp only [Store.find?]; split <;> simp_all
      · simp only [Store.find?, ih]
        split
        · split <;> simp_all
        · rfl

@[simp] theorem Store.find?_insert_self (m : Store α) (n : Nat) (a : α) :
    Store.find? (Store.insert m n a) n = some a := by simp [Store.find?_insert]

theorem Store.find?_insert_ne (m : Store α) {n k : Nat} (a : α) (h : k ≠ n) :
    Store.find? (Store.insert m n a) k = Store.find? m k := by simp [Store.find?_insert, h]

theorem Store.find?_erase (m : Store α) (n k : Nat) :
    Store.find? (Store.erase m n) k = if k = n then none else Store.find? m k := by
  induction m with
  | nil => simp [Store.erase]
  | cons e t ih =>
    obtain ⟨j, v⟩ := e
    simp only [Store.erase, List.filter_cons] at ih ⊢
    split
    · simp only [Store.find?]; rw [ih]; split
      · subst_vars; split <;> simp_all
      · rfl
    · simp only [Store.find?]; rw [ih]
      split
      · rfl
      · split <;> simp_all

@[simp] theorem Store.find?_erase_self (m : Store α) (n : Nat) : Store.find? (Store.erase m n) n = none := by
  simp [Store.find?_erase]

theorem Store.find?_erase_ne (m : Store α) {n k : Nat} (h : k ≠ n) :
    Store.find? (Store.erase m n) k = Store.find? m k := by simp [Store.find?_erase, h]

/-- Reading a table after a write: the value written under its key, and what stood there under every other key. -/
theorem Store.getD_setD [DecidableEq α] (d : α) (m : Store α) (n : Nat) (a : α) (k : Nat) :
    Store.getD d (Store.setD d m n a) k = if k = n then a else Store.getD d m k := by
  unfold Store.getD Store.setD
  split
  · rw [Store.find?_erase]; split <;> simp_all
  · rw [Store.find?_insert]; split <;> simp_all

@[simp] theorem Store.getD_setD_self [DecidableEq α] (d : α) (m : Store α) (n : Nat) (a : α) :
    Store.getD d (Store.setD d m n a) n = a := by simp [Store.getD_setD]

theorem Store.getD_setD_ne [DecidableEq α] (d : α) (m : Store α) {n k : Nat} (a : α) (h : k ≠ n) :
    Store.getD d (Store.setD d m n a) k = Store.getD d m k := by simp [Store.getD_setD, h]

@[simp] theorem Store.getD_nil (d : α) (n : Nat) : Store.getD d ([] : Store α) n = d := rfl

/-! ## Sorted and canonical tables -/

theorem Store.sorted_cons (e : Nat × α) (t : Store α) :
    Store.sorted (e :: t) = true ↔ (∀ x ∈ t, e.1 < x.1) ∧ Store.sorted t = true := by
  simp [Store.sorted]

theorem Store.sorted_iff (m : Store α) : Store.sorted m = true ↔ m.Pairwise (fun x y => x.1 < y.1) := by
  induction m with
  | nil => simp [Store.sorted]
  | cons e t ih => rw [Store.sorted_cons, List.pairwise_cons, ih]

/-- What stands under a key of a sorted table is what is listed under it. -/
theorem Store.find?_eq_some_iff {m : Store α} (h : Store.sorted m = true) (n : Nat) (a : α) :
    Store.find? m n = some a ↔ (n, a) ∈ m := by
  induction m with
  | nil => simp
  | cons e t ih =>
    obtain ⟨k, v⟩ := e
    rw [Store.sorted_cons] at h
    simp only [Store.find?, List.mem_cons, Prod.mk.injEq]
    split
    · rename_i hk
      subst hk
      constructor
      · intro hv; exact .inl ⟨rfl, (Option.some.inj hv).symm⟩
      · rintro (⟨-, rfl⟩ | hm)
        · rfl
        · exact absurd (h.1 _ hm) (by simp)
    · rename_i hk
      rw [ih h.2]
      simp [hk]

theorem Store.mem_insert {m : Store α} {n : Nat} {a : α} {x : Nat × α} (h : x ∈ Store.insert m n a) : x = (n, a) ∨ x ∈ m := by
  induction m with
  | nil => simpa [Store.insert] using h
  | cons e t ih =>
    obtain ⟨k, v⟩ := e
    simp only [Store.insert] at h
    split at h
    · simpa using h
    · split at h
      · rcases List.mem_cons.1 h with h | h
        · exact .inl h
        · exact .inr (List.mem_cons_of_mem _ h)
      · rcases List.mem_cons.1 h with h | h
        · exact .inr (by simp [h])
        · exact (ih h).imp id (List.mem_cons_of_mem _)

theorem Store.sorted_insert {m : Store α} (h : Store.sorted m = true) (n : Nat) (a : α) :
    Store.sorted (Store.insert m n a) = true := by
  induction m with
  | nil => simp [Store.insert, Store.sorted]
  | cons e t ih =>
    obtain ⟨k, v⟩ := e
    have h' := h
    rw [Store.sorted_cons] at h
    simp only [Store.insert]
    split
    · rename_i hn
      rw [Store.sorted_cons]
      refine ⟨fun x hx => ?_, h'⟩
      rcases List.mem_cons.1 hx with rfl | hx
      · exact hn
      · exact Nat.lt_trans hn (h.1 x hx)
    · split
      · subst_vars; rw [Store.sorted_cons]; exact h
      · rename_i h1 h2
        rw [Store.sorted_cons]
        refine ⟨fun x hx => ?_, ih h.2⟩
        rcases Store.mem_insert hx with rfl | hx
        · show k < n; omega
        · exact h.1 x hx

theorem Store.sorted_filter {m : Store α} (h : Store.sorted m = true) (p : Nat × α → Bool) :
    Store.sorted (m.filter p) = true := by
  rw [Store.sorted_iff] at h ⊢
  exact h.filter p

theorem Store.sorted_erase {m : Store α} (h : Store.sorted m = true) (n : Nat) : Store.sorted (Store.erase m n) = true :=
  Store.sorted_filter h _

theorem Store.canon_iff [DecidableEq α] (d : α) (m : Store α) :
    Store.canon d m = true ↔ Store.sorted m = true ∧ ∀ x ∈ m, x.2 ≠ d := by
  simp [Store.canon]

/-- A write keeps the canonical form. -/
theorem Store.canon_setD [DecidableEq α] {d : α} {m : Store α} (h : Store.canon d m = true) (n : Nat) (a : α) :
    Store.canon d (Store.setD d m n a) = true := by
  rw [Store.canon_iff] at h ⊢
  unfold Store.setD
  split
  · exact ⟨Store.sorted_erase h.1 n, fun x hx => h.2 x (List.mem_of_mem_filter hx)⟩
  · rename_i ha
    refine ⟨Store.sorted_insert h.1 n a, fun x hx => ?_⟩
    rcases Store.mem_insert hx with rfl | hx
    · exact ha
    · exact h.2 x hx

/-- A map over a table keeps the canonical form. -/
theorem Store.canon_mapD [DecidableEq α] {d : α} {m : Store α} (h : Store.canon d m = true) (f : α → α) :
    Store.canon d (Store.mapD d f m) = true := by
  rw [Store.canon_iff] at h ⊢
  unfold Store.mapD
  refine ⟨Store.sorted_filter ?_ _, fun x hx => by simpa using (List.mem_filter.1 hx).2⟩
  rw [Store.sorted_iff, List.pairwise_map]
  exact (Store.sorted_iff m).1 h.1

/-- Reading a mapped table: the map of what stood there. -/
theorem Store.getD_mapD [DecidableEq α] {d : α} {m : Store α} (h : Store.sorted m = true) (f : α → α) (hf : f d = d) (n : Nat) :
    Store.getD d (Store.mapD d f m) n = f (Store.getD d m n) := by
  induction m with
  | nil => simp [Store.mapD, hf]
  | cons e t ih =>
    obtain ⟨k, v⟩ := e
    rw [Store.sorted_cons] at h
    have ih := ih h.2
    simp only [Store.mapD, Store.getD, List.map_cons, List.filter_cons] at ih ⊢
    split
    · simp only [Store.find?]
      split
      · rfl
      · exact ih
    · rename_i hd
      simp only [Store.find?]
      split
      · rename_i hk
        have hv : f v = d := by simpa using hd
        rw [ih]
        have hn : Store.find? t n = none := by
          by_contra hc
          obtain ⟨w, hw⟩ := Option.ne_none_iff_exists'.1 hc
          have := h.1 _ ((Store.find?_eq_some_iff h.2 n w).1 hw)
          simp at this; omega
        simp [hn, hv, hf]
      · exact ih

/-! ## Searching for a number -/

theorem firstFrom_eq_some {p : Nat → Bool} {fuel n k : Nat} :
    firstFrom p fuel n = some k ↔ n ≤ k ∧ k < n + fuel ∧ p k = true ∧ ∀ j, n ≤ j → j < k → p j = false := by
  induction fuel generalizing n with
  | zero => simp [firstFrom]; omega
  | succ fuel ih =>
    simp only [firstFrom]
    split
    · rename_i hp
      constructor
      · intro h; cases h; exact ⟨by omega, by omega, hp, fun j h1 h2 => by omega⟩
      · rintro ⟨h1, h2, h3, h4⟩
        by_contra hc
        have : n < k := by
          rcases Nat.lt_or_ge n k with h | h
          · exact h
          · exact absurd (by congr; omega) hc
        simp [h4 n (Nat.le_refl n) this] at hp
    · rename_i hp
      rw [ih]
      constructor
      · rintro ⟨h1, h2, h3, h4⟩
        refine ⟨by omega, by omega, h3, fun j hj hk => ?_⟩
        rcases Nat.eq_or_lt_of_le hj with rfl | hj
        · simpa using hp
        · exact h4 j hj hk
      · rintro ⟨h1, h2, h3, h4⟩
        have : n ≠ k := by rintro rfl; exact hp h3
        exact ⟨by omega, by omega, h3, fun j hj hk => h4 j (by omega) hk⟩

theorem firstFrom_eq_none {p : Nat → Bool} {fuel n : Nat} :
    firstFrom p fuel n = none ↔ ∀ j, n ≤ j → j < n + fuel → p j = false := by
  induction fuel generalizing n with
  | zero => simp [firstFrom]; omega
  | succ fuel ih =>
    simp only [firstFrom]
    split
    · rename_i hp
      simp only [reduceCtorEq, false_iff]
      intro h; simp [h n (Nat.le_refl n) (by omega)] at hp
    · rename_i hp
      rw [ih]
      constructor
      · intro h j h1 h2
        rcases Nat.eq_or_lt_of_le h1 with rfl | h1
        · simpa using hp
        · exact h j h1 (by omega)
      · intro h j h1 h2; exact h j (by omega) (by omega)

/-! ## Staging memory -/

theorem Store.find?_append (m m' : Store α) (n : Nat) :
    Store.find? (m ++ m') n = (Store.find? m n).or (Store.find? m' n) := by
  induction m with
  | nil => simp
  | cons e t ih =>
    obtain ⟨k, v⟩ := e
    simp only [List.cons_append, Store.find?, ih]
    split <;> simp

theorem Store.find?_filter_key (m : Store α) (p : Nat → Bool) (n : Nat) :
    Store.find? (m.filter fun e => p e.1) n = if p n = true then Store.find? m n else none := by
  induction m with
  | nil => simp
  | cons e t ih =>
    obtain ⟨k, v⟩ := e
    simp only [List.filter_cons]
    split
    · simp only [Store.find?, ih]
      split
      · subst_vars; simp_all
      · rfl
    · simp only [Store.find?, ih]
      split
      · split
        · subst_vars; simp_all
        · rfl
      · rfl

theorem mem_cellsOf {a : Nat} {bs : List Byte} {e : Host.Cell} (h : e ∈ cellsOf a bs) :
    a ≤ e.1 ∧ e.1 < a + bs.length ∧ e.2 ≠ unwritten := by
  induction bs generalizing a with
  | nil => simp [cellsOf] at h
  | cons b bs ih =>
    simp only [cellsOf] at h
    split at h
    · have := ih h
      exact ⟨by omega, by simp only [List.length_cons]; omega, this.2.2⟩
    · rename_i hb
      rcases List.mem_cons.1 h with rfl | h
      · exact ⟨Nat.le_refl _, by simp, hb⟩
      · have := ih h
        exact ⟨by omega, by simp only [List.length_cons]; omega, this.2.2⟩

theorem sorted_cellsOf (a : Nat) (bs : List Byte) : Store.sorted (cellsOf a bs) = true := by
  induction bs generalizing a with
  | nil => rfl
  | cons b bs ih =>
    simp only [cellsOf]
    split
    · exact ih (a + 1)
    · rw [Store.sorted_cons]
      exact ⟨fun x hx => by have := mem_cellsOf hx; show a < x.1; omega, ih (a + 1)⟩

theorem getD_cellsOf (a : Nat) (bs : List Byte) (i : Nat) :
    Store.getD unwritten (cellsOf a bs) (a + i) = bs.getD i 0 := by
  induction bs generalizing a i with
  | nil => simp [cellsOf]
  | cons b bs ih =>
    cases i with
    | zero =>
      simp only [cellsOf]
      split
      · rename_i hb
        have hn : Store.find? (cellsOf (a + 1) bs) a = none := by
          by_contra hc
          obtain ⟨w, hw⟩ := Option.ne_none_iff_exists'.1 hc
          have := mem_cellsOf ((Store.find?_eq_some_iff (sorted_cellsOf _ _) _ _).1 hw)
          simp at this
        simp [Store.getD, hn, hb]
      · simp [Store.getD, Store.find?]
    | succ i =>
      have ih := ih (a + 1) i
      rw [show a + 1 + i = a + (i + 1) by omega] at ih
      simp only [cellsOf]
      split
      · simpa using ih
      · simp only [Store.getD, Store.find?] at ih ⊢
        rw [if_neg (by omega)]; simpa using ih

/-- Reading staging memory inside a run just written. -/
theorem readByte_writeBytes_inside (m : List Host.Cell) (a : Nat) (bs : List Byte) {i : Nat} (h : i < bs.length) :
    readByte (writeBytes m a bs) (a + i) = bs.getD i 0 := by
  unfold readByte writeBytes Store.getD
  rw [Store.find?_append, Store.find?_append, Store.find?_filter_key m (fun x => decide (x < a)),
    Store.find?_filter_key m (fun x => decide (a + bs.length ≤ x))]
  rw [if_neg (by simp), if_neg (by simp; omega)]
  simpa [Store.getD] using getD_cellsOf a bs i

/-- Reading staging memory outside a run just written. -/
theorem readByte_writeBytes_outside (m : List Host.Cell) (a : Nat) (bs : List Byte) {x : Nat} (h : x < a ∨ a + bs.length ≤ x) :
    readByte (writeBytes m a bs) x = readByte m x := by
  unfold readByte writeBytes Store.getD
  rw [Store.find?_append, Store.find?_append, Store.find?_filter_key m (fun x => decide (x < a)),
    Store.find?_filter_key m (fun x => decide (a + bs.length ≤ x))]
  have hc : Store.find? (cellsOf a bs) x = none := by
    by_contra hc
    obtain ⟨w, hw⟩ := Option.ne_none_iff_exists'.1 hc
    have := mem_cellsOf ((Store.find?_eq_some_iff (sorted_cellsOf _ _) _ _).1 hw)
    simp at this; omega
  rw [hc]
  rcases h with h | h
  · rw [if_pos (by simpa using h), if_neg (by simp; omega)]; simp
  · rw [if_neg (by simp; omega), if_pos (by simpa using h)]; simp

/-- Writing a run of bytes keeps the canonical form of staging memory. -/
theorem writeBytes_wf {m : List Host.Cell} (h : Memory.wf m = true) (a : Nat) (bs : List Byte) : Memory.wf (writeBytes m a bs) = true := by
  unfold Memory.wf at h ⊢
  rw [Store.canon_iff] at h ⊢
  unfold writeBytes
  constructor
  · have hs := (Store.sorted_iff m).1 h.1
    rw [Store.sorted_iff, List.pairwise_append, List.pairwise_append]
    refine ⟨⟨hs.filter _, (Store.sorted_iff _).1 (sorted_cellsOf a bs), ?_⟩, hs.filter _, ?_⟩
    · intro x hx y hy
      have h1 := (List.mem_filter.1 hx).2
      have h2 := mem_cellsOf hy
      simp at h1; omega
    · intro x hx y hy
      have h2 := (List.mem_filter.1 hy).2
      simp at h2
      rcases List.mem_append.1 hx with hx | hx
      · have h1 := (List.mem_filter.1 hx).2
        simp at h1; omega
      · have h1 := mem_cellsOf hx; omega
  · intro x hx
    rcases List.mem_append.1 hx with hx | hx
    · rcases List.mem_append.1 hx with hx | hx
      · exact h.2 x (List.mem_of_mem_filter hx)
      · exact (mem_cellsOf hx).2.2
    · exact h.2 x (List.mem_of_mem_filter hx)

/-- Staging memory right after reset has the canonical form. -/
theorem reset_staging_wf : Memory.wf State.reset.staging = true := rfl

end Sys2Proof.Machine
end

