-- ==== Sys2Proof/Laws/State.lean ====
section
/-! SUPPORT. What each write of one record leaves in each field of State, and what each table reads as after it. -/

namespace Sys2Proof.Machine

variable (s : State)

/-! ## setTenant -/

@[simp] theorem State.setTenant_pending (t : Nat) (r : Tenant) : (s.setTenant t r).pending = s.pending := rfl
@[simp] theorem State.setTenant_now (t : Nat) (r : Tenant) : (s.setTenant t r).now = s.now := rfl
@[simp] theorem State.setTenant_lines (t : Nat) (r : Tenant) : (s.setTenant t r).lines = s.lines := rfl
@[simp] theorem State.setTenant_part (t : Nat) (r : Tenant) : (s.setTenant t r).part = s.part := rfl
@[simp] theorem State.setTenant_dumpres (t : Nat) (r : Tenant) : (s.setTenant t r).dumpres = s.dumpres := rfl
@[simp] theorem State.setTenant_parser (t : Nat) (r : Tenant) : (s.setTenant t r).parser = s.parser := rfl
@[simp] theorem State.setTenant_tenants (t : Nat) (r : Tenant) : (s.setTenant t r).tenants = Store.setD {} s.tenants t r := rfl
@[simp] theorem State.setTenant_ranges (t : Nat) (r : Tenant) : (s.setTenant t r).ranges = s.ranges := rfl
@[simp] theorem State.setTenant_decayTimer (t : Nat) (r : Tenant) : (s.setTenant t r).decayTimer = s.decayTimer := rfl
@[simp] theorem State.setTenant_lingerClock (t : Nat) (r : Tenant) : (s.setTenant t r).lingerClock = s.lingerClock := rfl
@[simp] theorem State.setTenant_creditTimer (t : Nat) (r : Tenant) : (s.setTenant t r).creditTimer = s.creditTimer := rfl
@[simp] theorem State.setTenant_slots (t : Nat) (r : Tenant) : (s.setTenant t r).slots = s.slots := rfl
@[simp] theorem State.setTenant_staging (t : Nat) (r : Tenant) : (s.setTenant t r).staging = s.staging := rfl
@[simp] theorem State.setTenant_credits (t : Nat) (r : Tenant) : (s.setTenant t r).credits = s.credits := rfl
@[simp] theorem State.setTenant_sequence (t : Nat) (r : Tenant) : (s.setTenant t r).sequence = s.sequence := rfl
@[simp] theorem State.setTenant_index (t : Nat) (r : Tenant) : (s.setTenant t r).index = s.index := rfl
@[simp] theorem State.setTenant_streams (t : Nat) (r : Tenant) : (s.setTenant t r).streams = s.streams := rfl
@[simp] theorem State.setTenant_segments (t : Nat) (r : Tenant) : (s.setTenant t r).segments = s.segments := rfl
@[simp] theorem State.setTenant_nextSegment (t : Nat) (r : Tenant) : (s.setTenant t r).nextSegment = s.nextSegment := rfl
@[simp] theorem State.setTenant_starved (t : Nat) (r : Tenant) : (s.setTenant t r).starved = s.starved := rfl
@[simp] theorem State.setTenant_lanes (t : Nat) (r : Tenant) : (s.setTenant t r).lanes = s.lanes := rfl
@[simp] theorem State.setTenant_durables (t : Nat) (r : Tenant) : (s.setTenant t r).durables = s.durables := rfl
@[simp] theorem State.setTenant_flushes (t : Nat) (r : Tenant) : (s.setTenant t r).flushes = s.flushes := rfl
@[simp] theorem State.setTenant_dump (t : Nat) (r : Tenant) : (s.setTenant t r).dump = s.dump := rfl
@[simp] theorem State.setTenant_params (t : Nat) (r : Tenant) : (s.setTenant t r).params = s.params := rfl
@[simp] theorem State.setTenant_returns (t : Nat) (r : Tenant) : (s.setTenant t r).returns = s.returns := rfl
@[simp] theorem State.setTenant_due (t : Nat) (r : Tenant) : (s.setTenant t r).due = s.due := rfl
@[simp] theorem State.setTenant_arrivals (t : Nat) (r : Tenant) : (s.setTenant t r).arrivals = s.arrivals := rfl
@[simp] theorem State.setTenant_draws (t : Nat) (r : Tenant) : (s.setTenant t r).draws = s.draws := rfl
@[simp] theorem State.setTenant_returnLink (t : Nat) (r : Tenant) : (s.setTenant t r).returnLink = s.returnLink := rfl
@[simp] theorem State.setTenant_laneLinks (t : Nat) (r : Tenant) : (s.setTenant t r).laneLinks = s.laneLinks := rfl
@[simp] theorem State.setTenant_range (t : Nat) (r : Tenant) (x : Nat) : (s.setTenant t r).range x = s.range x := rfl
@[simp] theorem State.setTenant_slot (t : Nat) (r : Tenant) (x : Nat) : (s.setTenant t r).slot x = s.slot x := rfl
@[simp] theorem State.setTenant_stream (t : Nat) (r : Tenant) (x : Nat) : (s.setTenant t r).stream x = s.stream x := rfl
@[simp] theorem State.setTenant_lane (t : Nat) (r : Tenant) (x : Nat) : (s.setTenant t r).lane x = s.lane x := rfl
@[simp] theorem State.setTenant_laneLink (t : Nat) (r : Tenant) (x : Nat) : (s.setTenant t r).laneLink x = s.laneLink x := rfl
theorem State.tenant_setTenant (t : Nat) (r : Tenant) (x : Nat) : (s.setTenant t r).tenant x = if x = t then r else s.tenant x :=
  Store.getD_setD ..
@[simp] theorem State.tenant_setTenant_self (t : Nat) (r : Tenant) : (s.setTenant t r).tenant t = r := Store.getD_setD_self ..
theorem State.tenant_setTenant_ne (t : Nat) (r : Tenant) {x : Nat} (h : x ≠ t) : (s.setTenant t r).tenant x = s.tenant x :=
  Store.getD_setD_ne _ _ _ h

/-! ## setRange -/

@[simp] theorem State.setRange_pending (i : Nat) (r : Range) : (s.setRange i r).pending = s.pending := rfl
@[simp] theorem State.setRange_now (i : Nat) (r : Range) : (s.setRange i r).now = s.now := rfl
@[simp] theorem State.setRange_lines (i : Nat) (r : Range) : (s.setRange i r).lines = s.lines := rfl
@[simp] theorem State.setRange_part (i : Nat) (r : Range) : (s.setRange i r).part = s.part := rfl
@[simp] theorem State.setRange_dumpres (i : Nat) (r : Range) : (s.setRange i r).dumpres = s.dumpres := rfl
@[simp] theorem State.setRange_parser (i : Nat) (r : Range) : (s.setRange i r).parser = s.parser := rfl
@[simp] theorem State.setRange_tenants (i : Nat) (r : Range) : (s.setRange i r).tenants = s.tenants := rfl
@[simp] theorem State.setRange_ranges (i : Nat) (r : Range) : (s.setRange i r).ranges = Store.setD {} s.ranges i r := rfl
@[simp] theorem State.setRange_decayTimer (i : Nat) (r : Range) : (s.setRange i r).decayTimer = s.decayTimer := rfl
@[simp] theorem State.setRange_lingerClock (i : Nat) (r : Range) : (s.setRange i r).lingerClock = s.lingerClock := rfl
@[simp] theorem State.setRange_creditTimer (i : Nat) (r : Range) : (s.setRange i r).creditTimer = s.creditTimer := rfl
@[simp] theorem State.setRange_slots (i : Nat) (r : Range) : (s.setRange i r).slots = s.slots := rfl
@[simp] theorem State.setRange_staging (i : Nat) (r : Range) : (s.setRange i r).staging = s.staging := rfl
@[simp] theorem State.setRange_credits (i : Nat) (r : Range) : (s.setRange i r).credits = s.credits := rfl
@[simp] theorem State.setRange_sequence (i : Nat) (r : Range) : (s.setRange i r).sequence = s.sequence := rfl
@[simp] theorem State.setRange_index (i : Nat) (r : Range) : (s.setRange i r).index = s.index := rfl
@[simp] theorem State.setRange_streams (i : Nat) (r : Range) : (s.setRange i r).streams = s.streams := rfl
@[simp] theorem State.setRange_segments (i : Nat) (r : Range) : (s.setRange i r).segments = s.segments := rfl
@[simp] theorem State.setRange_nextSegment (i : Nat) (r : Range) : (s.setRange i r).nextSegment = s.nextSegment := rfl
@[simp] theorem State.setRange_starved (i : Nat) (r : Range) : (s.setRange i r).starved = s.starved := rfl
@[simp] theorem State.setRange_lanes (i : Nat) (r : Range) : (s.setRange i r).lanes = s.lanes := rfl
@[simp] theorem State.setRange_durables (i : Nat) (r : Range) : (s.setRange i r).durables = s.durables := rfl
@[simp] theorem State.setRange_flushes (i : Nat) (r : Range) : (s.setRange i r).flushes = s.flushes := rfl
@[simp] theorem State.setRange_dump (i : Nat) (r : Range) : (s.setRange i r).dump = s.dump := rfl
@[simp] theorem State.setRange_params (i : Nat) (r : Range) : (s.setRange i r).params = s.params := rfl
@[simp] theorem State.setRange_returns (i : Nat) (r : Range) : (s.setRange i r).returns = s.returns := rfl
@[simp] theorem State.setRange_due (i : Nat) (r : Range) : (s.setRange i r).due = s.due := rfl
@[simp] theorem State.setRange_arrivals (i : Nat) (r : Range) : (s.setRange i r).arrivals = s.arrivals := rfl
@[simp] theorem State.setRange_draws (i : Nat) (r : Range) : (s.setRange i r).draws = s.draws := rfl
@[simp] theorem State.setRange_returnLink (i : Nat) (r : Range) : (s.setRange i r).returnLink = s.returnLink := rfl
@[simp] theorem State.setRange_laneLinks (i : Nat) (r : Range) : (s.setRange i r).laneLinks = s.laneLinks := rfl
@[simp] theorem State.setRange_tenant (i : Nat) (r : Range) (x : Nat) : (s.setRange i r).tenant x = s.tenant x := rfl
@[simp] theorem State.setRange_slot (i : Nat) (r : Range) (x : Nat) : (s.setRange i r).slot x = s.slot x := rfl
@[simp] theorem State.setRange_stream (i : Nat) (r : Range) (x : Nat) : (s.setRange i r).stream x = s.stream x := rfl
@[simp] theorem State.setRange_lane (i : Nat) (r : Range) (x : Nat) : (s.setRange i r).lane x = s.lane x := rfl
@[simp] theorem State.setRange_laneLink (i : Nat) (r : Range) (x : Nat) : (s.setRange i r).laneLink x = s.laneLink x := rfl
theorem State.range_setRange (i : Nat) (r : Range) (x : Nat) : (s.setRange i r).range x = if x = i then r else s.range x :=
  Store.getD_setD ..
@[simp] theorem State.range_setRange_self (i : Nat) (r : Range) : (s.setRange i r).range i = r := Store.getD_setD_self ..
theorem State.range_setRange_ne (i : Nat) (r : Range) {x : Nat} (h : x ≠ i) : (s.setRange i r).range x = s.range x :=
  Store.getD_setD_ne _ _ _ h

/-! ## setSlot -/

@[simp] theorem State.setSlot_pending (k : Nat) (r : Slot) : (s.setSlot k r).pending = s.pending := rfl
@[simp] theorem State.setSlot_now (k : Nat) (r : Slot) : (s.setSlot k r).now = s.now := rfl
@[simp] theorem State.setSlot_lines (k : Nat) (r : Slot) : (s.setSlot k r).lines = s.lines := rfl
@[simp] theorem State.setSlot_part (k : Nat) (r : Slot) : (s.setSlot k r).part = s.part := rfl
@[simp] theorem State.setSlot_dumpres (k : Nat) (r : Slot) : (s.setSlot k r).dumpres = s.dumpres := rfl
@[simp] theorem State.setSlot_parser (k : Nat) (r : Slot) : (s.setSlot k r).parser = s.parser := rfl
@[simp] theorem State.setSlot_tenants (k : Nat) (r : Slot) : (s.setSlot k r).tenants = s.tenants := rfl
@[simp] theorem State.setSlot_ranges (k : Nat) (r : Slot) : (s.setSlot k r).ranges = s.ranges := rfl
@[simp] theorem State.setSlot_decayTimer (k : Nat) (r : Slot) : (s.setSlot k r).decayTimer = s.decayTimer := rfl
@[simp] theorem State.setSlot_lingerClock (k : Nat) (r : Slot) : (s.setSlot k r).lingerClock = s.lingerClock := rfl
@[simp] theorem State.setSlot_creditTimer (k : Nat) (r : Slot) : (s.setSlot k r).creditTimer = s.creditTimer := rfl
@[simp] theorem State.setSlot_slots (k : Nat) (r : Slot) : (s.setSlot k r).slots = Store.setD {} s.slots k r := rfl
@[simp] theorem State.setSlot_staging (k : Nat) (r : Slot) : (s.setSlot k r).staging = s.staging := rfl
@[simp] theorem State.setSlot_credits (k : Nat) (r : Slot) : (s.setSlot k r).credits = s.credits := rfl
@[simp] theorem State.setSlot_sequence (k : Nat) (r : Slot) : (s.setSlot k r).sequence = s.sequence := rfl
@[simp] theorem State.setSlot_index (k : Nat) (r : Slot) : (s.setSlot k r).index = s.index := rfl
@[simp] theorem State.setSlot_streams (k : Nat) (r : Slot) : (s.setSlot k r).streams = s.streams := rfl
@[simp] theorem State.setSlot_segments (k : Nat) (r : Slot) : (s.setSlot k r).segments = s.segments := rfl
@[simp] theorem State.setSlot_nextSegment (k : Nat) (r : Slot) : (s.setSlot k r).nextSegment = s.nextSegment := rfl
@[simp] theorem State.setSlot_starved (k : Nat) (r : Slot) : (s.setSlot k r).starved = s.starved := rfl
@[simp] theorem State.setSlot_lanes (k : Nat) (r : Slot) : (s.setSlot k r).lanes = s.lanes := rfl
@[simp] theorem State.setSlot_durables (k : Nat) (r : Slot) : (s.setSlot k r).durables = s.durables := rfl
@[simp] theorem State.setSlot_flushes (k : Nat) (r : Slot) : (s.setSlot k r).flushes = s.flushes := rfl
@[simp] theorem State.setSlot_dump (k : Nat) (r : Slot) : (s.setSlot k r).dump = s.dump := rfl
@[simp] theorem State.setSlot_params (k : Nat) (r : Slot) : (s.setSlot k r).params = s.params := rfl
@[simp] theorem State.setSlot_returns (k : Nat) (r : Slot) : (s.setSlot k r).returns = s.returns := rfl
@[simp] theorem State.setSlot_due (k : Nat) (r : Slot) : (s.setSlot k r).due = s.due := rfl
@[simp] theorem State.setSlot_arrivals (k : Nat) (r : Slot) : (s.setSlot k r).arrivals = s.arrivals := rfl
@[simp] theorem State.setSlot_draws (k : Nat) (r : Slot) : (s.setSlot k r).draws = s.draws := rfl
@[simp] theorem State.setSlot_returnLink (k : Nat) (r : Slot) : (s.setSlot k r).returnLink = s.returnLink := rfl
@[simp] theorem State.setSlot_laneLinks (k : Nat) (r : Slot) : (s.setSlot k r).laneLinks = s.laneLinks := rfl
@[simp] theorem State.setSlot_tenant (k : Nat) (r : Slot) (x : Nat) : (s.setSlot k r).tenant x = s.tenant x := rfl
@[simp] theorem State.setSlot_range (k : Nat) (r : Slot) (x : Nat) : (s.setSlot k r).range x = s.range x := rfl
@[simp] theorem State.setSlot_stream (k : Nat) (r : Slot) (x : Nat) : (s.setSlot k r).stream x = s.stream x := rfl
@[simp] theorem State.setSlot_lane (k : Nat) (r : Slot) (x : Nat) : (s.setSlot k r).lane x = s.lane x := rfl
@[simp] theorem State.setSlot_laneLink (k : Nat) (r : Slot) (x : Nat) : (s.setSlot k r).laneLink x = s.laneLink x := rfl
theorem State.slot_setSlot (k : Nat) (r : Slot) (x : Nat) : (s.setSlot k r).slot x = if x = k then r else s.slot x :=
  Store.getD_setD ..
@[simp] theorem State.slot_setSlot_self (k : Nat) (r : Slot) : (s.setSlot k r).slot k = r := Store.getD_setD_self ..
theorem State.slot_setSlot_ne (k : Nat) (r : Slot) {x : Nat} (h : x ≠ k) : (s.setSlot k r).slot x = s.slot x :=
  Store.getD_setD_ne _ _ _ h

/-! ## setStream -/

@[simp] theorem State.setStream_pending (k : Nat) (r : Stream) : (s.setStream k r).pending = s.pending := rfl
@[simp] theorem State.setStream_now (k : Nat) (r : Stream) : (s.setStream k r).now = s.now := rfl
@[simp] theorem State.setStream_lines (k : Nat) (r : Stream) : (s.setStream k r).lines = s.lines := rfl
@[simp] theorem State.setStream_part (k : Nat) (r : Stream) : (s.setStream k r).part = s.part := rfl
@[simp] theorem State.setStream_dumpres (k : Nat) (r : Stream) : (s.setStream k r).dumpres = s.dumpres := rfl
@[simp] theorem State.setStream_parser (k : Nat) (r : Stream) : (s.setStream k r).parser = s.parser := rfl
@[simp] theorem State.setStream_tenants (k : Nat) (r : Stream) : (s.setStream k r).tenants = s.tenants := rfl
@[simp] theorem State.setStream_ranges (k : Nat) (r : Stream) : (s.setStream k r).ranges = s.ranges := rfl
@[simp] theorem State.setStream_decayTimer (k : Nat) (r : Stream) : (s.setStream k r).decayTimer = s.decayTimer := rfl
@[simp] theorem State.setStream_lingerClock (k : Nat) (r : Stream) : (s.setStream k r).lingerClock = s.lingerClock := rfl
@[simp] theorem State.setStream_creditTimer (k : Nat) (r : Stream) : (s.setStream k r).creditTimer = s.creditTimer := rfl
@[simp] theorem State.setStream_slots (k : Nat) (r : Stream) : (s.setStream k r).slots = s.slots := rfl
@[simp] theorem State.setStream_staging (k : Nat) (r : Stream) : (s.setStream k r).staging = s.staging := rfl
@[simp] theorem State.setStream_credits (k : Nat) (r : Stream) : (s.setStream k r).credits = s.credits := rfl
@[simp] theorem State.setStream_sequence (k : Nat) (r : Stream) : (s.setStream k r).sequence = s.sequence := rfl
@[simp] theorem State.setStream_index (k : Nat) (r : Stream) : (s.setStream k r).index = s.index := rfl
@[simp] theorem State.setStream_streams (k : Nat) (r : Stream) : (s.setStream k r).streams = Store.setD {} s.streams k r := rfl
@[simp] theorem State.setStream_segments (k : Nat) (r : Stream) : (s.setStream k r).segments = s.segments := rfl
@[simp] theorem State.setStream_nextSegment (k : Nat) (r : Stream) : (s.setStream k r).nextSegment = s.nextSegment := rfl
@[simp] theorem State.setStream_starved (k : Nat) (r : Stream) : (s.setStream k r).starved = s.starved := rfl
@[simp] theorem State.setStream_lanes (k : Nat) (r : Stream) : (s.setStream k r).lanes = s.lanes := rfl
@[simp] theorem State.setStream_durables (k : Nat) (r : Stream) : (s.setStream k r).durables = s.durables := rfl
@[simp] theorem State.setStream_flushes (k : Nat) (r : Stream) : (s.setStream k r).flushes = s.flushes := rfl
@[simp] theorem State.setStream_dump (k : Nat) (r : Stream) : (s.setStream k r).dump = s.dump := rfl
@[simp] theorem State.setStream_params (k : Nat) (r : Stream) : (s.setStream k r).params = s.params := rfl
@[simp] theorem State.setStream_returns (k : Nat) (r : Stream) : (s.setStream k r).returns = s.returns := rfl
@[simp] theorem State.setStream_due (k : Nat) (r : Stream) : (s.setStream k r).due = s.due := rfl
@[simp] theorem State.setStream_arrivals (k : Nat) (r : Stream) : (s.setStream k r).arrivals = s.arrivals := rfl
@[simp] theorem State.setStream_draws (k : Nat) (r : Stream) : (s.setStream k r).draws = s.draws := rfl
@[simp] theorem State.setStream_returnLink (k : Nat) (r : Stream) : (s.setStream k r).returnLink = s.returnLink := rfl
@[simp] theorem State.setStream_laneLinks (k : Nat) (r : Stream) : (s.setStream k r).laneLinks = s.laneLinks := rfl
@[simp] theorem State.setStream_tenant (k : Nat) (r : Stream) (x : Nat) : (s.setStream k r).tenant x = s.tenant x := rfl
@[simp] theorem State.setStream_range (k : Nat) (r : Stream) (x : Nat) : (s.setStream k r).range x = s.range x := rfl
@[simp] theorem State.setStream_slot (k : Nat) (r : Stream) (x : Nat) : (s.setStream k r).slot x = s.slot x := rfl
@[simp] theorem State.setStream_lane (k : Nat) (r : Stream) (x : Nat) : (s.setStream k r).lane x = s.lane x := rfl
@[simp] theorem State.setStream_laneLink (k : Nat) (r : Stream) (x : Nat) : (s.setStream k r).laneLink x = s.laneLink x := rfl
theorem State.stream_setStream (k : Nat) (r : Stream) (x : Nat) : (s.setStream k r).stream x = if x = k then r else s.stream x :=
  Store.getD_setD ..
@[simp] theorem State.stream_setStream_self (k : Nat) (r : Stream) : (s.setStream k r).stream k = r := Store.getD_setD_self ..
theorem State.stream_setStream_ne (k : Nat) (r : Stream) {x : Nat} (h : x ≠ k) : (s.setStream k r).stream x = s.stream x :=
  Store.getD_setD_ne _ _ _ h

/-! ## setLane -/

@[simp] theorem State.setLane_pending (l : Nat) (r : Lane) : (s.setLane l r).pending = s.pending := rfl
@[simp] theorem State.setLane_now (l : Nat) (r : Lane) : (s.setLane l r).now = s.now := rfl
@[simp] theorem State.setLane_lines (l : Nat) (r : Lane) : (s.setLane l r).lines = s.lines := rfl
@[simp] theorem State.setLane_part (l : Nat) (r : Lane) : (s.setLane l r).part = s.part := rfl
@[simp] theorem State.setLane_dumpres (l : Nat) (r : Lane) : (s.setLane l r).dumpres = s.dumpres := rfl
@[simp] theorem State.setLane_parser (l : Nat) (r : Lane) : (s.setLane l r).parser = s.parser := rfl
@[simp] theorem State.setLane_tenants (l : Nat) (r : Lane) : (s.setLane l r).tenants = s.tenants := rfl
@[simp] theorem State.setLane_ranges (l : Nat) (r : Lane) : (s.setLane l r).ranges = s.ranges := rfl
@[simp] theorem State.setLane_decayTimer (l : Nat) (r : Lane) : (s.setLane l r).decayTimer = s.decayTimer := rfl
@[simp] theorem State.setLane_lingerClock (l : Nat) (r : Lane) : (s.setLane l r).lingerClock = s.lingerClock := rfl
@[simp] theorem State.setLane_creditTimer (l : Nat) (r : Lane) : (s.setLane l r).creditTimer = s.creditTimer := rfl
@[simp] theorem State.setLane_slots (l : Nat) (r : Lane) : (s.setLane l r).slots = s.slots := rfl
@[simp] theorem State.setLane_staging (l : Nat) (r : Lane) : (s.setLane l r).staging = s.staging := rfl
@[simp] theorem State.setLane_credits (l : Nat) (r : Lane) : (s.setLane l r).credits = s.credits := rfl
@[simp] theorem State.setLane_sequence (l : Nat) (r : Lane) : (s.setLane l r).sequence = s.sequence := rfl
@[simp] theorem State.setLane_index (l : Nat) (r : Lane) : (s.setLane l r).index = s.index := rfl
@[simp] theorem State.setLane_streams (l : Nat) (r : Lane) : (s.setLane l r).streams = s.streams := rfl
@[simp] theorem State.setLane_segments (l : Nat) (r : Lane) : (s.setLane l r).segments = s.segments := rfl
@[simp] theorem State.setLane_nextSegment (l : Nat) (r : Lane) : (s.setLane l r).nextSegment = s.nextSegment := rfl
@[simp] theorem State.setLane_starved (l : Nat) (r : Lane) : (s.setLane l r).starved = s.starved := rfl
@[simp] theorem State.setLane_lanes (l : Nat) (r : Lane) : (s.setLane l r).lanes = Store.setD {} s.lanes l r := rfl
@[simp] theorem State.setLane_durables (l : Nat) (r : Lane) : (s.setLane l r).durables = s.durables := rfl
@[simp] theorem State.setLane_flushes (l : Nat) (r : Lane) : (s.setLane l r).flushes = s.flushes := rfl
@[simp] theorem State.setLane_dump (l : Nat) (r : Lane) : (s.setLane l r).dump = s.dump := rfl
@[simp] theorem State.setLane_params (l : Nat) (r : Lane) : (s.setLane l r).params = s.params := rfl
@[simp] theorem State.setLane_returns (l : Nat) (r : Lane) : (s.setLane l r).returns = s.returns := rfl
@[simp] theorem State.setLane_due (l : Nat) (r : Lane) : (s.setLane l r).due = s.due := rfl
@[simp] theorem State.setLane_arrivals (l : Nat) (r : Lane) : (s.setLane l r).arrivals = s.arrivals := rfl
@[simp] theorem State.setLane_draws (l : Nat) (r : Lane) : (s.setLane l r).draws = s.draws := rfl
@[simp] theorem State.setLane_returnLink (l : Nat) (r : Lane) : (s.setLane l r).returnLink = s.returnLink := rfl
@[simp] theorem State.setLane_laneLinks (l : Nat) (r : Lane) : (s.setLane l r).laneLinks = s.laneLinks := rfl
@[simp] theorem State.setLane_tenant (l : Nat) (r : Lane) (x : Nat) : (s.setLane l r).tenant x = s.tenant x := rfl
@[simp] theorem State.setLane_range (l : Nat) (r : Lane) (x : Nat) : (s.setLane l r).range x = s.range x := rfl
@[simp] theorem State.setLane_slot (l : Nat) (r : Lane) (x : Nat) : (s.setLane l r).slot x = s.slot x := rfl
@[simp] theorem State.setLane_stream (l : Nat) (r : Lane) (x : Nat) : (s.setLane l r).stream x = s.stream x := rfl
@[simp] theorem State.setLane_laneLink (l : Nat) (r : Lane) (x : Nat) : (s.setLane l r).laneLink x = s.laneLink x := rfl
theorem State.lane_setLane (l : Nat) (r : Lane) (x : Nat) : (s.setLane l r).lane x = if x = l then r else s.lane x :=
  Store.getD_setD ..
@[simp] theorem State.lane_setLane_self (l : Nat) (r : Lane) : (s.setLane l r).lane l = r := Store.getD_setD_self ..
theorem State.lane_setLane_ne (l : Nat) (r : Lane) {x : Nat} (h : x ≠ l) : (s.setLane l r).lane x = s.lane x :=
  Store.getD_setD_ne _ _ _ h

/-! ## setSegment -/

@[simp] theorem State.setSegment_pending (id : Nat) (g : Segment) : (s.setSegment id g).pending = s.pending := rfl
@[simp] theorem State.setSegment_now (id : Nat) (g : Segment) : (s.setSegment id g).now = s.now := rfl
@[simp] theorem State.setSegment_lines (id : Nat) (g : Segment) : (s.setSegment id g).lines = s.lines := rfl
@[simp] theorem State.setSegment_part (id : Nat) (g : Segment) : (s.setSegment id g).part = s.part := rfl
@[simp] theorem State.setSegment_dumpres (id : Nat) (g : Segment) : (s.setSegment id g).dumpres = s.dumpres := rfl
@[simp] theorem State.setSegment_parser (id : Nat) (g : Segment) : (s.setSegment id g).parser = s.parser := rfl
@[simp] theorem State.setSegment_tenants (id : Nat) (g : Segment) : (s.setSegment id g).tenants = s.tenants := rfl
@[simp] theorem State.setSegment_ranges (id : Nat) (g : Segment) : (s.setSegment id g).ranges = s.ranges := rfl
@[simp] theorem State.setSegment_decayTimer (id : Nat) (g : Segment) : (s.setSegment id g).decayTimer = s.decayTimer := rfl
@[simp] theorem State.setSegment_lingerClock (id : Nat) (g : Segment) : (s.setSegment id g).lingerClock = s.lingerClock := rfl
@[simp] theorem State.setSegment_creditTimer (id : Nat) (g : Segment) : (s.setSegment id g).creditTimer = s.creditTimer := rfl
@[simp] theorem State.setSegment_slots (id : Nat) (g : Segment) : (s.setSegment id g).slots = s.slots := rfl
@[simp] theorem State.setSegment_staging (id : Nat) (g : Segment) : (s.setSegment id g).staging = s.staging := rfl
@[simp] theorem State.setSegment_credits (id : Nat) (g : Segment) : (s.setSegment id g).credits = s.credits := rfl
@[simp] theorem State.setSegment_sequence (id : Nat) (g : Segment) : (s.setSegment id g).sequence = s.sequence := rfl
@[simp] theorem State.setSegment_index (id : Nat) (g : Segment) : (s.setSegment id g).index = s.index := rfl
@[simp] theorem State.setSegment_streams (id : Nat) (g : Segment) : (s.setSegment id g).streams = s.streams := rfl
@[simp] theorem State.setSegment_segments (id : Nat) (g : Segment) : (s.setSegment id g).segments = Store.insert s.segments id g := rfl
@[simp] theorem State.setSegment_nextSegment (id : Nat) (g : Segment) : (s.setSegment id g).nextSegment = s.nextSegment := rfl
@[simp] theorem State.setSegment_starved (id : Nat) (g : Segment) : (s.setSegment id g).starved = s.starved := rfl
@[simp] theorem State.setSegment_lanes (id : Nat) (g : Segment) : (s.setSegment id g).lanes = s.lanes := rfl
@[simp] theorem State.setSegment_durables (id : Nat) (g : Segment) : (s.setSegment id g).durables = s.durables := rfl
@[simp] theorem State.setSegment_flushes (id : Nat) (g : Segment) : (s.setSegment id g).flushes = s.flushes := rfl
@[simp] theorem State.setSegment_dump (id : Nat) (g : Segment) : (s.setSegment id g).dump = s.dump := rfl
@[simp] theorem State.setSegment_params (id : Nat) (g : Segment) : (s.setSegment id g).params = s.params := rfl
@[simp] theorem State.setSegment_returns (id : Nat) (g : Segment) : (s.setSegment id g).returns = s.returns := rfl
@[simp] theorem State.setSegment_due (id : Nat) (g : Segment) : (s.setSegment id g).due = s.due := rfl
@[simp] theorem State.setSegment_arrivals (id : Nat) (g : Segment) : (s.setSegment id g).arrivals = s.arrivals := rfl
@[simp] theorem State.setSegment_draws (id : Nat) (g : Segment) : (s.setSegment id g).draws = s.draws := rfl
@[simp] theorem State.setSegment_returnLink (id : Nat) (g : Segment) : (s.setSegment id g).returnLink = s.returnLink := rfl
@[simp] theorem State.setSegment_laneLinks (id : Nat) (g : Segment) : (s.setSegment id g).laneLinks = s.laneLinks := rfl
@[simp] theorem State.setSegment_tenant (id : Nat) (g : Segment) (x : Nat) : (s.setSegment id g).tenant x = s.tenant x := rfl
@[simp] theorem State.setSegment_range (id : Nat) (g : Segment) (x : Nat) : (s.setSegment id g).range x = s.range x := rfl
@[simp] theorem State.setSegment_slot (id : Nat) (g : Segment) (x : Nat) : (s.setSegment id g).slot x = s.slot x := rfl
@[simp] theorem State.setSegment_stream (id : Nat) (g : Segment) (x : Nat) : (s.setSegment id g).stream x = s.stream x := rfl
@[simp] theorem State.setSegment_lane (id : Nat) (g : Segment) (x : Nat) : (s.setSegment id g).lane x = s.lane x := rfl
@[simp] theorem State.setSegment_laneLink (id : Nat) (g : Segment) (x : Nat) : (s.setSegment id g).laneLink x = s.laneLink x := rfl

/-! ## dropSegment -/

@[simp] theorem State.dropSegment_pending (id : Nat) : (s.dropSegment id).pending = s.pending := rfl
@[simp] theorem State.dropSegment_now (id : Nat) : (s.dropSegment id).now = s.now := rfl
@[simp] theorem State.dropSegment_lines (id : Nat) : (s.dropSegment id).lines = s.lines := rfl
@[simp] theorem State.dropSegment_part (id : Nat) : (s.dropSegment id).part = s.part := rfl
@[simp] theorem State.dropSegment_dumpres (id : Nat) : (s.dropSegment id).dumpres = s.dumpres := rfl
@[simp] theorem State.dropSegment_parser (id : Nat) : (s.dropSegment id).parser = s.parser := rfl
@[simp] theorem State.dropSegment_tenants (id : Nat) : (s.dropSegment id).tenants = s.tenants := rfl
@[simp] theorem State.dropSegment_ranges (id : Nat) : (s.dropSegment id).ranges = s.ranges := rfl
@[simp] theorem State.dropSegment_decayTimer (id : Nat) : (s.dropSegment id).decayTimer = s.decayTimer := rfl
@[simp] theorem State.dropSegment_lingerClock (id : Nat) : (s.dropSegment id).lingerClock = s.lingerClock := rfl
@[simp] theorem State.dropSegment_creditTimer (id : Nat) : (s.dropSegment id).creditTimer = s.creditTimer := rfl
@[simp] theorem State.dropSegment_slots (id : Nat) : (s.dropSegment id).slots = s.slots := rfl
@[simp] theorem State.dropSegment_staging (id : Nat) : (s.dropSegment id).staging = s.staging := rfl
@[simp] theorem State.dropSegment_credits (id : Nat) : (s.dropSegment id).credits = s.credits := rfl
@[simp] theorem State.dropSegment_sequence (id : Nat) : (s.dropSegment id).sequence = s.sequence := rfl
@[simp] theorem State.dropSegment_index (id : Nat) : (s.dropSegment id).index = s.index := rfl
@[simp] theorem State.dropSegment_streams (id : Nat) : (s.dropSegment id).streams = s.streams := rfl
@[simp] theorem State.dropSegment_segments (id : Nat) : (s.dropSegment id).segments = Store.erase s.segments id := rfl
@[simp] theorem State.dropSegment_nextSegment (id : Nat) : (s.dropSegment id).nextSegment = s.nextSegment := rfl
@[simp] theorem State.dropSegment_starved (id : Nat) : (s.dropSegment id).starved = s.starved := rfl
@[simp] theorem State.dropSegment_lanes (id : Nat) : (s.dropSegment id).lanes = s.lanes := rfl
@[simp] theorem State.dropSegment_durables (id : Nat) : (s.dropSegment id).durables = s.durables := rfl
@[simp] theorem State.dropSegment_flushes (id : Nat) : (s.dropSegment id).flushes = s.flushes := rfl
@[simp] theorem State.dropSegment_dump (id : Nat) : (s.dropSegment id).dump = s.dump := rfl
@[simp] theorem State.dropSegment_params (id : Nat) : (s.dropSegment id).params = s.params := rfl
@[simp] theorem State.dropSegment_returns (id : Nat) : (s.dropSegment id).returns = s.returns := rfl
@[simp] theorem State.dropSegment_due (id : Nat) : (s.dropSegment id).due = s.due := rfl
@[simp] theorem State.dropSegment_arrivals (id : Nat) : (s.dropSegment id).arrivals = s.arrivals := rfl
@[simp] theorem State.dropSegment_draws (id : Nat) : (s.dropSegment id).draws = s.draws := rfl
@[simp] theorem State.dropSegment_returnLink (id : Nat) : (s.dropSegment id).returnLink = s.returnLink := rfl
@[simp] theorem State.dropSegment_laneLinks (id : Nat) : (s.dropSegment id).laneLinks = s.laneLinks := rfl
@[simp] theorem State.dropSegment_tenant (id : Nat) (x : Nat) : (s.dropSegment id).tenant x = s.tenant x := rfl
@[simp] theorem State.dropSegment_range (id : Nat) (x : Nat) : (s.dropSegment id).range x = s.range x := rfl
@[simp] theorem State.dropSegment_slot (id : Nat) (x : Nat) : (s.dropSegment id).slot x = s.slot x := rfl
@[simp] theorem State.dropSegment_stream (id : Nat) (x : Nat) : (s.dropSegment id).stream x = s.stream x := rfl
@[simp] theorem State.dropSegment_lane (id : Nat) (x : Nat) : (s.dropSegment id).lane x = s.lane x := rfl
@[simp] theorem State.dropSegment_laneLink (id : Nat) (x : Nat) : (s.dropSegment id).laneLink x = s.laneLink x := rfl

/-! ## setIndex -/

@[simp] theorem State.setIndex_pending (key k : Nat) : (s.setIndex key k).pending = s.pending := rfl
@[simp] theorem State.setIndex_now (key k : Nat) : (s.setIndex key k).now = s.now := rfl
@[simp] theorem State.setIndex_lines (key k : Nat) : (s.setIndex key k).lines = s.lines := rfl
@[simp] theorem State.setIndex_part (key k : Nat) : (s.setIndex key k).part = s.part := rfl
@[simp] theorem State.setIndex_dumpres (key k : Nat) : (s.setIndex key k).dumpres = s.dumpres := rfl
@[simp] theorem State.setIndex_parser (key k : Nat) : (s.setIndex key k).parser = s.parser := rfl
@[simp] theorem State.setIndex_tenants (key k : Nat) : (s.setIndex key k).tenants = s.tenants := rfl
@[simp] theorem State.setIndex_ranges (key k : Nat) : (s.setIndex key k).ranges = s.ranges := rfl
@[simp] theorem State.setIndex_decayTimer (key k : Nat) : (s.setIndex key k).decayTimer = s.decayTimer := rfl
@[simp] theorem State.setIndex_lingerClock (key k : Nat) : (s.setIndex key k).lingerClock = s.lingerClock := rfl
@[simp] theorem State.setIndex_creditTimer (key k : Nat) : (s.setIndex key k).creditTimer = s.creditTimer := rfl
@[simp] theorem State.setIndex_slots (key k : Nat) : (s.setIndex key k).slots = s.slots := rfl
@[simp] theorem State.setIndex_staging (key k : Nat) : (s.setIndex key k).staging = s.staging := rfl
@[simp] theorem State.setIndex_credits (key k : Nat) : (s.setIndex key k).credits = s.credits := rfl
@[simp] theorem State.setIndex_sequence (key k : Nat) : (s.setIndex key k).sequence = s.sequence := rfl
@[simp] theorem State.setIndex_index (key k : Nat) : (s.setIndex key k).index = Store.insert s.index key k := rfl
@[simp] theorem State.setIndex_streams (key k : Nat) : (s.setIndex key k).streams = s.streams := rfl
@[simp] theorem State.setIndex_segments (key k : Nat) : (s.setIndex key k).segments = s.segments := rfl
@[simp] theorem State.setIndex_nextSegment (key k : Nat) : (s.setIndex key k).nextSegment = s.nextSegment := rfl
@[simp] theorem State.setIndex_starved (key k : Nat) : (s.setIndex key k).starved = s.starved := rfl
@[simp] theorem State.setIndex_lanes (key k : Nat) : (s.setIndex key k).lanes = s.lanes := rfl
@[simp] theorem State.setIndex_durables (key k : Nat) : (s.setIndex key k).durables = s.durables := rfl
@[simp] theorem State.setIndex_flushes (key k : Nat) : (s.setIndex key k).flushes = s.flushes := rfl
@[simp] theorem State.setIndex_dump (key k : Nat) : (s.setIndex key k).dump = s.dump := rfl
@[simp] theorem State.setIndex_params (key k : Nat) : (s.setIndex key k).params = s.params := rfl
@[simp] theorem State.setIndex_returns (key k : Nat) : (s.setIndex key k).returns = s.returns := rfl
@[simp] theorem State.setIndex_due (key k : Nat) : (s.setIndex key k).due = s.due := rfl
@[simp] theorem State.setIndex_arrivals (key k : Nat) : (s.setIndex key k).arrivals = s.arrivals := rfl
@[simp] theorem State.setIndex_draws (key k : Nat) : (s.setIndex key k).draws = s.draws := rfl
@[simp] theorem State.setIndex_returnLink (key k : Nat) : (s.setIndex key k).returnLink = s.returnLink := rfl
@[simp] theorem State.setIndex_laneLinks (key k : Nat) : (s.setIndex key k).laneLinks = s.laneLinks := rfl
@[simp] theorem State.setIndex_tenant (key k : Nat) (x : Nat) : (s.setIndex key k).tenant x = s.tenant x := rfl
@[simp] theorem State.setIndex_range (key k : Nat) (x : Nat) : (s.setIndex key k).range x = s.range x := rfl
@[simp] theorem State.setIndex_slot (key k : Nat) (x : Nat) : (s.setIndex key k).slot x = s.slot x := rfl
@[simp] theorem State.setIndex_stream (key k : Nat) (x : Nat) : (s.setIndex key k).stream x = s.stream x := rfl
@[simp] theorem State.setIndex_lane (key k : Nat) (x : Nat) : (s.setIndex key k).lane x = s.lane x := rfl
@[simp] theorem State.setIndex_laneLink (key k : Nat) (x : Nat) : (s.setIndex key k).laneLink x = s.laneLink x := rfl

/-! ## dropIndex -/

@[simp] theorem State.dropIndex_pending (key : Nat) : (s.dropIndex key).pending = s.pending := rfl
@[simp] theorem State.dropIndex_now (key : Nat) : (s.dropIndex key).now = s.now := rfl
@[simp] theorem State.dropIndex_lines (key : Nat) : (s.dropIndex key).lines = s.lines := rfl
@[simp] theorem State.dropIndex_part (key : Nat) : (s.dropIndex key).part = s.part := rfl
@[simp] theorem State.dropIndex_dumpres (key : Nat) : (s.dropIndex key).dumpres = s.dumpres := rfl
@[simp] theorem State.dropIndex_parser (key : Nat) : (s.dropIndex key).parser = s.parser := rfl
@[simp] theorem State.dropIndex_tenants (key : Nat) : (s.dropIndex key).tenants = s.tenants := rfl
@[simp] theorem State.dropIndex_ranges (key : Nat) : (s.dropIndex key).ranges = s.ranges := rfl
@[simp] theorem State.dropIndex_decayTimer (key : Nat) : (s.dropIndex key).decayTimer = s.decayTimer := rfl
@[simp] theorem State.dropIndex_lingerClock (key : Nat) : (s.dropIndex key).lingerClock = s.lingerClock := rfl
@[simp] theorem State.dropIndex_creditTimer (key : Nat) : (s.dropIndex key).creditTimer = s.creditTimer := rfl
@[simp] theorem State.dropIndex_slots (key : Nat) : (s.dropIndex key).slots = s.slots := rfl
@[simp] theorem State.dropIndex_staging (key : Nat) : (s.dropIndex key).staging = s.staging := rfl
@[simp] theorem State.dropIndex_credits (key : Nat) : (s.dropIndex key).credits = s.credits := rfl
@[simp] theorem State.dropIndex_sequence (key : Nat) : (s.dropIndex key).sequence = s.sequence := rfl
@[simp] theorem State.dropIndex_index (key : Nat) : (s.dropIndex key).index = Store.erase s.index key := rfl
@[simp] theorem State.dropIndex_streams (key : Nat) : (s.dropIndex key).streams = s.streams := rfl
@[simp] theorem State.dropIndex_segments (key : Nat) : (s.dropIndex key).segments = s.segments := rfl
@[simp] theorem State.dropIndex_nextSegment (key : Nat) : (s.dropIndex key).nextSegment = s.nextSegment := rfl
@[simp] theorem State.dropIndex_starved (key : Nat) : (s.dropIndex key).starved = s.starved := rfl
@[simp] theorem State.dropIndex_lanes (key : Nat) : (s.dropIndex key).lanes = s.lanes := rfl
@[simp] theorem State.dropIndex_durables (key : Nat) : (s.dropIndex key).durables = s.durables := rfl
@[simp] theorem State.dropIndex_flushes (key : Nat) : (s.dropIndex key).flushes = s.flushes := rfl
@[simp] theorem State.dropIndex_dump (key : Nat) : (s.dropIndex key).dump = s.dump := rfl
@[simp] theorem State.dropIndex_params (key : Nat) : (s.dropIndex key).params = s.params := rfl
@[simp] theorem State.dropIndex_returns (key : Nat) : (s.dropIndex key).returns = s.returns := rfl
@[simp] theorem State.dropIndex_due (key : Nat) : (s.dropIndex key).due = s.due := rfl
@[simp] theorem State.dropIndex_arrivals (key : Nat) : (s.dropIndex key).arrivals = s.arrivals := rfl
@[simp] theorem State.dropIndex_draws (key : Nat) : (s.dropIndex key).draws = s.draws := rfl
@[simp] theorem State.dropIndex_returnLink (key : Nat) : (s.dropIndex key).returnLink = s.returnLink := rfl
@[simp] theorem State.dropIndex_laneLinks (key : Nat) : (s.dropIndex key).laneLinks = s.laneLinks := rfl
@[simp] theorem State.dropIndex_tenant (key : Nat) (x : Nat) : (s.dropIndex key).tenant x = s.tenant x := rfl
@[simp] theorem State.dropIndex_range (key : Nat) (x : Nat) : (s.dropIndex key).range x = s.range x := rfl
@[simp] theorem State.dropIndex_slot (key : Nat) (x : Nat) : (s.dropIndex key).slot x = s.slot x := rfl
@[simp] theorem State.dropIndex_stream (key : Nat) (x : Nat) : (s.dropIndex key).stream x = s.stream x := rfl
@[simp] theorem State.dropIndex_lane (key : Nat) (x : Nat) : (s.dropIndex key).lane x = s.lane x := rfl
@[simp] theorem State.dropIndex_laneLink (key : Nat) (x : Nat) : (s.dropIndex key).laneLink x = s.laneLink x := rfl

/-! ## setDurable -/

@[simp] theorem State.setDurable_pending (i : Nat) (r : DurableRecord) : (s.setDurable i r).pending = s.pending := rfl
@[simp] theorem State.setDurable_now (i : Nat) (r : DurableRecord) : (s.setDurable i r).now = s.now := rfl
@[simp] theorem State.setDurable_lines (i : Nat) (r : DurableRecord) : (s.setDurable i r).lines = s.lines := rfl
@[simp] theorem State.setDurable_part (i : Nat) (r : DurableRecord) : (s.setDurable i r).part = s.part := rfl
@[simp] theorem State.setDurable_dumpres (i : Nat) (r : DurableRecord) : (s.setDurable i r).dumpres = s.dumpres := rfl
@[simp] theorem State.setDurable_parser (i : Nat) (r : DurableRecord) : (s.setDurable i r).parser = s.parser := rfl
@[simp] theorem State.setDurable_tenants (i : Nat) (r : DurableRecord) : (s.setDurable i r).tenants = s.tenants := rfl
@[simp] theorem State.setDurable_ranges (i : Nat) (r : DurableRecord) : (s.setDurable i r).ranges = s.ranges := rfl
@[simp] theorem State.setDurable_decayTimer (i : Nat) (r : DurableRecord) : (s.setDurable i r).decayTimer = s.decayTimer := rfl
@[simp] theorem State.setDurable_lingerClock (i : Nat) (r : DurableRecord) : (s.setDurable i r).lingerClock = s.lingerClock := rfl
@[simp] theorem State.setDurable_creditTimer (i : Nat) (r : DurableRecord) : (s.setDurable i r).creditTimer = s.creditTimer := rfl
@[simp] theorem State.setDurable_slots (i : Nat) (r : DurableRecord) : (s.setDurable i r).slots = s.slots := rfl
@[simp] theorem State.setDurable_staging (i : Nat) (r : DurableRecord) : (s.setDurable i r).staging = s.staging := rfl
@[simp] theorem State.setDurable_credits (i : Nat) (r : DurableRecord) : (s.setDurable i r).credits = s.credits := rfl
@[simp] theorem State.setDurable_sequence (i : Nat) (r : DurableRecord) : (s.setDurable i r).sequence = s.sequence := rfl
@[simp] theorem State.setDurable_index (i : Nat) (r : DurableRecord) : (s.setDurable i r).index = s.index := rfl
@[simp] theorem State.setDurable_streams (i : Nat) (r : DurableRecord) : (s.setDurable i r).streams = s.streams := rfl
@[simp] theorem State.setDurable_segments (i : Nat) (r : DurableRecord) : (s.setDurable i r).segments = s.segments := rfl
@[simp] theorem State.setDurable_nextSegment (i : Nat) (r : DurableRecord) : (s.setDurable i r).nextSegment = s.nextSegment := rfl
@[simp] theorem State.setDurable_starved (i : Nat) (r : DurableRecord) : (s.setDurable i r).starved = s.starved := rfl
@[simp] theorem State.setDurable_lanes (i : Nat) (r : DurableRecord) : (s.setDurable i r).lanes = s.lanes := rfl
@[simp] theorem State.setDurable_durables (i : Nat) (r : DurableRecord) : (s.setDurable i r).durables = Store.insert s.durables i r := rfl
@[simp] theorem State.setDurable_flushes (i : Nat) (r : DurableRecord) : (s.setDurable i r).flushes = s.flushes := rfl
@[simp] theorem State.setDurable_dump (i : Nat) (r : DurableRecord) : (s.setDurable i r).dump = s.dump := rfl
@[simp] theorem State.setDurable_params (i : Nat) (r : DurableRecord) : (s.setDurable i r).params = s.params := rfl
@[simp] theorem State.setDurable_returns (i : Nat) (r : DurableRecord) : (s.setDurable i r).returns = s.returns := rfl
@[simp] theorem State.setDurable_due (i : Nat) (r : DurableRecord) : (s.setDurable i r).due = s.due := rfl
@[simp] theorem State.setDurable_arrivals (i : Nat) (r : DurableRecord) : (s.setDurable i r).arrivals = s.arrivals := rfl
@[simp] theorem State.setDurable_draws (i : Nat) (r : DurableRecord) : (s.setDurable i r).draws = s.draws := rfl
@[simp] theorem State.setDurable_returnLink (i : Nat) (r : DurableRecord) : (s.setDurable i r).returnLink = s.returnLink := rfl
@[simp] theorem State.setDurable_laneLinks (i : Nat) (r : DurableRecord) : (s.setDurable i r).laneLinks = s.laneLinks := rfl
@[simp] theorem State.setDurable_tenant (i : Nat) (r : DurableRecord) (x : Nat) : (s.setDurable i r).tenant x = s.tenant x := rfl
@[simp] theorem State.setDurable_range (i : Nat) (r : DurableRecord) (x : Nat) : (s.setDurable i r).range x = s.range x := rfl
@[simp] theorem State.setDurable_slot (i : Nat) (r : DurableRecord) (x : Nat) : (s.setDurable i r).slot x = s.slot x := rfl
@[simp] theorem State.setDurable_stream (i : Nat) (r : DurableRecord) (x : Nat) : (s.setDurable i r).stream x = s.stream x := rfl
@[simp] theorem State.setDurable_lane (i : Nat) (r : DurableRecord) (x : Nat) : (s.setDurable i r).lane x = s.lane x := rfl
@[simp] theorem State.setDurable_laneLink (i : Nat) (r : DurableRecord) (x : Nat) : (s.setDurable i r).laneLink x = s.laneLink x := rfl

/-! ## dropDurable -/

@[simp] theorem State.dropDurable_pending (i : Nat) : (s.dropDurable i).pending = s.pending := rfl
@[simp] theorem State.dropDurable_now (i : Nat) : (s.dropDurable i).now = s.now := rfl
@[simp] theorem State.dropDurable_lines (i : Nat) : (s.dropDurable i).lines = s.lines := rfl
@[simp] theorem State.dropDurable_part (i : Nat) : (s.dropDurable i).part = s.part := rfl
@[simp] theorem State.dropDurable_dumpres (i : Nat) : (s.dropDurable i).dumpres = s.dumpres := rfl
@[simp] theorem State.dropDurable_parser (i : Nat) : (s.dropDurable i).parser = s.parser := rfl
@[simp] theorem State.dropDurable_tenants (i : Nat) : (s.dropDurable i).tenants = s.tenants := rfl
@[simp] theorem State.dropDurable_ranges (i : Nat) : (s.dropDurable i).ranges = s.ranges := rfl
@[simp] theorem State.dropDurable_decayTimer (i : Nat) : (s.dropDurable i).decayTimer = s.decayTimer := rfl
@[simp] theorem State.dropDurable_lingerClock (i : Nat) : (s.dropDurable i).lingerClock = s.lingerClock := rfl
@[simp] theorem State.dropDurable_creditTimer (i : Nat) : (s.dropDurable i).creditTimer = s.creditTimer := rfl
@[simp] theorem State.dropDurable_slots (i : Nat) : (s.dropDurable i).slots = s.slots := rfl
@[simp] theorem State.dropDurable_staging (i : Nat) : (s.dropDurable i).staging = s.staging := rfl
@[simp] theorem State.dropDurable_credits (i : Nat) : (s.dropDurable i).credits = s.credits := rfl
@[simp] theorem State.dropDurable_sequence (i : Nat) : (s.dropDurable i).sequence = s.sequence := rfl
@[simp] theorem State.dropDurable_index (i : Nat) : (s.dropDurable i).index = s.index := rfl
@[simp] theorem State.dropDurable_streams (i : Nat) : (s.dropDurable i).streams = s.streams := rfl
@[simp] theorem State.dropDurable_segments (i : Nat) : (s.dropDurable i).segments = s.segments := rfl
@[simp] theorem State.dropDurable_nextSegment (i : Nat) : (s.dropDurable i).nextSegment = s.nextSegment := rfl
@[simp] theorem State.dropDurable_starved (i : Nat) : (s.dropDurable i).starved = s.starved := rfl
@[simp] theorem State.dropDurable_lanes (i : Nat) : (s.dropDurable i).lanes = s.lanes := rfl
@[simp] theorem State.dropDurable_durables (i : Nat) : (s.dropDurable i).durables = Store.erase s.durables i := rfl
@[simp] theorem State.dropDurable_flushes (i : Nat) : (s.dropDurable i).flushes = s.flushes := rfl
@[simp] theorem State.dropDurable_dump (i : Nat) : (s.dropDurable i).dump = s.dump := rfl
@[simp] theorem State.dropDurable_params (i : Nat) : (s.dropDurable i).params = s.params := rfl
@[simp] theorem State.dropDurable_returns (i : Nat) : (s.dropDurable i).returns = s.returns := rfl
@[simp] theorem State.dropDurable_due (i : Nat) : (s.dropDurable i).due = s.due := rfl
@[simp] theorem State.dropDurable_arrivals (i : Nat) : (s.dropDurable i).arrivals = s.arrivals := rfl
@[simp] theorem State.dropDurable_draws (i : Nat) : (s.dropDurable i).draws = s.draws := rfl
@[simp] theorem State.dropDurable_returnLink (i : Nat) : (s.dropDurable i).returnLink = s.returnLink := rfl
@[simp] theorem State.dropDurable_laneLinks (i : Nat) : (s.dropDurable i).laneLinks = s.laneLinks := rfl
@[simp] theorem State.dropDurable_tenant (i : Nat) (x : Nat) : (s.dropDurable i).tenant x = s.tenant x := rfl
@[simp] theorem State.dropDurable_range (i : Nat) (x : Nat) : (s.dropDurable i).range x = s.range x := rfl
@[simp] theorem State.dropDurable_slot (i : Nat) (x : Nat) : (s.dropDurable i).slot x = s.slot x := rfl
@[simp] theorem State.dropDurable_stream (i : Nat) (x : Nat) : (s.dropDurable i).stream x = s.stream x := rfl
@[simp] theorem State.dropDurable_lane (i : Nat) (x : Nat) : (s.dropDurable i).lane x = s.lane x := rfl
@[simp] theorem State.dropDurable_laneLink (i : Nat) (x : Nat) : (s.dropDurable i).laneLink x = s.laneLink x := rfl

/-! ## setFlush -/

@[simp] theorem State.setFlush_pending (fn : Nat) (r : FlushRecord) : (s.setFlush fn r).pending = s.pending := rfl
@[simp] theorem State.setFlush_now (fn : Nat) (r : FlushRecord) : (s.setFlush fn r).now = s.now := rfl
@[simp] theorem State.setFlush_lines (fn : Nat) (r : FlushRecord) : (s.setFlush fn r).lines = s.lines := rfl
@[simp] theorem State.setFlush_part (fn : Nat) (r : FlushRecord) : (s.setFlush fn r).part = s.part := rfl
@[simp] theorem State.setFlush_dumpres (fn : Nat) (r : FlushRecord) : (s.setFlush fn r).dumpres = s.dumpres := rfl
@[simp] theorem State.setFlush_parser (fn : Nat) (r : FlushRecord) : (s.setFlush fn r).parser = s.parser := rfl
@[simp] theorem State.setFlush_tenants (fn : Nat) (r : FlushRecord) : (s.setFlush fn r).tenants = s.tenants := rfl
@[simp] theorem State.setFlush_ranges (fn : Nat) (r : FlushRecord) : (s.setFlush fn r).ranges = s.ranges := rfl
@[simp] theorem State.setFlush_decayTimer (fn : Nat) (r : FlushRecord) : (s.setFlush fn r).decayTimer = s.decayTimer := rfl
@[simp] theorem State.setFlush_lingerClock (fn : Nat) (r : FlushRecord) : (s.setFlush fn r).lingerClock = s.lingerClock := rfl
@[simp] theorem State.setFlush_creditTimer (fn : Nat) (r : FlushRecord) : (s.setFlush fn r).creditTimer = s.creditTimer := rfl
@[simp] theorem State.setFlush_slots (fn : Nat) (r : FlushRecord) : (s.setFlush fn r).slots = s.slots := rfl
@[simp] theorem State.setFlush_staging (fn : Nat) (r : FlushRecord) : (s.setFlush fn r).staging = s.staging := rfl
@[simp] theorem State.setFlush_credits (fn : Nat) (r : FlushRecord) : (s.setFlush fn r).credits = s.credits := rfl
@[simp] theorem State.setFlush_sequence (fn : Nat) (r : FlushRecord) : (s.setFlush fn r).sequence = s.sequence := rfl
@[simp] theorem State.setFlush_index (fn : Nat) (r : FlushRecord) : (s.setFlush fn r).index = s.index := rfl
@[simp] theorem State.setFlush_streams (fn : Nat) (r : FlushRecord) : (s.setFlush fn r).streams = s.streams := rfl
@[simp] theorem State.setFlush_segments (fn : Nat) (r : FlushRecord) : (s.setFlush fn r).segments = s.segments := rfl
@[simp] theorem State.setFlush_nextSegment (fn : Nat) (r : FlushRecord) : (s.setFlush fn r).nextSegment = s.nextSegment := rfl
@[simp] theorem State.setFlush_starved (fn : Nat) (r : FlushRecord) : (s.setFlush fn r).starved = s.starved := rfl
@[simp] theorem State.setFlush_lanes (fn : Nat) (r : FlushRecord) : (s.setFlush fn r).lanes = s.lanes := rfl
@[simp] theorem State.setFlush_durables (fn : Nat) (r : FlushRecord) : (s.setFlush fn r).durables = s.durables := rfl
@[simp] theorem State.setFlush_flushes (fn : Nat) (r : FlushRecord) : (s.setFlush fn r).flushes = Store.insert s.flushes fn r := rfl
@[simp] theorem State.setFlush_dump (fn : Nat) (r : FlushRecord) : (s.setFlush fn r).dump = s.dump := rfl
@[simp] theorem State.setFlush_params (fn : Nat) (r : FlushRecord) : (s.setFlush fn r).params = s.params := rfl
@[simp] theorem State.setFlush_returns (fn : Nat) (r : FlushRecord) : (s.setFlush fn r).returns = s.returns := rfl
@[simp] theorem State.setFlush_due (fn : Nat) (r : FlushRecord) : (s.setFlush fn r).due = s.due := rfl
@[simp] theorem State.setFlush_arrivals (fn : Nat) (r : FlushRecord) : (s.setFlush fn r).arrivals = s.arrivals := rfl
@[simp] theorem State.setFlush_draws (fn : Nat) (r : FlushRecord) : (s.setFlush fn r).draws = s.draws := rfl
@[simp] theorem State.setFlush_returnLink (fn : Nat) (r : FlushRecord) : (s.setFlush fn r).returnLink = s.returnLink := rfl
@[simp] theorem State.setFlush_laneLinks (fn : Nat) (r : FlushRecord) : (s.setFlush fn r).laneLinks = s.laneLinks := rfl
@[simp] theorem State.setFlush_tenant (fn : Nat) (r : FlushRecord) (x : Nat) : (s.setFlush fn r).tenant x = s.tenant x := rfl
@[simp] theorem State.setFlush_range (fn : Nat) (r : FlushRecord) (x : Nat) : (s.setFlush fn r).range x = s.range x := rfl
@[simp] theorem State.setFlush_slot (fn : Nat) (r : FlushRecord) (x : Nat) : (s.setFlush fn r).slot x = s.slot x := rfl
@[simp] theorem State.setFlush_stream (fn : Nat) (r : FlushRecord) (x : Nat) : (s.setFlush fn r).stream x = s.stream x := rfl
@[simp] theorem State.setFlush_lane (fn : Nat) (r : FlushRecord) (x : Nat) : (s.setFlush fn r).lane x = s.lane x := rfl
@[simp] theorem State.setFlush_laneLink (fn : Nat) (r : FlushRecord) (x : Nat) : (s.setFlush fn r).laneLink x = s.laneLink x := rfl

/-! ## dropFlush -/

@[simp] theorem State.dropFlush_pending (fn : Nat) : (s.dropFlush fn).pending = s.pending := rfl
@[simp] theorem State.dropFlush_now (fn : Nat) : (s.dropFlush fn).now = s.now := rfl
@[simp] theorem State.dropFlush_lines (fn : Nat) : (s.dropFlush fn).lines = s.lines := rfl
@[simp] theorem State.dropFlush_part (fn : Nat) : (s.dropFlush fn).part = s.part := rfl
@[simp] theorem State.dropFlush_dumpres (fn : Nat) : (s.dropFlush fn).dumpres = s.dumpres := rfl
@[simp] theorem State.dropFlush_parser (fn : Nat) : (s.dropFlush fn).parser = s.parser := rfl
@[simp] theorem State.dropFlush_tenants (fn : Nat) : (s.dropFlush fn).tenants = s.tenants := rfl
@[simp] theorem State.dropFlush_ranges (fn : Nat) : (s.dropFlush fn).ranges = s.ranges := rfl
@[simp] theorem State.dropFlush_decayTimer (fn : Nat) : (s.dropFlush fn).decayTimer = s.decayTimer := rfl
@[simp] theorem State.dropFlush_lingerClock (fn : Nat) : (s.dropFlush fn).lingerClock = s.lingerClock := rfl
@[simp] theorem State.dropFlush_creditTimer (fn : Nat) : (s.dropFlush fn).creditTimer = s.creditTimer := rfl
@[simp] theorem State.dropFlush_slots (fn : Nat) : (s.dropFlush fn).slots = s.slots := rfl
@[simp] theorem State.dropFlush_staging (fn : Nat) : (s.dropFlush fn).staging = s.staging := rfl
@[simp] theorem State.dropFlush_credits (fn : Nat) : (s.dropFlush fn).credits = s.credits := rfl
@[simp] theorem State.dropFlush_sequence (fn : Nat) : (s.dropFlush fn).sequence = s.sequence := rfl
@[simp] theorem State.dropFlush_index (fn : Nat) : (s.dropFlush fn).index = s.index := rfl
@[simp] theorem State.dropFlush_streams (fn : Nat) : (s.dropFlush fn).streams = s.streams := rfl
@[simp] theorem State.dropFlush_segments (fn : Nat) : (s.dropFlush fn).segments = s.segments := rfl
@[simp] theorem State.dropFlush_nextSegment (fn : Nat) : (s.dropFlush fn).nextSegment = s.nextSegment := rfl
@[simp] theorem State.dropFlush_starved (fn : Nat) : (s.dropFlush fn).starved = s.starved := rfl
@[simp] theorem State.dropFlush_lanes (fn : Nat) : (s.dropFlush fn).lanes = s.lanes := rfl
@[simp] theorem State.dropFlush_durables (fn : Nat) : (s.dropFlush fn).durables = s.durables := rfl
@[simp] theorem State.dropFlush_flushes (fn : Nat) : (s.dropFlush fn).flushes = Store.erase s.flushes fn := rfl
@[simp] theorem State.dropFlush_dump (fn : Nat) : (s.dropFlush fn).dump = s.dump := rfl
@[simp] theorem State.dropFlush_params (fn : Nat) : (s.dropFlush fn).params = s.params := rfl
@[simp] theorem State.dropFlush_returns (fn : Nat) : (s.dropFlush fn).returns = s.returns := rfl
@[simp] theorem State.dropFlush_due (fn : Nat) : (s.dropFlush fn).due = s.due := rfl
@[simp] theorem State.dropFlush_arrivals (fn : Nat) : (s.dropFlush fn).arrivals = s.arrivals := rfl
@[simp] theorem State.dropFlush_draws (fn : Nat) : (s.dropFlush fn).draws = s.draws := rfl
@[simp] theorem State.dropFlush_returnLink (fn : Nat) : (s.dropFlush fn).returnLink = s.returnLink := rfl
@[simp] theorem State.dropFlush_laneLinks (fn : Nat) : (s.dropFlush fn).laneLinks = s.laneLinks := rfl
@[simp] theorem State.dropFlush_tenant (fn : Nat) (x : Nat) : (s.dropFlush fn).tenant x = s.tenant x := rfl
@[simp] theorem State.dropFlush_range (fn : Nat) (x : Nat) : (s.dropFlush fn).range x = s.range x := rfl
@[simp] theorem State.dropFlush_slot (fn : Nat) (x : Nat) : (s.dropFlush fn).slot x = s.slot x := rfl
@[simp] theorem State.dropFlush_stream (fn : Nat) (x : Nat) : (s.dropFlush fn).stream x = s.stream x := rfl
@[simp] theorem State.dropFlush_lane (fn : Nat) (x : Nat) : (s.dropFlush fn).lane x = s.lane x := rfl
@[simp] theorem State.dropFlush_laneLink (fn : Nat) (x : Nat) : (s.dropFlush fn).laneLink x = s.laneLink x := rfl

/-! ## enqueue -/

@[simp] theorem State.enqueue_pending (p : ReturnParcel) : (s.enqueue p).pending = s.pending := rfl
@[simp] theorem State.enqueue_now (p : ReturnParcel) : (s.enqueue p).now = s.now := rfl
@[simp] theorem State.enqueue_lines (p : ReturnParcel) : (s.enqueue p).lines = s.lines := rfl
@[simp] theorem State.enqueue_part (p : ReturnParcel) : (s.enqueue p).part = s.part := rfl
@[simp] theorem State.enqueue_dumpres (p : ReturnParcel) : (s.enqueue p).dumpres = s.dumpres := rfl
@[simp] theorem State.enqueue_parser (p : ReturnParcel) : (s.enqueue p).parser = s.parser := rfl
@[simp] theorem State.enqueue_tenants (p : ReturnParcel) : (s.enqueue p).tenants = s.tenants := rfl
@[simp] theorem State.enqueue_ranges (p : ReturnParcel) : (s.enqueue p).ranges = s.ranges := rfl
@[simp] theorem State.enqueue_decayTimer (p : ReturnParcel) : (s.enqueue p).decayTimer = s.decayTimer := rfl
@[simp] theorem State.enqueue_lingerClock (p : ReturnParcel) : (s.enqueue p).lingerClock = s.lingerClock := rfl
@[simp] theorem State.enqueue_creditTimer (p : ReturnParcel) : (s.enqueue p).creditTimer = s.creditTimer := rfl
@[simp] theorem State.enqueue_slots (p : ReturnParcel) : (s.enqueue p).slots = s.slots := rfl
@[simp] theorem State.enqueue_staging (p : ReturnParcel) : (s.enqueue p).staging = s.staging := rfl
@[simp] theorem State.enqueue_credits (p : ReturnParcel) : (s.enqueue p).credits = s.credits := rfl
@[simp] theorem State.enqueue_sequence (p : ReturnParcel) : (s.enqueue p).sequence = s.sequence := rfl
@[simp] theorem State.enqueue_index (p : ReturnParcel) : (s.enqueue p).index = s.index := rfl
@[simp] theorem State.enqueue_streams (p : ReturnParcel) : (s.enqueue p).streams = s.streams := rfl
@[simp] theorem State.enqueue_segments (p : ReturnParcel) : (s.enqueue p).segments = s.segments := rfl
@[simp] theorem State.enqueue_nextSegment (p : ReturnParcel) : (s.enqueue p).nextSegment = s.nextSegment := rfl
@[simp] theorem State.enqueue_starved (p : ReturnParcel) : (s.enqueue p).starved = s.starved := rfl
@[simp] theorem State.enqueue_lanes (p : ReturnParcel) : (s.enqueue p).lanes = s.lanes := rfl
@[simp] theorem State.enqueue_durables (p : ReturnParcel) : (s.enqueue p).durables = s.durables := rfl
@[simp] theorem State.enqueue_flushes (p : ReturnParcel) : (s.enqueue p).flushes = s.flushes := rfl
@[simp] theorem State.enqueue_dump (p : ReturnParcel) : (s.enqueue p).dump = s.dump := rfl
@[simp] theorem State.enqueue_params (p : ReturnParcel) : (s.enqueue p).params = s.params := rfl
@[simp] theorem State.enqueue_returns (p : ReturnParcel) : (s.enqueue p).returns = s.returns ++ [p] := rfl
@[simp] theorem State.enqueue_due (p : ReturnParcel) : (s.enqueue p).due = s.due := rfl
@[simp] theorem State.enqueue_arrivals (p : ReturnParcel) : (s.enqueue p).arrivals = s.arrivals := rfl
@[simp] theorem State.enqueue_draws (p : ReturnParcel) : (s.enqueue p).draws = s.draws := rfl
@[simp] theorem State.enqueue_returnLink (p : ReturnParcel) : (s.enqueue p).returnLink = s.returnLink := rfl
@[simp] theorem State.enqueue_laneLinks (p : ReturnParcel) : (s.enqueue p).laneLinks = s.laneLinks := rfl
@[simp] theorem State.enqueue_tenant (p : ReturnParcel) (x : Nat) : (s.enqueue p).tenant x = s.tenant x := rfl
@[simp] theorem State.enqueue_range (p : ReturnParcel) (x : Nat) : (s.enqueue p).range x = s.range x := rfl
@[simp] theorem State.enqueue_slot (p : ReturnParcel) (x : Nat) : (s.enqueue p).slot x = s.slot x := rfl
@[simp] theorem State.enqueue_stream (p : ReturnParcel) (x : Nat) : (s.enqueue p).stream x = s.stream x := rfl
@[simp] theorem State.enqueue_lane (p : ReturnParcel) (x : Nat) : (s.enqueue p).lane x = s.lane x := rfl
@[simp] theorem State.enqueue_laneLink (p : ReturnParcel) (x : Nat) : (s.enqueue p).laneLink x = s.laneLink x := rfl

/-! ## sendLane -/

@[simp] theorem State.sendLane_pending (l : Nat) (i : LinkItem) : (s.sendLane l i).pending = s.pending := rfl
@[simp] theorem State.sendLane_now (l : Nat) (i : LinkItem) : (s.sendLane l i).now = s.now := rfl
@[simp] theorem State.sendLane_lines (l : Nat) (i : LinkItem) : (s.sendLane l i).lines = s.lines := rfl
@[simp] theorem State.sendLane_part (l : Nat) (i : LinkItem) : (s.sendLane l i).part = s.part := rfl
@[simp] theorem State.sendLane_dumpres (l : Nat) (i : LinkItem) : (s.sendLane l i).dumpres = s.dumpres := rfl
@[simp] theorem State.sendLane_parser (l : Nat) (i : LinkItem) : (s.sendLane l i).parser = s.parser := rfl
@[simp] theorem State.sendLane_tenants (l : Nat) (i : LinkItem) : (s.sendLane l i).tenants = s.tenants := rfl
@[simp] theorem State.sendLane_ranges (l : Nat) (i : LinkItem) : (s.sendLane l i).ranges = s.ranges := rfl
@[simp] theorem State.sendLane_decayTimer (l : Nat) (i : LinkItem) : (s.sendLane l i).decayTimer = s.decayTimer := rfl
@[simp] theorem State.sendLane_lingerClock (l : Nat) (i : LinkItem) : (s.sendLane l i).lingerClock = s.lingerClock := rfl
@[simp] theorem State.sendLane_creditTimer (l : Nat) (i : LinkItem) : (s.sendLane l i).creditTimer = s.creditTimer := rfl
@[simp] theorem State.sendLane_slots (l : Nat) (i : LinkItem) : (s.sendLane l i).slots = s.slots := rfl
@[simp] theorem State.sendLane_staging (l : Nat) (i : LinkItem) : (s.sendLane l i).staging = s.staging := rfl
@[simp] theorem State.sendLane_credits (l : Nat) (i : LinkItem) : (s.sendLane l i).credits = s.credits := rfl
@[simp] theorem State.sendLane_sequence (l : Nat) (i : LinkItem) : (s.sendLane l i).sequence = s.sequence := rfl
@[simp] theorem State.sendLane_index (l : Nat) (i : LinkItem) : (s.sendLane l i).index = s.index := rfl
@[simp] theorem State.sendLane_streams (l : Nat) (i : LinkItem) : (s.sendLane l i).streams = s.streams := rfl
@[simp] theorem State.sendLane_segments (l : Nat) (i : LinkItem) : (s.sendLane l i).segments = s.segments := rfl
@[simp] theorem State.sendLane_nextSegment (l : Nat) (i : LinkItem) : (s.sendLane l i).nextSegment = s.nextSegment := rfl
@[simp] theorem State.sendLane_starved (l : Nat) (i : LinkItem) : (s.sendLane l i).starved = s.starved := rfl
@[simp] theorem State.sendLane_lanes (l : Nat) (i : LinkItem) : (s.sendLane l i).lanes = s.lanes := rfl
@[simp] theorem State.sendLane_durables (l : Nat) (i : LinkItem) : (s.sendLane l i).durables = s.durables := rfl
@[simp] theorem State.sendLane_flushes (l : Nat) (i : LinkItem) : (s.sendLane l i).flushes = s.flushes := rfl
@[simp] theorem State.sendLane_dump (l : Nat) (i : LinkItem) : (s.sendLane l i).dump = s.dump := rfl
@[simp] theorem State.sendLane_params (l : Nat) (i : LinkItem) : (s.sendLane l i).params = s.params := rfl
@[simp] theorem State.sendLane_returns (l : Nat) (i : LinkItem) : (s.sendLane l i).returns = s.returns := rfl
@[simp] theorem State.sendLane_due (l : Nat) (i : LinkItem) : (s.sendLane l i).due = s.due := rfl
@[simp] theorem State.sendLane_arrivals (l : Nat) (i : LinkItem) : (s.sendLane l i).arrivals = s.arrivals := rfl
@[simp] theorem State.sendLane_draws (l : Nat) (i : LinkItem) : (s.sendLane l i).draws = s.draws := rfl
@[simp] theorem State.sendLane_returnLink (l : Nat) (i : LinkItem) : (s.sendLane l i).returnLink = s.returnLink := rfl
@[simp] theorem State.sendLane_laneLinks (l : Nat) (i : LinkItem) : (s.sendLane l i).laneLinks = Store.setD [] s.laneLinks l (s.laneLink l ++ [i]) := rfl
@[simp] theorem State.sendLane_tenant (l : Nat) (i : LinkItem) (x : Nat) : (s.sendLane l i).tenant x = s.tenant x := rfl
@[simp] theorem State.sendLane_range (l : Nat) (i : LinkItem) (x : Nat) : (s.sendLane l i).range x = s.range x := rfl
@[simp] theorem State.sendLane_slot (l : Nat) (i : LinkItem) (x : Nat) : (s.sendLane l i).slot x = s.slot x := rfl
@[simp] theorem State.sendLane_stream (l : Nat) (i : LinkItem) (x : Nat) : (s.sendLane l i).stream x = s.stream x := rfl
@[simp] theorem State.sendLane_lane (l : Nat) (i : LinkItem) (x : Nat) : (s.sendLane l i).lane x = s.lane x := rfl
theorem State.laneLink_sendLane (l : Nat) (i : LinkItem) (x : Nat) : (s.sendLane l i).laneLink x = if x = l then s.laneLink l ++ [i] else s.laneLink x :=
  Store.getD_setD ..
@[simp] theorem State.laneLink_sendLane_self (l : Nat) (i : LinkItem) : (s.sendLane l i).laneLink l = s.laneLink l ++ [i] := Store.getD_setD_self ..
theorem State.laneLink_sendLane_ne (l : Nat) (i : LinkItem) {x : Nat} (h : x ≠ l) : (s.sendLane l i).laneLink x = s.laneLink x :=
  Store.getD_setD_ne _ _ _ h

end Sys2Proof.Machine
end

