-- ==== Sys2Proof/Laws/Frames.lean ====
section
/-! SUPPORT. The frame of each shared operation: the state it leaves and the state before agree once the fields that it may change are
blanked on both sides. `agree (π := State.<field>)` of such a law gives any other field. -/

namespace Sys2Proof.Machine

/-- What every step of a fold keeps, the fold keeps. -/
theorem foldl_frame {α β : Type} (m : State → β) (f : State → α → State) (h : ∀ s x, m (f s x) = m s) (l : List α) (s : State) :
    m (l.foldl f s) = m s := by
  induction l generalizing s with
  | nil => rfl
  | cons x t ih => exact (ih _).trans (h s x)

/-- What a frame leaves unblanked agrees: a field of State, or a larger frame. -/
theorem agree {β : Type} {m : State → State} {π : State → β} {t u : State} (h : m t = m u)
    (hπ : ∀ s, π (m s) = π s := by intro _; rfl) : π t = π u :=
  (hπ t).symm.trans ((congrArg π h).trans (hπ u))

theorem sendPoolLows_frame (n : Nat) (ls : List Nat) (s : State) :
    { State.sendPoolLows n ls s with returns := [], due := [], draws := 0 } = { s with returns := [], due := [], draws := 0 } := by
  induction n generalizing ls s with
  | zero => rfl
  | succ n ih =>
    match ls with
    | [] => rfl
    | [_] => rfl
    | _ :: _ :: _ => exact (ih _ _).trans rfl

/-- The state outside what `setTenant` may change: tenants. -/
def State.butSetTenant (s : State) : State :=
  { s with
    tenants := [] }

theorem State.setTenant_frame (s : State) (t : Nat) (r : Tenant) : (s.setTenant t r).butSetTenant = s.butSetTenant := rfl

/-- The state outside what `setRange` may change: ranges. -/
def State.butSetRange (s : State) : State :=
  { s with
    ranges := [] }

theorem State.setRange_frame (s : State) (i : Nat) (r : Range) : (s.setRange i r).butSetRange = s.butSetRange := rfl

/-- The state outside what `setSlot` may change: slots. -/
def State.butSetSlot (s : State) : State :=
  { s with
    slots := [] }

theorem State.setSlot_frame (s : State) (k : Nat) (r : Slot) : (s.setSlot k r).butSetSlot = s.butSetSlot := rfl

/-- The state outside what `setStream` may change: streams. -/
def State.butSetStream (s : State) : State :=
  { s with
    streams := [] }

theorem State.setStream_frame (s : State) (k : Nat) (r : Stream) : (s.setStream k r).butSetStream = s.butSetStream := rfl

/-- The state outside what `setLane` may change: lanes. -/
def State.butSetLane (s : State) : State :=
  { s with
    lanes := [] }

theorem State.setLane_frame (s : State) (l : Nat) (r : Lane) : (s.setLane l r).butSetLane = s.butSetLane := rfl

/-- The state outside what `setSegment` may change: segments. -/
def State.butSetSegment (s : State) : State :=
  { s with
    segments := [] }

theorem State.setSegment_frame (s : State) (id : Nat) (g : Segment) : (s.setSegment id g).butSetSegment = s.butSetSegment := rfl

theorem State.dropSegment_frame (s : State) (id : Nat) : (s.dropSegment id).butSetSegment = s.butSetSegment := rfl

/-- The state outside what `setIndex` may change: index. -/
def State.butSetIndex (s : State) : State :=
  { s with
    index := [] }

theorem State.setIndex_frame (s : State) (key k : Nat) : (s.setIndex key k).butSetIndex = s.butSetIndex := rfl

theorem State.dropIndex_frame (s : State) (key : Nat) : (s.dropIndex key).butSetIndex = s.butSetIndex := rfl

/-- The state outside what `setDurable` may change: durables. -/
def State.butSetDurable (s : State) : State :=
  { s with
    durables := [] }

theorem State.setDurable_frame (s : State) (i : Nat) (r : DurableRecord) : (s.setDurable i r).butSetDurable = s.butSetDurable := rfl

theorem State.dropDurable_frame (s : State) (i : Nat) : (s.dropDurable i).butSetDurable = s.butSetDurable := rfl

/-- The state outside what `setFlush` may change: flushes. -/
def State.butSetFlush (s : State) : State :=
  { s with
    flushes := [] }

theorem State.setFlush_frame (s : State) (fn : Nat) (r : FlushRecord) : (s.setFlush fn r).butSetFlush = s.butSetFlush := rfl

theorem State.dropFlush_frame (s : State) (fn : Nat) : (s.dropFlush fn).butSetFlush = s.butSetFlush := rfl

/-- The state outside what `enqueue` may change: returns. -/
def State.butEnqueue (s : State) : State :=
  { s with
    returns := [] }

theorem State.enqueue_frame (s : State) (p : ReturnParcel) : (s.enqueue p).butEnqueue = s.butEnqueue := rfl

/-- The state outside what `sendLane` may change: laneLinks. -/
def State.butSendLane (s : State) : State :=
  { s with
    laneLinks := [] }

theorem State.sendLane_frame (s : State) (l : Nat) (i : LinkItem) : (s.sendLane l i).butSendLane = s.butSendLane := rfl

theorem State.padStream_frame (s : State) (k : Nat) : (s.padStream k).butSetStream = s.butSetStream := by
  unfold State.padStream; split <;> rfl

/-- The state outside what `sendCredit` may change: creditTimer, credits, returns. -/
def State.butSendCredit (s : State) : State :=
  { s with
    creditTimer := none, credits := 0, returns := [] }

theorem State.sendCredit_frame (s : State) : s.sendCredit.butSendCredit = s.butSendCredit := rfl

theorem State.evalCredit_frame (s : State) : s.evalCredit.butSendCredit = s.butSendCredit := by
  unfold State.evalCredit; repeat' split
  all_goals rfl

/-- The state outside what `freeSlot` may change: tenants, slots, index. -/
def State.butFreeSlot (s : State) : State :=
  { s with
    tenants := [], slots := [], index := [] }

theorem State.freeSlot_frame (s : State) (k : Nat) : (s.freeSlot k).butFreeSlot = s.butFreeSlot := by
  simp only [State.freeSlot]; repeat' split
  all_goals rfl

theorem State.freeSlotList_frame (s : State) (ks : List Nat) : (s.freeSlotList ks).butFreeSlot = s.butFreeSlot :=
  foldl_frame State.butFreeSlot _ State.freeSlot_frame ks s

/-- The state outside what `poolLowNotices` may change: returns, due, draws. -/
def State.butPoolLowNotices (s : State) : State :=
  { s with
    returns := [], due := [], draws := 0 }

theorem State.poolLowNotices_frame (s : State) : s.poolLowNotices.butPoolLowNotices = s.butPoolLowNotices := sendPoolLows_frame ..

/-- The state outside what `poolLowCheck` may change: lanes, due. -/
def State.butPoolLowCheck (s : State) : State :=
  { s with
    lanes := [], due := [] }

theorem State.poolLowCheck_frame (s : State) (l : Nat) : (s.poolLowCheck l).butPoolLowCheck = s.butPoolLowCheck := by
  simp only [State.poolLowCheck]; split <;> rfl

/-- The state outside what `openFrom` may change: streams, segments, nextSegment, lanes, due. -/
def State.butOpenFrom (s : State) : State :=
  { s with
    streams := [], segments := [], nextSegment := 0, lanes := [], due := [] }

theorem State.openFrom_frame (s : State) (k l : Nat) : (s.openFrom k l).butOpenFrom = s.butOpenFrom := by
  simp only [State.openFrom]; split
  · rfl
  · simp only [agree (π := State.butOpenFrom) (State.poolLowCheck_frame ..)]; rfl

/-- The state outside what `starve` may change: streams, starved, returns. -/
def State.butStarve (s : State) : State :=
  { s with
    streams := [], starved := [], returns := [] }

theorem State.starve_frame (s : State) (k : Nat) : (s.starve k).butStarve = s.butStarve := rfl

/-- The state outside what `requestSegment` may change: streams, segments, nextSegment, starved, lanes, returns, due. -/
def State.butRequestSegment (s : State) : State :=
  { s with
    streams := [], segments := [], nextSegment := 0, starved := [], lanes := [], returns := [], due := [] }

theorem State.requestSegment_frame (s : State) (k : Nat) : (s.requestSegment k).butRequestSegment = s.butRequestSegment := by
  unfold State.requestSegment; split
  · simp only [agree (π := State.butRequestSegment) (State.openFrom_frame ..)]
  · simp only [agree (π := State.butRequestSegment) (State.starve_frame ..)]

theorem State.requestIfDue_frame (s : State) (k : Nat) : (s.requestIfDue k).butRequestSegment = s.butRequestSegment := by
  unfold State.requestIfDue; split
  · exact State.requestSegment_frame s k
  · rfl

theorem State.segmentRequests_frame (s : State) : s.segmentRequests.butRequestSegment = s.butRequestSegment := by
  unfold State.segmentRequests; split
  · exact foldl_frame State.butRequestSegment _ State.requestIfDue_frame _ s
  · rfl

/-- The state outside what `endRequests` may change: streams, segments, nextSegment, starved, lanes, returns, due, draws. -/
def State.butEndRequests (s : State) : State :=
  { s with
    streams := [], segments := [], nextSegment := 0, starved := [], lanes := [], returns := [], due := [],
    draws := 0 }

theorem State.endRequests_frame (s : State) : s.endRequests.butEndRequests = s.butEndRequests := by
  simp only [State.endRequests]
  simp only [agree (π := State.butEndRequests) (State.poolLowNotices_frame ..),
      agree (π := State.butEndRequests) (State.segmentRequests_frame ..)]

/-- The state outside what `serve` may change: streams, segments, nextSegment, starved, lanes, due. -/
def State.butServe (s : State) : State :=
  { s with
    streams := [], segments := [], nextSegment := 0, starved := [], lanes := [], due := [] }

theorem State.serve_frame (s : State) (l n : Nat) : (State.serve l n s).butServe = s.butServe := by
  induction n generalizing s with
  | zero => rfl
  | succ n ih =>
    unfold State.serve; repeat' split
    · rfl
    · rw [ih, agree (π := State.butServe) (State.openFrom_frame ..)]; rfl
    · rfl

/-- The state outside what `drain` may change: streams, segments. -/
def State.butDrain (s : State) : State :=
  { s with
    streams := [], segments := [] }

theorem State.drain_frame (s : State) (id : Nat) (c : EndCause) : (s.drain id c).butDrain = s.butDrain := by
  unfold State.drain; repeat' split
  all_goals rfl

/-- The state outside what `closeIfSettled` may change: segments, returns. -/
def State.butCloseIfSettled (s : State) : State :=
  { s with
    segments := [], returns := [] }

theorem State.closeIfSettled_frame (s : State) (id : Nat) : (s.closeIfSettled id).butCloseIfSettled = s.butCloseIfSettled := by
  unfold State.closeIfSettled; repeat' split
  all_goals rfl

/-- The state outside what `drainAndClose` may change: streams, segments, returns. -/
def State.butDrainAndClose (s : State) : State :=
  { s with
    streams := [], segments := [], returns := [] }

theorem State.drainAndClose_frame (s : State) (id : Nat) (c : EndCause) :
    (s.drainAndClose id c).butDrainAndClose = s.butDrainAndClose := by
  simp only [State.drainAndClose]
  simp only [agree (π := State.butDrainAndClose) (State.closeIfSettled_frame ..),
      agree (π := State.butDrainAndClose) (State.drain_frame ..)]

theorem State.rotate_frame (s : State) (k : Nat) : (s.rotate k).butDrainAndClose = s.butDrainAndClose := by
  unfold State.rotate; split
  · rfl
  · exact State.drainAndClose_frame ..

/-- The state outside what `returnGrants` may change: lanes, returns. -/
def State.butReturnGrants (s : State) : State :=
  { s with
    lanes := [], returns := [] }

theorem State.returnGrants_frame (s : State) (l : Nat) : (s.returnGrants l).butReturnGrants = s.butReturnGrants := by
  simp only [State.returnGrants]; split <;> rfl

theorem State.lingerCheck_frame (s : State) (k : Nat) : (s.lingerCheck k).butSetStream = s.butSetStream := by
  unfold State.lingerCheck; split
  · exact State.padStream_frame s k
  · rfl

theorem State.lingerTick_frame (s : State) (k : Nat) : (s.lingerTick k).butSetStream = s.butSetStream := by
  unfold State.lingerTick; split
  · exact (State.lingerCheck_frame _ k).trans rfl
  · rfl

theorem State.durablePads_frame (s : State) : s.durablePads.butSetStream = s.butSetStream := by
  unfold State.durablePads; split
  · refine foldl_frame State.butSetStream _ (fun s k => ?_) _ s
    split
    · exact State.padStream_frame s k
    · rfl
  · rfl

theorem State.pressure_frame (s : State) : s.pressure.butSetStream = s.butSetStream := by
  unfold State.pressure; repeat' split
  · rfl
  · exact State.padStream_frame ..
  · rfl

theorem State.flushPads_frame (s : State) (fn : Nat) : (s.flushPads fn).butSetStream = s.butSetStream := by
  refine foldl_frame State.butSetStream _ (fun s k => ?_) _ s
  split
  · exact State.padStream_frame s k
  · rfl

theorem State.requeue_frame (s : State) (k : Nat) (slots : List Nat) (n : Nat) :
    (s.requeue k slots n).butSetStream = s.butSetStream := rfl

theorem State.setSlotStates_frame (s : State) (ks : List Nat) (st : SlotState) :
    (s.setSlotStates ks st).butSetSlot = s.butSetSlot :=
  foldl_frame State.butSetSlot (fun s k => s.setSlot k { s.slot k with state := st }) (fun _ _ => rfl) ks s

/-- The state outside what `land` may change: slots, staging, credits. -/
def State.butLand (s : State) : State :=
  { s with
    slots := [], staging := [], credits := 0 }

theorem State.land_frame (s : State) (a : Arriving) (k : Nat) (b : List Unit16) : (s.land a k b).butLand = s.butLand := rfl

theorem State.heatStep_frame (s : State) (e : Option Nat) (hit : Bool) : (s.heatStep e hit).butSetRange = s.butSetRange := by
  unfold State.heatStep; split <;> rfl

theorem State.route_frame (s : State) (a : Arriving) (lba : Nat) : ((s.route a lba).1).butSetRange = s.butSetRange := by
  simp only [State.route]
  simp only [State.heatStep_frame]

/-- The state outside what `appendStaged` may change: slots, sequence, streams. -/
def State.butAppendStaged (s : State) : State :=
  { s with
    slots := [], sequence := 0, streams := [] }

theorem State.appendStaged_frame (s : State) (k stream : Nat) : (s.appendStaged k stream).butAppendStaged = s.butAppendStaged := rfl

/-- The state outside what `supersede` may change: tenants, slots, index, streams. -/
def State.butSupersede (s : State) : State :=
  { s with
    tenants := [], slots := [], index := [], streams := [] }

theorem State.supersede_frame (s : State) (fn old : Nat) : (s.supersede fn old).butSupersede = s.butSupersede := by
  simp only [State.supersede]
  simp only [agree (π := State.butSupersede) (State.setTenant_frame ..),
      agree (π := State.butSupersede) (State.freeSlot_frame ..), agree (π := State.butSupersede) (State.setStream_frame ..)]

theorem State.indexStaged_frame (s : State) (fn ns lba k : Nat) : (s.indexStaged fn ns lba k).butSupersede = s.butSupersede := by
  simp only [State.indexStaged]; repeat' split
  · rfl
  · simp only [State.supersede_frame]; rfl
  · rfl

theorem State.countLanded_frame (s : State) (fn : Nat) : (s.countLanded fn).butSetTenant = s.butSetTenant := rfl

theorem State.resetLinger_frame (s : State) (k : Nat) : (s.resetLinger k).butSetStream = s.butSetStream := rfl

/-- The state outside what `stageSector` may change: tenants, ranges, slots, sequence, index, streams. -/
def State.butStageSector (s : State) : State :=
  { s with
    tenants := [], ranges := [], slots := [], sequence := 0, index := [], streams := [] }

theorem State.stageSector_frame (s : State) (a : Arriving) (x : Nat × Nat) :
    (State.stageSector a s x).butStageSector = s.butStageSector := by
  simp only [State.stageSector]
  simp only [agree (π := State.butStageSector) (State.resetLinger_frame ..),
      agree (π := State.butStageSector) (State.countLanded_frame ..),
      agree (π := State.butStageSector) (State.indexStaged_frame ..),
      agree (π := State.butStageSector) (State.appendStaged_frame ..), agree (π := State.butStageSector) (State.route_frame ..)]

theorem State.stageAll_frame (s : State) (a : Arriving) : (s.stageAll a).butStageSector = s.butStageSector :=
  foldl_frame State.butStageSector _ (fun s x => State.stageSector_frame s a x) _ s

theorem State.countRefused_frame (s : State) (fn : Nat) : (s.countRefused fn).butSetTenant = s.butSetTenant := by
  unfold State.countRefused; split <;> rfl

/-- The state outside what `refuseWrite` may change: tenants, creditTimer, slots, credits, index, returns. -/
def State.butRefuseWrite (s : State) : State :=
  { s with
    tenants := [], creditTimer := none, slots := [], credits := 0, index := [], returns := [] }

theorem State.refuseWrite_frame (s : State) (a : Arriving) (st : LandedStatus) :
    (s.refuseWrite a st).butRefuseWrite = s.butRefuseWrite := by
  simp only [State.refuseWrite]; split
  · simp only [agree (π := State.butRefuseWrite) (State.countRefused_frame ..),
      agree (π := State.butRefuseWrite) (State.enqueue_frame ..), agree (π := State.butRefuseWrite) (State.freeSlotList_frame ..)]
  · simp only [agree (π := State.butRefuseWrite) (State.evalCredit_frame ..),
      agree (π := State.butRefuseWrite) (State.countRefused_frame ..),
      agree (π := State.butRefuseWrite) (State.enqueue_frame ..), agree (π := State.butRefuseWrite) (State.freeSlotList_frame ..)]

/-- The state outside what `createDurable` may change: slots, durables. -/
def State.butCreateDurable (s : State) : State :=
  { s with
    slots := [], durables := [] }

theorem State.createDurable_frame (s : State) (a : Arriving) (first : Nat) :
    (s.createDurable a first).butCreateDurable = s.butCreateDurable := by
  unfold State.createDurable; split
  · rfl
  · next i _ =>
    exact foldl_frame State.butCreateDurable (fun s k => s.setSlot k { s.slot k with durable := some i }) (fun _ _ => rfl) _ _

/-- The state outside what `acceptWrite` may change: tenants, ranges, creditTimer, slots, credits, sequence, index, streams, segments, nextSegment, starved, lanes, durables, returns, due, draws. -/
def State.butAcceptWrite (s : State) : State :=
  { s with
    tenants := [], ranges := [], creditTimer := none, slots := [], credits := 0, sequence := 0, index := [],
    streams := [], segments := [], nextSegment := 0, starved := [], lanes := [], durables := [], returns := [],
    due := [], draws := 0 }

theorem State.acceptWrite_frame (s : State) (a : Arriving) : (s.acceptWrite a).butAcceptWrite = s.butAcceptWrite := by
  simp only [State.acceptWrite]; split <;> split
  all_goals simp only [agree (π := State.butAcceptWrite) (State.endRequests_frame ..),
      agree (π := State.butAcceptWrite) (State.evalCredit_frame ..),
      agree (π := State.butAcceptWrite) (State.pressure_frame ..),
      agree (π := State.butAcceptWrite) (State.durablePads_frame ..),
      agree (π := State.butAcceptWrite) (State.createDurable_frame ..),
      agree (π := State.butAcceptWrite) (State.enqueue_frame ..), agree (π := State.butAcceptWrite) (State.stageAll_frame ..)]

/-- The state outside what `decideWrite` may change: parser, tenants, ranges, creditTimer, slots, credits, sequence, index, streams, segments, nextSegment, starved, lanes, durables, returns, due, draws. -/
def State.butDecideWrite (s : State) : State :=
  { s with
    parser := .awaiting, tenants := [], ranges := [], creditTimer := none, slots := [], credits := 0,
    sequence := 0, index := [], streams := [], segments := [], nextSegment := 0, starved := [], lanes := [],
    durables := [], returns := [], due := [], draws := 0 }

theorem State.decideWrite_frame (s : State) (a : Arriving) : (s.decideWrite a).butDecideWrite = s.butDecideWrite := by
  unfold State.decideWrite; repeat' split
  · simp only [agree (π := State.butDecideWrite) (State.refuseWrite_frame ..)]
  · rfl
  · simp only [agree (π := State.butDecideWrite) (State.acceptWrite_frame ..)]

/-- The state outside what `settleDurable` may change: durables, returns. -/
def State.butSettleDurable (s : State) : State :=
  { s with
    durables := [], returns := [] }

theorem State.settleDurable_frame (s : State) (k : Nat) : (s.settleDurable k).butSettleDurable = s.butSettleDurable := by
  unfold State.settleDurable; repeat' split
  all_goals rfl

/-- The state outside what `settleFlush` may change: flushes, returns. -/
def State.butSettleFlush (s : State) : State :=
  { s with
    flushes := [], returns := [] }

theorem State.settleFlush_frame (s : State) (k : Nat) : (s.settleFlush k).butSettleFlush = s.butSettleFlush := by
  simp only [State.settleFlush]; repeat' split
  · rfl
  · exact foldl_frame State.butSettleFlush (fun s tag => s.enqueue (.flushed tag _ .ok)) (fun _ _ => rfl) _ s
  · rfl
  · rfl

/-- The state outside what `settleSlot` may change: tenants, slots, index, durables, flushes, returns. -/
def State.butSettleSlot (s : State) : State :=
  { s with
    tenants := [], slots := [], index := [], durables := [], flushes := [], returns := [] }

theorem State.settleSlot_frame (s : State) (k : Nat) : (s.settleSlot k).butSettleSlot = s.butSettleSlot := by
  simp only [State.settleSlot]
  simp only [agree (π := State.butSettleSlot) (State.freeSlot_frame ..),
      agree (π := State.butSettleSlot) (State.settleFlush_frame ..),
      agree (π := State.butSettleSlot) (State.settleDurable_frame ..)]

theorem State.markSlots_frame (s : State) (ks : List Nat) : (s.markSlots ks).butSetSlot = s.butSetSlot :=
  foldl_frame State.butSetSlot (fun s k => s.setSlot k { s.slot k with mark := true }) (fun _ _ => rfl) ks s

/-- The state outside what `acceptFlush` may change: slots, streams, segments, nextSegment, starved, lanes, flushes, returns, due, draws. -/
def State.butAcceptFlush (s : State) : State :=
  { s with
    slots := [], streams := [], segments := [], nextSegment := 0, starved := [], lanes := [], flushes := [],
    returns := [], due := [], draws := 0 }

theorem State.acceptFlush_frame (s : State) (a : Arriving) : (s.acceptFlush a).butAcceptFlush = s.butAcceptFlush := by
  simp only [State.acceptFlush]
  simp only [agree (π := State.butAcceptFlush) (State.endRequests_frame ..),
      agree (π := State.butAcceptFlush) (State.flushPads_frame ..),
      agree (π := State.butAcceptFlush) (State.setFlush_frame ..), agree (π := State.butAcceptFlush) (State.markSlots_frame ..)]

theorem State.takeFlush_frame (s : State) (a : Arriving) : (s.takeFlush a).butAcceptFlush = s.butAcceptFlush := by
  simp only [State.takeFlush]; repeat' split
  · rfl
  · rfl
  · rfl
  · exact State.acceptFlush_frame s a
  · rfl
  · exact State.acceptFlush_frame s a

/-- The state outside what `enterDumped` may change: part, dumpres, lanes, dump. -/
def State.butEnterDumped (s : State) : State :=
  { s with
    part := .run, dumpres := .none, lanes := [], dump := {} }

theorem State.enterDumped_frame (s : State) (r : DumpResult) : (s.enterDumped r).butEnterDumped = s.butEnterDumped := rfl

/-- The state outside what `takeGrant` may change: lanes, dump. -/
def State.butTakeGrant (s : State) : State :=
  { s with
    lanes := [], dump := {} }

theorem State.takeGrant_frame (s : State) (l : Nat) : (s.takeGrant l).butTakeGrant = s.butTakeGrant := by
  unfold State.takeGrant; repeat' split
  all_goals rfl

theorem State.dumpCheck_frame (s : State) : s.dumpCheck.butEnterDumped = s.butEnterDumped := by
  unfold State.dumpCheck; repeat' split
  all_goals rfl

/-- The state outside what `beginDump` may change: part, parser, decayTimer, lingerClock, creditTimer, dump. -/
def State.butBeginDump (s : State) : State :=
  { s with
    part := .run, parser := .awaiting, decayTimer := none, lingerClock := none, creditTimer := none, dump := {} }

theorem State.beginDump_frame (s : State) : s.beginDump.butBeginDump = s.butBeginDump := rfl

/-- The state outside what `enterDumping` may change: part, dumpres, parser, tenants, decayTimer, lingerClock, creditTimer, slots, index, lanes, dump. -/
def State.butEnterDumping (s : State) : State :=
  { s with
    part := .run, dumpres := .none, parser := .awaiting, tenants := [], decayTimer := none, lingerClock := none,
    creditTimer := none, slots := [], index := [], lanes := [], dump := {} }

theorem State.enterDumping_frame (s : State) : s.enterDumping.butEnterDumping = s.butEnterDumping := by
  simp only [State.enterDumping]
  simp only [agree (π := State.butEnterDumping) (State.dumpCheck_frame ..),
      agree (π := State.butEnterDumping) (State.takeGrant_frame ..),
      agree (π := State.butEnterDumping) (State.beginDump_frame ..),
      agree (π := State.butEnterDumping) (State.freeSlotList_frame ..)]

theorem State.nextGrantIfUsed_frame (s : State) : s.nextGrantIfUsed.butTakeGrant = s.butTakeGrant := by
  unfold State.nextGrantIfUsed; repeat' split
  all_goals first | rfl | exact State.takeGrant_frame ..

/-- The state outside what `sendDump` may change: lanes, dump, laneLinks. -/
def State.butSendDump (s : State) : State :=
  { s with
    lanes := [], dump := {}, laneLinks := [] }

theorem State.sendDump_frame (s : State) (g : TakenGrant) (slots : List Nat) (n : Nat) (trailer : Bool) (b : List (List Byte)) :
    (s.sendDump g slots n trailer b).butSendDump = s.butSendDump := by
  simp only [State.sendDump]
  simp only [agree (π := State.butSendDump) (State.nextGrantIfUsed_frame ..),
      agree (π := State.butSendDump) (State.sendLane_frame ..), agree (π := State.butSendDump) (State.setLane_frame ..)]

theorem State.dumpUnit_frame (s : State) : s.dumpUnit.butSendDump = s.butSendDump := by
  simp only [State.dumpUnit]; split
  · rfl
  · rw [State.sendDump_frame]; rfl

/-- The state outside what `trailerUnit` may change: part, dumpres, lanes, dump, laneLinks. -/
def State.butTrailerUnit (s : State) : State :=
  { s with
    part := .run, dumpres := .none, lanes := [], dump := {}, laneLinks := [] }

theorem State.trailerUnit_frame (s : State) : s.trailerUnit.butTrailerUnit = s.butTrailerUnit := by
  simp only [State.trailerUnit]; split
  · rfl
  · simp only [agree (π := State.butTrailerUnit) (State.dumpCheck_frame ..),
      agree (π := State.butTrailerUnit) (State.sendDump_frame ..)]; rfl

/-- The state outside what `dumpDone` may change: dump. -/
def State.butDumpDone (s : State) : State :=
  { s with
    dump := {} }

theorem State.dumpDone_frame (s : State) (r : InFlight) : (s.dumpDone r).butDumpDone = s.butDumpDone := rfl

theorem State.trailerDone_frame (s : State) : s.trailerDone.butEnterDumped = s.butEnterDumped := rfl

theorem State.dumpFailed_frame (s : State) (r : InFlight) : (s.dumpFailed r).butDumpDone = s.butDumpDone := by
  unfold State.dumpFailed; split <;> rfl

theorem State.loseDumpLane_frame (s : State) (l : Nat) : (s.loseDumpLane l).butTakeGrant = s.butTakeGrant := by
  unfold State.loseDumpLane; repeat' split
  · rfl
  · rw [State.takeGrant_frame]; rfl
  · rfl

theorem State.updLane_frame (s : State) (l : Nat) (f : Lane → Lane) : (s.updLane l f).butSetLane = s.butSetLane := rfl

theorem State.updStream_frame (s : State) (k : Nat) (f : Stream → Stream) : (s.updStream k f).butSetStream = s.butSetStream := rfl

theorem State.countDone_frame (s : State) (id : Nat) : (s.countDone id).butSetSegment = s.butSetSegment := by
  unfold State.countDone; split <;> rfl

theorem State.countFailed_frame (s : State) (id : Nat) : (s.countFailed id).butDrain = s.butDrain := by
  unfold State.countFailed; split
  · rfl
  · rw [State.drain_frame]; rfl

theorem State.settleSlots_frame (s : State) (ks : List Nat) : (s.settleSlots ks).butSettleSlot = s.butSettleSlot :=
  foldl_frame State.butSettleSlot _ State.settleSlot_frame ks s

/-- The state outside what `normalDone` may change: tenants, creditTimer, slots, credits, index, streams, segments, lanes, durables, flushes, returns. -/
def State.butNormalDone (s : State) : State :=
  { s with
    tenants := [], creditTimer := none, slots := [], credits := 0, index := [], streams := [], segments := [],
    lanes := [], durables := [], flushes := [], returns := [] }

theorem State.normalDone_frame (s : State) (l : Nat) (r : InFlight) : (s.normalDone l r).butNormalDone = s.butNormalDone := by
  simp only [State.normalDone]; split
  all_goals simp only [agree (π := State.butNormalDone) (State.evalCredit_frame ..),
      agree (π := State.butNormalDone) (State.updLane_frame ..), agree (π := State.butNormalDone) (State.updStream_frame ..),
      agree (π := State.butNormalDone) (State.closeIfSettled_frame ..),
      agree (π := State.butNormalDone) (State.countDone_frame ..),
      agree (π := State.butNormalDone) (State.settleSlots_frame ..), agree (π := State.butNormalDone) (State.enqueue_frame ..)]

/-- The state outside what `normalFailed` may change: slots, streams, segments, lanes, returns. -/
def State.butNormalFailed (s : State) : State :=
  { s with
    slots := [], streams := [], segments := [], lanes := [], returns := [] }

theorem State.normalFailed_frame (s : State) (l : Nat) (reason : FailReason) (r : InFlight) :
    (s.normalFailed l reason r).butNormalFailed = s.butNormalFailed := by
  simp only [State.normalFailed]; split
  all_goals simp only [agree (π := State.butNormalFailed) (State.closeIfSettled_frame ..),
      agree (π := State.butNormalFailed) (State.updStream_frame ..),
      agree (π := State.butNormalFailed) (State.requeue_frame ..),
      agree (π := State.butNormalFailed) (State.setSlotStates_frame ..),
      agree (π := State.butNormalFailed) (State.updLane_frame ..),
      agree (π := State.butNormalFailed) (State.countFailed_frame ..), agree (π := State.butNormalFailed) (State.enqueue_frame ..)]

/-- The state outside what `recordFailed` may change: slots, streams, segments, lanes, dump, returns. -/
def State.butRecordFailed (s : State) : State :=
  { s with
    slots := [], streams := [], segments := [], lanes := [], dump := {}, returns := [] }

theorem State.recordFailed_frame (s : State) (l : Nat) (reason : FailReason) (r : InFlight) :
    (s.recordFailed l reason r).butRecordFailed = s.butRecordFailed := by
  unfold State.recordFailed; split
  · simp only [agree (π := State.butRecordFailed) (State.normalFailed_frame ..)]
  · simp only [agree (π := State.butRecordFailed) (State.dumpFailed_frame ..),
      agree (π := State.butRecordFailed) (State.updLane_frame ..)]

/-- The state outside what `recordDone` may change: part, dumpres, tenants, creditTimer, slots, credits, index, streams, segments, lanes, durables, flushes, dump, returns. -/
def State.butRecordDone (s : State) : State :=
  { s with
    part := .run, dumpres := .none, tenants := [], creditTimer := none, slots := [], credits := 0, index := [],
    streams := [], segments := [], lanes := [], durables := [], flushes := [], dump := {}, returns := [] }

theorem State.recordDone_frame (s : State) (l : Nat) (r : InFlight) : (s.recordDone l r).butRecordDone = s.butRecordDone := by
  simp only [State.recordDone]; repeat' split
  · simp only [agree (π := State.butRecordDone) (State.normalDone_frame ..)]
  · rfl
  · rfl

theorem State.breakOn_frame (s : State) (l k : Nat) : (State.breakOn l s k).butDrainAndClose = s.butDrainAndClose := by
  unfold State.breakOn; repeat' split
  · rfl
  · exact State.drainAndClose_frame ..
  · rfl

theorem State.breakLane_frame (s : State) (l : Nat) : (s.breakLane l).butDrainAndClose = s.butDrainAndClose :=
  foldl_frame State.butDrainAndClose _ (fun s k => State.breakOn_frame s l k) _ s

theorem State.failRecords_frame (s : State) (l : Nat) (rs : List InFlight) :
    (s.failRecords l rs).butRecordFailed = s.butRecordFailed :=
  foldl_frame State.butRecordFailed _ (fun s r => State.recordFailed_frame s l .laneDown r) rs s

theorem State.dumpLosesLane_frame (s : State) (l n : Nat) : (s.dumpLosesLane l n).butTakeGrant = s.butTakeGrant := by
  unfold State.dumpLosesLane; split
  · rw [State.loseDumpLane_frame]; rfl
  · rfl

theorem State.laneDown_frame (s : State) (l : Nat) (c : DownCause) : (s.laneDown l c).butRecordFailed = s.butRecordFailed := by
  simp only [State.laneDown]
  simp only [agree (π := State.butRecordFailed) (State.dumpLosesLane_frame ..),
      agree (π := State.butRecordFailed) (State.enqueue_frame ..),
      agree (π := State.butRecordFailed) (State.returnGrants_frame ..),
      agree (π := State.butRecordFailed) (State.breakLane_frame ..), State.failRecords_frame,
      agree (π := State.butRecordFailed) (State.setLane_frame ..)]

/-- The state outside what `endFailure` may change: part, dumpres, streams, segments, nextSegment, starved, lanes, dump, returns, due, draws. -/
def State.butEndFailure (s : State) : State :=
  { s with
    part := .run, dumpres := .none, streams := [], segments := [], nextSegment := 0, starved := [], lanes := [],
    dump := {}, returns := [], due := [], draws := 0 }

theorem State.endFailure_frame (s : State) : s.endFailure.butEndFailure = s.butEndFailure := by
  simp only [State.endFailure]
  simp only [agree (π := State.butEndFailure) (State.dumpCheck_frame ..),
      agree (π := State.butEndFailure) (State.endRequests_frame ..), agree (π := State.butEndFailure) (State.durablePads_frame ..)]

/-- The state outside what `answerMatched` may change: part, dumpres, tenants, creditTimer, slots, credits, index, streams, segments, nextSegment, starved, lanes, durables, flushes, dump, returns, due, draws. -/
def State.butAnswerMatched (s : State) : State :=
  { s with
    part := .run, dumpres := .none, tenants := [], creditTimer := none, slots := [], credits := 0, index := [],
    streams := [], segments := [], nextSegment := 0, starved := [], lanes := [], durables := [], flushes := [],
    dump := {}, returns := [], due := [], draws := 0 }

theorem State.answerMatched_frame (s : State) (l i : Nat) (r : InFlight) (o : Outcome) :
    (s.answerMatched l i r o).butAnswerMatched = s.butAnswerMatched := by
  simp only [State.answerMatched]; split
  · simp only [agree (π := State.butAnswerMatched) (State.dumpCheck_frame ..),
      agree (π := State.butAnswerMatched) (State.recordDone_frame ..), agree (π := State.butAnswerMatched) (State.updLane_frame ..)]
  · simp only [agree (π := State.butAnswerMatched) (State.endFailure_frame ..),
      agree (π := State.butAnswerMatched) (State.recordFailed_frame ..),
      agree (π := State.butAnswerMatched) (State.updLane_frame ..)]
  · rfl

theorem State.answerTaken_frame (s : State) (l : Nat) (h : Unit16) : (s.answerTaken l h).butAnswerMatched = s.butAnswerMatched := by
  unfold State.answerTaken; repeat' split
  all_goals first | rfl | exact State.answerMatched_frame ..

/-- The state outside what `expire` may change: now, part, dumpres, slots, streams, segments, nextSegment, starved, lanes, dump, returns, due, draws. -/
def State.butExpire (s : State) : State :=
  { s with
    now := 0, part := .run, dumpres := .none, slots := [], streams := [], segments := [], nextSegment := 0,
    starved := [], lanes := [], dump := {}, returns := [], due := [], draws := 0 }

theorem State.expire_frame (s : State) (l i : Nat) (r : InFlight) : (s.expire l i r).butExpire = s.butExpire := by
  simp only [State.expire]; split
  all_goals
    simp only [agree (π := State.butExpire) (State.endFailure_frame ..),
        agree (π := State.butExpire) (State.laneDown_frame ..), agree (π := State.butExpire) (State.updLane_frame ..),
        agree (π := State.butExpire) (State.recordFailed_frame ..)]
    rfl

/-- The state outside what `issueUnit` may change: slots, streams, segments, lanes, laneLinks. -/
def State.butIssueUnit (s : State) : State :=
  { s with
    slots := [], streams := [], segments := [], lanes := [], laneLinks := [] }

theorem State.issueUnit_frame (s : State) (l k : Nat) : (s.issueUnit l k).butIssueUnit = s.butIssueUnit := by
  simp only [State.issueUnit]; repeat' split
  · rfl
  all_goals simp only [agree (π := State.butIssueUnit) (State.drain_frame ..),
      agree (π := State.butIssueUnit) (State.sendLane_frame ..), agree (π := State.butIssueUnit) (State.updLane_frame ..),
      agree (π := State.butIssueUnit) (State.setSegment_frame ..),
      agree (π := State.butIssueUnit) (State.setStream_frame ..), agree (π := State.butIssueUnit) (State.setSlotStates_frame ..)]

/-- The state outside what `issueOn` may change: slots, streams, segments, nextSegment, starved, lanes, returns, due, draws, laneLinks. -/
def State.butIssueOn (s : State) : State :=
  { s with
    slots := [], streams := [], segments := [], nextSegment := 0, starved := [], lanes := [], returns := [],
    due := [], draws := 0, laneLinks := [] }

theorem State.issueOn_frame (s : State) (l : Nat) : (s.issueOn l).butIssueOn = s.butIssueOn := by
  simp only [State.issueOn]; repeat' split
  all_goals first | rfl | simp only [agree (π := State.butIssueOn) (State.endRequests_frame ..),
      agree (π := State.butIssueOn) (State.durablePads_frame ..), agree (π := State.butIssueOn) (State.issueUnit_frame ..),
      agree (π := State.butIssueOn) (State.updLane_frame ..)]

end Sys2Proof.Machine
end

