-- ==== Sys2Proof/Laws/Ops.lean ====
section
/-! SUPPORT. What each shared operation does, said once: taking a parcel, the credit engine, freeing slots, folds over slots and
streams, the end of an event, and the order by landing sequence. The frames (what an operation leaves alone) stand in Frames.lean. -/

namespace Sys2Proof.Machine

open Sys2Proof

/-! ## Taking a parcel -/

/-- A parcel that is offered and wanted is taken: the parser is AWAITING and the owning block acts. -/
theorem State.take_offers {s : State} {a : Arriving} {want : Arriving → Bool} (act : State → Arriving → State) (h : s.offers a)
    (hw : want a = true) : s.take want act = act { s with parser := .awaiting } a := by
  simp [State.take, h.1, hw, h.2]

/-- A parcel that is not wanted stays where it is. -/
theorem State.take_unwanted {s : State} {a : Arriving} {want : Arriving → Bool} (act : State → Arriving → State)
    (h : s.wholeParcel = some a) (hw : want a = false) : s.take want act = s := by
  simp [State.take, h, hw]

/-- With no whole parcel nothing is taken. -/
theorem State.take_none {s : State} (want : Arriving → Bool) (act : State → Arriving → State) (h : s.wholeParcel = none) :
    s.take want act = s := by
  simp [State.take, h]

/-- What a taking answers: the act on a parcel that the parser held, the parcel GATED by a closed gate, or nothing. -/
theorem State.take_cases (s : State) (want : Arriving → Bool) (act : State → Arriving → State) :
    s.take want act = s
      ∨ (∃ a, s.wholeParcel = some a ∧ want a = true ∧ s.ingressGateOpen = false ∧ s.take want act = { s with parser := .gated a })
      ∨ ∃ a, s.offers a ∧ want a = true ∧ s.take want act = act { s with parser := .awaiting } a := by
  unfold State.take
  cases hp : s.wholeParcel with
  | none => exact .inl rfl
  | some a =>
    cases hw : want a with
    | false => exact .inl (by simp [hw])
    | true =>
      cases hg : s.ingressGateOpen with
      | false => exact .inr (.inl ⟨a, rfl, hw, rfl, by simp [hw]⟩)
      | true => exact .inr (.inr ⟨a, ⟨hp, hg⟩, hw, by simp [hw]⟩)

/-- A whole parcel is what the parser holds, in RUN: in GATED without an abort mark, or in RECEIVING when no block of it lands. -/
theorem State.wholeParcel_some {s : State} {a : Arriving} (h : s.wholeParcel = some a) :
    s.running = true ∧ ((s.parser = .gated a ∧ a.aborted = false)
      ∨ (s.parser = .receiving a ∧ (a.kind = kindWrite → a.overrun = true))) := by
  simp only [State.wholeParcel] at h
  split at h
  · rename_i hr
    refine ⟨hr, ?_⟩
    split at h
    · split at h <;> simp_all
    · rename_i a' hp
      split at h
      · cases h
      · rename_i hn
        cases h
        exact .inr ⟨hp, fun hk => by by_contra hc; exact hn ⟨hk, by simpa using hc⟩⟩
    · cases h
  · cases h

/-- A request of the catalogue with its permitted body is taken by the command of its code. -/
theorem Arriving.isCode_of_asks {a : Arriving} {code units : Nat} (h : a.asks code units) (hc : requestCodes.contains code = true)
    (hu : units = permittedBody a) : a.isCode code = true := by
  obtain ⟨h1, h2, h3⟩ := h
  simp only [Arriving.isCode, Arriving.isRequest, h1, h2, h3, hc, hu]
  simp

/-! ## Steps -/

/-- A step with a command waiting is that command with the queue's rest. -/
theorem step_cons {s : State} {c : Instr} {rest : List Instr} (h : s.pending = c :: rest) :
    step s = exec c { s with pending := rest } := by
  simp [step, h]

/-- A step with no command waiting lets one microsecond pass. -/
theorem step_nil {s : State} (h : s.pending = []) : step s = .next { s with now := s.now + 1 } := by
  simp [step, h]

/-! ## Folds -/

/-- What every step of a fold keeps true, the fold keeps true. -/
theorem foldl_keeps {α : Type} {P : State → Prop} {f : State → α → State} (h : ∀ s x, P s → P (f s x)) (l : List α) :
    ∀ {s}, P s → P (l.foldl f s) := by
  induction l with
  | nil => exact fun h => h
  | cons x t ih => exact fun hs => ih (h _ _ hs)

/-- A fold over slots that rewrites each slot by `g`, where a second rewrite changes nothing, rewrites exactly the slots listed. -/
theorem foldl_slots {f : State → Nat → State} {g : Slot → Slot} (hg : ∀ r, g (g r) = g r)
    (hf : ∀ s k j, (f s k).slot j = if j = k then g (s.slot k) else s.slot j) (ks : List Nat) (s : State) (j : Nat) :
    (ks.foldl f s).slot j = if j ∈ ks then g (s.slot j) else s.slot j := by
  induction ks generalizing s with
  | nil => simp
  | cons k t ih =>
    rw [List.foldl_cons, ih, hf]
    by_cases h1 : j = k
    · subst h1; by_cases h2 : j ∈ t <;> simp [h2, hg]
    · simp [h1]

theorem State.setSlotStates_slot (s : State) (ks : List Nat) (st : SlotState) (j : Nat) :
    (s.setSlotStates ks st).slot j = if j ∈ ks then { s.slot j with state := st } else s.slot j :=
  foldl_slots (g := fun r => { r with state := st }) (fun _ => rfl) (fun s k j => by rw [State.slot_setSlot]) ks s j

theorem State.markSlots_slot (s : State) (ks : List Nat) (j : Nat) :
    (s.markSlots ks).slot j = if j ∈ ks then { s.slot j with mark := true } else s.slot j :=
  foldl_slots (g := fun r => { r with mark := true }) (fun _ => rfl) (fun s k j => by rw [State.slot_setSlot]) ks s j

/-! ## Freeing slots and the credit engine -/

/-- A freed slot is FREE without reference or mark and keeps its other fields; every other slot stays (R28). -/
theorem State.freeSlot_slot (s : State) (k j : Nat) :
    (s.freeSlot k).slot j = if j = k then { s.slot k with state := .free, durable := none, mark := false } else s.slot j := by
  simp only [State.freeSlot]
  rw [State.slot_setSlot]
  repeat' split
  all_goals rfl

theorem State.freeSlotList_slot (s : State) (ks : List Nat) (j : Nat) :
    (s.freeSlotList ks).slot j
      = if j ∈ ks then { s.slot j with state := .free, durable := none, mark := false } else s.slot j :=
  foldl_slots (g := fun r => { r with state := .free, durable := none, mark := false }) (fun _ => rfl)
    (fun s k j => State.freeSlot_slot s k j) ks s j

/-- A freed slot loses its landing index entry when that names it; every other entry stays (R47). -/
theorem State.freeSlot_index (s : State) (k : Nat) :
    (s.freeSlot k).index = if s.indexed (s.slot k).fn (s.slot k).ns (s.slot k).lba = some k
      then Store.erase s.index (identityKey (s.slot k).fn (s.slot k).ns (s.slot k).lba) else s.index := by
  simp only [State.freeSlot]
  repeat' split
  all_goals rfl

/-- Freeing an in-use slot lowers its tenant's staged count by 1; no other field of a tenant changes (R3). -/
theorem State.freeSlot_tenant (s : State) (k t : Nat) :
    (s.freeSlot k).tenant t = if t = (s.slot k).fn ∧ (s.slot k).inUse = true
      then { s.tenant t with stagedCount := (s.tenant t).stagedCount - 1 } else s.tenant t := by
  have e : ∀ x : State, x = (if s.indexed (s.slot k).fn (s.slot k).ns (s.slot k).lba = some k
      then s.dropIndex (identityKey (s.slot k).fn (s.slot k).ns (s.slot k).lba) else s) → ∀ u, x.tenant u = s.tenant u := by
    rintro x rfl u; split <;> rfl
  simp only [State.freeSlot, State.setSlot_tenant]
  generalize hx : ite (s.indexed (s.slot k).fn (s.slot k).ns (s.slot k).lba = some k) _ _ = x
  have e := e x hx.symm
  by_cases h : (s.slot k).inUse = true
  · rw [if_pos h, State.tenant_setTenant, e]
    by_cases ht : t = (s.slot k).fn
    · subst ht; simp [h]
    · simp [ht, e]
  · rw [if_neg h, if_neg (fun c => h c.2), e]

/-- The evaluation of the returnable count: one CREDIT with the whole of it at CREDIT-BATCH, the linger timer started below it, and
nothing at 0 or outside RUN (R30, R31, R33). -/
theorem State.evalCredit_cases (s : State) :
    (s.part = .run ∧ 1 ≤ s.returnable ∧ s.params.creditBatch ≤ s.returnable ∧ s.evalCredit = s.sendCredit)
      ∨ (s.part = .run ∧ 1 ≤ s.returnable ∧ s.returnable < s.params.creditBatch ∧ s.creditTimer = none
          ∧ s.evalCredit = { s with creditTimer := some (s.now + s.params.creditLinger) })
      ∨ (s.evalCredit = s ∧ (s.part ≠ .run ∨ s.returnable = 0 ∨ s.returnable < s.params.creditBatch ∧ s.creditTimer.isSome = true)) := by
  unfold State.evalCredit
  by_cases h1 : s.part = .run
  · by_cases h2 : 1 ≤ s.returnable ∧ s.params.creditBatch ≤ s.returnable
    · exact .inl ⟨h1, h2.1, h2.2, by simp [h1, h2]⟩
    · by_cases h3 : 1 ≤ s.returnable ∧ s.creditTimer = none
      · exact .inr (.inl ⟨h1, h3.1, by omega, h3.2, by rw [if_neg (by simp [h1]), if_neg h2, if_pos h3]⟩)
      · refine .inr (.inr ⟨by simp [h1, h2, h3], .inr ?_⟩)
        by_cases h4 : s.returnable = 0
        · exact .inl h4
        · refine .inr ⟨by omega, ?_⟩
          cases ht : s.creditTimer with
          | none => exact absurd ⟨by omega, ht⟩ h3
          | some _ => rfl
  · exact .inr (.inr ⟨by simp [h1], .inl h1⟩)

/-- The evaluation that ends an event from `s`, in a state `u` in RUN that has the credits, the timer, the clock and the parameters of `s`
(R30, R31). -/
theorem State.evalCredit_follows {s u : State} (hr : u.part = .run) (hc : u.credits = s.credits) (ht : u.creditTimer = s.creditTimer)
    (hn : u.now = s.now) (hp : u.params = s.params) :
    s.creditsFollow u.evalCredit ∧ u.evalCredit.returns = u.returns ++ s.creditParcels u.evalCredit
      ∧ u.evalCredit.freeSlots = u.freeSlots := by
  have hq : u.freeSlots - u.credits = u.returnable := rfl
  have hf : u.evalCredit.freeSlots = u.freeSlots := by
    rcases u.evalCredit_cases with ⟨-, -, -, h⟩ | ⟨-, -, -, -, h⟩ | ⟨h, -⟩ <;> rw [h] <;> rfl
  simp only [State.creditsFollow, State.creditParcels, State.creditDue, hf, hq, ← hp, ← hc, ← ht, ← hn, decide_eq_true_eq]
  refine ⟨?_, ?_, trivial⟩ <;> rcases u.evalCredit_cases with ⟨-, h1, h2, h⟩ | ⟨-, h1, h2, h3, h⟩ | ⟨h, h1⟩ <;> rw [h]
  · simp [h1, h2, State.sendCredit, State.enqueue]
  · simp [h1, h3, show ¬ u.params.creditBatch ≤ u.returnable by omega]
  · rcases h1 with h1 | h1 | ⟨h1, h2⟩
    · exact absurd hr h1
    · simp [h1]
    · simp [show ¬ u.params.creditBatch ≤ u.returnable by omega, Option.ne_none_iff_isSome.2 h2]
  · simp [h1, h2, State.sendCredit, State.enqueue]
  · simp [show ¬ u.params.creditBatch ≤ u.returnable by omega]
  · rcases h1 with h1 | h1 | ⟨h1, h2⟩
    · exact absurd hr h1
    · simp [h1]
    · simp [show ¬ u.params.creditBatch ≤ u.returnable by omega]

/-- The credit engine enqueues CREDIT parcels and nothing else. -/
theorem State.evalCredit_returns (s : State) :
    ∃ rest, s.evalCredit.returns = s.returns ++ rest ∧ ∀ p ∈ rest, ∃ n, p = .credit n := by
  rcases s.evalCredit_cases with ⟨-, -, -, h⟩ | ⟨-, -, -, -, h⟩ | ⟨h, -⟩ <;> rw [h]
  · exact ⟨[.credit s.returnable], rfl, by simp⟩
  · exact ⟨[], by simp, by simp⟩
  · exact ⟨[], by simp, by simp⟩

/-! ## The end of an event -/

/-- The POOL-LOW notices due are enqueued, in some order, and nothing else (R82). -/
theorem sendPoolLows_returns (n : Nat) (ls : List Nat) (s : State) :
    ∃ rest, (State.sendPoolLows n ls s).returns = s.returns ++ rest ∧ ∀ p ∈ rest, ∃ l k, p = .poolLow l k := by
  induction n generalizing ls s with
  | zero => exact ⟨[], by simp [State.sendPoolLows], by simp⟩
  | succ n ih =>
    match ls with
    | [] => exact ⟨[], by simp [State.sendPoolLows], by simp⟩
    | [l] => exact ⟨[.poolLow l (s.lane l).normal.length], rfl, by simp⟩
    | l :: x :: ls =>
      obtain ⟨rest, h, hp⟩ := ih ((l :: x :: ls).eraseIdx (Config.freeChoice s.draws % ((x :: ls).length + 1)))
        { s.enqueue (.poolLow ((l :: x :: ls).getD (Config.freeChoice s.draws % ((x :: ls).length + 1)) l)
          (s.lane ((l :: x :: ls).getD (Config.freeChoice s.draws % ((x :: ls).length + 1)) l)).normal.length) with
          draws := s.draws + 1 }
      refine ⟨_, by rw [State.sendPoolLows, h, State.enqueue_returns, List.append_assoc]; simp, ?_⟩
      simp only [List.singleton_append, List.mem_cons]
      rintro p (rfl | h)
      · exact ⟨_, _, rfl⟩
      · exact hp p h

theorem State.poolLowNotices_returns (s : State) :
    ∃ rest, s.poolLowNotices.returns = s.returns ++ rest ∧ ∀ p ∈ rest, ∃ l k, p = .poolLow l k :=
  sendPoolLows_returns _ _ _

/-- With no POOL-LOW due nothing is enqueued. -/
theorem State.poolLowNotices_nil {s : State} (h : s.due = []) : s.poolLowNotices = s := by
  obtain ⟨⟩ := s; cases h; rfl

/-- With one POOL-LOW due, that one is enqueued. -/
theorem State.poolLowNotices_one {s : State} {l : Nat} (h : s.due = [l]) :
    s.poolLowNotices = { s.enqueue (.poolLow l (s.lane l).normal.length) with due := [] } := by
  unfold State.poolLowNotices; rw [h]; rfl

/-- A stream requests a segment only when it is IDLE with a ready unit (R56). -/
theorem State.requestIfDue_of {s : State} {k : Nat} (h : (s.stream k).state = .idle → (s.stream k).ready = 0) : s.requestIfDue k = s := by
  unfold State.requestIfDue
  rw [if_neg]
  rintro ⟨h1, h2⟩
  have := h h1; omega

/-- A fold over all streams whose steps change nothing changes nothing. -/
theorem forStreams_id {f : State → Nat → State} {s : State} (h : ∀ k, k < Config.streams → f s k = s) : s.forStreams f = s := by
  unfold State.forStreams
  have : ∀ l : List Nat, (∀ k ∈ l, k < Config.streams) → l.foldl f s = s := by
    intro l hl
    induction l with
    | nil => rfl
    | cons x t ih => rw [List.foldl_cons, h x (hl x (by simp)), ih fun k hk => hl k (by simp [hk])]
  exact this _ fun k hk => List.mem_range.1 hk

/-- A fold over all streams in which only one step changes anything is that step. -/
theorem forStreams_one {f : State → Nat → State} {s : State} {i : Nat} (hi : i < Config.streams)
    (h1 : ∀ k, k < i → f s k = s) (h2 : ∀ k, i < k → k < Config.streams → f (f s i) k = f s i) : s.forStreams f = f s i := by
  unfold State.forStreams
  have e : List.range Config.streams = List.range i ++ i :: List.range' (i + 1) (Config.streams - i - 1) := by
    rw [List.range_eq_range', List.range_eq_range', ← List.range'_succ,
      show Config.streams = i + (Config.streams - i - 1 + 1) by omega]
    rw [List.range'_append_1.symm]; simp
  have key : ∀ (l : List Nat) (t : State), (∀ k ∈ l, f t k = t) → l.foldl f t = t := by
    intro l t hl
    induction l with
    | nil => rfl
    | cons x r ih => rw [List.foldl_cons, hl x (by simp), ih fun k hk => hl k (by simp [hk])]
  rw [e, List.foldl_append, List.foldl_cons, key (List.range i) s fun k hk => h1 k (List.mem_range.1 hk)]
  refine key _ _ fun k hk => ?_
  rw [List.mem_range'_1] at hk
  exact h2 k (by omega) (by omega)

/-- In a calm state the end of an event does nothing. -/
theorem State.endRequests_calm {s : State} (h : s.calm) : s.endRequests = s := by
  have : s.segmentRequests = s := by
    unfold State.segmentRequests
    split
    · exact forStreams_id fun k hk => State.requestIfDue_of (h.1 k hk)
    · rfl
  rw [State.endRequests, this, State.poolLowNotices_nil h.2]

/-! ## Streams -/

/-- The stream after a pad: pad pending is set when the tail is non-empty and not yet padded, and the stream bound (section 3.5). -/
theorem State.padStream_stream (s : State) (k j : Nat) :
    (s.padStream k).stream j = if j = k ∧ (s.stream k).paddable = true then { s.stream k with pad := true } else s.stream j := by
  unfold State.padStream
  split
  · rename_i h; rw [State.stream_setStream]; simp [h]
  · rename_i h; rw [if_neg (by simp [h])]

/-- A fold over all streams whose step rewrites its own stream by `g`, which reads that stream and what no step changes, rewrites every
stream below 256 by `g`. -/
theorem forStreams_stream {f : State → Nat → State} {P : State → Prop} {g : Stream → Stream}
    (hP : ∀ s k, P s → P (f s k)) (hf : ∀ s k j, P s → (f s k).stream j = if j = k then g (s.stream k) else s.stream j)
    {s : State} (hs : P s) (j : Nat) : (s.forStreams f).stream j = if j < Config.streams then g (s.stream j) else s.stream j := by
  unfold State.forStreams
  have : ∀ n, P ((List.range n).foldl f s)
      ∧ ((List.range n).foldl f s).stream j = if j < n then g (s.stream j) else s.stream j := by
    intro n
    induction n with
    | zero => exact ⟨hs, by simp⟩
    | succ n ih =>
      rw [List.range_succ, List.foldl_append, List.foldl_cons, List.foldl_nil]
      refine ⟨hP _ _ ih.1, ?_⟩
      rw [hf _ _ _ ih.1]
      by_cases h : j = n
      · subst h; rw [if_pos rfl, ih.2]; simp
      · rw [if_neg h, ih.2]
        by_cases h' : j < n
        · rw [if_pos h', if_pos (by omega)]
        · rw [if_neg h', if_neg (by omega)]
  exact (this _).2

/-! ## Order by landing sequence -/

theorem State.insertBySeq_perm (s : State) (k : Nat) (l : List Nat) : (s.insertBySeq k l).Perm (k :: l) := by
  induction l with
  | nil => exact .refl _
  | cons j t ih =>
    simp only [State.insertBySeq]
    split
    · exact .refl _
    · exact (ih.cons j).trans (.swap k j t)

theorem State.insertBySeq_sorted (s : State) (k : Nat) {l : List Nat} (h : (l.map fun j => (s.slot j).seq).Pairwise (· ≤ ·)) :
    ((s.insertBySeq k l).map fun j => (s.slot j).seq).Pairwise (· ≤ ·) := by
  induction l with
  | nil => simp [State.insertBySeq]
  | cons j t ih =>
    simp only [List.map_cons, List.pairwise_cons] at h
    simp only [State.insertBySeq]
    split
    · rename_i hk
      simp only [List.map_cons, List.pairwise_cons]
      refine ⟨fun x hx => ?_, h.1, h.2⟩
      rcases List.mem_cons.1 hx with rfl | hx
      · omega
      · have := h.1 x hx; omega
    · rename_i hk
      simp only [List.map_cons, List.pairwise_cons]
      refine ⟨fun x hx => ?_, ih h.2⟩
      obtain ⟨i, hi, rfl⟩ := List.mem_map.1 hx
      rcases List.mem_cons.1 ((s.insertBySeq_perm k t).mem_iff.1 hi) with rfl | hi
      · omega
      · exact h.1 _ (List.mem_map_of_mem hi)

theorem State.mergeBySeq_perm (s : State) (ks l : List Nat) : (s.mergeBySeq ks l).Perm (l ++ ks) := by
  unfold State.mergeBySeq
  induction ks generalizing l with
  | nil => simp
  | cons k t ih =>
    rw [List.foldl_cons]
    exact (ih _).trans (((s.insertBySeq_perm k l).append_right t).trans List.perm_middle.symm)

theorem State.mergeBySeq_sorted (s : State) (ks : List Nat) {l : List Nat}
    (h : (l.map fun j => (s.slot j).seq).Pairwise (· ≤ ·)) : ((s.mergeBySeq ks l).map fun j => (s.slot j).seq).Pairwise (· ≤ ·) := by
  unfold State.mergeBySeq
  induction ks generalizing l with
  | nil => exact h
  | cons k t ih => exact ih (s.insertBySeq_sorted k h)

/-! ## The dump -/

/-- The entry to DUMPED empties the lines of waiting parcels and leaves every record in flight (R163). -/
theorem State.enterDumped_dumpInFlight {s : State} (hs : Store.sorted s.lanes = true) (r : DumpResult) (trailer : Bool) :
    (s.enterDumped r).dumpInFlight trailer = s.dumpInFlight trailer := by
  have h (l : Nat) : (s.enterDumped r).lane l = { s.lane l with waiting := [] } :=
    Store.getD_mapD (d := ({} : Lane)) hs (fun x => { x with waiting := [] }) rfl l
  simp [State.dumpInFlight, h, Lane.hasDump]

/-- What the end of an event in DUMPING does, in the words of the claims (R162, R163). -/
theorem State.dumpCheck_settled {s : State} (h : s.part = .dumping) (hs : Store.sorted s.lanes = true) :
    s.dumpCheck.dumpSettled s.dump.phase := by
  unfold State.dumpCheck State.dumpSettled
  rw [if_pos h]
  by_cases h0 : s.dump.remaining = 0
  · rw [if_pos h0]
    cases ht : s.dumpInFlight true
    · have hf := (State.enterDumped_dumpInFlight hs .failed true).trans ht
      exact ⟨fun _ _ => ⟨rfl, rfl, rfl⟩, fun _ hc => absurd (hf.symm.trans hc) (by decide), fun hc => absurd h0 hc⟩
    · exact ⟨fun _ hc => absurd (ht.symm.trans hc) (by decide), fun _ _ => ⟨h, rfl⟩, fun hc => absurd h0 hc⟩
  · rw [if_neg h0]
    by_cases hc : s.dump.phase = .filling ∧ s.dumpInFlight false = false ∧ (s.undumped = 0 ∨ s.dump.remaining ≤ 1)
    · rw [if_pos hc]
      exact ⟨fun hr => absurd hr h0, fun hr => absurd hr h0, fun _ => ⟨h, (if_pos hc).symm⟩⟩
    · rw [if_neg hc]
      exact ⟨fun hr => absurd hr h0, fun hr => absurd hr h0, fun _ => ⟨h, (if_neg hc).symm⟩⟩

/-- What the taking of a dump grant does, in the words of the claims (R155). -/
theorem State.takeGrant_takesNext (s : State) (l : Nat) : s.takesNext (s.takeGrant l) l := by
  unfold State.takesNext State.takeGrant
  refine ⟨fun j d ds hl hj hup hd hb => ?_, fun hn => ?_⟩
  · have hf : firstFrom (fun j => (s.lane j).up && !(s.lane j).dump.isEmpty) (Config.lanes - l) l = some j := by
      refine firstFrom_eq_some.2 ⟨hl, by simp [Config.lanes]; omega, by simp [hup, hd], fun h h1 h2 => ?_⟩
      cases hu : (s.lane h).up
      · simp
      · simp [hb h h1 h2 hu]
    simp only [hf, hd]
    exact ⟨by simp, by simp, congrArg Lane.dump (Store.getD_setD_self _ _ _ _)⟩
  · have hf : firstFrom (fun j => (s.lane j).up && !(s.lane j).dump.isEmpty) (Config.lanes - l) l = none := by
      refine firstFrom_eq_none.2 fun h h1 h2 => ?_
      cases hu : (s.lane h).up
      · simp
      · simp [hn h h1 (by simp [Config.lanes] at h2; omega) hu]
    simp [hf]

/-! ## Failed units: the base cases of the claims -/

@[simp] theorem State.failureParcels_nil (s : State) (l : Nat) (stay : List InFlight) : s.failureParcels l stay [] = [] := rfl
@[simp] theorem State.requeueUnits_nil (s : State) : s.requeueUnits [] = s := rfl
@[simp] theorem State.unitsOf_nil (s : State) (k : Nat) : s.unitsOf [] k = 0 := rfl
@[simp] theorem Segment.lost_done (g : Segment) : g.lost.done = g.done := rfl
@[simp] theorem Segment.lost_failed (g : Segment) : g.lost.failed = g.issued - g.done := rfl

end Sys2Proof.Machine
end

