-- ==== Sys2Proof/Laws/PerInstr.lean ====
section
/-! SUPPORT. Statements made for every command, one lemma for each constructor. -/

namespace Sys2Proof.Laws

/-- How many units of 16 bytes a command brings in beside its head: a landing its block, a head arrival the body that comes with the head. -/
def unitsIn : Instr → Nat
  | .landing block => block.length
  | .parcelHeadArrival _ body => body.length
  | _ => 0

/-- A command that can come brings in at most the 65535 units that a parcel's body may have, and a landing at most one block of 256
(R34, R181). -/
def Bounded.Statement (i : Instr) : Prop :=
  i.wellFormed = true → unitsIn i ≤ 65535 ∧ ∀ block, i = .landing block → 1 ≤ block.length ∧ unitsIn i ≤ 256

theorem Bounded.landing (block : List Unit16) : Bounded.Statement (.landing block) := by
  intro h
  have h : 1 ≤ block.length ∧ block.length ≤ 256 := of_decide_eq_true h
  exact ⟨by simp only [unitsIn]; omega, fun b e => by cases e; exact h⟩
theorem Bounded.write : Bounded.Statement (.write) := fun _ => ⟨Nat.zero_le _, fun _ e => by cases e⟩
theorem Bounded.heldWriteRetaking : Bounded.Statement (.heldWriteRetaking) := fun _ => ⟨Nat.zero_le _, fun _ e => by cases e⟩
theorem Bounded.abortMark : Bounded.Statement (.abortMark) := fun _ => ⟨Nat.zero_le _, fun _ e => by cases e⟩
theorem Bounded.abortedWriteRelease : Bounded.Statement (.abortedWriteRelease) := fun _ => ⟨Nat.zero_le _, fun _ e => by cases e⟩
theorem Bounded.peek : Bounded.Statement (.peek) := fun _ => ⟨Nat.zero_le _, fun _ e => by cases e⟩
theorem Bounded.flush : Bounded.Statement (.flush) := fun _ => ⟨Nat.zero_le _, fun _ e => by cases e⟩
theorem Bounded.parcelDiscarded : Bounded.Statement (.parcelDiscarded) := fun _ => ⟨Nat.zero_le _, fun _ e => by cases e⟩
theorem Bounded.badRequest : Bounded.Statement (.badRequest) := fun _ => ⟨Nat.zero_le _, fun _ e => by cases e⟩
theorem Bounded.identify : Bounded.Statement (.identify) := fun _ => ⟨Nat.zero_le _, fun _ e => by cases e⟩
theorem Bounded.setParam : Bounded.Statement (.setParam) := fun _ => ⟨Nat.zero_le _, fun _ e => by cases e⟩
theorem Bounded.setDecayInterval : Bounded.Statement (.setDecayInterval) := fun _ => ⟨Nat.zero_le _, fun _ e => by cases e⟩
theorem Bounded.setDurableLinger : Bounded.Statement (.setDurableLinger) := fun _ => ⟨Nat.zero_le _, fun _ e => by cases e⟩
theorem Bounded.setCreditBatch : Bounded.Statement (.setCreditBatch) := fun _ => ⟨Nat.zero_le _, fun _ e => by cases e⟩
theorem Bounded.setSequenceBase : Bounded.Statement (.setSequenceBase) := fun _ => ⟨Nat.zero_le _, fun _ e => by cases e⟩
theorem Bounded.setPoolLowMark : Bounded.Statement (.setPoolLowMark) := fun _ => ⟨Nat.zero_le _, fun _ e => by cases e⟩
theorem Bounded.getParam : Bounded.Statement (.getParam) := fun _ => ⟨Nat.zero_le _, fun _ e => by cases e⟩
theorem Bounded.putTenant : Bounded.Statement (.putTenant) := fun _ => ⟨Nat.zero_le _, fun _ e => by cases e⟩
theorem Bounded.getTenant : Bounded.Statement (.getTenant) := fun _ => ⟨Nat.zero_le _, fun _ e => by cases e⟩
theorem Bounded.dropTenant : Bounded.Statement (.dropTenant) := fun _ => ⟨Nat.zero_le _, fun _ e => by cases e⟩
theorem Bounded.putRanges : Bounded.Statement (.putRanges) := fun _ => ⟨Nat.zero_le _, fun _ e => by cases e⟩
theorem Bounded.getRanges : Bounded.Statement (.getRanges) := fun _ => ⟨Nat.zero_le _, fun _ e => by cases e⟩
theorem Bounded.putStream : Bounded.Statement (.putStream) := fun _ => ⟨Nat.zero_le _, fun _ e => by cases e⟩
theorem Bounded.getStream : Bounded.Statement (.getStream) := fun _ => ⟨Nat.zero_le _, fun _ e => by cases e⟩
theorem Bounded.holdStream : Bounded.Statement (.holdStream) := fun _ => ⟨Nat.zero_le _, fun _ e => by cases e⟩
theorem Bounded.releaseStream : Bounded.Statement (.releaseStream) := fun _ => ⟨Nat.zero_le _, fun _ e => by cases e⟩
theorem Bounded.flushStream : Bounded.Statement (.flushStream) := fun _ => ⟨Nat.zero_le _, fun _ e => by cases e⟩
theorem Bounded.rotateStream : Bounded.Statement (.rotateStream) := fun _ => ⟨Nat.zero_le _, fun _ e => by cases e⟩
theorem Bounded.unbindStream : Bounded.Statement (.unbindStream) := fun _ => ⟨Nat.zero_le _, fun _ e => by cases e⟩
theorem Bounded.grantBlocks : Bounded.Statement (.grantBlocks) := fun _ => ⟨Nat.zero_le _, fun _ e => by cases e⟩
theorem Bounded.getLane : Bounded.Statement (.getLane) := fun _ => ⟨Nat.zero_le _, fun _ e => by cases e⟩
theorem Bounded.restartLane : Bounded.Statement (.restartLane) := fun _ => ⟨Nat.zero_le _, fun _ e => by cases e⟩
theorem Bounded.clearPart : Bounded.Statement (.clearPart) := fun _ => ⟨Nat.zero_le _, fun _ e => by cases e⟩
theorem Bounded.issue (lane : Fin 8) : Bounded.Statement (.issue lane) := fun _ => ⟨Nat.zero_le _, fun _ e => by cases e⟩
theorem Bounded.answer (lane : Fin 8) : Bounded.Statement (.answer lane) := fun _ => ⟨Nat.zero_le _, fun _ e => by cases e⟩
theorem Bounded.malformedLaneParcel (lane : Fin 8) : Bounded.Statement (.malformedLaneParcel lane) := fun _ => ⟨Nat.zero_le _, fun _ e => by cases e⟩
theorem Bounded.laneAbortMark (lane : Fin 8) : Bounded.Statement (.laneAbortMark lane) := fun _ => ⟨Nat.zero_le _, fun _ e => by cases e⟩
theorem Bounded.expiry (lane : Fin 8) (record : Nat) : Bounded.Statement (.expiry lane record) := fun _ => ⟨Nat.zero_le _, fun _ e => by cases e⟩
theorem Bounded.laneflt (lane : Fin 8) (asserted : Bool) : Bounded.Statement (.laneflt lane asserted) := fun _ => ⟨Nat.zero_le _, fun _ e => by cases e⟩
theorem Bounded.decayExpiry : Bounded.Statement (.decayExpiry) := fun _ => ⟨Nat.zero_le _, fun _ e => by cases e⟩
theorem Bounded.lingerClockExpiry : Bounded.Statement (.lingerClockExpiry) := fun _ => ⟨Nat.zero_le _, fun _ e => by cases e⟩
theorem Bounded.creditLingerExpiry : Bounded.Statement (.creditLingerExpiry) := fun _ => ⟨Nat.zero_le _, fun _ e => by cases e⟩
theorem Bounded.dumpUnitSend : Bounded.Statement (.dumpUnitSend) := fun _ => ⟨Nat.zero_le _, fun _ e => by cases e⟩
theorem Bounded.trailerSend : Bounded.Statement (.trailerSend) := fun _ => ⟨Nat.zero_le _, fun _ e => by cases e⟩
theorem Bounded.parcelSent : Bounded.Statement (.parcelSent) := fun _ => ⟨Nat.zero_le _, fun _ e => by cases e⟩
theorem Bounded.pfail (asserted : Bool) : Bounded.Statement (.pfail asserted) := fun _ => ⟨Nat.zero_le _, fun _ e => by cases e⟩
theorem Bounded.resetAssert (returnCut : Bool) (lanesCut : BitVec 8) : Bounded.Statement (.resetAssert returnCut lanesCut) := fun _ => ⟨Nat.zero_le _, fun _ e => by cases e⟩
theorem Bounded.resetRelease : Bounded.Statement (.resetRelease) := fun _ => ⟨Nat.zero_le _, fun _ e => by cases e⟩
theorem Bounded.parcelHeadArrival (head : Unit16) (body : List Unit16) : Bounded.Statement (.parcelHeadArrival head body) := by
  intro h
  have hu : headBodyUnits head ≤ 65535 := by unfold headBodyUnits; omega
  refine ⟨?_, fun _ e => by cases e⟩
  simp only [Instr.wellFormed, bodyFits] at h
  split at h
  · simp [unitsIn, List.isEmpty_iff.1 h]
  · simp only [decide_eq_true_eq] at h; simp only [unitsIn]; omega
theorem Bounded.answerArrival (lane : Fin 8) (head : Unit16) : Bounded.Statement (.answerArrival lane head) := fun _ => ⟨Nat.zero_le _, fun _ e => by cases e⟩

end Sys2Proof.Laws
end

