-- ==== Sys2Proof/Tests/Slice0.lean ====
section
/-! SUPPORT. Tests. First the well-formedness smoke, then single steps with the numbers of the chapters' worked cases, then for every
obligation with hypotheses a state and operands that meet them all. -/

namespace Sys2Proof.Tests

open Sys2Proof Sys2Proof.Machine

set_option Elab.async false

/-! ## Helpers -/

/-- A unit from its bytes, byte 0 first. -/
def unitOf (bs : List Nat) : Unit16 := BitVec.ofNat 128 (bs.foldr (fun b n => b + 256 * n) 0)

/-- The state that a command leads to. -/
def after (c : Instr) (s : State) : State :=
  match exec c s with
  | .next t => t
  | _ => { s with due := [999] }

/-- The parser holds a whole parcel. -/
def holds (s : State) (a : Arriving) : State := { s with parser := .gated a }

/-- A MGMT parcel of tag 7: body length, function, request code, argument bytes, body. -/
def mgmt (fn code : Nat) (args : List Nat) (body : List Unit16 := []) : Arriving :=
  { head := unitOf ([0x1F, 0, body.length, 0, 7, 0, fn % 256, fn / 256, code] ++ args), body := body }

/-- A WRITE of tag 9: flags, function, namespace, hint, count, start LBA (below 65536), and the slots its blocks landed in. -/
def writeOf (flags fn ns hint count lba : Nat) (landed : List Nat) : Arriving :=
  { head := unitOf [0x10, flags, 0, count % 256, 9, 0, fn % 256, fn / 256, ns, hint, count, lba % 256, lba / 256], landed := landed }

/-- LANDING slots with the identities of a WRITE. -/
def landingSlots (a : Arriving) : List (Nat × Slot) :=
  a.landed.zipIdx.map fun p => (p.1, { state := .landing, fn := a.fn, ns := a.ns, lba := a.lba + p.2 })

theorem offers_of {s : State} {a : Arriving} (h : (s.wholeParcel == some a && s.ingressGateOpen) = true) : s.offers a := by
  simpa [State.offers] using h

theorem asks_of {a : Arriving} {c u : Nat} (h : (a.kind == kindMgmt && a.code == c && a.bodyUnits == u) = true) : a.asks c u := by
  simpa [Arriving.asks, and_assoc] using h

theorem calm_of {s : State}
    (h : ((List.range 256).all fun k => (s.stream k).state != .idle || (s.stream k).ready == 0) = true ∧ s.due = []) : s.calm := by
  refine ⟨fun k hk hs => ?_, h.2⟩
  have := List.all_eq_true.1 h.1 k (List.mem_range.2 hk)
  simpa [hs] using this

/-! ## Well-formedness -/

theorem test_landing_empty_refused : (Instr.landing []).wellFormed = false := by decide
theorem test_landing_257_refused : (Instr.landing (List.replicate 257 0)).wellFormed = false := by decide +kernel
theorem test_landing_256_fits : (Instr.landing (List.replicate 256 0)).wellFormed = true := by decide +kernel
theorem test_head_body_length_refused : (Instr.parcelHeadArrival (unitOf [0x1F, 0, 1]) []).wellFormed = false := by decide
theorem test_write_head_with_body_refused : (Instr.parcelHeadArrival (unitOf [0x10, 0, 1]) [0]).wellFormed = false := by decide

/-! ## Single steps: the worked cases of the chapters -/

/-- Section 1.8: tenant 37, entries A and B, the two older copies, streams 4, 5 and 6 bound, stream 5 with 13 sectors. -/
def twoRanges : State :=
  let w := writeOf 0 37 0 0 8 995 [50, 51, 52, 53, 54, 55, 56, 57]
  holds { State.reset with
    tenants := [(37, { valid := true, defaultStream := 4, cap := 100, coalescing := true, windowCount := 2, stagedCount := 15 })]
    ranges := [(0, { base := 0, limit := 999, cold := 4, hotStream := some 5, threshold := 1024, heat := 900 }),
      (1, { base := 1000, limit := 1999, cold := 6 })]
    streams := [(4, { state := .held, queue := [20, 21] }), (5, { state := .held, queue := List.range' 30 13 }), (6, { state := .held })]
    slots := [(20, { state := .staged, fn := 37, lba := 996, seq := 1, stream := 4 }),
      (21, { state := .staged, fn := 37, lba := 998, seq := 2, stream := 4 })] ++ landingSlots w
    index := [(identityKey 37 0 996, 20), (identityKey 37 0 998, 21)]
    sequence := 100 } w

theorem test_worked_route :
    let t := after .write twoRanges
    (List.range' 50 8).map (fun k => (t.slot k).stream) = [4, 5, 5, 5, 5, 6, 6, 6]
      ∧ (t.range 0).heat = 1412 ∧ (t.range 0).hot = true ∧ (t.range 1).heat = 0 := by decide +kernel

theorem test_worked_route_queues :
    let t := after .write twoRanges
    (t.stream 4).queue = [50] ∧ (t.stream 5).queue.length = 17 ∧ (t.stream 5).ready = 1 ∧ (t.stream 6).queue = [55, 56, 57]
      ∧ (t.tenant 37).stagedCount = 15 + 6 ∧ (t.tenant 37).landed = 8 ∧ (t.tenant 37).superseded = 2
      ∧ t.sequence = 108 ∧ (t.slot 57).seq = 107 := by decide +kernel

/-- Section 1.8, the eight decay expiries of entry A. -/
theorem test_worked_decay :
    let e (n : Nat) : Range := Nat.iterate Range.decayed n
      { base := 0, limit := 999, cold := 4, hotStream := some 5, threshold := 1024, heat := 1412, hot := true }
    (List.range' 1 8).map (fun n => (e n).heat) = [1235, 1080, 945, 826, 722, 631, 552, 483]
      ∧ (List.range' 1 8).map (fun n => (e n).hot) = [true, true, true, true, true, true, true, false] := by decide

/-- Section 1.8, cases at the limits: T 1 with H 1 and H 2 at a decay. -/
theorem test_decay_expiry_limits :
    let s := { State.reset with ranges := [(3, { hotStream := some 1, heat := 1, hot := true }), (4, { hotStream := some 1, heat := 2, hot := true })] }
    let t := after .decayExpiry s
    (t.range 3).heat = 0 ∧ (t.range 3).hot = false ∧ (t.range 4).heat = 1 ∧ (t.range 4).hot = true := by decide +kernel

/-- Section 2.7, third row: 64 blocks of a refused WRITE return and make one CREDIT 64 after the LANDED. -/
theorem test_worked_credits :
    let w := writeOf 0 12 0 0 64 0 (List.range' 8 64)
    let s := holds { State.reset with
      tenants := [(12, { valid := true, defaultStream := 0, cap := 64, stagedCount := 30 })]
      streams := [(0, { state := .idle, laneSet := 1 })]
      slots := (List.range 8).map (fun k => (k, { state := .staged, fn := 37, lba := k })) ++ landingSlots w
      credits := 16312, returns := [] } w
    (after .write s).returns = [.landed 9 12 .tenantFull 64 0, .credit 64] ∧ (after .write s).credits = 16376 := by decide +kernel

/-- Section 2.7, last row: the linger timer sends CREDIT 8. -/
theorem test_credit_linger :
    (after .creditLingerExpiry { State.reset with credits := 16376, creditTimer := some 20, returns := [] }).returns = [.credit 8] := by
  decide +kernel

/-- Section 2.7: a WRITE of 20 blocks with 16 credits out is an overrun; section 2.2: LANDED OVERRUN carries sequence 0 and its count. -/
theorem test_overrun :
    let s := after (.parcelHeadArrival (writeOf 0 1 0 0 20 0 []).head []) { State.reset with credits := 16, returns := [] }
    (after .write s).returns = [.landed 9 1 .overrun 20 0] ∧ (after .write s).credits = 16 := by decide +kernel

/-- Section 2.8, event 5: copy C supersedes the STAGED copy B, not the ISSUED copy A. -/
theorem test_supersede :
    let w := writeOf 0 37 0 0 1 500 [42]
    let s := holds { State.reset with
      tenants := [(37, { valid := true, defaultStream := 4, cap := 64, coalescing := true, stagedCount := 2 })]
      streams := [(4, { state := .idle, laneSet := 1, queue := [41] })]
      slots := [(40, { state := .issued, fn := 37, lba := 500, seq := 100, stream := 4 }),
        (41, { state := .staged, fn := 37, lba := 500, seq := 205, stream := 4 })] ++ landingSlots w
      index := [(identityKey 37 0 500, 41)], sequence := 310 } w
    let t := after .write s
    t.indexed 37 0 500 = some 42 ∧ (t.slot 41).state = .free ∧ (t.slot 40).state = .issued ∧ (t.stream 4).queue = [42]
      ∧ (t.tenant 37).stagedCount = 2 ∧ (t.slot 42).seq = 310 := by decide +kernel

/-- R35: a block fills the lowest-numbered FREE slot. -/
theorem test_landing :
    let s := { State.reset with slots := [(0, { state := .staged })], parser := .receiving (writeOf 0 5 2 0 2 700 [0]) }
    let t := after (.landing (List.replicate 255 0 ++ [unitOf [1, 2, 3]])) s
    (t.slot 1).state = .landing ∧ (t.slot 1).lba = 701 ∧ (t.slot 1).ns = 2 ∧ t.credits = 16383
      ∧ readByte t.staging (4096 + 4081) = 2 ∧ t.parser = .gated (writeOf 0 5 2 0 2 700 [0, 1]) := by decide +kernel

/-- R58: the cadence clamp. -/
theorem test_clamp_cadence : [0, 1, 2, 3, 4, 5, 7, 8, 15, 16, 17, 255].map clampCadence = [1, 1, 2, 2, 4, 4, 4, 8, 8, 16, 16, 16] := by
  decide

/-- R171: DECAY-INTERVAL 0 is stored as 1, and the REPLY carries the value stored. -/
theorem test_set_param_clamps :
    let t := after .setDecayInterval (holds { State.reset with returns := [] } (mgmt 0 0x02 [2, 0] [0]))
    t.params.decayInterval = 1 ∧ t.decayTimer = some 1000
      ∧ t.returns = [.reply 7 0 0x02 .ok ([2, 0, 1] ++ List.replicate 13 0)] := by decide +kernel

/-- R174: the bytes of the IDENTIFY table, little-endian, in the order of R186. -/
theorem test_identify :
    identifyBody = [0x16, 0x44, 2, 0x00, 0x02, 0x00, 0x10, 0x00, 0x01, 0x00, 0x40, 0x08, 0x00, 0x00, 0x02, 0x00, 0x04, 0x20, 0x00]
      ++ List.replicate 13 0 := by decide

/-- Section 5.10: the lane position and the three streams. -/
def cadences (p k : Nat) : State :=
  { State.reset with
    lanes := [(2, { pass := p, position := k })]
    segments := [(1, { stream := 3, lane := 2, block := 0, capacity := 99 }), (2, { stream := 12, lane := 2, block := 0, capacity := 99 }),
      (3, { stream := 40, lane := 2, block := 0, capacity := 99 })]
    streams := [(3, { state := .opened, openSeg := some 1, queue := List.range 64 }),
      (12, { state := .opened, openSeg := some 2, cadence := 4, phase := 2, queue := List.range 64 }),
      (40, { state := .opened, openSeg := some 3, cadence := 2, queue := List.range 64 })] }

theorem test_worked_search :
    [(5, 10), (6, 3), (6, 12), (6, 40), (7, 3), (8, 3), (8, 40), (9, 3), (10, 3)].map (fun x => (cadences x.1 x.2).search 2)
      = [(6, 3), (6, 12), (6, 40), (7, 3), (8, 3), (8, 40), (9, 3), (10, 3), (10, 12)].map some := by decide +kernel

/-- Section 5.11: the double grant fills segment 77, and stream 9 opens a segment on lane 6. -/
theorem test_worked_issue :
    let r : InFlight := { kind := .normal, seg := some 5, block := 1, unit := 0, slots := [], fillers := 16, trailer := false, expiry := 0 }
    let s := { State.reset with
      lanes := [(4, { inflight := List.replicate 13 r }), (6, { normal := [⟨0x6E00, 512⟩] })]
      segments := [(77, { stream := 9, lane := 4, block := 0x4D00, capacity := 100, issued := 98 })]
      streams := [(9, { state := .opened, laneSet := 0x50, openSeg := some 77, lastLane := 4, queue := List.range 40, pad := true })]
      slots := (List.range 40).map fun k => (k, { state := .staged, seq := 5000 + k, stream := 9 }) }
    let t := after (.issue 4) s
    (t.stream 9).queue = List.range' 32 8 ∧ (t.stream 9).state = .opened ∧ (t.stream 9).lastLane = 6 ∧ (t.stream 9).pad = true
      ∧ (t.lane 4).inflight.length = 15 ∧ ((t.lane 4).inflight.map InFlight.unit).drop 13 = [98, 99]
      ∧ Store.find? t.segments 77
        = some { stream := 9, lane := 4, block := 0x4D00, capacity := 100, issued := 100, endCause := some .full }
      ∧ (t.lane 6).normal = [] := by decide +kernel

/-- Section 4.7, event 1: four grants serve streams 12 and 11 and end in one POOL-LOW. -/
theorem test_worked_grants :
    let g (b c : Nat) : Unit16 := unitOf [b % 256, b / 256, 0, 0, c % 256, c / 256]
    let s := holds { State.reset with
      lanes := [(1, { poolLowMark := 2 })], nextSegment := 40, starved := [12, 10, 11], returns := []
      streams := [(10, { state := .starved, laneSet := 4, lastLane := 2 }), (11, { state := .starved, laneSet := 6, lastLane := 2 }),
        (12, { state := .starved, laneSet := 3, lastLane := 0 })] }
      (mgmt 0 0x30 [1, 0, 4] [g 0x1A00 512, g 0x1A01 3, g 0x1A02 512, g 0x1A03 512])
    let t := after .grantBlocks s
    t.returns = [.reply 7 0 0x30 .ok ([4] ++ List.replicate 15 0), .poolLow 1 2] ∧ t.starved = [10] ∧ t.nextSegment = 42
      ∧ (Store.find? t.segments 41).map Segment.capacity = some 3 ∧ (t.stream 12).openSeg = some 40
      ∧ (t.lane 1).normal = [⟨0x1A02, 512⟩, ⟨0x1A03, 512⟩] ∧ (t.lane 1).armed = false := by decide +kernel

/-- Section 6.9, 202 ms: the third timeout takes lane 5 DOWN. -/
theorem test_worked_timeouts :
    let r (seg block unit k e : Nat) : InFlight :=
      { kind := .normal, seg := some seg, block := BitVec.ofNat 32 block, unit := unit, slots := List.range' k 16, fillers := 0,
        trailer := false, expiry := e }
    let s := { State.reset with
      now := 201500, returns := []
      lanes := [(5, { inflight := [r 88 8 3 0 202000, r 90 9 0 16 350000], normal := [⟨1, 512⟩, ⟨2, 512⟩], consecutive := 2 })]
      segments := [(88, { stream := 6, lane := 5, block := 8, capacity := 512, issued := 4, done := 1, failed := 2, endCause := some .broken }),
        (89, { stream := 6, lane := 7, block := 7, capacity := 512 }),
        (90, { stream := 9, lane := 5, block := 9, capacity := 512, issued := 1 })]
      streams := [(6, { state := .opened, laneSet := 0xA0, openSeg := some 89, lastLane := 7 }),
        (9, { state := .opened, laneSet := 0x20, openSeg := some 90, lastLane := 5, inflight := 1 })]
      slots := (List.range 32).map fun k => (k, { state := .issued, seq := k, stream := if k < 16 then 6 else 9 }) }
    let t := after (.expiry 5 0) s
    t.returns = [.programFailed 5 .timeout 88 3 8,
        .segmentClosed 88 { stream := 6, lane := 5, block := 8, capacity := 512, issued := 4, done := 1, failed := 3, endCause := some .broken },
        .programFailed 5 .laneDown 90 0 9,
        .segmentClosed 90 { stream := 9, lane := 5, block := 9, capacity := 512, issued := 1, failed := 1, endCause := some .broken },
        .grantReturned 5 [(.normal, ⟨1, 512⟩), (.normal, ⟨2, 512⟩)], .laneDown 5 .timeout 1, .streamStarved 9]
      ∧ t.now = 202000 ∧ (t.lane 5).up = false ∧ (t.lane 5).timeouts = 1 ∧ (t.lane 5).failed = 2 := by decide +kernel

/-- R178: the release enqueues READY and CREDIT 16384; R151: with PFAIL asserted the dump then fails for want of grants. -/
theorem test_release :
    (after .resetRelease { State.reset with lines := { reset := true, pfail := true } }).dumpres = .failed
      ∧ (after .resetRelease { State.reset with lines := { reset := true } }).returns = [.ready, .credit 16384] := by decide +kernel

/-- R190: the trailer begins with the signature 0x50475644, little-endian. -/
theorem test_trailer_signature :
    (Trailer.bytes { generation := 1, first := 0, last := 0, dumped := 0, notDumped := 1, units := 0, blocks := [] }).take 8
      = [0x44, 0x56, 0x47, 0x50, 1, 0, 0, 0] := by decide +kernel

/-! ## Witnesses: a state and operands that meet the hypotheses of each obligation -/

/-- The state after reset with an empty return queue. -/
def quiet : State := { State.reset with returns := [] }

/-- Tenant 1 valid on stream 2, which is IDLE with lane 0; `t` and `u` are the tenant's and the stream's other fields. -/
def withTenant (t : Tenant) (u : Stream) : State :=
  { quiet with
    tenants := [(1, { t with valid := true, defaultStream := 2 })], streams := [(2, { u with state := .idle, laneSet := 1 })] }

/-- A tenant with cap 64, and its IDLE stream. -/
def ready1 : State := withTenant { cap := 64 } {}

/-- The 1024 durable write records, all in use. -/
def allDurables : Store DurableRecord := (List.range' 0 1024).map fun i => (i, { tag := 0, fn := 3, first := 0, count := 1, remaining := 1 })

theorem find_range' (d : DurableRecord) (n a i : Nat) (h : a ≤ i ∧ i < a + n) :
    Store.find? ((List.range' a n).map fun i => (i, d)) i = some d := by
  induction n generalizing a with
  | zero => omega
  | succ n ih =>
    by_cases e : i = a
    · simp [List.range'_succ, Store.find?, e]
    · simpa [List.range'_succ, Store.find?, e] using ih (a + 1) (by omega)

/-- A stream request for stream 3 held by the parser. -/
def streamAsk (u : Stream) (code : Nat) (args : List Nat := []) : State :=
  holds { quiet with streams := [(3, u)] } (mgmt 0 code (3 :: args))

/-- Segment 7 of stream 3 on a lane. -/
def seg7 (lane issued : Nat) (cause : Option EndCause := none) : Store Segment :=
  [(7, { stream := 3, lane := lane, block := 9, capacity := 8, issued := issued, endCause := cause })]

/-- A record in flight. -/
def flight (kind : UnitKind) (slots : List Nat) (trailer : Bool := false) : InFlight :=
  { kind := kind, seg := if kind = .normal then some 7 else none, block := 9, unit := 0, slots := slots, fillers := 16 - slots.length,
    trailer := trailer, expiry := 200000 }

/-- An ANSWER for block 9, unit 0: outcome and reason codes. -/
def answerOf (outcome reason : Nat) : Unit16 := unitOf [0x31, 0, 0, 0, 0, 0, 0, 0, 9, 0, 0, 0, 0, 0, outcome, reason]

/-- Lane 1 with a record in flight and a parcel waiting. -/
def answering (r : InFlight) (h : Unit16) : State :=
  { quiet with
    lanes := [(1, { inflight := [r], waiting := [⟨h, 0⟩] })], segments := seg7 1 1
    streams := [(3, { state := .opened, laneSet := 2, openSeg := some 7, inflight := 1 })]
    slots := [(0, { state := .issued, fn := 1, stream := 3 })] }

/-- The part in DUMPING with a record of the dump in flight on lane 1. -/
def dumpAnswering (r : InFlight) (h : Unit16) (d : Dump) : State :=
  { answering r h with part := .dumping, dump := d, decayTimer := none, lingerClock := none }

/-- The part in DUMPING, FILLING, with a grant taken on lane 0 and two undumped sectors. -/
def dumping : State :=
  { quiet with
    part := .dumping, slots := [(0, { state := .staged, seq := 5 }), (1, { state := .staged, seq := 4 })]
    dump := { phase := .filling, taken := [⟨0, 9, 4, 0⟩], remaining := 4 } }

/-! ### States that obey the ledger -/

theorem mem_of_find {α : Type} {m : Store α} {n : Nat} {a : α} (h : Store.find? m n = some a) : (n, a) ∈ m := by
  induction m with
  | nil => cases h
  | cons e t ih =>
    by_cases he : n = e.1
    · simp [Store.find?, he] at h
      simp [he, ← h]
    · simp [Store.find?, he] at h
      exact List.mem_cons_of_mem _ (ih h)

/-- A record of a table is at its reset values or listed. -/
theorem listed_cases {α : Type} (d : α) (m : Store α) (k : Nat) : Store.getD d m k = d ∨ (k, Store.getD d m k) ∈ m := by
  unfold Store.getD
  cases h : Store.find? m k with
  | none => exact .inl rfl
  | some v => exact .inr (mem_of_find h)

/-- The laws of the ledger over the entries that a state lists, when no durable write or flush record is in use and no stream is STARVED. -/
structure Listed (s : State) : Prop where
  canonical : s.canonical = true
  empty : s.durables = [] ∧ s.flushes = [] ∧ s.starved = []
  lanes : ∀ e ∈ s.lanes, e.1 < 8 ∧ e.2.issuedSlots.Nodup ∧ (∀ k ∈ e.2.issuedSlots, (s.slot k).state = .issued)
    ∧ (∀ f ∈ s.lanes, ∀ k ∈ e.2.issuedSlots, k ∈ f.2.issuedSlots → e.1 = f.1)
    ∧ ∀ r ∈ e.2.inflight, if r.kind = .dump then r.seg = none
        else ∃ q ∈ s.segments, r.seg = some q.1 ∧ q.2.lane = e.1 ∧ ∀ k ∈ r.slots, (s.slot k).stream = q.2.stream
  lanesLawful : ∀ e ∈ s.lanes, e.2.lawful
  landing : s.landingLawful
  parcel : s.parser.landedSlots.Nodup ∧ ∀ k ∈ s.parser.landedSlots, (s.slot k).state = .landing
  identity : ∀ a, s.parser.parcel = some a → (a.kind ≠ kindWrite → a.landed = [])
    ∧ ∀ i k, a.landed[i]? = some k → (s.slot k).fn = a.fn ∧ (s.slot k).ns = a.ns ∧ (s.slot k).lba = a.lba + i
  slots : ∀ e ∈ s.slots, e.1 < 16384 ∧ e.2.durable = none ∧ e.2.mark = false
    ∧ (e.2.state = .landing → e.1 ∈ s.parser.landedSlots) ∧ (e.2.state = .staged → e.1 ∈ (s.stream e.2.stream).queue)
    ∧ (e.2.state = .issued → ∃ x ∈ s.lanes, e.1 ∈ x.2.issuedSlots)
    ∧ (e.2.inUse = true → e.2.seq < s.sequence ∧ e.2.fn < 512 ∧ e.2.ns ≤ 7 ∧ e.2.lba < 2 ^ 40 ∧ (Store.find? s.tenants e.2.fn).isSome = true)
    ∧ ∀ f ∈ s.slots, e.2.inUse = true → f.2.inUse = true → e.2.seq = f.2.seq → e.1 = f.1
  streams : ∀ e ∈ s.streams, (∀ k ∈ e.2.queue, (s.slot k).state = .staged ∧ (s.slot k).stream = e.1)
    ∧ (e.2.queue.map fun k => (s.slot k).seq).Pairwise (· < ·) ∧ e.2.state ≠ .starved ∧ e.1 < 256
    ∧ (e.2.openSeg.isSome = true ↔ e.2.state = .opened ∨ e.2.state = .held ∧ e.2.openSeg.isSome = true)
    ∧ ∀ id ∈ e.2.openSeg, ∃ q ∈ s.segments, q.1 = id ∧ q.2.stream = e.1 ∧ q.2.endCause = none ∧ e.2.laneSet.getLsbD q.2.lane = true
  index : ∀ e ∈ s.index, (s.slot e.2).inUse = true ∧ e.1 = identityKey (s.slot e.2).fn (s.slot e.2).ns (s.slot e.2).lba
    ∧ ∀ f ∈ s.slots, f.2.inUse = true → f.2.fn = (s.slot e.2).fn → f.2.ns = (s.slot e.2).ns → f.2.lba = (s.slot e.2).lba →
        f.2.seq ≤ (s.slot e.2).seq
  tenants : ∀ e ∈ s.tenants, e.2.stagedCount = s.slotCount fun r => r.inUse && r.fn == e.1
  credits : s.credits ≤ s.freeSlots
  segments : ∀ e ∈ s.segments, e.1 < 65536 ∧ e.2.issued ≤ e.2.capacity ∧ e.2.done + e.2.failed + s.outstanding e.1 e.2 = e.2.issued
    ∧ (e.2.endCause = none → e.2.issued < e.2.capacity ∧ (s.stream e.2.stream).openSeg = some e.1)
    ∧ (e.2.endCause ≠ none → e.2.done + e.2.failed < e.2.issued)
  taken : ∀ g ∈ s.dump.taken, g.lane < 8

theorem Listed.sorted {s : State} (h : Listed s) : Store.sorted s.segments = true ∧ Store.sorted s.index = true
    ∧ Store.sorted s.slots = true ∧ Store.sorted s.lanes = true := by
  have := h.canonical
  simp [State.canonical, Store.canon] at this
  tauto

theorem find_of_mem {α : Type} {m : Store α} (hs : Store.sorted m = true) {e : Nat × α} (h : e ∈ m) : Store.find? m e.1 = some e.2 :=
  (Store.find?_eq_some_iff hs _ _).2 h

theorem Listed.ledger {s : State} (h : Listed s) : s.Ledger := by
  obtain ⟨hseg, hidx, hslt, hln⟩ := h.sorted
  obtain ⟨hd, hf, hst⟩ := h.empty
  have hlane : ∀ e ∈ s.lanes, s.lane e.1 = e.2 := fun e he => by simp [State.lane, Store.getD, find_of_mem hln he]
  have hmem : ∀ k, s.slot k = {} ∨ (k, s.slot k) ∈ s.slots := listed_cases ({} : Slot) s.slots
  have hmemL : ∀ l, s.lane l = {} ∨ (l, s.lane l) ∈ s.lanes := listed_cases ({} : Lane) s.lanes
  have hmemS : ∀ k, s.stream k = {} ∨ (k, s.stream k) ∈ s.streams := listed_cases ({} : Stream) s.streams
  have use : ∀ k, (s.slot k).inUse = true → (k, s.slot k) ∈ s.slots := fun k hk => (hmem k).resolve_left fun e => by simp [e, Slot.inUse] at hk
  have clean : ∀ k, (s.slot k).durable = none ∧ (s.slot k).mark = false := fun k => by
    rcases hmem k with e | e
    · simp [e]
    · exact ⟨(h.slots _ e).2.1, (h.slots _ e).2.2.1⟩
  refine ⟨h.canonical, fun l => ?_, ⟨by simp [hst], fun k => ?_⟩, h.landing, ⟨fun k hk => ?_, h.parcel.1, fun k => ⟨fun hk => ?_, h.parcel.2 k⟩, h.identity, fun k _ => clean k⟩,
    ⟨fun j k => ⟨fun hk => ?_, fun hk => ?_⟩, fun j => ?_⟩, ⟨fun k => ⟨fun hk => ?_, fun hk => ?_⟩, fun l => ?_, fun l m k h1 h2 => ?_⟩,
    ⟨fun k hk => ?_, fun j k hj hk e => ?_⟩, fun key k hk => ?_,
    ⟨fun fn => ?_, h.credits, by simp [hd], fun k i hk => ?_, by simp [hf], fun k hk => ?_⟩,
    ⟨fun id g hg => ?_, fun l r hr hn => ?_, fun l r hr hn => ?_⟩,
    ⟨fun k id hk => ?_, fun id g hg ho => ?_, fun k hk => ?_, fun k hk => ?_, fun k hk => ?_⟩, ⟨fun l hl => ?_, h.taken⟩⟩
  · rcases hmemL l with e | e
    · simp [e, Lane.lawful]
    · exact h.lanesLawful _ e
  · rw [hst]
    refine ⟨fun hk => (List.not_mem_nil hk).elim, fun hk => ?_⟩
    rcases hmemS k with e | e
    · simp [e] at hk
    · exact absurd hk (h.streams _ e).2.2.1
  · rcases hmem k with e | e
    · simp [e] at hk
    · exact (h.slots _ e).1
  · rcases hmem k with e | e
    · simp [e] at hk
    · exact (h.slots _ e).2.2.2.1 hk
  · rcases hmemS j with e | e
    · simp [e] at hk
    · exact (h.streams _ e).1 k hk
  · obtain ⟨h1, rfl⟩ := hk
    rcases hmem k with e | e
    · simp [e] at h1
    · exact (h.slots _ e).2.2.2.2.1 h1
  · rcases hmemS j with e | e
    · simp [e]
    · exact (h.streams _ e).2.1
  · rcases hmem k with e | e
    · simp [e] at hk
    · obtain ⟨x, hx, hm⟩ := (h.slots _ e).2.2.2.2.2.1 hk
      exact ⟨x.1, by rwa [hlane x hx]⟩
  · obtain ⟨l, hl⟩ := hk
    rcases hmemL l with e | e
    · simp [e, Lane.issuedSlots] at hl
    · exact (h.lanes _ e).2.2.1 k hl
  · rcases hmemL l with e | e
    · simp [e, Lane.issuedSlots]
    · exact (h.lanes _ e).2.1
  · rcases hmemL l with e | e
    · simp [e, Lane.issuedSlots] at h1
    · rcases hmemL m with e' | e'
      · simp [e', Lane.issuedSlots] at h2
      · exact (h.lanes _ e).2.2.2.1 _ e' k h1 h2
  · obtain ⟨h1, h2, h3, h4, -⟩ := (h.slots _ (use k hk)).2.2.2.2.2.2.1 hk
    exact ⟨h1, h2, h3, h4⟩
  · exact (h.slots _ (use j hj)).2.2.2.2.2.2.2 _ (use k hk) hj hk e
  · obtain ⟨h1, h2, h3⟩ := h.index _ (mem_of_find hk)
    exact ⟨h1, h2, fun j hj => h3 _ (use j hj) hj⟩
  · unfold State.tenant Store.getD
    cases hk : Store.find? s.tenants fn with
    | some t => exact h.tenants _ (mem_of_find hk)
    | none =>
      refine (List.length_eq_zero_iff.2 ?_).symm
      simp only [State.slotsWhere, List.map_eq_nil_iff, List.filter_eq_nil_iff]
      intro e he hu
      simp only [Bool.and_eq_true, beq_iff_eq] at hu
      have := ((h.slots e he).2.2.2.2.2.2.1 hu.1).2.2.2.2
      simp [hu.2, hk] at this
  · simp [(clean k).1] at hk
  · simp [(clean k).2] at hk
  · obtain ⟨h1, h2, h3, h4, h5⟩ := h.segments _ (mem_of_find hg)
    exact ⟨h1, h2, h3, fun e => (h4 e).1, h5⟩
  · rcases hmemL l with e | e
    · simp [e] at hr
    · have := (h.lanes _ e).2.2.2.2 r hr
      simp only [hn, reduceCtorEq, if_false] at this
      obtain ⟨q, hq, h1, h2, h3⟩ := this
      exact ⟨q.1, q.2, h1, find_of_mem hseg hq, h2, h3⟩
  · rcases hmemL l with e | e
    · simp [e] at hr
    · have := (h.lanes _ e).2.2.2.2 r hr
      simpa [hn] using this
  · rcases hmemS k with e | e
    · simp [e] at hk
    · obtain ⟨q, hq, rfl, h2⟩ := (h.streams _ e).2.2.2.2.2 id hk
      exact ⟨q.2, find_of_mem hseg hq, h2⟩
  · exact ((h.segments _ (mem_of_find hg)).2.2.2.1 ho).2
  · rcases hmemS k with e | e
    · simp [e] at hk
    · exact (h.streams _ e).2.2.2.2.1.2 (.inl hk)
  · rcases hmemS k with e | e
    · simp [e] at hk
    · exact ((h.streams _ e).2.2.2.2.1.1 hk).imp_right And.left
  · rcases hmemS k with e | e
    · simp [e] at hk
    · exact (h.streams _ e).2.2.2.1
  · rcases hmemL l with e | e
    · exact e
    · exact absurd (h.lanes _ e).1 (by omega)

/-- A WRITE of one sector of tenant 1, durable or not, that has landed in slot 0, waiting to be taken or held; the command that takes it is
next. -/
def landed (durable held : Bool) : State :=
  { ready1 with
    parser := if held then .holding (writeOf (if durable then 1 else 0) 1 0 0 1 0 [0])
      else .gated (writeOf (if durable then 1 else 0) 1 0 0 1 0 [0])
    pending := [if held then .heldWriteRetaking else .write], slots := [(0, { state := .landing, fn := 1 })], credits := 16383 }

theorem landed_listed (durable held : Bool) : Listed (landed durable held) := by
  refine ⟨?_, ⟨rfl, rfl, rfl⟩, nofun, nofun, ?_, ?_, ?_, ?_, ?_, nofun, ?_, ?_, nofun, nofun⟩ <;> cases durable <;> cases held <;>
    first
    | decide +kernel
    | exact ⟨by decide, fun _ => fun _ => by decide +kernel⟩
    | exact ⟨by decide, show State.framingFault _ _ = false ∧ _ from by decide +kernel⟩
    | (intro a ha
       cases ha
       refine ⟨fun h => absurd rfl h, fun i k h => ?_⟩
       cases i <;> simp [writeOf] at h
       cases h
       decide +kernel)

/-- The same WRITE after its tenant has become invalid. -/
def orphaned (durable held : Bool) : State := { landed durable held with tenants := [] }

theorem orphaned_listed (durable held : Bool) : Listed (orphaned durable held) := by
  have h := landed_listed durable held
  have hs : (orphaned durable held).slots = [(0, { state := .landing, fn := 1 })] := rfl
  exact ⟨by cases durable <;> cases held <;> decide +kernel, h.empty, h.lanes, h.lanesLawful, h.landing, h.parcel, h.identity,
    by rw [hs]; cases durable <;> cases held <;> decide +kernel, h.streams, h.index, nofun, h.credits, h.segments, h.taken⟩

/-- A WRITE of two sectors, ended by an abort mark after one of them has landed in slot 0. -/
def aborted : State := { landed false false with parser := .gated { writeOf 0 1 0 0 2 0 [0] with aborted := true } }

theorem aborted_listed : Listed aborted := by
  have h := landed_listed false false
  exact ⟨h.canonical, h.empty, h.lanes, h.lanesLawful, ⟨by decide, fun e => nomatch e⟩, h.parcel,
    fun a ha => by
      cases ha
      refine ⟨fun h => absurd rfl h, fun i k h => ?_⟩
      cases i <;> simp [writeOf] at h
      cases h
      decide +kernel,
    h.slots, h.streams, h.index, h.tenants, h.credits, h.segments, h.taken⟩

/-- The requests under which an IDLE stream's tail is padded: none, a FLUSH, a FLUSH-STREAM, a SET-PARAM of DURABLE-LINGER. -/
def padding : Fin 4 → Option Arriving
  | 0 => none
  | 1 => some { head := unitOf [0x12, 0, 0, 0, 5, 0, 1, 0] }
  | 2 => some (mgmt 0 0x24 [3])
  | 3 => some (mgmt 0 0x02 [8, 0] [5])

/-- Stream 3 IDLE with one sector staged, its linger counter at its limit, and one grant on its lane, when such a request is held. -/
def tailed (i : Fin 4) : State :=
  { quiet with
    parser := match padding i with
      | none => .awaiting
      | some a => .gated a
    credits := 16383, sequence := 5
    tenants := [(1, { valid := true, defaultStream := 3, cap := 64, stagedCount := 1 })]
    slots := [(0, { state := .staged, fn := 1, seq := 4, stream := 3 })], index := [(identityKey 1 0 0, 0)]
    streams := [(3, { state := .idle, laneSet := 2, queue := [0], linger := 1, lingerLimit := 1 })]
    lanes := [(1, { normal := [⟨3, 6⟩] })] }

theorem tailed_listed (i : Fin 4) : Listed (tailed i) := by
  fin_cases i <;>
  exact ⟨by decide +kernel, ⟨rfl, rfl, rfl⟩, by decide +kernel, by unfold Lane.lawful; decide +kernel,
    ⟨by decide, by first | trivial | exact fun _ h => absurd h (by decide +kernel)⟩, ⟨List.nodup_nil, nofun⟩,
    fun a h => by cases h; try exact ⟨fun _ => rfl, nofun⟩, by decide +kernel, by decide +kernel, by decide +kernel, by decide +kernel,
    by decide +kernel, by decide +kernel, by decide +kernel⟩

/-- A sector in flight on lane 1 as unit 0 of segment 7, and a second segment OPEN there; in DUMPING the same sector is in flight in a dump unit
too. The lane has timed out twice before, or not, and a DONE or a FAIL for the NORMAL unit waits. -/
def airborne (dumping limit done : Bool) : State :=
  { quiet with
    pending := [.answer 1], credits := 16383, sequence := 5
    tenants := [(1, { valid := true, defaultStream := 3, cap := 64, stagedCount := 1 })]
    slots := [(0, { state := .issued, fn := 1, seq := 4, stream := 3 })], index := [(identityKey 1 0 0, 0)]
    streams := [(3, { state := .opened, laneSet := 2, openSeg := some 7, inflight := 1 }), (5, { state := .opened, laneSet := 2, openSeg := some 8 })]
    segments := seg7 1 1 ++ [(8, { stream := 5, lane := 1, block := 10, capacity := 8 })]
    lanes := [(1, {
        inflight := flight .normal [0] :: if dumping then [{ flight .dump [0] with block := 8 }] else []
        consecutive := if limit then 2 else 0, normal := [⟨3, 6⟩], dump := [⟨4, 6⟩]
        waiting := [⟨if done then answerOf 1 0 else answerOf 2 1, 0⟩] }),
      (2, { dump := [⟨5, 7⟩] })]
    part := if dumping then .dumping else .run
    dump := if dumping then { phase := .filling, cursor := some 4, taken := [⟨1, 8, 4, 1⟩], remaining := 16 } else {} }

theorem airborne_listed (d c o : Bool) : Listed (airborne d c o) := by
  cases d <;> cases c <;> cases o <;>
  exact ⟨by decide +kernel, ⟨rfl, rfl, rfl⟩, by decide +kernel, by unfold Lane.lawful; decide +kernel, ⟨by decide, trivial⟩,
    ⟨List.nodup_nil, nofun⟩, nofun, by decide +kernel, by decide +kernel, by decide +kernel, by decide +kernel, by decide +kernel,
    by decide +kernel, by decide +kernel⟩

/-- CLEAR-PART asked of a quiet part with one open segment and a lane with grants. -/
def clearing : State :=
  holds { quiet with
    streams := [(5, { state := .opened, laneSet := 2, openSeg := some 8 })]
    segments := [(8, { stream := 5, lane := 1, block := 10, capacity := 8 })]
    lanes := [(1, { normal := [⟨3, 6⟩], dump := [⟨4, 6⟩] })] } (mgmt 0 0x3F [])

theorem clearing_listed : Listed clearing :=
  ⟨by decide +kernel, ⟨rfl, rfl, rfl⟩, by decide +kernel, by unfold Lane.lawful; decide +kernel,
    ⟨by decide, fun _ h => absurd h (by decide +kernel)⟩, ⟨List.nodup_nil, nofun⟩,
    fun a h => by cases h; exact ⟨fun _ => rfl, nofun⟩, by decide +kernel, by decide +kernel, by decide +kernel, by decide +kernel, by decide +kernel,
    by decide +kernel, by decide +kernel⟩

/-- The in-flight counts, where every stream that is listed is bound and has the units that are in flight for it. -/
theorem unitsLawful_of {s : State} (h : ∀ e ∈ s.streams, e.2.inflight = s.unitsInFlight e.1 ∧ e.2.state ≠ .unbound)
    (hl : ∀ e ∈ s.lanes, ∀ r ∈ e.2.inflight, ∀ k ∈ s.unitStream r, (Store.find? s.streams k).isSome = true) : s.unitsLawful := by
  have out : ∀ k, Store.find? s.streams k = none → s.unitsInFlight k = 0 := fun k hk => by
    refine List.sum_eq_zero fun n hn => ?_
    obtain ⟨l, -, rfl⟩ := List.mem_map.1 hn
    refine List.length_eq_zero_iff.2 (List.filter_eq_nil_iff.2 fun r hr he => ?_)
    unfold State.lane Store.getD at hr
    cases hx : Store.find? s.lanes l with
    | none => simp [hx] at hr
    | some x =>
      rw [hx] at hr
      have := hl _ (mem_of_find hx) r hr k (by simpa using he)
      simp [hk] at this
  refine ⟨fun k => ?_, fun k hk => ?_⟩ <;> unfold State.stream Store.getD at * <;> cases hf : Store.find? s.streams k with
  | none => first | exact (out k hf).symm | exact ⟨rfl, rfl, rfl⟩
  | some t => first | exact (h _ (mem_of_find hf)).1 | (rw [hf] at hk; exact absurd hk (h _ (mem_of_find hf)).2)

theorem airborne_units (d c o : Bool) : (airborne d c o).unitsLawful := by
  cases d <;> cases c <;> cases o <;> exact unitsLawful_of (by decide +kernel) (by decide +kernel)

theorem airborne_dumpLawful (c o : Bool) : (airborne true c o).dumpLawful := by
  have L : ∀ l r, r ∈ ((airborne true c o).lane l).inflight → r.slots = [0] := fun l r h => by
    rcases listed_cases ({} : Lane) (airborne true c o).lanes l with e | e
    · rw [State.lane, e] at h; cases h
    · have : ∀ e ∈ (airborne true c o).lanes, ∀ r ∈ e.2.inflight, r.slots = [0] := by cases c <;> cases o <;> decide +kernel
      exact this _ e r h
  refine ⟨nofun, fun _ => ⟨by simp [airborne], ⟨by cases c <;> cases o <;> decide +kernel, by cases c <;> cases o <;> decide +kernel, fun g hg => ?_⟩,
    ⟨List.Pairwise.nil, nofun, fun l r h _ => ?_, ?_⟩, by cases c <;> cases o <;> decide +kernel⟩, nofun⟩
  · cases hg
    exact ⟨by decide, fun l hl _ => by
      have h1 : l < 1 := hl
      cases (show l = 0 by omega)
      rfl⟩
  · rw [L l r h]
    exact ⟨List.nodup_singleton 0, fun k hk => ⟨4, rfl, by rw [List.mem_singleton.1 hk]; rfl⟩⟩
  · intro j k hj hk
    exact (airborne_listed true c o).ledger.sequences.2 j k (hj.resolve_left nofun) (hk.resolve_left nofun)

/-! ### The witnesses -/

theorem witness_step :
    ({ quiet with pending := [.write, .peek] } : State).pending = .write :: [.peek] :=
  rfl

theorem witness_release :
    ({ quiet with lines := { reset := true } } : State).lines.reset = true
      ∧ ({ quiet with lines := { reset := true } } : State).lines.pfail = false :=
  ⟨rfl, rfl⟩

theorem witness_release_pfail :
    ({ quiet with lines := { reset := true, pfail := true } } : State).lines.reset = true
      ∧ ({ quiet with lines := { reset := true, pfail := true } } : State).lines.pfail = true :=
  ⟨rfl, rfl⟩

theorem witness_reset_assert :
    quiet.lines.reset = false :=
  rfl

/-- A PROGRAM is the last item on lane link 7, and a return parcel waits. -/
theorem witness_reset_cut :
    let s : State := { State.reset with laneLinks := [(7, [.abortMark, .parcel [1]])] }
    s.lines.reset = false ∧ s.returns ≠ [] ∧ (0x80 : BitVec 8).getLsbD 7 = true ∧ (s.laneLink 7).getLast? = some (.parcel [1]) :=
  by decide

/-- A request with a body of two units, and a WRITE, whose body comes in blocks. -/
theorem witness_head_arrival :
    quiet.running = true ∧ quiet.parser = .awaiting ∧ bodyFits (mgmt 0 0x10 [] [0, 0]).head [0, 0] = true
      ∧ bodyFits (writeOf 0 1 0 0 1 0 []).head [] = true :=
  by decide +kernel

theorem witness_foreign :
    (holds quiet { head := unitOf [0x40] }).wholeParcel = some { head := unitOf [0x40] }
      ∧ Arriving.kind { head := unitOf [0x40] } ∉ [0x10, 0x11, 0x12, 0x1F] :=
  by decide +kernel

theorem witness_abort_mark :
    let a := writeOf 0 1 0 0 2 0 [0]
    let s := { quiet with parser := .receiving a }
    s.running = true ∧ s.parser = .receiving a :=
  ⟨rfl, rfl⟩

theorem witness_aborted_release :
    let a : Arriving := { writeOf 0 1 0 0 2 0 [0] with aborted := true }
    (holds quiet a).running = true ∧ (holds quiet a).parser = .gated a ∧ a.aborted = true ∧ (holds quiet a).ingressGateOpen = true :=
  by decide +kernel

theorem witness_aborted_release_ledger :
    aborted.running = true ∧ aborted.parser = .gated { writeOf 0 1 0 0 2 0 [0] with aborted := true } ∧ aborted.ingressGateOpen = true
      ∧ aborted.Ledger :=
  ⟨rfl, rfl, by decide +kernel, aborted_listed.ledger⟩

theorem witness_landing_full_block :
    let a := writeOf 0 1 0 0 2 0 []
    let s := { quiet with parser := .receiving a }
    s.running = true ∧ s.parser = .receiving a ∧ a.kind = 0x10 ∧ a.overrun = false
      ∧ 256 = min 256 (a.bodyUnits - 256 * a.landed.length) ∧ (s.slot 0).state = .free ∧ ∀ j, j < 0 → (s.slot j).state ≠ .free :=
  by decide +kernel

theorem witness_landing_part_block :
    let a : Arriving := { head := unitOf [0x10, 0, 1], landed := [] }
    let s := { quiet with parser := .receiving a, slots := [(0, { state := .staged })] }
    s.running = true ∧ s.parser = .receiving a ∧ a.kind = 0x10 ∧ a.overrun = false
      ∧ 1 = min 256 (a.bodyUnits - 256 * a.landed.length) ∧ (s.slot 1).state = .free ∧ ∀ j, j < 1 → (s.slot j).state ≠ .free :=
  by decide +kernel

theorem witness_write_overrun :
    let a : Arriving := { writeOf 0 1 0 0 1 0 [] with overrun := true }
    let s := holds ready1 a
    s.offers a ∧ a.kind = 0x10 ∧ a.overrun = true :=
  ⟨offers_of (by decide +kernel), by decide +kernel⟩

theorem witness_write_malformed :
    let a : Arriving := (writeOf 0 1 8 0 1 0 [0])
    let s := holds ready1 a
    s.offers a ∧ a.kind = 0x10 ∧ a.overrun = false ∧ 7 < a.ns :=
  ⟨offers_of (by decide +kernel), by decide +kernel⟩

theorem witness_write_no_tenant :
    let a : Arriving := (writeOf 0 512 0 0 1 0 [0])
    let s := holds ready1 a
    s.offers a ∧ a.kind = 0x10 ∧ a.overrun = false ∧ s.framingFault a = false ∧ 511 < a.fn :=
  ⟨offers_of (by decide +kernel), by decide +kernel⟩

theorem witness_write_no_route :
    let a : Arriving := (writeOf 0 1 0 0 1 0 [0])
    let s := holds { ready1 with streams := [] } a
    s.offers a ∧ a.kind = 0x10 ∧ s.framingFault a = false ∧ s.validTenant a.fn = true ∧ (s.stream (s.tenant a.fn).defaultStream).state = .unbound :=
  ⟨offers_of (by decide +kernel), by decide +kernel⟩

theorem witness_write_tenant_full :
    let a : Arriving := (writeOf 0 1 0 0 1 0 [0])
    let s := holds (withTenant { cap := 16, stagedCount := 16 } {}) a
    s.offers a ∧ a.kind = 0x10 ∧ s.framingFault a = false ∧ s.validTenant a.fn = true ∧ (s.stream (s.tenant a.fn).defaultStream).bound = true
      ∧ (s.tenant a.fn).cap < (s.tenant a.fn).stagedCount + a.count :=
  ⟨offers_of (by decide +kernel), by decide +kernel⟩

/-- A refusal in a state that obeys the laws; its slot is freed. -/
theorem witness_write_refused_ledger :
    let a := writeOf 0 1 0 0 1 0 [0]
    let s := orphaned false false
    s.offers a ∧ a.kind = 0x10 ∧ a.overrun = false ∧ s.framingFault a = false ∧ (s.tenant a.fn).valid = false ∧ a.landed ≠ [] ∧ s.Ledger :=
  ⟨offers_of (by decide +kernel), rfl, rfl, by decide +kernel, rfl, nofun, (orphaned_listed false false).ledger⟩

/-- The staged count reaches the cap. -/
theorem witness_write_accepted :
    let a := writeOf 0 1 0 0 64 0 (List.range 64)
    let s := holds ready1 a
    s.offers a ∧ a.kind = 0x10 ∧ a.overrun = false ∧ s.framingFault a = false ∧ s.validTenant a.fn = true
      ∧ (s.stream (s.tenant a.fn).defaultStream).bound = true ∧ (s.tenant a.fn).stagedCount + a.count ≤ (s.tenant a.fn).cap
      ∧ a.durableFlag = false ∧ (s.tenant a.fn).ack = .staged :=
  ⟨offers_of (by decide +kernel), by decide +kernel⟩

theorem witness_write_ledger :
    let a := writeOf 0 1 0 0 1 0 [0]
    let s := landed false false
    s.offers a ∧ a.kind = 0x10 ∧ a.overrun = false ∧ s.framingFault a = false ∧ s.validTenant a.fn = true
      ∧ (s.stream (s.tenant a.fn).defaultStream).bound = true ∧ (s.tenant a.fn).stagedCount + a.count ≤ (s.tenant a.fn).cap
      ∧ a.durableFlag = false ∧ (s.tenant a.fn).ack = .staged ∧ s.Ledger :=
  ⟨offers_of (by decide +kernel), rfl, rfl, by decide +kernel, by decide +kernel, by decide +kernel, by decide +kernel, by decide +kernel,
    by decide +kernel, (landed_listed false false).ledger⟩

theorem witness_write_held :
    let a := writeOf 1 1 0 0 1 0 [0]
    let s := holds { ready1 with durables := allDurables } a
    s.offers a ∧ a.kind = 0x10 ∧ a.overrun = false ∧ s.framingFault a = false ∧ s.validTenant a.fn = true
      ∧ (s.stream (s.tenant a.fn).defaultStream).bound = true ∧ (s.tenant a.fn).stagedCount + a.count ≤ (s.tenant a.fn).cap
      ∧ a.durableFlag = true ∧ ∀ i, i < 1024 → (Store.find? s.durables i).isSome = true := by
  refine ⟨offers_of (by decide +kernel), rfl, rfl, by decide +kernel, by decide +kernel, by decide +kernel, by decide +kernel, by decide +kernel,
    fun i h => ?_⟩
  exact (congrArg Option.isSome (find_range' _ 1024 0 i (by omega))).trans rfl

theorem witness_retaken :
    let a := writeOf 1 1 0 0 1 0 [0]
    let s := { ready1 with parser := .holding a, durables := allDurables.drop 1 }
    s.running = true ∧ s.parser = .holding a ∧ s.ingressGateOpen = true ∧ s.validTenant a.fn = true
      ∧ (s.stream (s.tenant a.fn).defaultStream).bound = true ∧ (s.tenant a.fn).stagedCount + a.count ≤ (s.tenant a.fn).cap
      ∧ a.durableFlag = true ∧ Store.find? s.durables 0 = none ∧ ∀ j, j < 0 → (Store.find? s.durables j).isSome = true :=
  by decide +kernel

theorem witness_retaken_ledger :
    let a := writeOf 1 1 0 0 1 0 [0]
    let s := landed true true
    s.running = true ∧ s.parser = .holding a ∧ s.ingressGateOpen = true ∧ s.validTenant a.fn = true
      ∧ (s.stream (s.tenant a.fn).defaultStream).bound = true ∧ (s.tenant a.fn).stagedCount + a.count ≤ (s.tenant a.fn).cap
      ∧ a.durableFlag = true ∧ Store.find? s.durables 0 = none ∧ s.Ledger :=
  ⟨rfl, rfl, by decide +kernel, by decide +kernel, by decide +kernel, by decide +kernel, by decide +kernel, rfl,
    (landed_listed true true).ledger⟩

/-- A durable WRITE that finds a record free. -/
theorem witness_write_durable :
    let a := writeOf 1 1 0 0 1 0 [0]
    let s := landed true false
    s.offers a ∧ a.kind = 0x10 ∧ a.overrun = false ∧ s.framingFault a = false ∧ s.validTenant a.fn = true
      ∧ (s.stream (s.tenant a.fn).defaultStream).bound = true ∧ (s.tenant a.fn).stagedCount + a.count ≤ (s.tenant a.fn).cap
      ∧ a.durableFlag = true ∧ Store.find? s.durables 0 = none ∧ s.Ledger :=
  ⟨offers_of (by decide +kernel), rfl, rfl, by decide +kernel, by decide +kernel, by decide +kernel, by decide +kernel, by decide +kernel,
    rfl, (landed_listed true false).ledger⟩

/-- The tenant has become invalid while its WRITE was held. -/
theorem witness_retake_refused :
    let a := writeOf 1 1 0 0 1 0 [0]
    let s := orphaned true true
    s.running = true ∧ s.parser = .holding a ∧ s.ingressGateOpen = true ∧ Store.find? s.durables 0 = none
      ∧ (s.tenant a.fn).valid = false ∧ s.Ledger :=
  ⟨rfl, rfl, by decide +kernel, rfl, rfl, (orphaned_listed true true).ledger⟩

/-- Section 2.8, event 5: the WRITE whose sector has an older copy in slot 41, in the state in which its parcel has been taken. -/
def older (coalescing : Bool) : State :=
  { quiet with
    tenants := [(37, { valid := true, defaultStream := 4, cap := 64, coalescing := coalescing, stagedCount := 1 })]
    streams := [(4, { state := .idle, laneSet := 1, queue := [41] })]
    slots := [(41, { state := .staged, fn := 37, lba := 500, seq := 205, stream := 4 }), (42, { state := .landing, fn := 37, lba := 500 })]
    index := [(identityKey 37 0 500, 41)], sequence := 310 }

theorem witness_sector_supersedes :
    let a := writeOf 0 37 0 0 1 500 [42]
    let s := older true
    s.indexed a.fn a.ns 500 = some 41 ∧ 41 ≠ 42 ∧ (s.slot 41).fn = a.fn ∧ (s.slot 41).stream = 4 ∧ (s.route a 500).2 = 4
      ∧ (s.slot 41).ns = a.ns ∧ (s.slot 41).lba = 500
      ∧ (s.tenant a.fn).coalescing = true ∧ (s.slot 41).state = .staged ∧ (s.slot 41).durable = none ∧ (s.slot 41).mark = false
      ∧ 1 ≤ (s.tenant a.fn).stagedCount :=
  by decide +kernel

theorem witness_sector_keeps :
    let a := writeOf 0 37 0 0 1 500 [42]
    let s := older false
    s.indexed a.fn a.ns 500 = some 41 ∧ 41 ≠ 42 ∧ (s.slot 41).fn = a.fn ∧ (s.slot 41).stream = 4 ∧ (s.route a 500).2 = 4
      ∧ (s.slot 41).ns = a.ns ∧ (s.slot 41).lba = 500 ∧ ¬ (s.tenant a.fn).coalescing = true :=
  by decide +kernel

theorem witness_sector_first :
    let a := writeOf 0 37 0 0 1 501 [42]
    (older true).indexed a.fn a.ns 501 = none ∧ ((older true).route a 501).2 = 4 :=
  by decide +kernel

/-- Slot 41 is named by the entry of its key; slot 42, of the same key, is not. -/
theorem witness_index_entry_goes :
    let s := older true
    (s.slot 41).fn = 37 ∧ (s.slot 41).ns = 0 ∧ (s.slot 41).lba = 500 ∧ s.indexed 37 0 500 = some 41
      ∧ (s.slot 42).fn = 37 ∧ (s.slot 42).ns = 0 ∧ (s.slot 42).lba = 500 ∧ s.indexed 37 0 500 ≠ some 42 :=
  by decide +kernel

theorem witness_bad_request_code :
    (holds quiet (mgmt 0 0x77 [])).offers (mgmt 0 0x77 [])
      ∧ (mgmt 0 0x77 []).kind = 0x1F ∧ (mgmt 0 0x77 []).code ∉ requestCodes :=
  ⟨offers_of (by decide +kernel), by decide +kernel⟩

theorem witness_bad_request_length :
    (holds quiet (mgmt 0 0x18 [0, 0, 2] [0])).offers (mgmt 0 0x18 [0, 0, 2] [0])
      ∧ (mgmt 0 0x18 [0, 0, 2] [0]).kind = 0x1F ∧ (mgmt 0 0x18 [0, 0, 2] [0]).bodyUnits ≠ field (mgmt 0 0x18 [0, 0, 2] [0]).head 11 1 :=
  ⟨offers_of (by decide +kernel), by decide +kernel⟩

theorem witness_known_request :
    (holds quiet (mgmt 9 0x18 [0, 0, 1] [0])).offers (mgmt 9 0x18 [0, 0, 1] [0])
      ∧ (mgmt 9 0x18 [0, 0, 1] [0]).kind = 0x1F ∧ (mgmt 9 0x18 [0, 0, 1] [0]).code ∈ requestCodes
      ∧ (mgmt 9 0x18 [0, 0, 1] [0]).bodyUnits = 1 ∧ field (mgmt 9 0x18 [0, 0, 1] [0]).head 11 1 = 1 :=
  ⟨offers_of (by decide +kernel), by decide +kernel⟩

/-- PEEK of a sector in slot 4. -/
theorem witness_peek :
    let a : Arriving := { head := unitOf [0x11, 0, 0, 0, 5, 0, 1, 0, 0] }
    let s := holds { ready1 with index := [(identityKey 1 0 0, 4)] } a
    s.offers a ∧ a.kind = 0x11 ∧ a.ns ≤ 7 ∧ s.validTenant a.fn = true ∧ s.indexed a.fn a.ns a.lba = some 4 :=
  ⟨offers_of (by decide +kernel), by decide +kernel⟩

theorem witness_flush_no_tenant :
    let a : Arriving := { head := unitOf [0x12, 0, 0, 0, 5, 0, 1, 0] }
    (holds quiet a).offers a ∧ a.kind = 0x12 ∧ ((holds quiet a).tenant a.fn).valid = false :=
  ⟨offers_of (by decide +kernel), by decide +kernel⟩

theorem witness_flush_ok :
    let a : Arriving := { head := unitOf [0x12, 0, 0, 0, 5, 0, 1, 0] }
    let s := holds ready1 a
    s.offers a ∧ a.kind = 0x12 ∧ s.validTenant a.fn = true ∧ Store.find? s.flushes a.fn = none ∧ s.hasInUse a.fn = false :=
  ⟨offers_of (by decide +kernel), by decide +kernel⟩

theorem witness_flush_busy_records :
    let a : Arriving := { head := unitOf [0x12, 0, 0, 0, 5, 0, 1, 0] }
    let s := holds { ready1 with slots := [(0, { state := .staged, fn := 1, stream := 2 })], flushes := (List.range 32).map fun i => (i + 2, { count := 1 }) } a
    s.offers a ∧ a.kind = 0x12 ∧ s.validTenant a.fn = true ∧ Store.find? s.flushes a.fn = none ∧ s.hasInUse a.fn = true
      ∧ 32 ≤ s.flushes.length :=
  ⟨offers_of (by decide +kernel), by decide +kernel⟩

theorem witness_flush_busy_tags :
    let a : Arriving := { head := unitOf [0x12, 0, 0, 0, 5, 0, 1, 0] }
    let s := holds { ready1 with slots := [(0, { state := .staged, fn := 1, stream := 2 })], flushes := [(1, { count := 1, tags := [1, 2, 3, 4] })] } a
    s.offers a ∧ a.kind = 0x12 ∧ s.validTenant a.fn = true ∧ (Store.find? s.flushes a.fn).map (fun r => r.tags.length) = some 4 :=
  ⟨offers_of (by decide +kernel), by decide +kernel⟩

theorem witness_flush_marks :
    let a : Arriving := { head := unitOf [0x12, 0, 0, 0, 5, 0, 1, 0] }
    let s := holds { ready1 with slots := [(0, { state := .staged, fn := 1, stream := 2 })], flushes := (List.range 31).map fun i => (i + 2, { count := 1 }) } a
    s.offers a ∧ a.kind = 0x12 ∧ s.validTenant a.fn = true ∧ Store.canon {} s.slots = true ∧ Store.find? s.flushes a.fn = none
      ∧ s.hasInUse a.fn = true ∧ s.flushes.length < 32 :=
  ⟨offers_of (by decide +kernel), by decide +kernel⟩

theorem witness_flush_joins :
    let a : Arriving := { head := unitOf [0x12, 0, 0, 0, 5, 0, 1, 0] }
    let s := holds { ready1 with slots := [(0, { state := .staged, fn := 1, stream := 2 })], flushes := [(1, { count := 1, tags := [1, 2, 3] })] } a
    s.offers a ∧ a.kind = 0x12 ∧ s.validTenant a.fn = true ∧ Store.canon {} s.slots = true
      ∧ (Store.find? s.flushes a.fn).map (fun r => r.tags.length) = some 3 :=
  ⟨offers_of (by decide +kernel), by decide +kernel⟩

/-- The tail of an IDLE stream holds a slot of the tenant, so that the FLUSH pads it and the stream requests a segment. -/
theorem witness_flush_requests :
    let a : Arriving := { head := unitOf [0x12, 0, 0, 0, 5, 0, 1, 0] }
    let s := tailed 1
    s.offers a ∧ a.kind = 0x12 ∧ (s.tenant a.fn).valid = true ∧ Store.canon {} s.slots = true ∧ Store.find? s.flushes a.fn = none
      ∧ s.hasInUse a.fn = true ∧ s.Ledger ∧ (s.stream 3).state = .idle ∧ (s.stream 3).tail = [0] ∧ (s.slot 0).fn = a.fn :=
  ⟨offers_of (by decide +kernel), rfl, rfl, by decide +kernel, rfl, by decide +kernel, (tailed_listed 1).ledger, rfl, by decide +kernel,
    rfl⟩

theorem witness_identify :
    (holds quiet (mgmt 0 0x01 [])).offers (mgmt 0 0x01 [])
      ∧ (mgmt 0 0x01 []).kind = 0x1F ∧ (mgmt 0 0x01 []).code = 0x01 ∧ (mgmt 0 0x01 []).bodyUnits = 0 :=
  ⟨offers_of (by decide +kernel), by decide +kernel⟩

theorem witness_identify_with_body :
    (holds quiet (mgmt 0 0x01 [] [0])).offers (mgmt 0 0x01 [] [0])
      ∧ (mgmt 0 0x01 [] [0]).kind = 0x1F ∧ (mgmt 0 0x01 [] [0]).code = 0x01 ∧ (mgmt 0 0x01 [] [0]).bodyUnits ≠ 0 :=
  ⟨offers_of (by decide +kernel), by decide +kernel⟩

theorem witness_get_param :
    (holds quiet (mgmt 0 0x03 [5, 7])).offers (mgmt 0 0x03 [5, 7]) ∧ Arriving.asks (mgmt 0 0x03 [5, 7]) 0x03 0
      ∧ paramOfCode (field (mgmt 0 0x03 [5, 7]).head 9 1) = some .issueWindow ∧ field (mgmt 0 0x03 [5, 7]).head 10 1 = 7 :=
  ⟨offers_of (by decide +kernel), asks_of (by decide +kernel), by decide +kernel⟩

theorem witness_get_param_lane_8 :
    (holds quiet (mgmt 0 0x03 [6, 8])).offers (mgmt 0 0x03 [6, 8]) ∧ Arriving.asks (mgmt 0 0x03 [6, 8]) 0x03 0
      ∧ paramOfCode (field (mgmt 0 0x03 [6, 8]).head 9 1) = some .poolLowMark ∧ 7 < field (mgmt 0 0x03 [6, 8]).head 10 1 :=
  ⟨offers_of (by decide +kernel), asks_of (by decide +kernel), by decide +kernel⟩

theorem witness_set_heatStep :
    (holds quiet (mgmt 0 0x02 [1, 0] [5])).offers (mgmt 0 0x02 [1, 0] [5]) ∧ Arriving.asks (mgmt 0 0x02 [1, 0] [5]) 0x02 1
      ∧ paramOfCode (field (mgmt 0 0x02 [1, 0] [5]).head 9 1) = some .heatStep :=
  ⟨offers_of (by decide +kernel), asks_of (by decide +kernel), by decide +kernel⟩

theorem witness_set_decayInterval :
    (holds quiet (mgmt 0 0x02 [2, 0] [5])).offers (mgmt 0 0x02 [2, 0] [5]) ∧ Arriving.asks (mgmt 0 0x02 [2, 0] [5]) 0x02 1
      ∧ paramOfCode (field (mgmt 0 0x02 [2, 0] [5]).head 9 1) = some .decayInterval :=
  ⟨offers_of (by decide +kernel), asks_of (by decide +kernel), by decide +kernel⟩

theorem witness_set_issueWindow :
    (holds quiet (mgmt 0 0x02 [5, 7] [5])).offers (mgmt 0 0x02 [5, 7] [5]) ∧ Arriving.asks (mgmt 0 0x02 [5, 7] [5]) 0x02 1
      ∧ paramOfCode (field (mgmt 0 0x02 [5, 7] [5]).head 9 1) = some .issueWindow ∧ field (mgmt 0 0x02 [5, 7] [5]).head 10 1 ≤ 7 :=
  ⟨offers_of (by decide +kernel), asks_of (by decide +kernel), by decide +kernel⟩

theorem witness_set_poolLowMark :
    (holds quiet (mgmt 0 0x02 [6, 7] [5])).offers (mgmt 0 0x02 [6, 7] [5]) ∧ Arriving.asks (mgmt 0 0x02 [6, 7] [5]) 0x02 1
      ∧ paramOfCode (field (mgmt 0 0x02 [6, 7] [5]).head 9 1) = some .poolLowMark ∧ field (mgmt 0 0x02 [6, 7] [5]).head 10 1 ≤ 7 :=
  ⟨offers_of (by decide +kernel), asks_of (by decide +kernel), by decide +kernel⟩

theorem witness_set_durableLinger :
    (holds quiet (mgmt 0 0x02 [8, 0] [5])).offers (mgmt 0 0x02 [8, 0] [5]) ∧ Arriving.asks (mgmt 0 0x02 [8, 0] [5]) 0x02 1
      ∧ paramOfCode (field (mgmt 0 0x02 [8, 0] [5]).head 9 1) = some .durableLinger :=
  ⟨offers_of (by decide +kernel), asks_of (by decide +kernel), by decide +kernel⟩

/-- The limit of an IDLE stream's tail is reached, so that the check pads it and the stream requests a segment. -/
theorem witness_durableLinger_requests :
    let a := mgmt 0 0x02 [8, 0] [5]
    let s := tailed 3
    s.offers a ∧ a.asks 0x02 1 ∧ paramOfCode (field a.head 9 1) = some .durableLinger ∧ s.Ledger ∧ (s.stream 3).state = .idle
      ∧ 0 < (s.stream 3).lingerLimit ∧ (s.stream 3).lingerLimit ≤ (s.stream 3).linger ∧ (s.stream 3).tail = [0] ∧ (s.slot 0).durable = none :=
  ⟨offers_of (by decide +kernel), asks_of (by decide +kernel), by decide +kernel, (tailed_listed 3).ledger, by decide +kernel, by decide,
    by decide +kernel, rfl, rfl⟩

theorem witness_set_creditBatch :
    (holds quiet (mgmt 0 0x02 [9, 0] [5])).offers (mgmt 0 0x02 [9, 0] [5]) ∧ Arriving.asks (mgmt 0 0x02 [9, 0] [5]) 0x02 1
      ∧ paramOfCode (field (mgmt 0 0x02 [9, 0] [5]).head 9 1) = some .creditBatch :=
  ⟨offers_of (by decide +kernel), asks_of (by decide +kernel), by decide +kernel⟩

theorem witness_set_sequenceBase :
    (holds quiet (mgmt 0 0x02 [11, 0] [5])).offers (mgmt 0 0x02 [11, 0] [5]) ∧ Arriving.asks (mgmt 0 0x02 [11, 0] [5]) 0x02 1
      ∧ paramOfCode (field (mgmt 0 0x02 [11, 0] [5]).head 9 1) = some .sequenceBase
      ∧ (holds quiet (mgmt 0 0x02 [11, 0] [5])).allFree = true :=
  ⟨offers_of (by decide +kernel), asks_of (by decide +kernel), by decide +kernel⟩

theorem witness_set_refused_0 :
    (holds quiet (mgmt 0 0x02 [0, 0] [5])).offers (mgmt 0 0x02 [0, 0] [5]) ∧ Arriving.asks (mgmt 0 0x02 [0, 0] [5]) 0x02 1
      ∧ paramOfCode (field (mgmt 0 0x02 [0, 0] [5]).head 9 1) = none :=
  ⟨offers_of (by decide +kernel), asks_of (by decide +kernel), by decide +kernel⟩

theorem witness_set_refused_5 :
    (holds quiet (mgmt 0 0x02 [5, 8] [5])).offers (mgmt 0 0x02 [5, 8] [5]) ∧ Arriving.asks (mgmt 0 0x02 [5, 8] [5]) 0x02 1
      ∧ paramOfCode (field (mgmt 0 0x02 [5, 8] [5]).head 9 1) = some .issueWindow ∧ 7 < field (mgmt 0 0x02 [5, 8] [5]).head 10 1 :=
  ⟨offers_of (by decide +kernel), asks_of (by decide +kernel), by decide +kernel⟩

theorem witness_set_refused_6 :
    (holds quiet (mgmt 0 0x02 [6, 8] [5])).offers (mgmt 0 0x02 [6, 8] [5]) ∧ Arriving.asks (mgmt 0 0x02 [6, 8] [5]) 0x02 1
      ∧ paramOfCode (field (mgmt 0 0x02 [6, 8] [5]).head 9 1) = some .poolLowMark ∧ 7 < field (mgmt 0 0x02 [6, 8] [5]).head 10 1 :=
  ⟨offers_of (by decide +kernel), asks_of (by decide +kernel), by decide +kernel⟩

theorem witness_set_not_quiet :
    (holds { quiet with slots := [(0, { state := .landing })] } (mgmt 0 0x02 [11, 0] [5])).offers (mgmt 0 0x02 [11, 0] [5]) ∧ Arriving.asks (mgmt 0 0x02 [11, 0] [5]) 0x02 1
      ∧ paramOfCode (field (mgmt 0 0x02 [11, 0] [5]).head 9 1) = some .sequenceBase
      ∧ (holds { quiet with slots := [(0, { state := .landing })] } (mgmt 0 0x02 [11, 0] [5])).allFree = false :=
  ⟨offers_of (by decide +kernel), asks_of (by decide +kernel), by decide +kernel⟩

theorem witness_clear_part :
    clearing.offers (mgmt 0 0x3F []) ∧ Arriving.asks (mgmt 0 0x3F []) 0x3F 0 ∧ clearing.Ledger ∧ clearing.allFree = true
      ∧ (∀ l, l < 8 → (clearing.lane l).inflight = []) ∧ clearing.durables = [] ∧ clearing.flushes = [] :=
  ⟨offers_of (by decide +kernel), asks_of (by decide +kernel), clearing_listed.ledger, by decide +kernel⟩

theorem witness_clear_part_refused :
    (holds { quiet with slots := [(0, { state := .landing })] } (mgmt 0 0x3F [])).offers (mgmt 0 0x3F []) ∧ Arriving.asks (mgmt 0 0x3F []) 0x3F 0
      ∧ ({ quiet with slots := [(0, { state := .landing })] } : State).allFree = false :=
  ⟨offers_of (by decide +kernel), asks_of (by decide +kernel), by decide +kernel⟩

/-- A window of two entries, beside the window of another valid tenant. -/
theorem witness_put_tenant :
    let a := mgmt 511 0x10 [] [unitOf [1, 3, 0, 1, 20, 0, 0, 0, 2], 0]
    let s := holds { quiet with
      ranges := [(1, { base := 1, limit := 2 })], tenants := [(5, { valid := true, windowFirst := 2, windowCount := 64 })] } a
    let f := a.tenantFields
    s.offers a ∧ a.asks 0x10 2 ∧ a.fn ≤ 511 ∧ f.ackCode ≤ 1 ∧ (f.coalescing = true → f.ackCode = 0) ∧ f.windowCount ≤ 64
      ∧ f.windowFirst + f.windowCount ≤ 4096 ∧ f.valid = true ∧ f.windowFirst = 0 ∧ f.windowCount = 2
      ∧ (∀ i, f.windowFirst ≤ i → i < f.windowFirst + f.windowCount → s.entryFault f.windowFirst i = false)
      ∧ ∀ u i, u ≠ a.fn → s.validTenant u = true → (s.tenant u).holds i = true →
          ¬ (f.windowFirst ≤ i ∧ i < f.windowFirst + f.windowCount) := by
  refine ⟨offers_of (by decide +kernel), asks_of (by decide +kernel), by decide +kernel, by decide +kernel, by decide +kernel,
    by decide +kernel, by decide +kernel, by decide +kernel, by decide +kernel, by decide +kernel, by decide +kernel, fun u i _ hv hi => ?_⟩
  have hf : (mgmt 511 0x10 [] [unitOf [1, 3, 0, 1, 20, 0, 0, 0, 2], 0]).tenantFields.windowFirst
      + (mgmt 511 0x10 [] [unitOf [1, 3, 0, 1, 20, 0, 0, 0, 2], 0]).tenantFields.windowCount = 2 := by decide +kernel
  by_cases hu : u = 5
  · subst hu
    simp [State.tenant, Store.getD, Store.find?, Tenant.holds, holds] at hi
    omega
  · simp [State.validTenant, State.tenant, Store.getD, Store.find?, holds, hu] at hv

theorem witness_put_tenant_bad_field :
    let a := mgmt 512 0x10 [] [unitOf [1, 3, 0, 0, 20, 0, 0, 0, 0], 0]
    (holds quiet a).offers a ∧ a.asks 0x10 2 ∧ 511 < a.fn :=
  ⟨offers_of (by decide +kernel), asks_of (by decide +kernel), by decide +kernel⟩

theorem witness_put_tenant_bad_ranges :
    let a := mgmt 1 0x10 [] [unitOf [1, 3, 0, 0, 20, 0, 0, 0, 2], 0]
    let s := holds { quiet with ranges := [(0, { base := 0, limit := 5 }), (1, { base := 5, limit := 6 })] } a
    s.offers a ∧ a.asks 0x10 2 ∧ a.tenantFields.valid = true ∧ s.entryFault 0 1 = true ∧ ∀ j, 0 ≤ j → j < 1 → s.entryFault 0 j = false :=
  ⟨offers_of (by decide +kernel), asks_of (by decide +kernel), by decide +kernel⟩

theorem witness_put_tenant_conflict :
    let a := mgmt 1 0x10 [] [unitOf [1, 3, 0, 0, 20, 0, 0, 0, 1], 0]
    let s := holds { quiet with tenants := [(0, { valid := true, windowFirst := 0, windowCount := 1 })] } a
    s.offers a ∧ a.asks 0x10 2 ∧ a.tenantFields.valid = true ∧ s.entryFault 0 0 = false ∧ 0 ≠ a.fn ∧ s.validTenant 0 = true
      ∧ (s.tenant 0).holds 0 = true ∧ ∀ v, v < 0 → s.validTenant v = false :=
  ⟨offers_of (by decide +kernel), asks_of (by decide +kernel), by decide +kernel⟩

theorem witness_put_tenant_not_quiet :
    let a := mgmt 1 0x10 [] [unitOf [0, 3, 0, 0, 20, 0, 0, 0, 0], 0]
    let s := holds { ready1 with slots := [(0, { state := .staged, fn := 1 })] } a
    s.offers a ∧ a.asks 0x10 2 ∧ a.tenantFields.valid = false ∧ (s.tenant a.fn).valid = true ∧ s.hasInUse a.fn = true :=
  ⟨offers_of (by decide +kernel), asks_of (by decide +kernel), by decide +kernel⟩

theorem witness_get_tenant :
    (holds quiet (mgmt 511 0x11 [])).offers (mgmt 511 0x11 []) ∧ Arriving.asks (mgmt 511 0x11 []) 0x11 0
      ∧ (mgmt 511 0x11 []).fn = 511 :=
  ⟨offers_of (by decide +kernel), asks_of (by decide +kernel), by decide +kernel⟩

theorem witness_hint_mask :
    let t : Tenant := { hints := [(1, 7), (15, 3)] }
    Store.sorted t.hints = true ∧ ∀ e ∈ t.hints, 1 ≤ e.1 ∧ e.1 ≤ 15 :=
  by decide

theorem witness_drop_tenant :
    (holds ready1 (mgmt 1 0x12 [])).offers (mgmt 1 0x12 []) ∧ Arriving.asks (mgmt 1 0x12 []) 0x12 0
      ∧ (mgmt 1 0x12 []).fn ≤ 511 ∧ ready1.hasInUse 1 = false ∧ ready1.durables = [] ∧ Store.find? ready1.flushes 1 = none :=
  ⟨offers_of (by decide +kernel), asks_of (by decide +kernel), by decide +kernel⟩

theorem witness_drop_tenant_bad :
    (holds quiet (mgmt 512 0x12 [])).offers (mgmt 512 0x12 []) ∧ Arriving.asks (mgmt 512 0x12 []) 0x12 0
      ∧ 511 < (mgmt 512 0x12 []).fn :=
  ⟨offers_of (by decide +kernel), asks_of (by decide +kernel), by decide +kernel⟩

theorem witness_drop_tenant_not_quiet :
    (holds { ready1 with flushes := [(1, {})] } (mgmt 1 0x12 [])).offers (mgmt 1 0x12 []) ∧ Arriving.asks (mgmt 1 0x12 []) 0x12 0
      ∧ (Store.find? ({ ready1 with flushes := [(1, {})] } : State).flushes 1).isSome = true :=
  ⟨offers_of (by decide +kernel), asks_of (by decide +kernel), by decide +kernel⟩

/-- Entry 4095 alone; no tenant is valid, so none holds it. -/
theorem witness_put_ranges :
    (holds quiet (mgmt 0 0x18 [255, 15, 1] [unitOf [7]])).offers (mgmt 0 0x18 [255, 15, 1] [unitOf [7]]) ∧ Arriving.asks (mgmt 0 0x18 [255, 15, 1] [unitOf [7]]) 0x18 1
      ∧ (mgmt 0 0x18 [255, 15, 1] [unitOf [7]]).entryCount = 1 ∧ (mgmt 0 0x18 [255, 15, 1] [unitOf [7]]).start + 1 ≤ 4096 ∧ ∀ i, i < 1 → field ((mgmt 0 0x18 [255, 15, 1] [unitOf [7]]).bodyUnit i) 0 1 ≤ 7 :=
  ⟨offers_of (by decide +kernel), asks_of (by decide +kernel), by decide +kernel⟩

theorem witness_put_ranges_bad :
    (holds quiet (mgmt 0 0x18 [0, 0, 1] [unitOf [8]])).offers (mgmt 0 0x18 [0, 0, 1] [unitOf [8]]) ∧ Arriving.asks (mgmt 0 0x18 [0, 0, 1] [unitOf [8]]) 0x18 1
      ∧ (mgmt 0 0x18 [0, 0, 1] [unitOf [8]]).entryCount = 1 ∧ 7 < field ((mgmt 0 0x18 [0, 0, 1] [unitOf [8]]).bodyUnit 0) 0 1 :=
  ⟨offers_of (by decide +kernel), asks_of (by decide +kernel), by decide +kernel⟩

theorem witness_put_ranges_in_use :
    (holds { quiet with tenants := [(5, { valid := true, windowCount := 1 })] } (mgmt 0 0x18 [0, 0, 1] [unitOf [7]])).offers (mgmt 0 0x18 [0, 0, 1] [unitOf [7]]) ∧ Arriving.asks (mgmt 0 0x18 [0, 0, 1] [unitOf [7]]) 0x18 1
      ∧ ({ quiet with tenants := [(5, { valid := true, windowCount := 1 })] } : State).validTenant 5 = true
      ∧ (({ quiet with tenants := [(5, { valid := true, windowCount := 1 })] } : State).tenant 5).holds 0 = true :=
  ⟨offers_of (by decide +kernel), asks_of (by decide +kernel), by decide +kernel⟩

theorem witness_get_ranges :
    (holds quiet (mgmt 0 0x19 [224, 15, 32])).offers (mgmt 0 0x19 [224, 15, 32]) ∧ Arriving.asks (mgmt 0 0x19 [224, 15, 32]) 0x19 0
      ∧ (mgmt 0 0x19 [224, 15, 32]).entryCount = 32 ∧ (mgmt 0 0x19 [224, 15, 32]).start + 32 - 1 = 4095 :=
  ⟨offers_of (by decide +kernel), asks_of (by decide +kernel), by decide +kernel⟩

theorem witness_get_ranges_bad :
    (holds quiet (mgmt 0 0x19 [225, 15, 32])).offers (mgmt 0 0x19 [225, 15, 32]) ∧ Arriving.asks (mgmt 0 0x19 [225, 15, 32]) 0x19 0
      ∧ 4095 < (mgmt 0 0x19 [225, 15, 32]).start + (mgmt 0 0x19 [225, 15, 32]).entryCount - 1 :=
  ⟨offers_of (by decide +kernel), asks_of (by decide +kernel), by decide +kernel⟩

theorem witness_decay :
    quiet.running = true ∧ quiet.decayTimer = some 1000000 ∧ Store.canon {} quiet.ranges = true :=
  ⟨rfl, rfl, rfl⟩

theorem witness_route :
    let a := writeOf 0 37 0 0 8 995 []
    twoRanges.coveringEntry (twoRanges.tenant a.fn) a.ns 995 = some 0 ∧ twoRanges.coveringEntry (twoRanges.tenant a.fn) a.ns 2000 = none :=
  by decide +kernel

theorem witness_route_window :
    twoRanges.windowSorted (twoRanges.tenant 37) := by
  intro i h
  have ht : (twoRanges.tenant 37).windowFirst = 0 ∧ (twoRanges.tenant 37).windowCount = 2 := by decide +kernel
  have hi : i = 0 ∨ i = 1 := by
    simp [Tenant.holds, ht] at h
    omega
  rcases hi with rfl | rfl <;> decide +kernel

theorem witness_put_stream_unbound :
    let a := mgmt 0 0x20 [3, 1, 3, 9, 5]
    let s : State := streamAsk {} 0x20 [1, 3, 9, 5]
    s.offers a ∧ a.asks 0x20 0 ∧ field a.head 9 1 = 3
      ∧ (s.stream 3).state = .unbound :=
  ⟨offers_of (by decide +kernel), asks_of (by decide +kernel), by decide +kernel⟩

theorem witness_put_stream_bad_field :
    let a := mgmt 0 0x20 [3, 0, 1, 0, 0]
    let s : State := streamAsk {} 0x20 [0, 1, 0, 0]
    s.offers a ∧ a.asks 0x20 0 ∧ field a.head 9 1 = 3
      ∧ field a.head 10 1 = 0 :=
  ⟨offers_of (by decide +kernel), asks_of (by decide +kernel), by decide +kernel⟩

theorem witness_put_stream_wrong_state :
    let a := mgmt 0 0x20 [3, 1, 1, 0, 0]
    let s : State := streamAsk { state := .idle } 0x20 [1, 1, 0, 0]
    s.offers a ∧ a.asks 0x20 0 ∧ field a.head 9 1 = 3
      ∧ (s.stream 3).state = .idle :=
  ⟨offers_of (by decide +kernel), asks_of (by decide +kernel), by decide +kernel⟩

theorem witness_put_stream_held :
    let a := mgmt 0 0x20 [3, 2, 1, 0, 0]
    let s : State := { streamAsk { state := .held, laneSet := 3, openSeg := some 7 } 0x20 [2, 1, 0, 0] with segments := seg7 1 0 }
    s.offers a ∧ a.asks 0x20 0 ∧ field a.head 9 1 = 3
      ∧ (s.stream 3).state = .held
      ∧ (s.openSegment (s.stream 3)).map (fun p => p.2.lane) = some 1 :=
  ⟨offers_of (by decide +kernel), asks_of (by decide +kernel), by decide +kernel⟩

theorem witness_put_stream_moved :
    let a := mgmt 0 0x20 [3, 2, 1, 0, 0]
    let s : State := { streamAsk { state := .held, laneSet := 3, openSeg := some 7 } 0x20 [2, 1, 0, 0] with segments := seg7 0 0 }
    s.offers a ∧ a.asks 0x20 0 ∧ field a.head 9 1 = 3
      ∧ (s.stream 3).state = .held
      ∧ (s.openSegment (s.stream 3)).map (fun p => p.2.lane) = some 0 :=
  ⟨offers_of (by decide +kernel), asks_of (by decide +kernel), by decide +kernel⟩

theorem witness_hold_unbound :
    let a := mgmt 0 0x22 [3]
    let s : State := streamAsk {} 0x22 []
    s.offers a ∧ a.asks 0x22 0 ∧ field a.head 9 1 = 3
      ∧ (s.stream 3).state = .unbound :=
  ⟨offers_of (by decide +kernel), asks_of (by decide +kernel), by decide +kernel⟩

theorem witness_hold_held :
    let a := mgmt 0 0x22 [3]
    let s : State := streamAsk { state := .held } 0x22 []
    s.offers a ∧ a.asks 0x22 0 ∧ field a.head 9 1 = 3
      ∧ (s.stream 3).state = .held :=
  ⟨offers_of (by decide +kernel), asks_of (by decide +kernel), by decide +kernel⟩

theorem witness_hold_idle :
    let a := mgmt 0 0x22 [3]
    let s : State := streamAsk { state := .idle } 0x22 []
    s.offers a ∧ a.asks 0x22 0 ∧ field a.head 9 1 = 3
      ∧ (s.stream 3).state = .idle :=
  ⟨offers_of (by decide +kernel), asks_of (by decide +kernel), by decide +kernel⟩

theorem witness_hold_starved :
    let a := mgmt 0 0x22 [3]
    let s : State := { streamAsk { state := .starved } 0x22 [] with starved := [3] }
    s.offers a ∧ a.asks 0x22 0 ∧ field a.head 9 1 = 3
      ∧ (s.stream 3).state = .starved :=
  ⟨offers_of (by decide +kernel), asks_of (by decide +kernel), by decide +kernel⟩

theorem witness_release_wrong :
    let s : State := { streamAsk { state := .idle } 0x23 [] with starved := [] }
    s.offers (mgmt 0 0x23 [3]) ∧ Arriving.asks (mgmt 0 0x23 [3]) 0x23 0 ∧ s.calm
      ∧ (s.stream 3).state ≠ .held :=
  ⟨offers_of (by decide +kernel), asks_of (by decide +kernel), calm_of (by decide +kernel), by decide +kernel⟩

theorem witness_release_open :
    let s : State := { streamAsk { state := .held, openSeg := some 7 } 0x23 [] with segments := seg7 0 0 }
    s.offers (mgmt 0 0x23 [3]) ∧ Arriving.asks (mgmt 0 0x23 [3]) 0x23 0 ∧ s.calm
      ∧ (s.stream 3).state = .held ∧ (s.stream 3).openSeg.isSome = true :=
  ⟨offers_of (by decide +kernel), asks_of (by decide +kernel), calm_of (by decide +kernel), by decide +kernel⟩

theorem witness_release_idle :
    let s : State := { streamAsk { state := .held, queue := [1] } 0x23 [] with starved := [] }
    s.offers (mgmt 0 0x23 [3]) ∧ Arriving.asks (mgmt 0 0x23 [3]) 0x23 0 ∧ s.calm
      ∧ (s.stream 3).state = .held ∧ (s.stream 3).openSeg = none ∧ (s.stream 3).ready = 0 :=
  ⟨offers_of (by decide +kernel), asks_of (by decide +kernel), calm_of (by decide +kernel), by decide +kernel⟩

theorem witness_release_starved :
    let s : State := { streamAsk { state := .held, laneSet := 1, queue := [1], pad := true } 0x23 [] with starved := [] }
    s.offers (mgmt 0 0x23 [3]) ∧ Arriving.asks (mgmt 0 0x23 [3]) 0x23 0 ∧ s.calm
      ∧ (s.stream 3).state = .held ∧ (s.stream 3).openSeg = none ∧ 1 ≤ (s.stream 3).ready
      ∧ ∀ l, l < 8 → (s.stream 3).laneSet.getLsbD l = true → (s.lane l).up = true → (s.lane l).normal = [] :=
  ⟨offers_of (by decide +kernel), asks_of (by decide +kernel), calm_of (by decide +kernel), by decide +kernel⟩

theorem witness_release_opens :
    let s : State := { streamAsk { state := .held, laneSet := 5, queue := [1], pad := true, lastLane := 0 } 0x23 [] with lanes := [(0, { normal := [⟨9, 8⟩] })] }
    s.offers (mgmt 0 0x23 [3]) ∧ Arriving.asks (mgmt 0 0x23 [3]) 0x23 0 ∧ s.calm
      ∧ (s.stream 3).state = .held ∧ (s.stream 3).openSeg = none ∧ 1 ≤ (s.stream 3).ready
      ∧ (s.stream 3).laneSet.getLsbD 0 = true ∧ 0 = ((s.stream 3).lastLane + 1 + 7) % 8 ∧ (s.lane 0).up = true ∧ (s.lane 0).normal = [⟨9, 8⟩]
      ∧ ∀ j, j < 7 → (s.stream 3).laneSet.getLsbD (((s.stream 3).lastLane + 1 + j) % 8) = true →
        (s.lane (((s.stream 3).lastLane + 1 + j) % 8)).normal = [] :=
  ⟨offers_of (by decide +kernel), asks_of (by decide +kernel), calm_of (by decide +kernel), by decide +kernel⟩

theorem witness_flush_stream_unbound :
    let a := mgmt 0 0x24 [3]
    let s : State := streamAsk {} 0x24 []
    s.offers a ∧ a.asks 0x24 0 ∧ field a.head 9 1 = 3
      ∧ (s.stream 3).state = .unbound :=
  ⟨offers_of (by decide +kernel), asks_of (by decide +kernel), by decide +kernel⟩

theorem witness_flush_stream_held :
    let s : State := { streamAsk { state := .held, queue := [1] } 0x24 [] with starved := [] }
    s.offers (mgmt 0 0x24 [3]) ∧ Arriving.asks (mgmt 0 0x24 [3]) 0x24 0 ∧ s.calm
      ∧ (s.stream 3).state ≠ .unbound ∧ (s.stream 3).state ≠ .idle :=
  ⟨offers_of (by decide +kernel), asks_of (by decide +kernel), calm_of (by decide +kernel), by decide +kernel⟩

/-- A FLUSH-STREAM of an IDLE stream, which then requests a segment. -/
theorem witness_flush_stream_requests :
    let a := mgmt 0 0x24 [3]
    let s := tailed 2
    s.offers a ∧ a.asks 0x24 0 ∧ field a.head 9 1 = 3 ∧ s.Ledger ∧ (s.stream 3).state = .idle
      ∧ ((after .flushStream s).stream 3).state = .opened :=
  ⟨offers_of (by decide +kernel), asks_of (by decide +kernel), by decide +kernel, (tailed_listed 2).ledger, by decide +kernel⟩

theorem witness_rotate_wrong :
    let a := mgmt 0 0x25 [3]
    let s : State := streamAsk { state := .idle } 0x25 []
    s.offers a ∧ a.asks 0x25 0 ∧ field a.head 9 1 = 3
      ∧ (s.stream 3).state = .idle :=
  ⟨offers_of (by decide +kernel), asks_of (by decide +kernel), by decide +kernel⟩

theorem witness_rotate_held_bare :
    let s : State := { streamAsk { state := .held, queue := [1] } 0x25 [] with starved := [] }
    s.offers (mgmt 0 0x25 [3]) ∧ Arriving.asks (mgmt 0 0x25 [3]) 0x25 0 ∧ s.calm
      ∧ (s.stream 3).state = .held ∧ (s.stream 3).openSeg = none :=
  ⟨offers_of (by decide +kernel), asks_of (by decide +kernel), calm_of (by decide +kernel), by decide +kernel⟩

theorem witness_rotate_open :
    let s : State := { streamAsk { state := .opened, laneSet := 1, queue := [1], openSeg := some 7 } 0x25 [] with segments := seg7 0 1 }
    s.offers (mgmt 0 0x25 [3]) ∧ Arriving.asks (mgmt 0 0x25 [3]) 0x25 0 ∧ s.calm
      ∧ (s.stream 3).state = .opened ∧ (s.openSegment (s.stream 3)).map (fun p => (p.1, p.2.endCause, p.2.stream)) = some (7, none, 3)
      ∧ (s.openSegment (s.stream 3)).map (fun p => decide (p.2.done + p.2.failed = p.2.issued)) = some false ∧ s.segments.length ≤ 512
      ∧ 1 ≤ ((after .rotateStream s).stream 3).ready ∧ ∀ l, l < 8 → (s.lane l).normal = [] :=
  ⟨offers_of (by decide +kernel), asks_of (by decide +kernel), calm_of (by decide +kernel), by decide +kernel⟩

/-- The last lane examined, 7, has the grant; its POOL-LOW falls due. -/
theorem witness_rotate_opens :
    let s : State := { streamAsk { state := .opened, laneSet := 0x81, queue := [1], openSeg := some 7 } 0x25 [] with
      segments := seg7 0 0, lanes := [(7, { normal := [⟨3, 6⟩], armed := true, poolLowMark := 0 })] }
    s.offers (mgmt 0 0x25 [3]) ∧ Arriving.asks (mgmt 0 0x25 [3]) 0x25 0 ∧ s.calm ∧ 3 < 256 ∧ s.segments.length ≤ 512
      ∧ (s.stream 3).state = .opened ∧ (s.openSegment (s.stream 3)).map (fun p => (p.1, p.2.endCause, p.2.stream)) = some (7, none, 3)
      ∧ 1 ≤ ((after .rotateStream s).stream 3).ready ∧ 7 = ((s.stream 3).lastLane + 1 + 7) % 8 ∧ (s.stream 3).laneSet.getLsbD 7 = true
      ∧ (s.lane 7).up = true ∧ (s.lane 7).normal = [⟨3, 6⟩]
      ∧ ∀ j, j < 7 → (s.lane (((s.stream 3).lastLane + 1 + j) % 8)).normal = [] :=
  ⟨offers_of (by decide +kernel), asks_of (by decide +kernel), calm_of (by decide +kernel), by decide +kernel⟩

theorem witness_rotate_settled :
    let s : State := { streamAsk { state := .held, laneSet := 1, openSeg := some 7 } 0x25 [] with segments := seg7 0 0 }
    s.offers (mgmt 0 0x25 [3]) ∧ Arriving.asks (mgmt 0 0x25 [3]) 0x25 0 ∧ s.calm ∧ 3 < 256 ∧ s.segments.length ≤ 512
      ∧ (s.stream 3).state = .held ∧ (s.openSegment (s.stream 3)).map (fun p => (p.1, p.2.endCause, p.2.stream)) = some (7, none, 3)
      ∧ (s.openSegment (s.stream 3)).map (fun p => decide (p.2.done + p.2.failed = p.2.issued)) = some true
      ∧ ((after .rotateStream s).stream 3).openSeg ≠ some 7 :=
  ⟨offers_of (by decide +kernel), asks_of (by decide +kernel), calm_of (by decide +kernel), by decide +kernel⟩

theorem witness_unbind_wrong :
    let a := mgmt 0 0x26 [3]
    let s : State := streamAsk { state := .opened } 0x26 []
    s.offers a ∧ a.asks 0x26 0 ∧ field a.head 9 1 = 3
      ∧ (s.stream 3).state = .opened :=
  ⟨offers_of (by decide +kernel), asks_of (by decide +kernel), by decide +kernel⟩

theorem witness_unbind_not_quiet :
    let a := mgmt 0 0x26 [3]
    let s : State := streamAsk { state := .idle, queue := [1] } 0x26 []
    s.offers a ∧ a.asks 0x26 0 ∧ field a.head 9 1 = 3
      ∧ (s.stream 3).state = .idle ∧ (s.stream 3).queue ≠ [] :=
  ⟨offers_of (by decide +kernel), asks_of (by decide +kernel), by decide +kernel⟩

theorem witness_unbind_in_use :
    let a := mgmt 0 0x26 [3]
    let s : State := { streamAsk { state := .idle } 0x26 [] with tenants := [(1, { valid := true, defaultStream := 3 })] }
    s.offers a ∧ a.asks 0x26 0 ∧ field a.head 9 1 = 3
      ∧ (s.stream 3).state = .idle ∧ (s.stream 3).queue = [] ∧ (s.stream 3).inflight = 0
      ∧ (1, { valid := true, defaultStream := 3 }) ∈ s.tenants :=
  ⟨offers_of (by decide +kernel), asks_of (by decide +kernel), by decide +kernel⟩

theorem witness_unbind :
    let a := mgmt 0 0x26 [3]
    let s : State := { streamAsk { state := .held, openSeg := some 7 } 0x26 [] with segments := seg7 0 0 }
    s.offers a ∧ a.asks 0x26 0 ∧ field a.head 9 1 = 3
      ∧ (s.stream 3).state = .held ∧ (s.stream 3).queue = [] ∧ (s.stream 3).inflight = 0 ∧ s.tenants = []
      ∧ (s.openSegment (s.stream 3)).map (fun p => (p.2.endCause, p.2.stream, p.2.done + p.2.failed - p.2.issued)) = some (none, 3, 0) :=
  ⟨offers_of (by decide +kernel), asks_of (by decide +kernel), by decide +kernel⟩

/-- A unit of the open segment is still counted as outstanding, so that it stays DRAINING. -/
theorem witness_unbind_draining :
    let a := mgmt 0 0x26 [3]
    let s : State := { streamAsk { state := .held, openSeg := some 7 } 0x26 [] with segments := seg7 0 1 }
    s.offers a ∧ a.asks 0x26 0 ∧ field a.head 9 1 = 3
      ∧ (s.stream 3).state = .held ∧ (s.stream 3).queue = [] ∧ (s.stream 3).inflight = 0 ∧ s.tenants = []
      ∧ (s.openSegment (s.stream 3)).map (fun p => (p.2.endCause, p.2.stream, p.2.issued - p.2.done - p.2.failed)) = some (none, 3, 1) :=
  ⟨offers_of (by decide +kernel), asks_of (by decide +kernel), by decide +kernel⟩

theorem witness_get_stream :
    let a := mgmt 0 0x21 [3]
    let s : State := streamAsk { state := .idle } 0x21 []
    s.offers a ∧ a.asks 0x21 0 ∧ field a.head 9 1 = 3
      ∧ (s.stream 3).state = .idle :=
  ⟨offers_of (by decide +kernel), asks_of (by decide +kernel), by decide +kernel⟩

theorem witness_grant_bad :
    let a := mgmt 0 0x30 [8, 0, 1] [unitOf [1, 0, 0, 0, 1]]
    let s := holds { quiet with lanes := [] } a
    s.offers a ∧ a.asks 0x30 1 ∧ a.entryCount = 1 ∧ field a.head 9 1 = 8 ∧ field a.head 10 1 = 0
      ∧ 7 < field a.head 9 1 :=
  ⟨offers_of (by decide +kernel), asks_of (by decide +kernel), by decide +kernel⟩

theorem witness_grant_bad_capacity :
    let a := mgmt 0 0x30 [7, 1, 1] [unitOf [1]]
    let s := holds { quiet with lanes := [] } a
    s.offers a ∧ a.asks 0x30 1 ∧ a.entryCount = 1 ∧ field a.head 9 1 = 7 ∧ field a.head 10 1 = 1
      ∧ field (a.bodyUnit 0) 4 2 = 0 :=
  ⟨offers_of (by decide +kernel), asks_of (by decide +kernel), by decide +kernel⟩

theorem witness_grant_lane_down :
    let a := mgmt 0 0x30 [7, 0, 1] [unitOf [1, 0, 0, 0, 1]]
    let s := holds { quiet with lanes := [(7, { up := false })] } a
    s.offers a ∧ a.asks 0x30 1 ∧ a.entryCount = 1 ∧ field a.head 9 1 = 7 ∧ field a.head 10 1 = 0
      ∧ (s.lane 7).up = false ∧ field (a.bodyUnit 0) 4 2 ≠ 0 :=
  ⟨offers_of (by decide +kernel), asks_of (by decide +kernel), by decide +kernel⟩

theorem witness_grant_full :
    let a := mgmt 0 0x30 [7, 1, 1] [unitOf [1, 0, 0, 0, 1]]
    let s := holds { quiet with lanes := [(7, { dump := List.replicate 4 ⟨1, 1⟩ })] } a
    s.offers a ∧ a.asks 0x30 1 ∧ a.entryCount = 1 ∧ field a.head 9 1 = 7 ∧ field a.head 10 1 = 1
      ∧ (s.lane 7).up = true ∧ 4 < (s.lane 7).dump.length + 1 :=
  ⟨offers_of (by decide +kernel), asks_of (by decide +kernel), by decide +kernel⟩

theorem witness_grant_normal :
    let a := mgmt 0 0x30 [7, 0, 1] [unitOf [1, 0, 0, 0, 1]]
    let s := holds { quiet with lanes := [(7, { normal := List.replicate 31 ⟨1, 1⟩ })] } a
    s.offers a ∧ a.asks 0x30 1 ∧ a.entryCount = 1 ∧ field a.head 9 1 = 7 ∧ field a.head 10 1 = 0
      ∧ (s.lane 7).up = true ∧ (s.lane 7).normal.length + 1 ≤ 32 ∧ (∀ i, i < 1 → field (a.bodyUnit i) 4 2 ≠ 0) ∧ s.due = [] ∧ s.starved = [] :=
  ⟨offers_of (by decide +kernel), asks_of (by decide +kernel), by decide +kernel⟩

theorem witness_grant_dump :
    let a := mgmt 0 0x30 [7, 1, 1] [unitOf [1, 0, 0, 0, 1]]
    let s := holds { quiet with lanes := [(7, { dump := List.replicate 3 ⟨1, 1⟩ })] } a
    s.offers a ∧ a.asks 0x30 1 ∧ a.entryCount = 1 ∧ field a.head 9 1 = 7 ∧ field a.head 10 1 = 1
      ∧ (s.lane 7).up = true ∧ (s.lane 7).dump.length + 1 ≤ 4 ∧ ∀ i, i < 1 → field (a.bodyUnit i) 4 2 ≠ 0 :=
  ⟨offers_of (by decide +kernel), asks_of (by decide +kernel), by decide +kernel⟩

/-- Three streams wait for lane 1 or another lane, and one grant serves the oldest of those of lane 1. -/
theorem witness_grant_serves :
    let a := mgmt 0 0x30 [1, 0, 1] [unitOf [1, 0, 0, 0, 1]]
    let s := holds { quiet with
      lanes := [], starved := [5, 3, 4]
      streams := [(3, { state := .starved, laneSet := 2 }), (4, { state := .starved, laneSet := 3 }), (5, { state := .starved, laneSet := 1 })] } a
    s.offers a ∧ a.asks 0x30 1 ∧ a.entryCount = 1 ∧ field a.head 9 1 = 1 ∧ field a.head 10 1 = 0
      ∧ (s.lane 1).up = true ∧ (s.lane 1).normal.length + 1 ≤ 32 ∧ (∀ i, i < 1 → field (a.bodyUnit i) 4 2 ≠ 0)
      ∧ s.starved.filter (fun k => (s.stream k).laneSet.getLsbD 1) = [3, 4] ∧ s.starved.Nodup ∧ s.segments.length ≤ 512 :=
  ⟨offers_of (by decide +kernel), asks_of (by decide +kernel), by decide +kernel⟩

/-- The appended grant lifts the count of 4 above the mark of 4, and the serve of two streams takes it to 3. -/
theorem witness_grant_pool_low :
    let a := mgmt 0 0x30 [1, 0, 1] [unitOf [1, 0, 0, 0, 1]]
    let s := holds { quiet with
      lanes := [(1, { normal := List.replicate 4 ⟨7, 8⟩ })], starved := [3, 4]
      streams := [(3, { state := .starved, laneSet := 2 }), (4, { state := .starved, laneSet := 3 })] } a
    s.offers a ∧ a.asks 0x30 1 ∧ a.entryCount = 1 ∧ field a.head 9 1 = 1 ∧ field a.head 10 1 = 0
      ∧ (s.lane 1).up = true ∧ (s.lane 1).normal.length + 1 = 5 ∧ (s.lane 1).poolLowMark = 4
      ∧ (∀ i, i < 1 → field (a.bodyUnit i) 4 2 ≠ 0) ∧ s.due = [] ∧ s.starved.Nodup ∧ s.segments.length ≤ 512
      ∧ s.starved.filter (fun k => (s.stream k).laneSet.getLsbD 1) = [3, 4] :=
  ⟨offers_of (by decide +kernel), asks_of (by decide +kernel), by decide +kernel⟩

theorem witness_next_id :
    quiet.segments.length ≤ 512 :=
  by decide

theorem witness_full_segment :
    let s : State := { quiet with streams := [(3, { state := .opened, openSeg := some 7 })], segments := seg7 1 7 }
    (s.openSegment (s.stream 3)).map (fun p => (p.1, p.2.endCause, p.2.stream)) = some (7, none, 3) ∧ (s.stream 3).state = .opened :=
  by decide +kernel

theorem witness_restart_bad :
    let a := mgmt 0 0x39 [8]
    let s := holds { quiet with lanes := [], lines := {} } a
    s.offers a ∧ a.asks 0x39 0 ∧ field a.head 9 1 = 8 ∧ 7 < field a.head 9 1 :=
  ⟨offers_of (by decide +kernel), asks_of (by decide +kernel), by decide +kernel⟩

theorem witness_restart_up :
    let a := mgmt 0 0x39 [7]
    let s := holds { quiet with lanes := [], lines := {} } a
    s.offers a ∧ a.asks 0x39 0 ∧ field a.head 9 1 = 7 ∧ (s.lane 7).up = true :=
  ⟨offers_of (by decide +kernel), asks_of (by decide +kernel), by decide +kernel⟩

theorem witness_restart_fault :
    let a := mgmt 0 0x39 [7]
    let s := holds { quiet with lanes := [(7, { up := false })], lines := { laneflt := 0x80 } } a
    s.offers a ∧ a.asks 0x39 0 ∧ field a.head 9 1 = 7 ∧ (s.lane 7).up = false ∧ s.lines.laneflt.getLsbD 7 = true :=
  ⟨offers_of (by decide +kernel), asks_of (by decide +kernel), by decide +kernel⟩

theorem witness_restart_ok :
    let a := mgmt 0 0x39 [7]
    let s := holds { quiet with lanes := [(7, { up := false })], lines := {} } a
    s.offers a ∧ a.asks 0x39 0 ∧ field a.head 9 1 = 7 ∧ (s.lane 7).up = false ∧ s.lines.laneflt.getLsbD 7 = false :=
  ⟨offers_of (by decide +kernel), asks_of (by decide +kernel), by decide +kernel⟩

theorem witness_get_lane_7 :
    let a := mgmt 0 0x38 [7]
    (holds quiet a).offers a ∧ a.asks 0x38 0 ∧ field a.head 9 1 = 7 :=
  ⟨offers_of (by decide +kernel), asks_of (by decide +kernel), by decide +kernel⟩

theorem witness_get_lane_8 :
    let a := mgmt 0 0x38 [8]
    (holds quiet a).offers a ∧ a.asks 0x38 0 ∧ field a.head 9 1 = 8 :=
  ⟨offers_of (by decide +kernel), asks_of (by decide +kernel), by decide +kernel⟩

theorem witness_search :
    ((cadences 5 10).search 2).isSome = true ∧ (cadences 5 10).candidate 2 12 = true :=
  by decide +kernel

theorem witness_search_lawful :
    ∀ k, k < 256 → ((cadences 5 10).stream k).cadence ∈ [1, 2, 4, 8, 16] ∧ ((cadences 5 10).stream k).phase < ((cadences 5 10).stream k).cadence :=
  by decide +kernel

theorem witness_issue :
    let s := cadences 5 10
    (s.running = true ∧ (s.lane 2).up = true ∧ (s.lane 2).inflight.length < (s.lane 2).window ∧ s.search 2 = some (6, 3)
      ∧ (s.openSegment (s.stream 3)).map (fun p => (p.1, decide (p.2.issued < p.2.capacity), p.2.endCause, p.2.stream)) = some (1, true, none, 3)
      ∧ s.segments.length ≤ 512 ∧ s.params.durableLinger ≠ 0) ∧ s.calm :=
  ⟨by decide +kernel, calm_of (by decide +kernel)⟩

/-- The unit fills the segment, and the stream has ready units left: lane 2 holds no normal grant, or one, and its flag is armed, or not. -/
theorem witness_issue_fills (granted armed : Bool) :
    let s : State := { quiet with
      lanes := [(2, { position := 0, normal := if granted then [⟨7, 8⟩] else [], armed := armed, poolLowMark := 0 })]
      segments := [(1, { stream := 3, lane := 2, block := 0, capacity := 1 })]
      streams := [(3, { state := .opened, laneSet := 4, openSeg := some 1, queue := List.range 64 })] }
    (s.running = true ∧ (s.lane 2).up = true ∧ (s.lane 2).inflight.length < (s.lane 2).window ∧ s.search 2 = some (0, 3)
      ∧ (s.openSegment (s.stream 3)).map (fun p => (p.1, p.2.capacity - p.2.issued, p.2.endCause, p.2.stream)) = some (1, 1, none, 3)
      ∧ s.segments.length ≤ 512 ∧ s.params.durableLinger ≠ 0 ∧ 1 ≤ ((after (.issue 2) s).stream 3).ready
      ∧ 2 = ((s.stream 3).lastLane + 1 + 2) % 8 ∧ (∀ x, x < 8 → (s.stream 3).laneSet.getLsbD x = true → x = 2)
      ∧ (s.lane 2).normal = if granted then [⟨7, 8⟩] else []) ∧ s.calm :=
  ⟨by cases granted <;> cases armed <;> decide +kernel, calm_of (by cases granted <;> cases armed <;> decide +kernel)⟩

theorem witness_answer_arrival :
    quiet.live = true :=
  rfl

/-- The unit is DONE in RUN and in DUMPING; its segment is OPEN. -/
theorem witness_done (d : Bool) :
    let s := airborne d false true
    (s.takeable 1).map Waiting.head = some (answerOf 1 0) ∧ headKind (answerOf 1 0) = 0x31 ∧ headBodyUnits (answerOf 1 0) = 0
      ∧ (s.lane 1).inflight[0]? = some (flight .normal [0]) ∧ InFlight.block (flight .normal [0]) = answerBlock (answerOf 1 0)
      ∧ InFlight.unit (flight .normal [0]) = answerUnit (answerOf 1 0) ∧ field (answerOf 1 0) 14 1 = 1
      ∧ s.part = (if d then .dumping else .run) ∧ (s.part = .dumping → s.dump.remaining ≠ 0)
      ∧ (Store.find? s.segments 7).map Segment.stream = some 3 :=
  by cases d <;> decide +kernel

/-- The unit has failed in RUN and in DUMPING. -/
theorem witness_fail (d : Bool) :
    let s := airborne d false false
    ((s.takeable 1).map Waiting.head = some (answerOf 2 1) ∧ headKind (answerOf 2 1) = 0x31 ∧ headBodyUnits (answerOf 2 1) = 0
      ∧ (s.lane 1).inflight[0]? = some (flight .normal [0]) ∧ InFlight.block (flight .normal [0]) = answerBlock (answerOf 2 1)
      ∧ InFlight.unit (flight .normal [0]) = answerUnit (answerOf 2 1) ∧ field (answerOf 2 1) 14 1 = 2
      ∧ s.part = (if d then .dumping else .run) ∧ s.due = [] ∧ Store.canon {} s.lanes = true) ∧ s.Ledger :=
  ⟨by cases d <;> decide +kernel, (airborne_listed d false false).ledger⟩

theorem witness_dump_done :
    let s := dumpAnswering (flight .dump [0]) (answerOf 1 0) { phase := .filling, remaining := 3 }
    (s.takeable 1).map Waiting.head = some (answerOf 1 0) ∧ headKind (answerOf 1 0) = 0x31 ∧ headBodyUnits (answerOf 1 0) = 0 ∧ (s.lane 1).inflight[0]? = some (flight .dump [0])
      ∧ InFlight.block (flight .dump [0]) = answerBlock (answerOf 1 0) ∧ InFlight.unit (flight .dump [0]) = answerUnit (answerOf 1 0) ∧ s.part = .dumping ∧ Store.canon {} s.lanes = true :=
  by decide +kernel

theorem witness_dump_trailer_done :
    let s := dumpAnswering (flight .dump [] true) (answerOf 1 0) { phase := .trailing, trailer := some ⟨0, 0, 0, 0, 0, 0, []⟩ }
    (s.takeable 1).map Waiting.head = some (answerOf 1 0) ∧ headKind (answerOf 1 0) = 0x31 ∧ headBodyUnits (answerOf 1 0) = 0 ∧ (s.lane 1).inflight[0]? = some (flight .dump [] true)
      ∧ InFlight.block (flight .dump [] true) = answerBlock (answerOf 1 0) ∧ InFlight.unit (flight .dump [] true) = answerUnit (answerOf 1 0) ∧ s.part = .dumping ∧ Store.canon {} s.lanes = true ∧ s.dump.trailer.isSome = true :=
  by decide +kernel

theorem witness_dump_fail :
    let s := dumpAnswering (flight .dump [0]) (answerOf 2 1) { phase := .filling, remaining := 3 }
    (s.takeable 1).map Waiting.head = some (answerOf 2 1) ∧ headKind (answerOf 2 1) = 0x31 ∧ headBodyUnits (answerOf 2 1) = 0 ∧ (s.lane 1).inflight[0]? = some (flight .dump [0])
      ∧ InFlight.block (flight .dump [0]) = answerBlock (answerOf 2 1) ∧ InFlight.unit (flight .dump [0]) = answerUnit (answerOf 2 1) ∧ s.part = .dumping ∧ s.due = [] ∧ Store.canon {} s.lanes = true :=
  by decide +kernel

theorem witness_dump_trailer_fail :
    let s := dumpAnswering (flight .dump [] true) (answerOf 2 1) { phase := .trailing, remaining := 3 }
    (s.takeable 1).map Waiting.head = some (answerOf 2 1) ∧ headKind (answerOf 2 1) = 0x31 ∧ headBodyUnits (answerOf 2 1) = 0
      ∧ (s.lane 1).inflight[0]? = some (flight .dump [] true) ∧ InFlight.block (flight .dump [] true) = answerBlock (answerOf 2 1)
      ∧ InFlight.unit (flight .dump [] true) = answerUnit (answerOf 2 1) ∧ s.part = .dumping ∧ s.due = []
      ∧ Store.canon {} s.lanes = true :=
  by decide +kernel

theorem witness_dump_expiry :
    let s := dumpAnswering (flight .dump [0]) (answerOf 1 0) { phase := .filling, remaining := 3 }
    s.live = true ∧ s.part = .dumping ∧ s.due = [] ∧ (s.lane 1).inflight[0]? = some (flight .dump [0]) ∧ Store.canon {} s.lanes = true
      ∧ (s.lane 1).consecutive + 1 < s.params.timeoutLimit ∧ s.params.timeoutLimit ≤ 15 :=
  by decide +kernel

/-- The current grant lies on lane 1, three of its positions unassigned; lane 1 holds one more dump grant, and lane 2 the next. Lane 1 goes
DOWN, by LANEFLT or by the expiry of either of its records at the limit; or lane 2 does, where the current grant does not lie. -/
theorem witness_dump_lane_down :
    let s := airborne true true false
    (s.live = true ∧ s.part = .dumping ∧ s.due = [] ∧ (∀ l, l < 8 → (s.lane l).up = true ∧ s.lines.laneflt.getLsbD l = false)
      ∧ (s.lane 1).inflight.map InFlight.kind = [.normal, .dump] ∧ s.params.timeoutLimit ≤ (s.lane 1).consecutive + 1
      ∧ s.params.timeoutLimit ≤ 15 ∧ s.dump.current.map (fun g => (g.lane, g.capacity - g.assigned)) = some (1, 3)
      ∧ (s.lane 2).dump = [⟨5, 7⟩]) ∧ s.Ledger :=
  ⟨by decide +kernel, (airborne_listed true true false).ledger⟩

theorem witness_stray :
    let s := answering (flight .normal [0]) (answerOf 3 0)
    (s.takeable 1).map Waiting.head = some (answerOf 3 0) ∧ field (answerOf 3 0) 14 1 ≠ 1 ∧ field (answerOf 3 0) 14 1 ≠ 2 :=
  by decide +kernel

theorem witness_stray_unmatched :
    let s := answering { flight .normal [0] with unit := 1 } (answerOf 1 0)
    (s.takeable 1).map Waiting.head = some (answerOf 1 0) ∧ ∀ r ∈ (s.lane 1).inflight, r.unit ≠ answerUnit (answerOf 1 0) :=
  by decide +kernel

theorem witness_malformed_lane_parcel :
    let s := answering (flight .normal [0]) (unitOf [0x32])
    (s.takeable 1).map Waiting.head = some (unitOf [0x32]) ∧ headKind (unitOf [0x32]) ≠ 0x31 :=
  by decide +kernel

/-- Slot 0 has a durable reference and a flush mark, slot 1 a reference, slot 2 a mark, slot 3 neither. -/
theorem witness_settle_slot :
    let s : State := { quiet with
      slots := [(0, { state := .issued, fn := 1, durable := some 4, mark := true }), (1, { state := .issued, fn := 1, durable := some 4 }),
        (2, { state := .issued, fn := 1, mark := true }), (3, { state := .issued, fn := 1 })]
      flushes := [(1, { count := 2, tags := [6] })]
      durables := [(4, { tag := 0, fn := 1, first := 0, count := 2, remaining := 2 })] }
    ([0, 1, 2, 3].map fun k => (((s.slot k).durable.bind (Store.find? s.durables ·)).map DurableRecord.remaining,
        (if (s.slot k).mark = true then Store.find? s.flushes (s.slot k).fn else none).map FlushRecord.count))
      = [(some 2, some 2), (some 2, none), (none, some 2), (none, none)] :=
  by decide +kernel

theorem witness_requeue :
    let s : State := { quiet with streams := [(3, { queue := [5, 6] })], slots := [(5, { seq := 1 }), (6, { seq := 9 })] }
    ((s.stream 3).queue.map fun j => (s.slot j).seq).Pairwise (· ≤ ·) :=
  by decide +kernel

/-- FREE slots reach the mark. -/
theorem witness_no_pressure :
    (1024 : Nat) ≤ quiet.freeSlots ∧ quiet.params.pressureMark = 1024 :=
  by decide +kernel

/-- Two unpadded tails, the tail of stream 9 beginning with the lower sequence. -/
theorem witness_pressure :
    let s : State := { quiet with
      params := { quiet.params with pressureMark := 16384 }
      streams := [(3, { state := .held, queue := [5] }), (9, { state := .held, queue := [6] })]
      slots := [(5, { state := .staged, seq := 8, stream := 3 }), (6, { state := .staged, seq := 2, stream := 9 })] }
    s.freeSlots < s.params.pressureMark ∧ 9 < 256 ∧ (s.stream 9).state ≠ .unbound ∧ (s.stream 9).tail ≠ [] ∧ (s.stream 9).pad = false
      ∧ ∀ j, j < 256 → (s.stream j).state ≠ .unbound → (s.stream j).tail ≠ [] → (s.stream j).pad = false →
          (s.slot ((s.stream 9).tail.headD 0)).seq < (s.slot ((s.stream j).tail.headD 0)).seq
            ∨ (s.slot ((s.stream 9).tail.headD 0)).seq = (s.slot ((s.stream j).tail.headD 0)).seq ∧ 9 ≤ j :=
  by decide +kernel

/-- Below the limit, in RUN and in DUMPING. -/
theorem witness_expiry (d : Bool) :
    let s := airborne d false false
    (s.live = true ∧ (s.lane 1).inflight[0]? = some (flight .normal [0]) ∧ Store.canon {} s.lanes = true ∧ s.params.timeoutLimit ≤ 15
      ∧ (s.lane 1).consecutive + 1 < s.params.timeoutLimit) ∧ s.Ledger :=
  ⟨by cases d <;> decide +kernel, (airborne_listed d false false).ledger⟩

/-- At the limit, in RUN and, beside a DUMP record, in DUMPING. -/
theorem witness_expiry_at_limit (d : Bool) :
    let s := airborne d true false
    (s.live = true ∧ (s.lane 1).inflight[0]? = some (flight .normal [0]) ∧ Store.canon {} s.lanes = true ∧ s.params.timeoutLimit ≤ 15
      ∧ s.params.timeoutLimit ≤ (s.lane 1).consecutive + 1) ∧ s.Ledger :=
  ⟨by cases d <;> decide +kernel, (airborne_listed d true false).ledger⟩

/-- In RUN, and in DUMPING with records of both kinds; segment 8 is OPEN on the lane with no unit in flight. -/
theorem witness_laneflt (d : Bool) :
    let s := airborne d false false
    (s.live = true ∧ (s.lane 1).up = true ∧ s.lines.laneflt.getLsbD 1 = false ∧ Store.canon {} s.lanes = true
      ∧ (s.brokenParcels 1).length = 1) ∧ s.Ledger :=
  ⟨by cases d <;> decide +kernel, (airborne_listed d false false).ledger⟩

theorem witness_laneflt_level :
    (({ quiet with lanes := [(7, { up := false })] } : State).lane (7 : Fin 8).val).up = false :=
  by decide +kernel

theorem witness_linger :
    quiet.running = true ∧ quiet.lingerClock = some 1000 :=
  ⟨rfl, rfl⟩

theorem witness_linger_pads :
    let s : State := { quiet with streams := [(255, { state := .held, queue := [1], lingerLimit := 1 })] }
    255 < 256 ∧ (s.stream 255).state ≠ .unbound ∧ 0 < (s.stream 255).queue.length % 16 ∧ (s.stream 255).pad = false :=
  by decide +kernel

/-- An IDLE stream whose tail the expiry pads, which then requests a segment. -/
theorem witness_linger_requests :
    let s := tailed 0
    s.running = true ∧ s.lingerClock = some 1000 ∧ s.Ledger ∧ (s.stream 3).state = .idle
      ∧ ((after .lingerClockExpiry s).stream 3).state = .opened :=
  ⟨rfl, rfl, (tailed_listed 0).ledger, by decide +kernel⟩

theorem witness_credit_linger :
    let s : State := { quiet with creditTimer := some 20, credits := 0 }
    s.running = true ∧ s.creditTimer = some 20 :=
  ⟨rfl, rfl⟩

theorem witness_pfail_no_grant :
    quiet.running = true ∧ quiet.lines.pfail = false ∧ Store.canon {} quiet.lanes = true
      ∧ (∀ l, l < 8 → (quiet.lane l).inflight = [])
      ∧ ((List.range 8).map fun l => if (quiet.lane l).up = true then ((quiet.lane l).dump.map Grant.capacity).sum else 0).sum = 0 :=
  by decide +kernel

theorem witness_pfail_grant :
    let s : State := { quiet with lanes := [(7, { dump := [⟨9, 1⟩] })] }
    s.running = true ∧ s.lines.pfail = false ∧ Store.canon {} s.lanes = true
      ∧ (∀ l, l < 8 → (s.lane l).inflight = [])
      ∧ ((List.range 8).map fun l => if (s.lane l).up = true then ((s.lane l).dump.map Grant.capacity).sum else 0).sum = 1
      ∧ (s.lane 7).dump = [⟨9, 1⟩] ∧ ∀ j, j < 7 → (s.lane j).dump = [] :=
  by decide +kernel

theorem witness_pfail_level :
    ({ quiet with lines := { pfail := true } } : State).lines.pfail = true :=
  rfl

/-- A grant with positions left after the unit, and one that the unit uses, with the next on the same lane or on a later one. -/
theorem witness_dump_unit (cap j : Nat) (h : cap = 4 ∨ cap = 1) (hj : j = 0 ∨ j = 2) :
    let s : State := { dumping with dump := { dumping.dump with taken := [⟨0, 9, cap, 0⟩] }, lanes := [(j, { dump := [⟨5, 3⟩] })] }
    s.live = true ∧ s.part = .dumping ∧ Store.canon {} s.slots = true ∧ s.dump.phase = .filling ∧ s.undumped = 2 ∧ 2 ≤ s.dump.remaining
      ∧ s.dump.taken = [] ++ [⟨0, 9, cap, 0⟩] ∧ (s.lane 0).up = true ∧ (s.lane 0).inflight.length < (s.lane 0).window
      ∧ (s.lane j).up = true ∧ (s.lane j).dump = [⟨5, 3⟩] :=
  by rcases h with rfl | rfl <;> rcases hj with rfl | rfl <;> decide +kernel

/-- The trailer leaves a position of its grant, or uses it. -/
theorem witness_trailer (assigned : Nat) (h : assigned = 2 ∨ assigned = 3) :
    let s : State := { dumping with
      slots := [], lanes := [(7, { dump := [⟨5, 3⟩] })], dump := { phase := .trailing, taken := [⟨7, 9, 4, assigned⟩], remaining := 1 } }
    s.live = true ∧ s.part = .dumping ∧ s.dump.phase = .trailing ∧ s.dumpInFlight true = false ∧ 1 ≤ s.dump.remaining
      ∧ s.dump.taken = [] ++ [⟨7, 9, 4, assigned⟩] ∧ (s.lane 7).up = true ∧ (s.lane 7).inflight.length < (s.lane 7).window :=
  by rcases h with rfl | rfl <;> decide +kernel

theorem witness_parcel_sent :
    State.reset.lines.reset = false ∧ State.reset.returns = .ready :: [.credit 16384] :=
  ⟨rfl, rfl⟩

theorem witness_trailer_layout :
    (Trailer.blocks ⟨0, 0, 0, 0, 0, 0, List.replicate 32 ⟨0, 0, 1, 1⟩⟩).length ≤ 32 :=
  by decide

theorem witness_program_layout :
    (∀ x ∈ List.replicate 3 (List.replicate 4112 (0 : Byte)), x.length = 4112)
      ∧ (List.replicate 3 (List.replicate 4112 (0 : Byte))).length + 13 = 16 :=
  ⟨fun x h => by rw [List.eq_of_mem_replicate h]; exact List.length_replicate, rfl⟩

theorem witness_not_running :
    dumping.running = false :=
  rfl

theorem witness_dumped :
    ({ quiet with part := .dumped } : State).part = .dumped :=
  rfl

theorem witness_closed_gate :
    let s : State := { quiet with returns := List.replicate 2560 .ready }
    s.ingressGateOpen = false :=
  by decide +kernel

theorem witness_closed_answer_gate :
    let s : State := { quiet with returns := List.replicate 2465 .ready }
    s.answerGateOpen = false :=
  by decide +kernel

theorem witness_slot_data :
    let s : State := { quiet with slots := [(0, { state := .staged })] }
    exec .peek s = .next (after .peek s) ∧ (s.slot 0).state ≠ .free :=
  ⟨rfl, by decide +kernel⟩

/-- The states from which the steps of the law statements can start, and the steps that a WRITE is taken by. -/
theorem witness_laws (durable held : Bool) :
    let s := landed durable held
    s.Ledger ∧ s.rangesLawful ∧ s.windowsLawful ∧ s.params.lawful ∧ s.streamsLawful ∧ s.unitsLawful ∧ s.calmInRun ∧ s.dumpLawful
      ∧ ∃ t, step s = .next t := by
  have none : ∀ t i, ((landed durable held).tenant t).holds i = false := fun t i => by
    by_cases ht : t = 1 <;> simp [State.tenant, Store.getD, Store.find?, landed, ready1, withTenant, Tenant.holds, ht]
  refine ⟨(landed_listed durable held).ledger, fun i => ?_, ⟨fun t _ i hi => ?_, fun t u i _ _ hi => ?_⟩, ?_, fun k => ?_,
    unitsLawful_of ?_ nofun, fun _ => calm_of ?_, ⟨fun _ => ⟨rfl, nofun⟩, nofun, nofun⟩, ?_⟩
  · simp [Range.lawful, State.range, landed, ready1, withTenant, quiet, State.reset]
  · simp [none t i] at hi
  · simp [none t i] at hi
  · simp [Params.lawful, landed, ready1, withTenant, quiet, State.reset]
  · by_cases hk : k = 2 <;> simp [State.stream, Store.getD, Store.find?, landed, ready1, withTenant, Stream.lawful, hk]
  · cases durable <;> cases held <;> decide +kernel
  · cases durable <;> cases held <;> decide +kernel
  · cases durable <;> cases held <;> exact ⟨_, rfl⟩

/-- The same with units in flight, in RUN and in DUMPING; the step takes an ANSWER. -/
theorem witness_laws_airborne (dumping done : Bool) :
    let s := airborne dumping false done
    s.Ledger ∧ s.unitsLawful ∧ s.calmInRun ∧ (dumping = true → s.dumpLawful) ∧ ∃ t, step s = .next t := by
  refine ⟨(airborne_listed dumping false done).ledger, airborne_units dumping false done, fun _ => calm_of ?_,
    fun h => by subst h; exact airborne_dumpLawful false done, ?_⟩
  · cases dumping <;> cases done <;> decide +kernel
  · cases dumping <;> cases done <;> exact ⟨_, rfl⟩

theorem witness_step_next :
    ∃ t, step quiet = .next t :=
  ⟨_, rfl⟩

end Sys2Proof.Tests
end

section
/-! The heat decay expiry (R24): what it makes of one range entry, of the range table and of the rest of the state. -/

namespace Sys2Proof.Machine

/-! ## One entry -/

theorem Range.decayed_eq (r : Range) :
    r.decayed = { r with
      heat := 7 * r.heat / 8
      hot := r.hot && decide ((r.threshold + 1) / 2 ≤ 7 * r.heat / 8) } := rfl

/-- A decay leaves the entry at its reset values alone, so the table may leave such entries out. -/
@[simp] theorem Range.decayed_default : Range.decayed {} = {} := rfl

/-! ## The state -/

theorem exec_decayExpiry (s : State) : exec .decayExpiry s = .next s.decayExpires := rfl

section

variable {s : State} {d : Nat}

theorem State.decayExpires_of_running (hrun : s.running = true) (htimer : s.decayTimer = some d) :
    s.decayExpires = { s.reachTime d with
      ranges := Store.mapD {} Range.decayed s.ranges
      decayTimer := some (d + 1000 * s.params.decayInterval) } := by
  simp [State.decayExpires, hrun, htimer]

theorem State.range_decayExpires (hrun : s.running = true) (htimer : s.decayTimer = some d)
    (hcanon : Store.canon {} s.ranges = true) (i : Nat) : s.decayExpires.range i = (s.range i).decayed := by
  obtain ⟨hsorted, -⟩ := (Store.canon_iff _ _).1 hcanon
  rw [State.decayExpires_of_running hrun htimer]
  exact Store.getD_mapD hsorted Range.decayed Range.decayed_default i

/-- What an expiry leaves unchanged: all but the entries, the timer and the model's clock. -/
theorem State.decayExpires_frame (hrun : s.running = true) (htimer : s.decayTimer = some d) :
    { s.decayExpires with now := s.now, decayTimer := s.decayTimer } = { s with ranges := s.decayExpires.ranges } := by
  rw [State.decayExpires_of_running hrun htimer]
  rfl

end

/-! ## The obligation -/

/-- Settles O22: the claims about floor(7H/8) are arithmetic, and the expiry maps `Range.decayed` over the range table. -/
theorem decayLowersEveryEntry : Obligations.DecayLowersEveryEntry := by
  unfold Obligations.DecayLowersEveryEntry
  refine ⟨fun h hpos => ?falls, fun h hlow hhigh => ?fallsByOne, rfl, fun s d hrun htimer hcanon => ?expiry⟩
  case falls => omega
  case fallsByOne => omega
  case expiry =>
    refine ⟨s.decayExpires, exec_decayExpiry s, fun i => ?_, State.decayExpires_frame hrun htimer⟩
    rw [State.range_decayExpires hrun htimer hcanon, Range.decayed_eq]

end Sys2Proof.Machine
end

section
/-! The taking of a PEEK (R50): which PEEKED answers it, case by case, and that the taking changes nothing else. -/

namespace Sys2Proof.Machine

section

variable {s : State} {a : Arriving}

theorem State.validTenant_eq_false_iff (fn : Nat) :
    s.validTenant fn = false ↔ 511 < fn ∨ (s.tenant fn).valid = false := by
  simp only [State.validTenant, Config.tenants, Bool.and_eq_false_iff, decide_eq_false_iff_not]
  exact or_congr_left (by omega)

/-! ## The cases of R50, in their order -/

theorem State.peekAnswer_of_badNamespace (hns : 7 < a.ns) :
    s.peekAnswer a = .peeked a.tag a.fn .notStaged 0 [] := by
  simp [State.peekAnswer, hns]

theorem State.peekAnswer_of_noTenant (hns : ¬ 7 < a.ns) (hfn : s.validTenant a.fn = false) :
    s.peekAnswer a = .peeked a.tag a.fn .noTenant 0 [] := by
  simp [State.peekAnswer, hns, hfn]

theorem State.peekAnswer_of_notIndexed (hns : ¬ 7 < a.ns) (hfn : s.validTenant a.fn = true)
    (hindex : s.indexed a.fn a.ns a.lba = none) :
    s.peekAnswer a = .peeked a.tag a.fn .notStaged 0 [] := by
  simp [State.peekAnswer, hns, hfn, hindex]

theorem State.peekAnswer_of_indexed {k : Nat} (hns : ¬ 7 < a.ns) (hfn : s.validTenant a.fn = true)
    (hindex : s.indexed a.fn a.ns a.lba = some k) :
    s.peekAnswer a = .peeked a.tag a.fn .found (s.slot k).seq (s.slotData k) := by
  simp [State.peekAnswer, hns, hfn, hindex]

/-! ## The taking -/

/-- The answer reads tenants, index, slots and staging memory alone, so freeing the parser before it does not alter it. -/
theorem State.peekAnswer_withParser (p : Parser) : { s with parser := p }.peekAnswer a = s.peekAnswer a := rfl

theorem exec_peek (s : State) : exec .peek s = execPeek s := rfl

theorem exec_peek_of_offers (hoffers : s.offers a) (hkind : a.kind = kindPeek) :
    exec .peek s = .next (s.answered [s.peekAnswer a]) := by
  have hwanted : (a.kind == kindPeek) = true := beq_iff_eq.2 hkind
  rw [exec_peek, execPeek, State.take_offers _ hoffers hwanted, State.peekAnswer_withParser]
  rfl

end

/-! ## The obligation -/

/-- Settles O12: an offered PEEK only enqueues its answer, and the answer is that of the first case of R50 that applies. -/
theorem peekAnswersFromIndex : Obligations.PeekAnswersFromIndex := by
  unfold Obligations.PeekAnswersFromIndex
  intro s a hoffers hkind
  rw [exec_peek_of_offers hoffers hkind]
  by_cases hns : 7 < a.ns
  · rw [State.peekAnswer_of_badNamespace hns, if_pos hns]
  rw [if_neg hns]
  cases hfn : s.validTenant a.fn with
  | false =>
    rw [State.peekAnswer_of_noTenant hns hfn, if_pos ((State.validTenant_eq_false_iff _).1 hfn)]
  | true =>
    have hnamed : ¬ (511 < a.fn ∨ (s.tenant a.fn).valid = false) := by
      rw [← State.validTenant_eq_false_iff, hfn]
      decide
    rw [if_neg hnamed]
    cases hindex : s.indexed a.fn a.ns a.lba with
    | none => rw [State.peekAnswer_of_notIndexed hns hfn hindex]
    | some k =>
      rw [State.peekAnswer_of_indexed hns hfn hindex]
      rfl

end Sys2Proof.Machine
end

section
/-! IDENTIFY (R174): which of the two commands takes the request, by its body length (R168), and the REPLY that each enqueues. -/

namespace Sys2Proof.Machine

section

variable {s : State} {a : Arriving}

/-! ## Which command takes it (R168) -/

theorem Arriving.permittedBody_of_identify (hcode : a.code = 0x01) : permittedBody a = 0 := by
  simp [permittedBody, hcode]

theorem Arriving.isCode_of_identify (hkind : a.kind = kindMgmt) (hcode : a.code = 0x01) (hbody : a.bodyUnits = 0) :
    a.isCode 0x01 = true :=
  Arriving.isCode_of_asks ⟨hkind, hcode, hbody⟩ (by decide) (Arriving.permittedBody_of_identify hcode).symm

/-- A body of another length than the request permits makes a MGMT parcel a bad request, whatever its code. -/
theorem Arriving.isBadRequest_of_body (hkind : a.kind = kindMgmt) (hbody : a.bodyUnits ≠ permittedBody a) :
    a.isBadRequest = true := by
  simp [Arriving.isBadRequest, Arriving.isRequest, hkind, hbody]

theorem Arriving.isBadRequest_of_identify (hkind : a.kind = kindMgmt) (hcode : a.code = 0x01) (hbody : a.bodyUnits ≠ 0) :
    a.isBadRequest = true :=
  Arriving.isBadRequest_of_body hkind (by rwa [Arriving.permittedBody_of_identify hcode])

/-! ## What it answers -/

/-- A request whose act is a REPLY alone frees the parser and enqueues that REPLY; nothing else changes. -/
theorem State.take_reply_of_offers {want : Arriving → Bool} (status : Status) (body : List Byte) (hoffers : s.offers a)
    (hwanted : want a = true) :
    s.take want (fun s a => s.reply a status body) = s.answered [a.replyOf status body] := by
  rw [State.take_offers _ hoffers hwanted]
  rfl

/-- The identity and the capacities in the order of R186, little-endian, filled up to two units. -/
theorem identifyBody_eq :
    identifyBody = [0x16, 0x44, 2, 0, 2, 0, 16, 0, 1, 0, 64, 8, 0, 0, 2, 0, 4, 32, 0] ++ List.replicate 13 0 := by decide

theorem exec_identify (s : State) : exec .identify s = execIdentify s := rfl

theorem exec_identify_of_offers (hoffers : s.offers a) (hwanted : a.isCode 0x01 = true) :
    exec .identify s = .next (s.answered [a.replyOf .ok identifyBody]) := by
  rw [exec_identify, execIdentify, State.take_reply_of_offers .ok identifyBody hoffers hwanted]

theorem exec_badRequest (s : State) : exec .badRequest s = execBadRequest s := rfl

theorem exec_badRequest_of_offers (hoffers : s.offers a) (hwanted : a.isBadRequest = true) :
    exec .badRequest s = .next (s.answered [a.replyOf .badRequest []]) := by
  rw [exec_badRequest, execBadRequest, State.take_reply_of_offers .badRequest [] hoffers hwanted]

end

/-! ## The obligation -/

/-- Settles O14: the body length decides between IDENTIFY and BAD-REQUEST, and the act of either is its REPLY alone. -/
theorem identifyReportsCapacities : Obligations.IdentifyReportsCapacities := by
  unfold Obligations.IdentifyReportsCapacities
  intro s a hoffers hkind hcode
  refine ⟨fun hbody => ?identify, fun hbody => ?withBody⟩
  case identify =>
    rw [exec_identify_of_offers hoffers (Arriving.isCode_of_identify hkind hcode hbody), identifyBody_eq]
  case withBody =>
    exact exec_badRequest_of_offers hoffers (Arriving.isBadRequest_of_identify hkind hcode hbody)

end Sys2Proof.Machine
end

section
/-! The commands as functions on the state, the part of the state that each of them leaves alone, and how a law of the device is shown
to survive a step. -/

namespace Sys2Proof.Machine

open Sys2Proof

/-! ## Commands as functions -/

/-- The state that a command leads to. -/
def State.after (s : State) (c : Instr) : State :=
  match exec c s with
  | .next t => t
  | _ => s

/-- Every command leads to a next state. -/
theorem exec_eq_after (c : Instr) (s : State) : exec c s = .next (s.after c) := by cases c <;> rfl

theorem exec_eq_next_iff {c : Instr} {s t : State} : exec c s = .next t ↔ s.after c = t := by
  rw [exec_eq_after, Host.Outcome.next.injEq]

/-- A law that the passing of time, the taking of a command from the queue and every command keep is kept by every step. -/
theorem step_keeps {P : State → Prop} (hnow : ∀ s n, P s → P { s with now := n }) (hpending : ∀ s q, P s → P { s with pending := q })
    (hafter : ∀ c s, P s → P (s.after c)) (s t : State) (hs : P s) (hstep : step s = .next t) : P t := by
  cases hq : s.pending with
  | nil =>
    rw [step_nil hq] at hstep
    cases hstep
    exact hnow s _ hs
  | cons c rest =>
    rw [step_cons hq, exec_eq_next_iff] at hstep
    exact hstep ▸ hafter c _ (hpending s rest hs)

/-! ## Taking a parcel -/

/-- What neither the parser's state nor the act changes, a taking does not change. -/
theorem State.take_frame {β : Type} {m : State → β} {want : Arriving → Bool} {act : State → Arriving → State}
    (hparser : ∀ s p, m { s with parser := p } = m s) (hact : ∀ s a, want a = true → m (act s a) = m s) (s : State) :
    m (s.take want act) = m s := by
  rcases s.take_cases want act with h | ⟨a, -, -, -, h⟩ | ⟨a, -, hwant, h⟩
  · rw [h]
  · rw [h, hparser]
  · rw [h, hact _ _ hwant, hparser]

/-- A taking that answers with one parcel changes the parser and the return queue alone. -/
theorem State.take_enqueue_frame {β : Type} {m : State → β} {want : Arriving → Bool} {answer : State → Arriving → ReturnParcel}
    (hparser : ∀ s p, m { s with parser := p } = m s) (henqueue : ∀ s p, m (State.enqueue s p) = m s) (s : State) :
    m (s.take want fun s a => s.enqueue (answer s a)) = m s :=
  State.take_frame hparser (fun s _ _ => henqueue s _) s

/-- What the parser's state does not matter to and the act keeps, a taking keeps. -/
theorem State.take_keeps {P : State → Prop} {want : Arriving → Bool} {act : State → Arriving → State}
    (hparser : ∀ s p, P s → P { s with parser := p }) (hact : ∀ s a, want a = true → P s → P (act s a)) {s : State} (hs : P s) :
    P (s.take want act) := by
  rcases s.take_cases want act with h | ⟨a, -, -, -, h⟩ | ⟨a, -, hwant, h⟩ <;> rw [h]
  · exact hs
  · exact hparser _ _ hs
  · exact hact _ _ hwant (hparser _ _ hs)

/-! ## What a command leaves alone -/

theorem State.reply_frame (s : State) (a : Arriving) (status : Status) (body : List Byte) :
    (s.reply a status body).butEnqueue = s.butEnqueue := rfl


/-- The state outside what the command may change: those fields are blanked. -/
def State.outside (c : Instr) (s : State) : State :=
  match c with
  | .landing _ => { s with parser := .awaiting, slots := [], staging := [], credits := 0 }
  | .write | .heldWriteRetaking => s.butDecideWrite
  | .abortMark | .parcelDiscarded | .parcelHeadArrival _ _ => { s with parser := .awaiting }
  | .abortedWriteRelease => { s.butRefuseWrite with parser := .awaiting }
  | .peek | .badRequest | .identify | .getParam | .getTenant | .getRanges | .getStream | .getLane =>
    { s with parser := .awaiting, returns := [] }
  | .flush => { s.butAcceptFlush with parser := .awaiting }
  | .setParam => { s with parser := .awaiting, returns := [], params := {}, lanes := [] }
  | .setDecayInterval => { s with parser := .awaiting, returns := [], params := {}, decayTimer := none }
  | .setDurableLinger => { s.butEndRequests with parser := .awaiting, params := {} }
  | .setCreditBatch => { s.butSendCredit with parser := .awaiting, params := {} }
  | .setSequenceBase => { s with parser := .awaiting, returns := [], sequence := 0 }
  | .setPoolLowMark | .restartLane => { s with parser := .awaiting, returns := [], lanes := [] }
  | .putTenant | .dropTenant => { s with parser := .awaiting, returns := [], tenants := [] }
  | .putRanges => { s with parser := .awaiting, returns := [], ranges := [] }
  | .putStream | .unbindStream => { s.butDrainAndClose with parser := .awaiting }
  | .holdStream => { s with parser := .awaiting, returns := [], streams := [], starved := [] }
  | .releaseStream | .flushStream | .rotateStream | .grantBlocks => { s.butEndRequests with parser := .awaiting }
  | .clearPart =>
    { s with parser := .awaiting, returns := [], lanes := [], segments := [], starved := [], streams := [], tenants := [], ranges := [] }
  | .issue _ => s.butIssueOn
  | .answer _ => s.butAnswerMatched
  | .malformedLaneParcel _ => s.butSetLane
  | .laneAbortMark _ => s
  | .expiry _ _ => s.butExpire
  | .laneflt _ _ => { s.butEndFailure with slots := [], lines := {} }
  | .decayExpiry => { s with now := 0, ranges := [], decayTimer := none }
  | .lingerClockExpiry => { s.butEndRequests with now := 0, lingerClock := none }
  | .creditLingerExpiry => { s.butSendCredit with now := 0 }
  | .dumpUnitSend => s.butSendDump
  | .trailerSend => s.butTrailerUnit
  | .parcelSent => { s with returns := [], returnLink := [] }
  | .pfail _ => { s.butEnterDumping with lines := {} }
  | .resetAssert _ _ | .resetRelease => { State.reset with pending := s.pending, now := s.now, arrivals := s.arrivals, draws := s.draws }
  | .answerArrival _ _ => { s with lanes := [], arrivals := 0 }

theorem State.landBlock_frame (s : State) (block : List Unit16) :
    (s.landBlock block).outside (.landing block) = s.outside (.landing block) := by
  unfold State.landBlock; split <;> rfl

theorem State.takeWrite_frame (s : State) (a : Arriving) : (s.takeWrite a).butDecideWrite = s.butDecideWrite := by
  unfold State.takeWrite; repeat' split
  · exact agree (State.refuseWrite_frame ..)
  · exact agree (State.refuseWrite_frame ..)
  · exact State.decideWrite_frame ..

theorem State.retake_frame (s : State) : s.retake.butDecideWrite = s.butDecideWrite := by
  unfold State.retake; repeat' split
  · exact (State.decideWrite_frame ..).trans rfl
  all_goals rfl

theorem State.abortParcel_frame (s : State) : s.abortParcel.outside .abortMark = s.outside .abortMark := by
  unfold State.abortParcel; repeat' split
  all_goals rfl

theorem State.releaseAborted_frame (s : State) : s.releaseAborted.outside .abortedWriteRelease = s.outside .abortedWriteRelease := by
  unfold State.releaseAborted; repeat' split
  · rw [agree (π := State.outside .abortedWriteRelease) (State.evalCredit_frame ..),
      agree (π := State.outside .abortedWriteRelease) (State.freeSlotList_frame ..)]
    rfl
  all_goals rfl

theorem State.discardParcel_frame (s : State) : s.discardParcel.outside .parcelDiscarded = s.outside .parcelDiscarded := by
  unfold State.discardParcel; repeat' split
  all_goals rfl

theorem State.headArrives_frame (s : State) (h : Unit16) (b : List Unit16) :
    (s.headArrives h b).outside (.parcelHeadArrival h b) = s.outside (.parcelHeadArrival h b) := by
  unfold State.headArrives; dsimp only; repeat' split
  all_goals rfl

theorem State.checkAllLinger_frame (s : State) : s.checkAllLinger.butEndRequests = s.butEndRequests :=
  (State.endRequests_frame _).trans
    (foldl_frame State.butEndRequests _ (fun s k => agree (State.lingerCheck_frame s k)) _ s)

/-- What a SET-PARAM of the parameter `p` changes is that parameter, what the act changes, and the return queue. -/
theorem State.setParam_frame {β : Type} {m : State → β} {act : State → State} (s : State) (a : Arriving)
    (hreply : ∀ (s : State) p, m (s.enqueue p) = m s) (hact : ∀ s, m (act s) = m s)
    (hstore : ∀ (s : State) p l v, a.param = some p → m (s.storeParam p l v) = m s) : m (s.setParam a act) = m s := by
  unfold State.setParam
  split
  · exact hreply ..
  · rename_i p hp
    have hnamed : a.param = some p := by
      unfold Arriving.checkedParam at hp; split at hp
      · cases hp
      · rename_i h; split at hp
        · cases hp
        · cases hp; exact h
    split
    · exact hreply ..
    · exact (hact _).trans ((hreply _ _).trans (hstore _ _ _ _ hnamed))

theorem Arriving.param_of_setsParam {a : Arriving} {p : Param} (h : a.setsParam p = true) : a.param = some p := by
  simp only [Arriving.setsParam, Bool.and_eq_true, beq_iff_eq] at h
  exact h.2

theorem Arriving.param_of_setsPlainParam {a : Arriving} (h : a.setsPlainParam = true) :
    a.param ≠ some .sequenceBase ∧ a.param ≠ some .decayInterval ∧ a.param ≠ some .durableLinger ∧ a.param ≠ some .creditBatch
      ∧ a.param ≠ some .poolLowMark := by
  simp only [Arriving.setsPlainParam, Bool.and_eq_true, Bool.not_eq_true', Bool.or_eq_false_iff, beq_eq_false_iff_ne] at h
  obtain ⟨-, ⟨⟨⟨h1, h2⟩, h3⟩, h4⟩, h5⟩ := h
  exact ⟨h4, h1, h2, h3, h5⟩

theorem State.putTenant_frame (s : State) (a : Arriving) : (s.putTenant a).outside .putTenant = s.outside .putTenant := by
  unfold State.putTenant; dsimp only; repeat' split
  all_goals rfl

theorem State.dropTenant_frame (s : State) (a : Arriving) : (s.dropTenant a).outside .dropTenant = s.outside .dropTenant := by
  unfold State.dropTenant; repeat' split
  all_goals rfl

theorem State.putRanges_frame (s : State) (a : Arriving) : (s.putRanges a).outside .putRanges = s.outside .putRanges := by
  unfold State.putRanges; repeat' split
  · rfl
  · rfl
  · exact (show _ = (List.foldl _ s _).outside .putRanges from rfl).trans
      (foldl_frame (State.outside .putRanges) (fun s (e : Nat × Range) => s.setRange e.1 e.2) (fun _ _ => rfl) _ s)

theorem State.putStream_frame (s : State) (a : Arriving) : (s.putStream a).outside .putStream = s.outside .putStream := by
  unfold State.putStream; dsimp only; repeat' split
  · rfl
  · rfl
  · rw [agree (π := State.outside .putStream) (State.rotate_frame ..)]; rfl
  all_goals rfl

theorem State.holdStream_frame (s : State) (a : Arriving) : (s.holdStream a).outside .holdStream = s.outside .holdStream := by
  unfold State.holdStream; dsimp only; repeat' split
  all_goals rfl

theorem State.releaseStream_frame (s : State) (a : Arriving) : (s.releaseStream a).butEndRequests = s.butEndRequests := by
  unfold State.releaseStream; dsimp only; split
  · rw [State.endRequests_frame]; rfl
  · rfl

theorem State.flushStream_frame (s : State) (a : Arriving) : (s.flushStream a).butEndRequests = s.butEndRequests := by
  unfold State.flushStream; split
  · rw [State.endRequests_frame]
    exact agree (π := State.butEndRequests) (m := State.butEnqueue) (State.enqueue_frame ..) |>.trans
      (agree (State.padStream_frame s a.stream))
  · rfl

theorem State.rotateStream_frame (s : State) (a : Arriving) : (s.rotateStream a).butEndRequests = s.butEndRequests := by
  unfold State.rotateStream; dsimp only; split
  · rw [State.endRequests_frame, agree (π := State.butEndRequests) (State.rotate_frame ..)]
    exact agree (π := State.butEndRequests) (m := State.butEnqueue) (State.enqueue_frame ..) |>.trans
      (agree (State.padStream_frame s a.stream))
  · rfl

theorem State.unbindStream_frame (s : State) (a : Arriving) : (s.unbindStream a).outside .unbindStream = s.outside .unbindStream := by
  unfold State.unbindStream; dsimp only; repeat' split
  · rfl
  · rfl
  · rfl
  · exact agree (π := State.outside .unbindStream) (m := State.butDrainAndClose) (State.rotate_frame ..)

theorem State.grantBlocks_frame (s : State) (a : Arriving) : (s.grantBlocks a).butEndRequests = s.butEndRequests := by
  unfold State.grantBlocks; dsimp only; repeat' split
  · rfl
  · rfl
  · rfl
  · rw [agree (π := State.butEndRequests) (State.poolLowNotices_frame ..), agree (π := State.butEndRequests) (State.serve_frame ..)]
    rfl
  · rfl

theorem State.restartLane_frame (s : State) (a : Arriving) : (s.restartLane a).outside .restartLane = s.outside .restartLane := by
  unfold State.restartLane; dsimp only; repeat' split
  all_goals rfl

theorem State.clearPart_frame (s : State) (a : Arriving) : (s.clearPart a).outside .clearPart = s.outside .clearPart := by
  unfold State.clearPart; split
  · rfl
  · have hrotate := foldl_frame (State.outside .clearPart) State.rotate (fun s k => agree (s.rotate_frame k)) (List.range Config.streams)
      (s.reply a .ok)
    have hreturn := foldl_frame (State.outside .clearPart) State.returnGrants (fun s l => agree (s.returnGrants_frame l))
      (List.range Config.lanes) ((s.reply a .ok).forStreams State.rotate)
    refine (foldl_frame (State.outside .clearPart) (fun s l => s.updLane l Lane.cleared) (fun _ _ => rfl) _ _).trans ?_
    generalize (List.range Config.lanes).foldl State.returnGrants ((s.reply a .ok).forStreams State.rotate) = u at hreturn ⊢
    exact hreturn.trans hrotate

theorem State.takeAnswer_frame (s : State) (l : Nat) : (s.takeAnswer l).butAnswerMatched = s.butAnswerMatched := by
  unfold State.takeAnswer; repeat' split
  · rfl
  · rw [State.answerTaken_frame]; rfl
  · rfl

theorem State.takeMalformed_frame (s : State) (l : Nat) : (s.takeMalformed l).butSetLane = s.butSetLane := by
  unfold State.takeMalformed; repeat' split
  all_goals rfl

theorem State.expireRecord_frame (s : State) (l i : Nat) : (s.expireRecord l i).butExpire = s.butExpire := by
  unfold State.expireRecord; repeat' split
  · rfl
  · exact State.expire_frame ..
  · rfl

theorem State.lanefltTo_frame (s : State) (lane : Fin 8) (level : Bool) :
    (s.lanefltTo lane.val level).outside (.laneflt lane level) = s.outside (.laneflt lane level) := by
  unfold State.lanefltTo; dsimp only; split
  · rw [agree (π := State.outside (.laneflt lane level)) (State.endFailure_frame ..),
      agree (π := State.outside (.laneflt lane level)) (State.laneDown_frame ..)]
    rfl
  · rfl

theorem State.decayExpires_outside (s : State) : s.decayExpires.outside .decayExpiry = s.outside .decayExpiry := by
  unfold State.decayExpires; repeat' split
  all_goals rfl

theorem State.lingerExpires_frame (s : State) : s.lingerExpires.outside .lingerClockExpiry = s.outside .lingerClockExpiry := by
  unfold State.lingerExpires; repeat' split
  · rfl
  · rw [agree (π := State.outside .lingerClockExpiry) (State.endRequests_frame ..)]
    exact (foldl_frame (State.outside .lingerClockExpiry) _ (fun s k => agree (State.lingerTick_frame s k)) _ _).trans rfl
  · rfl

theorem State.creditExpires_frame (s : State) : s.creditExpires.outside .creditLingerExpiry = s.outside .creditLingerExpiry := by
  unfold State.creditExpires; dsimp only; repeat' split
  all_goals rfl

theorem State.sendHead_frame (s : State) : s.sendHead.outside .parcelSent = s.outside .parcelSent := by
  unfold State.sendHead; repeat' split
  all_goals rfl

theorem State.pfailTo_frame (s : State) (level : Bool) : (s.pfailTo level).outside (.pfail level) = s.outside (.pfail level) := by
  unfold State.pfailTo; dsimp only; split
  · rw [agree (π := State.outside (.pfail level)) (State.enterDumping_frame ..)]; rfl
  · rfl

theorem State.cutLane_frame (s : State) (cut : BitVec 8) (l : Nat) : (State.cutLane cut s l).butSendLane = s.butSendLane := by
  unfold State.cutLane; repeat' split
  all_goals rfl

theorem State.assertReset_frame (s : State) (r : Bool) (l : BitVec 8) :
    (s.assertReset r l).outside (.resetAssert r l) = s.outside (.resetAssert r l) := by
  unfold State.assertReset; dsimp only; split
  · rfl
  · refine (show _ = State.outside (.resetAssert r l) (List.foldl _ _ _) from rfl).trans
      ((foldl_frame (State.outside (.resetAssert r l)) _ (fun s k => agree (State.cutLane_frame s l k)) _ _).trans ?_)
    split <;> rfl

theorem State.releaseReset_frame (s : State) : s.releaseReset.outside .resetRelease = s.outside .resetRelease := by
  unfold State.releaseReset; dsimp only
  have hcredit : ∀ u : State, u.evalCredit.outside .resetRelease = u.outside .resetRelease := fun u => agree u.evalCredit_frame
  split
  · split
    · rw [agree (π := State.outside .resetRelease) (State.enterDumping_frame _)]
      exact hcredit _
    · exact hcredit _
  · rfl

theorem State.laneArrives_frame (s : State) (lane : Fin 8) (h : Unit16) :
    (s.laneArrives lane.val h).outside (.answerArrival lane h) = s.outside (.answerArrival lane h) := by
  unfold State.laneArrives; split <;> rfl

/-- Every command leaves alone what `State.outside` does not blank for it. -/
theorem State.after_frame (s : State) (c : Instr) : (s.after c).outside c = s.outside c := by
  cases c with
  | landing block => exact s.landBlock_frame block
  | write => exact State.take_frame (fun _ _ => rfl) (fun s a _ => s.takeWrite_frame a) s
  | heldWriteRetaking => exact s.retake_frame
  | abortMark => exact s.abortParcel_frame
  | abortedWriteRelease => exact s.releaseAborted_frame
  | peek => exact State.take_enqueue_frame (m := State.outside .peek) (fun _ _ => rfl) (fun _ _ => rfl) s
  | badRequest =>
    exact State.take_frame (m := State.outside .badRequest) (fun _ _ => rfl) (fun s a _ => agree (s.reply_frame a .badRequest [])) s
  | identify =>
    exact State.take_frame (m := State.outside .identify) (fun _ _ => rfl) (fun s a _ => agree (s.reply_frame a .ok identifyBody)) s
  | getStream =>
    exact State.take_frame (m := State.outside .getStream) (fun _ _ => rfl) (fun s a _ => agree (s.reply_frame a .ok (s.streamBody (s.stream a.stream)))) s
  | flush =>
    exact State.take_frame (m := State.outside .flush) (fun _ _ => rfl) (fun s a _ => agree (s.takeFlush_frame a)) s
  | parcelDiscarded => exact s.discardParcel_frame
  | setParam =>
    refine State.take_frame (m := State.outside .setParam) (act := fun s a => s.setParam a id) (fun _ _ => rfl)
      (fun s a hw => State.setParam_frame (m := State.outside .setParam) s a (fun _ _ => rfl)
        (fun _ => rfl) fun s p l v hp => ?_) s
    have hplain := (Arriving.param_of_setsPlainParam hw).1
    cases p <;> first | rfl | exact absurd hp hplain
  | setDecayInterval =>
    refine State.take_frame (m := State.outside .setDecayInterval) (act := fun s a => s.setParam a State.restartDecay) (fun _ _ => rfl)
      (fun s a hw => State.setParam_frame (m := State.outside .setDecayInterval) s a (fun _ _ => rfl)
        (fun _ => rfl) fun s p l v hp => ?_) s
    cases hp.symm.trans (Arriving.param_of_setsParam hw); rfl
  | setDurableLinger =>
    refine State.take_frame (m := State.outside .setDurableLinger) (act := fun s a => s.setParam a State.checkAllLinger) (fun _ _ => rfl)
      (fun s a hw => State.setParam_frame (m := State.outside .setDurableLinger) s a (fun _ _ => rfl)
        (fun s => agree s.checkAllLinger_frame) fun s p l v hp => ?_) s
    cases hp.symm.trans (Arriving.param_of_setsParam hw); rfl
  | setCreditBatch =>
    refine State.take_frame (m := State.outside .setCreditBatch) (act := fun s a => s.setParam a State.evalCredit) (fun _ _ => rfl)
      (fun s a hw => State.setParam_frame (m := State.outside .setCreditBatch) s a (fun _ _ => rfl)
        (fun s => agree s.evalCredit_frame) fun s p l v hp => ?_) s
    cases hp.symm.trans (Arriving.param_of_setsParam hw); rfl
  | setSequenceBase =>
    refine State.take_frame (m := State.outside .setSequenceBase) (act := fun s a => s.setParam a id) (fun _ _ => rfl)
      (fun s a hw => State.setParam_frame (m := State.outside .setSequenceBase) s a (fun _ _ => rfl)
        (fun _ => rfl) fun s p l v hp => ?_) s
    cases hp.symm.trans (Arriving.param_of_setsParam hw); rfl
  | setPoolLowMark =>
    refine State.take_frame (m := State.outside .setPoolLowMark) (act := fun s a => s.setParam a (State.rearm a.paramLane)) (fun _ _ => rfl)
      (fun s a hw => State.setParam_frame (m := State.outside .setPoolLowMark) s a (fun _ _ => rfl)
        (fun _ => rfl) fun s p l v hp => ?_) s
    cases hp.symm.trans (Arriving.param_of_setsParam hw); rfl
  | getParam => exact State.take_frame (m := State.outside .getParam) (fun _ _ => rfl) (fun s a _ => by unfold State.getParam; split <;> rfl) s
  | putTenant => exact State.take_frame (m := State.outside .putTenant) (fun _ _ => rfl) (fun s a _ => s.putTenant_frame a) s
  | getTenant => exact State.take_frame (m := State.outside .getTenant) (fun _ _ => rfl) (fun s a _ => by unfold State.getTenant; split <;> rfl) s
  | dropTenant => exact State.take_frame (m := State.outside .dropTenant) (fun _ _ => rfl) (fun s a _ => s.dropTenant_frame a) s
  | putRanges => exact State.take_frame (m := State.outside .putRanges) (fun _ _ => rfl) (fun s a _ => s.putRanges_frame a) s
  | getRanges => exact State.take_frame (m := State.outside .getRanges) (fun _ _ => rfl) (fun s a _ => by unfold State.getRanges; split <;> rfl) s
  | putStream => exact State.take_frame (m := State.outside .putStream) (fun _ _ => rfl) (fun s a _ => s.putStream_frame a) s
  | holdStream => exact State.take_frame (m := State.outside .holdStream) (fun _ _ => rfl) (fun s a _ => s.holdStream_frame a) s
  | releaseStream =>
    exact State.take_frame (m := State.outside .releaseStream) (fun _ _ => rfl) (fun s a _ => agree (s.releaseStream_frame a)) s
  | flushStream =>
    exact State.take_frame (m := State.outside .flushStream) (fun _ _ => rfl) (fun s a _ => agree (s.flushStream_frame a)) s
  | rotateStream =>
    exact State.take_frame (m := State.outside .rotateStream) (fun _ _ => rfl) (fun s a _ => agree (s.rotateStream_frame a)) s
  | unbindStream => exact State.take_frame (m := State.outside .unbindStream) (fun _ _ => rfl) (fun s a _ => s.unbindStream_frame a) s
  | grantBlocks =>
    exact State.take_frame (m := State.outside .grantBlocks) (fun _ _ => rfl) (fun s a _ => agree (s.grantBlocks_frame a)) s
  | getLane => exact State.take_frame (m := State.outside .getLane) (fun _ _ => rfl) (fun s a _ => by unfold State.getLane; split <;> rfl) s
  | restartLane => exact State.take_frame (m := State.outside .restartLane) (fun _ _ => rfl) (fun s a _ => s.restartLane_frame a) s
  | clearPart => exact State.take_frame (m := State.outside .clearPart) (fun _ _ => rfl) (fun s a _ => s.clearPart_frame a) s
  | issue lane => exact s.issueOn_frame lane.val
  | answer lane => exact s.takeAnswer_frame lane.val
  | malformedLaneParcel lane => exact s.takeMalformed_frame lane.val
  | laneAbortMark lane => rfl
  | expiry lane i => exact s.expireRecord_frame lane.val i
  | laneflt lane level => exact s.lanefltTo_frame lane level
  | decayExpiry => exact s.decayExpires_outside
  | lingerClockExpiry => exact s.lingerExpires_frame
  | creditLingerExpiry => exact s.creditExpires_frame
  | dumpUnitSend =>
    show State.butSendDump (if s.mayDumpUnit then s.dumpUnit else s) = s.butSendDump
    split
    · exact s.dumpUnit_frame
    · rfl
  | trailerSend =>
    show State.butTrailerUnit (if s.mayTrailer then s.trailerUnit else s) = s.butTrailerUnit
    split
    · exact s.trailerUnit_frame
    · rfl
  | parcelSent => exact s.sendHead_frame
  | pfail level => exact s.pfailTo_frame level
  | resetAssert r l => exact s.assertReset_frame r l
  | resetRelease => exact s.releaseReset_frame
  | parcelHeadArrival h b => exact s.headArrives_frame h b
  | answerArrival lane h => exact s.laneArrives_frame lane h

/-- A field that the command's frame leaves unblanked is as it was. -/
theorem State.after_agree {β : Type} {π : State → β} (s : State) (c : Instr)
    (hπ : ∀ s : State, π (s.outside c) = π s := by intro _; rfl) : π (s.after c) = π s :=
  agree (s.after_frame c) hπ

end Sys2Proof.Machine
end

section
/-! LANDING (R35): which slot a block fills, the bytes that it writes, and that no other command but RESET_N touches staging memory. -/

namespace Sys2Proof.Machine

open Sys2Proof

/-! ## The slot and the bytes of a block -/

theorem State.lowestFree_eq_some_iff (s : State) (k : Nat) :
    s.lowestFree = some k ↔ k < 16384 ∧ (s.slot k).state = .free ∧ ∀ j, j < k → (s.slot j).state ≠ .free := by
  simp [State.lowestFree, firstFrom_eq_some, Config.slots]

theorem blockFits_iff (block : List Unit16) : blockFits block = true ↔ 1 ≤ block.length ∧ block.length ≤ 256 := by
  simp [blockFits]

/-- A block lands when the part is in RUN, a WRITE that is no overrun is being received, the block is the next of its body, and a slot
is FREE. -/
theorem State.landingTarget_eq_some_iff (s : State) (block : List Unit16) (a : Arriving) (k : Nat) :
    s.landingTarget block = some (a, k) ↔ s.parser = .receiving a ∧ s.running = true ∧ a.kind = kindWrite ∧ a.overrun = false
      ∧ block.length = blockUnits a.bodyUnits a.landed.length ∧ blockFits block = true ∧ s.lowestFree = some k := by
  unfold State.landingTarget
  cases hp : s.parser with
  | receiving b =>
    constructor
    · intro h
      dsimp only at h
      split at h
      · rename_i hc
        obtain ⟨j, hj, e⟩ := Option.map_eq_some_iff.1 h
        cases e
        simp only [Bool.and_eq_true, beq_iff_eq, Bool.not_eq_true'] at hc
        obtain ⟨⟨⟨⟨h1, h2⟩, h3⟩, h4⟩, h5⟩ := hc
        exact ⟨rfl, h1, h2, h3, h4, h5, hj⟩
      · cases h
    · rintro ⟨e, h1, h2, h3, h4, h5, h6⟩
      cases e
      simp [h1, h2, h3, ← h4, h5, h6]
  | awaiting | gated b | holding b => simp

theorem length_unitBytes (u : Unit16) : (unitBytes u).length = 16 := by simp [unitBytes]

theorem length_flatMap_unitBytes (block : List Unit16) : (block.flatMap unitBytes).length = 16 * block.length := by
  simp [List.length_flatMap, length_unitBytes, Nat.mul_comm]

/-- A block that lands changes its slot, the bytes of that slot, the credits and the parser. -/
theorem State.landBlock_of_target {s : State} {block : List Unit16} {a : Arriving} {k : Nat} (h : s.landingTarget block = some (a, k)) :
    s.landBlock block = { s.land a k block with
      parser := if creditNeed a.bodyUnits ≤ a.landed.length + 1 then .gated { a with landed := a.landed ++ [k] }
        else .receiving { a with landed := a.landed ++ [k] } } := by
  simp [State.landBlock, h]

theorem State.landBlock_of_none {s : State} {block : List Unit16} (h : s.landingTarget block = none) : s.landBlock block = s := by
  simp [State.landBlock, h]

/-- Outside the slot that the block fills, staging memory is as it was. -/
theorem State.readByte_landBlock_outside {s : State} {block : List Unit16} {a : Arriving} {k x : Nat}
    (h : s.landingTarget block = some (a, k)) (hx : x < 4096 * k ∨ 4096 * k + 16 * block.length ≤ x) :
    readByte (s.landBlock block).staging x = readByte s.staging x := by
  rw [State.landBlock_of_target h]
  exact readByte_writeBytes_outside _ _ _ (by rwa [length_flatMap_unitBytes])

/-- Only LANDING and RESET_N write staging memory. -/
theorem State.staging_after (s : State) {c : Instr} (hlanding : ∀ b, c ≠ .landing b) (hrelease : c ≠ .resetRelease)
    (hassert : ∀ r l, c ≠ .resetAssert r l) : (s.after c).staging = s.staging := by
  cases c with
  | landing b => exact absurd rfl (hlanding b)
  | resetAssert r l => exact absurd rfl (hassert r l)
  | resetRelease => exact absurd rfl hrelease
  | _ => exact s.after_agree _

/-! ## The obligations -/

/-- Settles O51: only LANDING writes staging memory, and it writes the bytes of a slot that was FREE. -/
theorem slotDataKeptUntilFreed : Obligations.SlotDataKeptUntilFreed := by
  unfold Obligations.SlotDataKeptUntilFreed
  intro s c t k i hexec hused hi hrelease hassert
  rw [exec_eq_next_iff] at hexec
  subst hexec
  by_cases hlanding : ∃ b, c = .landing b
  · obtain ⟨block, rfl⟩ := hlanding
    show readByte (s.landBlock block).staging _ = _
    cases htarget : s.landingTarget block with
    | none => rw [State.landBlock_of_none htarget]
    | some p =>
      obtain ⟨a, j⟩ := p
      obtain ⟨-, -, -, -, -, hfits, hfree⟩ := (s.landingTarget_eq_some_iff ..).1 htarget
      have hother : j ≠ k := by
        rintro rfl
        exact hused ((s.lowestFree_eq_some_iff j).1 hfree).2.1
      have hlength := ((blockFits_iff block).1 hfits).2
      exact State.readByte_landBlock_outside htarget (by omega)
  · rw [s.staging_after (fun b h => hlanding ⟨b, h⟩) hrelease hassert]

/-- Settles O5: the landing target is the lowest-numbered FREE slot, and the block is written at that slot's address. -/
theorem landingFillsLowestFreeSlot : Obligations.LandingFillsLowestFreeSlot := by
  unfold Obligations.LandingFillsLowestFreeSlot
  intro s a block k hrun hparser hkind hover hmin hmax hblock hk hfree hlowest
  have htarget : s.landingTarget block = some (a, k) :=
    (s.landingTarget_eq_some_iff ..).2 ⟨hparser, hrun, hkind, hover, hblock, (blockFits_iff block).2 ⟨hmin, hmax⟩,
      (s.lowestFree_eq_some_iff k).2 ⟨hk, hfree, hlowest⟩⟩
  have hslot (j : Nat) : (s.landBlock block).slot j
      = if j = k then { s.slot k with state := .landing, fn := a.fn, ns := a.ns, lba := a.lba + a.landed.length } else s.slot j := by
    rw [State.landBlock_of_target htarget]
    exact s.slot_setSlot k { s.slot k with state := .landing, fn := a.fn, ns := a.ns, lba := a.lba + a.landed.length } j
  refine ⟨s.landBlock block, rfl, (hslot k).trans (if_pos rfl), fun j hj => (hslot j).trans (if_neg hj), fun i hi => ?_,
    fun x hx => State.readByte_landBlock_outside htarget hx, ?_⟩
  · rw [State.landBlock_of_target htarget]
    exact readByte_writeBytes_inside _ _ _ (by rwa [length_flatMap_unitBytes])
  · rw [State.landBlock_of_target htarget]
    rfl

/-- Settles O1. -/
theorem stepRunsFrontCommand : Obligations.StepRunsFrontCommand := by
  unfold Obligations.StepRunsFrontCommand
  intro s c rest hpending
  exact step_cons hpending

end Sys2Proof.Machine
end

section
/-! Laws that every write of one record keeps: what is closed under the writes of records is closed under every operation of the part, and
so under every command but the sending of a parcel and RESET_N. -/

namespace Sys2Proof.Machine

open Sys2Proof

/-! ## Laws closed under the writes of records -/

/-- The state with every field but the tables and the return queue at its reset value. -/
def State.tables (s : State) : State :=
  { tenants := s.tenants, ranges := s.ranges, slots := s.slots, staging := s.staging, index := s.index, streams := s.streams,
    segments := s.segments, lanes := s.lanes, durables := s.durables, flushes := s.flushes, returns := s.returns, laneLinks := s.laneLinks }

/-- The record is valid and has its window as the other does (R2). -/
def Tenant.sameWindow (t u : Tenant) : Prop := t.valid = u.valid ∧ t.windowFirst = u.windowFirst ∧ t.windowCount = u.windowCount

/-- The entry has the run of LBAs that the other has (R4). -/
def Range.sameRun (r q : Range) : Prop := r.ns = q.ns ∧ r.base = q.base ∧ r.limit = q.limit

/-- A law of the tables that every write of one record keeps, where a stream context is only replaced by one that is lawful if the old one
was, a tenant's record and a range entry keep their windows and runs but for the requests that configure them, and READY is not
enqueued. -/
structure Closed (P : State → Prop) : Prop where
  other : ∀ {s t : State}, P s → t.tables = s.tables → P t
  tenant : ∀ {s : State} (u : Nat) (r : Tenant), r.sameWindow (s.tenant u) → P s → P (s.setTenant u r)
  range : ∀ {s : State} (i : Nat) (r : Range), r.sameRun (s.range i) → ((s.range i).lawful → r.lawful) → P s → P (s.setRange i r)
  putTenant : ∀ {s : State} (a : Arriving), P s → P (s.putTenant a)
  dropTenant : ∀ {s : State} (a : Arriving), P s → P (s.dropTenant a)
  putRanges : ∀ {s : State} (a : Arriving), P s → P (s.putRanges a)
  slot : ∀ {s : State} (k : Nat) (r : Slot), P s → P (s.setSlot k r)
  stream : ∀ {s : State} (k : Nat) (r : Stream), ((s.stream k).lawful → r.lawful) → P s → P (s.setStream k r)
  lane : ∀ {s : State} (l : Nat) (r : Lane), P s → P (s.setLane l r)
  segment : ∀ {s : State} (id : Nat) (g : Segment), P s → P (s.setSegment id g)
  dropSegment : ∀ {s : State} (id : Nat), P s → P (s.dropSegment id)
  index : ∀ {s : State} (key k : Nat), P s → P (s.setIndex key k)
  dropIndex : ∀ {s : State} (key : Nat), P s → P (s.dropIndex key)
  durable : ∀ {s : State} (i : Nat) (r : DurableRecord), P s → P (s.setDurable i r)
  dropDurable : ∀ {s : State} (i : Nat), P s → P (s.dropDurable i)
  flush : ∀ {s : State} (fn : Nat) (r : FlushRecord), P s → P (s.setFlush fn r)
  dropFlush : ∀ {s : State} (fn : Nat), P s → P (s.dropFlush fn)
  enqueue : ∀ {s : State} (p : ReturnParcel), p ≠ .ready → P s → P (s.enqueue p)
  sendLane : ∀ {s : State} (l : Nat) (i : LinkItem), P s → P (s.sendLane l i)
  bytes : ∀ {s : State} (a : Nat) (bs : List Byte), P s → P { s with staging := writeBytes s.staging a bs }
  decay : ∀ {s : State}, P s → P { s with ranges := Store.mapD {} Range.decayed s.ranges }
  hushed : ∀ {s : State}, P s → P { s with lanes := Store.mapD {} (fun l => { l with waiting := [] }) s.lanes }
  cleared : ∀ {s : State}, P s → P { s with segments := [], starved := [], streams := [], tenants := [], ranges := [] }

/-! ## Stream contexts (R53, R67) -/

theorem Stream.lawful_settle {t : Stream} (h : t.lawful) (q : List Nat) : ({ t with queue := q } : Stream).settle.lawful := by
  obtain ⟨hcadence, hphase, hlimit, hlinger, hlast, -⟩ := h
  unfold Stream.settle
  split
  · exact ⟨hcadence, hphase, hlimit, Nat.zero_le _, hlast, fun h => by cases h⟩
  · rename_i hsize
    exact ⟨hcadence, hphase, hlimit, hlinger, hlast, fun _ => Nat.pos_of_ne_zero hsize⟩

theorem Stream.lawful_pad {t : Stream} (h : t.lawful) (hpad : t.paddable = true) : ({ t with pad := true } : Stream).lawful := by
  obtain ⟨hcadence, hphase, hlimit, hlinger, hlast, -⟩ := h
  simp only [Stream.paddable, Bool.and_eq_true, decide_eq_true_eq] at hpad
  exact ⟨hcadence, hphase, hlimit, hlinger, hlast, fun _ => hpad.1.2⟩

/-- A rewrite that leaves a context's values, its queue and its pad alone keeps it lawful. -/
theorem Stream.lawful_congr {t u : Stream} (h : t.lawful) (hcadence : u.cadence = t.cadence) (hphase : u.phase = t.phase)
    (hlimit : u.lingerLimit = t.lingerLimit) (hlinger : u.linger = t.linger) (hlast : u.lastLane = t.lastLane)
    (hqueue : u.queue = t.queue) (hpad : u.pad = t.pad) : u.lawful := by
  unfold Stream.lawful Stream.tailSize
  rw [hcadence, hphase, hlimit, hlinger, hlast, hqueue, hpad]
  exact h

theorem clampCadence_mem (c : Nat) : clampCadence c ∈ [1, 2, 4, 8, 16] := by
  unfold clampCadence
  repeat' split
  all_goals simp

theorem clampCadence_pos (c : Nat) : 0 < clampCadence c := by
  unfold clampCadence
  repeat' split
  all_goals decide

theorem field_lt (u : Unit16) (off len : Nat) : field u off len < 2 ^ (8 * len) := BitVec.isLt _

theorem Stream.lawful_configured {t : Stream} (h : t.lawful) (a : Arriving) : (t.configured a).lawful := by
  obtain ⟨-, -, -, hlinger, hlast, hpad⟩ := h
  exact ⟨clampCadence_mem _, Nat.mod_lt _ (clampCadence_pos _), Nat.le_of_lt_succ (field_lt a.head 13 1), hlinger, hlast, hpad⟩

theorem Stream.lawful_retired (t : Stream) : t.retired.lawful := by
  refine ⟨?_, ?_, Nat.zero_le _, Nat.zero_le _, Nat.le_refl 7, fun h => ?_⟩ <;> simp [Stream.retired] at *

/-! ## Range entries (R4, R17, R18) -/

theorem Range.sameRun_routed (r : Range) (hit : Bool) (step : Nat) : (r.routed hit step).sameRun r := by
  cases hit <;> exact ⟨rfl, rfl, rfl⟩

theorem Range.lawful_routed {r : Range} (h : r.lawful) (hit : Bool) (step : Nat) : (r.routed hit step).lawful := by
  obtain ⟨hns, hbase, hlimit, hcold, hhot, hlow, hhigh, hheat, -⟩ := h
  have hflag : ∀ q : Range, q.hotAfter = true → q.hotStream.isSome = true := fun q hq => (Bool.and_eq_true_iff.1 hq).1
  cases hit with
  | false => exact ⟨hns, hbase, hlimit, hcold, hhot, hlow, hhigh, hheat, hflag r⟩
  | true =>
    exact ⟨hns, hbase, hlimit, hcold, hhot, hlow, hhigh, Nat.min_le_left _ _, hflag { r with heat := min 65535 (r.heat + step) }⟩

/-! ## The configuration of tenants and ranges -/

section

variable {P : State → Prop} {s : State} (hreply : ∀ {s : State} (a : Arriving) (status : Status) (body : List Byte), P s → P (s.reply a status body))

include hreply

theorem State.putTenant_keeps (htenant : ∀ {s : State} (u : Nat) (r : Tenant), P s → P (s.setTenant u r)) (a : Arriving) (hs : P s) :
    P (s.putTenant a) := by
  unfold State.putTenant
  dsimp only
  split
  · exact hreply _ _ _ hs
  · split
    · exact hreply _ _ _ hs
    · split
      · exact hreply _ _ _ hs
      · split
        · exact hreply _ _ _ hs
        · exact hreply _ _ _ (htenant _ _ hs)

theorem State.dropTenant_keeps (htenant : ∀ {s : State} (u : Nat) (r : Tenant), P s → P (s.setTenant u r)) (a : Arriving) (hs : P s) :
    P (s.dropTenant a) := by
  unfold State.dropTenant
  repeat' split
  · exact hreply _ _ _ hs
  · exact hreply _ _ _ hs
  · exact hreply _ _ _ (htenant _ _ hs)

theorem State.putRanges_keeps (hrange : ∀ {s : State} (i : Nat) (r : Range), P s → P (s.setRange i r)) (a : Arriving) (hs : P s) :
    P (s.putRanges a) := by
  unfold State.putRanges
  repeat' split
  · exact hreply _ _ _ hs
  · exact hreply _ _ _ hs
  · exact hreply _ _ _ (foldl_keeps (fun _ _ => hrange _ _) _ hs)

end

/-! ## The lanes that a segment request examines -/

theorem mem_laneOrder {last l : Nat} (h : l ∈ laneOrder last) : l < 8 := by
  obtain ⟨i, -, rfl⟩ := List.mem_map.1 h
  exact Nat.mod_lt _ (by decide)

theorem State.laneFor_eq_some {s : State} {t : Stream} {l : Nat} (h : s.laneFor t = some l) :
    l < 8 ∧ t.laneSet.getLsbD l = true ∧ (s.lane l).up = true ∧ (s.lane l).normal ≠ [] := by
  have hfound := List.find?_some h
  simp only [Stream.onLane, Lane.canGrant, Bool.and_eq_true, Bool.not_eq_true', List.isEmpty_eq_false_iff] at hfound
  exact ⟨mem_laneOrder (List.mem_of_find?_eq_some h), hfound.1, hfound.2.1, hfound.2.2⟩

/-! ## The operations -/

theorem State.peekAnswer_ne_ready (s : State) (a : Arriving) : s.peekAnswer a ≠ .ready := by
  unfold State.peekAnswer
  repeat' split
  all_goals simp


namespace Closed

section

variable {P : State → Prop} (h : Closed P) {s : State}

include h

theorem padStream (k : Nat) (hs : P s) : P (s.padStream k) := by
  unfold State.padStream
  split
  · rename_i hpad
    exact h.stream k _ (fun hk => Stream.lawful_pad hk hpad) hs
  · exact hs

theorem sendCredit (hs : P s) : P s.sendCredit := h.other (h.enqueue (.credit s.returnable) (by simp) hs) rfl

theorem evalCredit (hs : P s) : P s.evalCredit := by
  rcases s.evalCredit_cases with ⟨-, -, -, e⟩ | ⟨-, -, -, -, e⟩ | ⟨e, -⟩ <;> rw [e]
  · exact h.sendCredit hs
  · exact h.other hs rfl
  · exact hs

theorem freeSlot (k : Nat) (hs : P s) : P (s.freeSlot k) := by
  unfold State.freeSlot
  dsimp only
  refine h.slot _ _ ?_
  have hindex : P (if s.indexed (s.slot k).fn (s.slot k).ns (s.slot k).lba = some k
      then s.dropIndex (identityKey (s.slot k).fn (s.slot k).ns (s.slot k).lba) else s) := by
    split
    · exact h.dropIndex _ hs
    · exact hs
  split
  · exact h.tenant _ _ ⟨rfl, rfl, rfl⟩ hindex
  · exact hindex

theorem freeSlotList (ks : List Nat) (hs : P s) : P (s.freeSlotList ks) := foldl_keeps (fun _ k => h.freeSlot k) ks hs

theorem sendPoolLows (n : Nat) (ls : List Nat) (hs : P s) : P (State.sendPoolLows n ls s) := by
  induction n generalizing ls s with
  | zero => exact hs
  | succ n ih =>
    match ls with
    | [] => exact hs
    | [l] => exact h.enqueue _ (by simp) hs
    | _ :: _ :: _ => exact ih _ (h.other (h.enqueue _ (by simp) hs) rfl)

theorem poolLowNotices (hs : P s) : P s.poolLowNotices := h.sendPoolLows _ _ (h.other hs rfl)

theorem poolLowCheck (l : Nat) (hs : P s) : P (s.poolLowCheck l) := by
  unfold State.poolLowCheck
  dsimp only
  split
  · exact h.other (h.lane l _ hs) rfl
  · exact hs

theorem openFrom (k l : Nat) (hl : l < 8) (hs : P s) : P (s.openFrom k l) := by
  unfold State.openFrom
  split
  · exact hs
  · refine h.poolLowCheck l (h.stream k _ ?_ (h.other (h.segment _ _ (h.lane l _ hs)) rfl))
    rintro ⟨hcadence, hphase, hlimit, hlinger, -, hpad⟩
    exact ⟨hcadence, hphase, hlimit, hlinger, Nat.le_of_lt_succ hl, hpad⟩

theorem starve (k : Nat) (hs : P s) : P (s.starve k) :=
  h.enqueue _ (by simp) (h.other (h.stream k { s.stream k with state := .starved } (fun hk => hk) hs) rfl)

theorem requestSegment (k : Nat) (hs : P s) : P (s.requestSegment k) := by
  unfold State.requestSegment
  split
  · rename_i l hlane
    exact h.openFrom k l (State.laneFor_eq_some hlane).1 hs
  · exact h.starve k hs

theorem requestIfDue (k : Nat) (hs : P s) : P (s.requestIfDue k) := by
  unfold State.requestIfDue
  split
  · exact h.requestSegment k hs
  · exact hs

theorem segmentRequests (hs : P s) : P s.segmentRequests := by
  unfold State.segmentRequests
  split
  · exact foldl_keeps (fun _ k => h.requestIfDue k) _ hs
  · exact hs

theorem endRequests (hs : P s) : P s.endRequests := h.poolLowNotices (h.segmentRequests hs)

theorem serve (l n : Nat) (hl : l < 8) (hs : P s) : P (State.serve l n s) := by
  induction n generalizing s with
  | zero => exact hs
  | succ n ih =>
    unfold State.serve
    split
    · split
      · exact hs
      · exact ih (h.openFrom _ l hl (h.other hs rfl))
    · exact hs

theorem drain (id : Nat) (cause : EndCause) (hs : P s) : P (s.drain id cause) := by
  unfold State.drain
  split
  · exact hs
  · rename_i g _
    split
    · exact h.stream g.stream (s.stream g.stream).released (fun hk => hk) (h.segment id _ hs)
    · exact hs

theorem closeIfSettled (id : Nat) (hs : P s) : P (s.closeIfSettled id) := by
  unfold State.closeIfSettled
  split
  · exact hs
  · split
    · exact h.dropSegment _ (h.enqueue _ (by simp) hs)
    · exact hs

theorem drainAndClose (id : Nat) (cause : EndCause) (hs : P s) : P (s.drainAndClose id cause) := h.closeIfSettled id (h.drain id cause hs)

theorem rotate (k : Nat) (hs : P s) : P (s.rotate k) := by
  unfold State.rotate
  split
  · exact hs
  · exact h.drainAndClose _ _ hs

theorem returnGrants (l : Nat) (hs : P s) : P (s.returnGrants l) := by
  unfold State.returnGrants
  dsimp only
  split
  · exact h.lane l _ hs
  · exact h.lane l _ (h.enqueue _ (by simp) hs)

theorem lingerCheck (k : Nat) (hs : P s) : P (s.lingerCheck k) := by
  unfold State.lingerCheck
  split
  · exact h.padStream k hs
  · exact hs

theorem lingerTick (k : Nat) (hs : P s) : P (s.lingerTick k) := by
  unfold State.lingerTick
  split
  · refine h.lingerCheck k (h.stream k _ ?_ hs)
    rintro ⟨hcadence, hphase, hlimit, -, hlast, hpad⟩
    exact ⟨hcadence, hphase, hlimit, Nat.min_le_left _ _, hlast, hpad⟩
  · exact hs

theorem durablePads (hs : P s) : P s.durablePads := by
  unfold State.durablePads
  split
  · refine foldl_keeps (fun s k hs => ?_) _ hs
    split
    · exact h.padStream k hs
    · exact hs
  · exact hs

theorem pressure (hs : P s) : P s.pressure := by
  unfold State.pressure
  repeat' split
  · exact hs
  · exact h.padStream _ hs
  · exact hs

theorem flushPads (fn : Nat) (hs : P s) : P (s.flushPads fn) := by
  refine foldl_keeps (fun s k hs => ?_) _ hs
  split
  · exact h.padStream k hs
  · exact hs

theorem requeue (k : Nat) (slots : List Nat) (fillers : Nat) (hs : P s) : P (s.requeue k slots fillers) := by
  refine h.stream k _ (fun hk => ?_) hs
  obtain ⟨hcadence, hphase, hlimit, hlinger, hlast, hpad⟩ := Stream.lawful_settle hk (s.mergeBySeq slots (s.stream k).queue)
  refine ⟨hcadence, hphase, hlimit, hlinger, hlast, fun hp => ?_⟩
  rcases Bool.or_eq_true_iff.1 hp with hp | hp
  · exact hpad hp
  · exact of_decide_eq_true (Bool.and_eq_true_iff.1 hp).2

theorem setSlotStates (ks : List Nat) (st : SlotState) (hs : P s) : P (s.setSlotStates ks st) :=
  foldl_keeps (fun _ k => h.slot k _) ks hs

theorem land (a : Arriving) (k : Nat) (block : List Unit16) (hs : P s) : P (s.land a k block) :=
  h.other (h.bytes (Config.sectorBytes * k) (block.flatMap unitBytes)
    (h.slot k { s.slot k with state := .landing, fn := a.fn, ns := a.ns, lba := a.lba + a.landed.length } hs)) rfl

theorem heatStep (entry : Option Nat) (hit : Bool) (hs : P s) : P (s.heatStep entry hit) := by
  unfold State.heatStep
  split
  · exact hs
  · exact h.range _ _ ((s.range _).sameRun_routed _ _) (fun h => Range.lawful_routed h _ _) hs

theorem appendStaged (k stream : Nat) (hs : P s) : P (s.appendStaged k stream) := by
  refine h.stream stream _ (fun hk => ?_)
    (h.other (h.slot k { s.slot k with state := .staged, seq := s.sequence, stream := stream } hs) rfl)
  exact Stream.lawful_settle hk _

theorem supersede (fn old : Nat) (hs : P s) : P (s.supersede fn old) :=
  h.tenant fn _ ⟨rfl, rfl, rfl⟩ (h.freeSlot old (h.stream _ _ (fun hk => Stream.lawful_settle hk _) hs))

theorem indexStaged (fn ns lba k : Nat) (hs : P s) : P (s.indexStaged fn ns lba k) := by
  unfold State.indexStaged
  dsimp only
  repeat' split
  · exact h.index _ _ hs
  · exact h.supersede _ _ (h.index _ _ hs)
  · exact h.index _ _ hs

theorem resetLinger (k : Nat) (hs : P s) : P (s.resetLinger k) := by
  refine h.stream k _ ?_ hs
  rintro ⟨hcadence, hphase, hlimit, -, hlast, hpad⟩
  exact ⟨hcadence, hphase, hlimit, Nat.zero_le _, hlast, hpad⟩

theorem stageSector (a : Arriving) (x : Nat × Nat) (hs : P s) : P (State.stageSector a s x) :=
  h.resetLinger _ (h.tenant _ _ ⟨rfl, rfl, rfl⟩ (h.indexStaged _ _ _ _ (h.appendStaged _ _ (h.heatStep _ _ hs))))

theorem stageAll (a : Arriving) (hs : P s) : P (s.stageAll a) := foldl_keeps (fun _ x => h.stageSector a x) _ hs

theorem countRefused (fn : Nat) (hs : P s) : P (s.countRefused fn) := by
  unfold State.countRefused
  split
  · exact h.tenant _ _ ⟨rfl, rfl, rfl⟩ hs
  · exact hs

theorem refuseWrite (a : Arriving) (status : LandedStatus) (hs : P s) : P (s.refuseWrite a status) := by
  have hfreed := h.countRefused a.fn (h.enqueue (.landed a.tag a.fn status a.count 0) (by simp) (h.freeSlotList a.landed hs))
  unfold State.refuseWrite
  dsimp only
  split
  · exact hfreed
  · exact h.evalCredit hfreed

theorem createDurable (a : Arriving) (first : Nat) (hs : P s) : P (s.createDurable a first) := by
  unfold State.createDurable
  split
  · exact hs
  · exact foldl_keeps (fun _ k => h.slot k _) _ (h.durable _ _ hs)

theorem acceptWrite (a : Arriving) (hs : P s) : P (s.acceptWrite a) := by
  unfold State.acceptWrite
  dsimp only
  have hrecorded : P (if s.isDurable a then (s.stageAll a).createDurable a s.sequence
      else (s.stageAll a).enqueue (.landed a.tag a.fn .ok a.count s.sequence)) := by
    split
    · exact h.createDurable _ _ (h.stageAll a hs)
    · exact h.enqueue _ (by simp) (h.stageAll a hs)
  have hpadded := h.pressure (h.durablePads hrecorded)
  refine h.endRequests ?_
  generalize State.pressure _ = v at hpadded ⊢
  split
  · exact h.evalCredit hpadded
  · exact hpadded

theorem decideWrite (a : Arriving) (hs : P s) : P (s.decideWrite a) := by
  unfold State.decideWrite
  repeat' split
  · exact h.refuseWrite a _ hs
  · exact h.other hs rfl
  · exact h.acceptWrite a hs

theorem takeWrite (a : Arriving) (hs : P s) : P (s.takeWrite a) := by
  unfold State.takeWrite
  repeat' split
  · exact h.refuseWrite a _ hs
  · exact h.refuseWrite a _ hs
  · exact h.decideWrite a hs

theorem settleDurable (k : Nat) (hs : P s) : P (s.settleDurable k) := by
  unfold State.settleDurable
  repeat' split
  · exact hs
  · exact hs
  · exact h.dropDurable _ (h.enqueue _ (by simp) hs)
  · exact h.durable _ _ hs

theorem settleFlush (k : Nat) (hs : P s) : P (s.settleFlush k) := by
  unfold State.settleFlush
  dsimp only
  repeat' split
  · exact hs
  · exact h.dropFlush _ (foldl_keeps (fun _ _ => h.enqueue _ (by simp)) _ hs)
  · exact h.flush _ _ hs
  · exact hs

theorem settleSlot (k : Nat) (hs : P s) : P (s.settleSlot k) := h.freeSlot k (h.settleFlush k (h.settleDurable k hs))

theorem settleSlots (ks : List Nat) (hs : P s) : P (s.settleSlots ks) := foldl_keeps (fun _ k => h.settleSlot k) ks hs

theorem markSlots (ks : List Nat) (hs : P s) : P (s.markSlots ks) := foldl_keeps (fun _ k => h.slot k _) ks hs

theorem acceptFlush (a : Arriving) (hs : P s) : P (s.acceptFlush a) :=
  h.endRequests (h.flushPads a.fn (h.flush _ _ (h.markSlots _ hs)))

theorem takeFlush (a : Arriving) (hs : P s) : P (s.takeFlush a) := by
  unfold State.takeFlush
  dsimp only
  repeat' split
  · exact h.enqueue _ (by simp) hs
  · exact h.enqueue _ (by simp) hs
  · exact h.enqueue _ (by simp) hs
  · exact h.acceptFlush a hs
  · exact h.enqueue _ (by simp) hs
  · exact h.acceptFlush a hs

theorem enterDumped (result : DumpResult) (hs : P s) : P (s.enterDumped result) := h.other (h.hushed hs) rfl

theorem takeGrant (l : Nat) (hs : P s) : P (s.takeGrant l) := by
  unfold State.takeGrant
  repeat' split
  · exact hs
  · exact hs
  · exact h.other (h.lane _ _ hs) rfl

theorem dumpCheck (hs : P s) : P s.dumpCheck := by
  unfold State.dumpCheck
  repeat' split
  · exact hs
  · exact h.enterDumped _ hs
  · exact h.other hs rfl
  · exact hs
  · exact hs

theorem enterDumping (hs : P s) : P s.enterDumping :=
  h.dumpCheck (h.takeGrant 0 (h.other (h.freeSlotList s.parser.landedSlots hs) rfl))

theorem nextGrantIfUsed (hs : P s) : P s.nextGrantIfUsed := by
  unfold State.nextGrantIfUsed
  repeat' split
  · exact hs
  · exact h.takeGrant _ hs
  · exact hs

theorem sendDump (g : TakenGrant) (slots : List Nat) (fillers : Nat) (trailer : Bool) (sectors : List (List Byte)) (hs : P s) :
    P (s.sendDump g slots fillers trailer sectors) :=
  h.nextGrantIfUsed (h.sendLane _ _ (h.lane _ _ hs))

theorem dumpUnit (hs : P s) : P s.dumpUnit := by
  unfold State.dumpUnit
  split
  · exact hs
  · exact h.sendDump _ _ _ _ _ (h.other hs rfl)

theorem trailerUnit (hs : P s) : P s.trailerUnit := by
  unfold State.trailerUnit
  split
  · exact hs
  · exact h.dumpCheck (h.sendDump _ _ _ _ _ (h.other hs rfl))

theorem dumpFailed (r : InFlight) (hs : P s) : P (s.dumpFailed r) := by
  unfold State.dumpFailed
  split
  · exact hs
  · exact h.other hs rfl

theorem loseDumpLane (l : Nat) (hs : P s) : P (s.loseDumpLane l) := by
  unfold State.loseDumpLane
  repeat' split
  · exact hs
  · exact h.takeGrant l (h.other hs rfl)
  · exact hs

theorem updLane (l : Nat) (f : Lane → Lane) (hs : P s) : P (s.updLane l f) := h.lane l _ hs

theorem countDone (id : Nat) (hs : P s) : P (s.countDone id) := by
  unfold State.countDone
  split
  · exact hs
  · exact h.segment _ _ hs

theorem countFailed (id : Nat) (hs : P s) : P (s.countFailed id) := by
  unfold State.countFailed
  split
  · exact hs
  · exact h.drain _ _ (h.segment _ _ hs)

theorem normalDone (l : Nat) (r : InFlight) (hs : P s) : P (s.normalDone l r) := by
  unfold State.normalDone
  dsimp only
  refine h.evalCredit (h.updLane l _ ?_)
  have hclosed := h.closeIfSettled (r.seg.getD 0) (h.countDone (r.seg.getD 0)
    (h.settleSlots r.slots (h.enqueue (.placed (r.seg.getD 0) l r.block r.unit (s.placedEntries r.slots)) (by simp) hs)))
  split
  · exact hclosed
  · exact h.stream _ _ (fun hk => hk) hclosed

theorem normalFailed (l : Nat) (reason : FailReason) (r : InFlight) (hs : P s) : P (s.normalFailed l reason r) := by
  unfold State.normalFailed
  dsimp only
  refine h.closeIfSettled _ ?_
  have hstaged := h.setSlotStates r.slots .staged (h.updLane l (fun x => { x with failed := x.failed + 1 })
    (h.countFailed (r.seg.getD 0) (h.enqueue (.programFailed l reason (r.seg.getD 0) r.unit r.block) (by simp) hs)))
  split
  · exact hstaged
  · exact h.stream _ _ (fun hk => hk) (h.requeue _ _ _ (h.stream _ _ (fun hk => hk) hstaged))

theorem recordFailed (l : Nat) (reason : FailReason) (r : InFlight) (hs : P s) : P (s.recordFailed l reason r) := by
  unfold State.recordFailed
  split
  · exact h.normalFailed l reason r hs
  · exact h.dumpFailed r (h.updLane l _ hs)

theorem recordDone (l : Nat) (r : InFlight) (hs : P s) : P (s.recordDone l r) := by
  unfold State.recordDone
  split
  · exact h.normalDone l r hs
  · dsimp only
    split
    · exact h.enterDumped _ (h.updLane l _ hs)
    · exact h.other (h.updLane l (fun x => { x with done := x.done + 1 }) hs) rfl

theorem breakOn (l k : Nat) (hs : P s) : P (State.breakOn l s k) := by
  unfold State.breakOn
  repeat' split
  · exact hs
  · exact h.drainAndClose _ _ hs
  · exact hs

theorem dumpLosesLane (l n : Nat) (hs : P s) : P (s.dumpLosesLane l n) := by
  unfold State.dumpLosesLane
  split
  · exact h.loseDumpLane l (h.other hs rfl)
  · exact hs

theorem laneDown (l : Nat) (cause : DownCause) (hs : P s) : P (s.laneDown l cause) :=
  h.dumpLosesLane l _ (h.enqueue _ (by simp) (h.returnGrants l (foldl_keeps (fun _ k => h.breakOn l k) _
    (foldl_keeps (fun _ r => h.recordFailed l .laneDown r) _ (h.lane l _ hs)))))

theorem endFailure (hs : P s) : P s.endFailure := h.dumpCheck (h.endRequests (h.durablePads hs))

theorem answerMatched (l i : Nat) (r : InFlight) (o : Outcome) (hs : P s) : P (s.answerMatched l i r o) := by
  have hleft := h.updLane l (fun x => { x with inflight := x.inflight.eraseIdx i, consecutive := 0 }) hs
  unfold State.answerMatched
  dsimp only
  split
  · exact h.dumpCheck (h.recordDone l r hleft)
  · exact h.endFailure (h.recordFailed l _ r hleft)
  · exact hleft

theorem answerTaken (l : Nat) (head : Unit16) (hs : P s) : P (s.answerTaken l head) := by
  unfold State.answerTaken
  repeat' split
  · exact h.updLane l _ hs
  · exact h.updLane l _ hs
  · exact h.updLane l _ hs
  · exact h.answerMatched _ _ _ _ hs

theorem expire (l i : Nat) (r : InFlight) (hs : P s) : P (s.expire l i r) := by
  unfold State.expire
  dsimp only
  refine h.endFailure ?_
  have hcounted := h.updLane l (fun x => { x with timeouts := x.timeouts + 1, consecutive := min 15 (x.consecutive + 1) })
    (h.recordFailed l .timeout r (h.updLane (s := { s with now := max s.now r.expiry }) l
      (fun x => { x with inflight := x.inflight.eraseIdx i }) (h.other hs rfl)))
  split
  · exact h.laneDown l _ hcounted
  · exact hcounted

theorem issueUnit (l k : Nat) (hs : P s) : P (s.issueUnit l k) := by
  unfold State.issueUnit
  dsimp only
  split
  · exact hs
  · have hissued := h.stream k ((s.stream k).composed ((s.stream k).queue.take 16).length)
      (fun hk => ?_) (h.setSlotStates ((s.stream k).queue.take 16) .issued hs)
    · split
      · exact h.drain _ _ (h.sendLane _ _ (h.updLane l _ (h.segment _ _ hissued)))
      · exact h.sendLane _ _ (h.updLane l _ (h.segment _ _ hissued))
    · have hstream : (s.setSlotStates ((s.stream k).queue.take 16) .issued).stream k = s.stream k :=
        congrFun (agree (π := State.stream) (s.setSlotStates_frame _ _)) k
      exact Stream.lawful_settle (hstream ▸ hk) _

/-! ## The requests -/

theorem reply (a : Arriving) (status : Status) (body : List Byte) (hs : P s) : P (s.reply a status body) := h.enqueue _ (by simp) hs

theorem storeParam (p : Param) (l v : Nat) (hs : P s) : P (s.storeParam p l v) := by
  cases p with
  | issueWindow | poolLowMark => exact h.lane l _ hs
  | _ => exact h.other hs rfl

theorem setParam (a : Arriving) {act : State → State} (hact : ∀ {s}, P s → P (act s)) (hs : P s) : P (s.setParam a act) := by
  unfold State.setParam
  repeat' split
  · exact h.reply _ _ _ hs
  · exact h.reply _ _ _ hs
  · exact hact (h.reply _ _ _ (h.storeParam _ _ _ hs))

theorem putStream (a : Arriving) (hs : P s) : P (s.putStream a) := by
  unfold State.putStream
  dsimp only
  have hconfigured := h.reply a .ok []
    (h.stream a.stream ((s.stream a.stream).configured a) (fun hk => Stream.lawful_configured hk a) hs)
  repeat' split
  · exact h.reply _ _ _ hs
  · exact h.reply _ _ _ (h.stream _ _ (fun hk => Stream.lawful_configured hk a) hs)
  · exact h.rotate _ hconfigured
  · exact hconfigured
  · exact h.reply _ _ _ hs

theorem holdStream (a : Arriving) (hs : P s) : P (s.holdStream a) := by
  unfold State.holdStream
  dsimp only
  have hheld := h.stream a.stream { s.stream a.stream with state := .held } (fun hk => hk) hs
  split
  · exact h.reply _ _ _ hs
  · exact h.reply _ _ _ hs
  · exact h.reply _ _ _ (h.other hheld rfl)
  · exact h.reply _ _ _ hheld

theorem releaseStream (a : Arriving) (hs : P s) : P (s.releaseStream a) := by
  unfold State.releaseStream
  dsimp only
  split
  · exact h.endRequests (h.reply _ _ _ (h.stream a.stream _ (fun hk => hk) hs))
  · exact h.reply _ _ _ hs

theorem flushStream (a : Arriving) (hs : P s) : P (s.flushStream a) := by
  unfold State.flushStream
  split
  · exact h.endRequests (h.reply _ _ _ (h.padStream _ hs))
  · exact h.reply _ _ _ hs

theorem rotateStream (a : Arriving) (hs : P s) : P (s.rotateStream a) := by
  unfold State.rotateStream
  dsimp only
  split
  · exact h.endRequests (h.rotate _ (h.reply _ _ _ (h.padStream _ hs)))
  · exact h.reply _ _ _ hs

theorem unbindStream (a : Arriving) (hs : P s) : P (s.unbindStream a) := by
  unfold State.unbindStream
  dsimp only
  repeat' split
  · exact h.reply _ _ _ hs
  · exact h.reply _ _ _ hs
  · exact h.reply _ _ _ hs
  · exact h.stream _ _ (fun _ => Stream.lawful_retired _) (h.rotate _ (h.reply _ _ _ hs))

theorem grantBlocks (a : Arriving) (hs : P s) : P (s.grantBlocks a) := by
  unfold State.grantBlocks
  dsimp only
  split
  · exact h.reply _ _ _ hs
  · rename_i hgood
    have hlane : a.lane < 8 := by
      simp only [Arriving.grantsBad, Bool.or_eq_true, decide_eq_true_eq] at hgood
      omega
    repeat' split
    · exact h.reply _ _ _ hs
    · exact h.reply _ _ _ hs
    · exact h.poolLowNotices (h.serve _ _ hlane (h.reply _ _ _ (h.lane _ _ hs)))
    · exact h.reply _ _ _ (h.lane _ _ hs)

theorem restartLane (a : Arriving) (hs : P s) : P (s.restartLane a) := by
  unfold State.restartLane
  dsimp only
  repeat' split
  · exact h.reply _ _ _ hs
  · exact h.reply _ _ _ hs
  · exact h.reply _ _ _ hs
  · exact h.reply _ _ _ (h.updLane _ _ hs)

theorem clearPart (a : Arriving) (hs : P s) : P (s.clearPart a) := by
  unfold State.clearPart
  split
  · exact h.reply _ _ _ hs
  · exact foldl_keeps (fun _ l => h.updLane l _) _ (h.cleared (foldl_keeps (fun _ l => h.returnGrants l) _
      (foldl_keeps (fun _ k => h.rotate k) _ (h.reply a .ok [] hs))))

/-! ## The commands -/

theorem take {want : Arriving → Bool} {act : State → Arriving → State} (hact : ∀ {s} a, P s → P (act s a)) (hs : P s) :
    P (s.take want act) :=
  State.take_keeps (fun _ _ hs => h.other hs rfl) (fun _ a _ => hact a) hs

theorem landBlock (block : List Unit16) (hs : P s) : P (s.landBlock block) := by
  unfold State.landBlock
  split
  · exact hs
  · exact h.other (h.land _ _ _ hs) rfl

theorem retake (hs : P s) : P s.retake := by
  unfold State.retake
  repeat' split
  · exact h.decideWrite _ (h.other hs rfl)
  · exact hs
  · exact hs

theorem abortParcel (hs : P s) : P s.abortParcel := by
  unfold State.abortParcel
  repeat' split
  · exact h.other hs rfl
  · exact h.other hs rfl
  · exact hs
  · exact hs

theorem releaseAborted (hs : P s) : P s.releaseAborted := by
  unfold State.releaseAborted
  repeat' split
  · exact h.evalCredit (h.freeSlotList _ (h.other hs rfl))
  · exact hs
  · exact hs

theorem discardParcel (hs : P s) : P s.discardParcel := by
  unfold State.discardParcel
  repeat' split
  · exact hs
  · exact h.other hs rfl
  · exact hs

theorem getParam (a : Arriving) (hs : P s) : P (s.getParam a) := by
  unfold State.getParam
  split <;> exact h.reply _ _ _ hs

theorem getTenant (a : Arriving) (hs : P s) : P (s.getTenant a) := by
  unfold State.getTenant
  split <;> exact h.reply _ _ _ hs

theorem getRanges (a : Arriving) (hs : P s) : P (s.getRanges a) := by
  unfold State.getRanges
  split <;> exact h.reply _ _ _ hs

theorem getLane (a : Arriving) (hs : P s) : P (s.getLane a) := by
  unfold State.getLane
  split <;> exact h.reply _ _ _ hs

theorem issueOn (l : Nat) (hs : P s) : P (s.issueOn l) := by
  unfold State.issueOn
  dsimp only
  split
  · split
    · exact hs
    · refine h.endRequests (h.durablePads ?_)
      split
      · exact h.issueUnit _ _ (h.issueUnit _ _ (h.updLane _ _ hs))
      · exact h.issueUnit _ _ (h.updLane _ _ hs)
  · exact hs

theorem takeAnswer (l : Nat) (hs : P s) : P (s.takeAnswer l) := by
  unfold State.takeAnswer
  repeat' split
  · exact hs
  · exact h.answerTaken _ _ (h.updLane _ _ hs)
  · exact hs

theorem takeMalformed (l : Nat) (hs : P s) : P (s.takeMalformed l) := by
  unfold State.takeMalformed
  repeat' split
  · exact hs
  · exact hs
  · exact h.updLane _ _ (h.updLane _ _ hs)

theorem expireRecord (l i : Nat) (hs : P s) : P (s.expireRecord l i) := by
  unfold State.expireRecord
  repeat' split
  · exact hs
  · exact h.expire _ _ _ hs
  · exact hs

theorem lanefltTo (l : Nat) (level : Bool) (hs : P s) : P (s.lanefltTo l level) := by
  unfold State.lanefltTo
  dsimp only
  split
  · exact h.endFailure (h.laneDown _ _ (h.other hs rfl))
  · exact h.other hs rfl

theorem decayExpires (hs : P s) : P s.decayExpires := by
  unfold State.decayExpires
  repeat' split
  · exact hs
  · exact h.other (h.decay hs) rfl
  · exact hs

theorem lingerExpires (hs : P s) : P s.lingerExpires := by
  unfold State.lingerExpires
  repeat' split
  · exact hs
  · exact h.endRequests (foldl_keeps (fun _ k => h.lingerTick k) _ (h.other hs rfl))
  · exact hs

theorem creditExpires (hs : P s) : P s.creditExpires := by
  unfold State.creditExpires
  dsimp only
  repeat' split
  · exact hs
  · exact h.sendCredit (h.other hs rfl)
  · exact h.other hs rfl
  · exact hs

theorem pfailTo (level : Bool) (hs : P s) : P (s.pfailTo level) := by
  unfold State.pfailTo
  dsimp only
  split
  · exact h.enterDumping (h.other hs rfl)
  · exact h.other hs rfl

theorem headArrives (head : Unit16) (body : List Unit16) (hs : P s) : P (s.headArrives head body) := by
  unfold State.headArrives
  dsimp only
  repeat' split
  · exact h.other hs rfl
  · exact h.other hs rfl
  · exact hs

theorem laneArrives (l : Nat) (head : Unit16) (hs : P s) : P (s.laneArrives l head) := by
  unfold State.laneArrives
  split
  · exact h.other (h.updLane l (fun x => { x with waiting := x.waiting ++ [{ head := head, arrival := s.arrivals }] }) hs) rfl
  · exact hs

/-- A law closed under the writes of records is kept by every command but the sending of a parcel and RESET_N. -/
theorem after (c : Instr) (hsent : c ≠ .parcelSent) (hrelease : c ≠ .resetRelease) (hassert : ∀ r l, c ≠ .resetAssert r l)
    (hs : P s) : P (s.after c) := by
  cases c with
  | landing block => exact h.landBlock block hs
  | write => exact h.take h.takeWrite hs
  | heldWriteRetaking => exact h.retake hs
  | abortMark => exact h.abortParcel hs
  | abortedWriteRelease => exact h.releaseAborted hs
  | peek =>
    exact h.take (act := fun s a => s.enqueue (s.peekAnswer a)) (fun {s} a => h.enqueue _ (s.peekAnswer_ne_ready a)) hs
  | flush => exact h.take h.takeFlush hs
  | parcelDiscarded => exact h.discardParcel hs
  | badRequest => exact h.take (act := fun s a => s.reply a .badRequest) (fun a => h.reply a .badRequest []) hs
  | identify => exact h.take (act := fun s a => s.reply a .ok identifyBody) (fun a => h.reply a .ok _) hs
  | setParam => exact h.take (act := fun s a => s.setParam a id) (fun a => h.setParam a id) hs
  | setDecayInterval =>
    exact h.take (act := fun s a => s.setParam a State.restartDecay) (fun a => h.setParam a fun hs => h.other hs rfl) hs
  | setDurableLinger =>
    exact h.take (act := fun s a => s.setParam a State.checkAllLinger) (fun a => h.setParam a fun hs =>
      h.endRequests (foldl_keeps (fun _ k => h.lingerCheck k) _ hs)) hs
  | setCreditBatch => exact h.take (act := fun s a => s.setParam a State.evalCredit) (fun a => h.setParam a h.evalCredit) hs
  | setSequenceBase => exact h.take (act := fun s a => s.setParam a id) (fun a => h.setParam a id) hs
  | setPoolLowMark =>
    exact h.take (act := fun s a => s.setParam a (State.rearm a.paramLane)) (fun a => h.setParam a (h.lane _ _)) hs
  | getParam => exact h.take h.getParam hs
  | putTenant => exact h.take h.putTenant hs
  | getTenant => exact h.take h.getTenant hs
  | dropTenant => exact h.take h.dropTenant hs
  | putRanges => exact h.take h.putRanges hs
  | getRanges => exact h.take h.getRanges hs
  | putStream => exact h.take h.putStream hs
  | getStream => exact h.take (act := fun s a => s.reply a .ok (s.streamBody (s.stream a.stream))) (fun a => h.reply a .ok _) hs
  | holdStream => exact h.take h.holdStream hs
  | releaseStream => exact h.take h.releaseStream hs
  | flushStream => exact h.take h.flushStream hs
  | rotateStream => exact h.take h.rotateStream hs
  | unbindStream => exact h.take h.unbindStream hs
  | grantBlocks => exact h.take h.grantBlocks hs
  | getLane => exact h.take h.getLane hs
  | restartLane => exact h.take h.restartLane hs
  | clearPart => exact h.take h.clearPart hs
  | issue lane => exact h.issueOn lane.val hs
  | answer lane => exact h.takeAnswer lane.val hs
  | malformedLaneParcel lane => exact h.takeMalformed lane.val hs
  | laneAbortMark lane => exact hs
  | expiry lane record => exact h.expireRecord lane.val record hs
  | laneflt lane level => exact h.lanefltTo lane.val level hs
  | decayExpiry => exact h.decayExpires hs
  | lingerClockExpiry => exact h.lingerExpires hs
  | creditLingerExpiry => exact h.creditExpires hs
  | dumpUnitSend =>
    show P (if s.mayDumpUnit then s.dumpUnit else s)
    split
    · exact h.dumpUnit hs
    · exact hs
  | trailerSend =>
    show P (if s.mayTrailer then s.trailerUnit else s)
    split
    · exact h.trailerUnit hs
    · exact hs
  | parcelSent => exact absurd rfl hsent
  | pfail level => exact h.pfailTo level hs
  | resetAssert r l => exact absurd rfl (hassert r l)
  | resetRelease => exact absurd rfl hrelease
  | parcelHeadArrival head body => exact h.headArrives head body hs
  | answerArrival lane head => exact h.laneArrives lane.val head hs

end

end Closed

end Sys2Proof.Machine
end

section
/-! The canonical form of the tables, the order of the return queue, and the part-wide parameters: laws that every step keeps. -/

namespace Sys2Proof.Machine

open Sys2Proof

/-! ## The canonical form -/

/-- The parts of the canonical form, table by table. -/
structure State.Canonical (s : State) : Prop where
  tenants : Store.canon {} s.tenants = true
  ranges : Store.canon {} s.ranges = true
  slots : Store.canon {} s.slots = true
  streams : Store.canon {} s.streams = true
  lanes : Store.canon {} s.lanes = true
  laneLinks : Store.canon [] s.laneLinks = true
  staging : Store.canon unwritten s.staging = true
  index : Store.sorted s.index = true
  segments : Store.sorted s.segments = true
  durables : Store.sorted s.durables = true
  flushes : Store.sorted s.flushes = true

theorem State.canonical_iff (s : State) : s.canonical = true ↔ s.Canonical := by
  simp only [State.canonical, Bool.and_eq_true]
  constructor
  · rintro ⟨⟨⟨⟨⟨⟨⟨⟨⟨⟨h1, h2⟩, h3⟩, h4⟩, h5⟩, h6⟩, h7⟩, h8⟩, h9⟩, h10⟩, h11⟩
    exact ⟨h1, h2, h3, h4, h5, h6, h7, h8, h9, h10, h11⟩
  · rintro ⟨h1, h2, h3, h4, h5, h6, h7, h8, h9, h10, h11⟩
    exact ⟨⟨⟨⟨⟨⟨⟨⟨⟨⟨h1, h2⟩, h3⟩, h4⟩, h5⟩, h6⟩, h7⟩, h8⟩, h9⟩, h10⟩, h11⟩

theorem State.Canonical.of_tables {s t : State} (hs : s.Canonical) (h : t.tables = s.tables) : t.Canonical where
  tenants := (congrArg State.tenants h).symm ▸ hs.tenants
  ranges := (congrArg State.ranges h).symm ▸ hs.ranges
  slots := (congrArg State.slots h).symm ▸ hs.slots
  streams := (congrArg State.streams h).symm ▸ hs.streams
  lanes := (congrArg State.lanes h).symm ▸ hs.lanes
  laneLinks := (congrArg State.laneLinks h).symm ▸ hs.laneLinks
  staging := (congrArg State.staging h).symm ▸ hs.staging
  index := (congrArg State.index h).symm ▸ hs.index
  segments := (congrArg State.segments h).symm ▸ hs.segments
  durables := (congrArg State.durables h).symm ▸ hs.durables
  flushes := (congrArg State.flushes h).symm ▸ hs.flushes

/-- Every write of a record keeps the canonical form. -/
theorem closed_canonical : Closed State.Canonical where
  other := State.Canonical.of_tables
  tenant u r _ hs := { hs with tenants := Store.canon_setD hs.tenants u r }
  range i r _ _ hs := { hs with ranges := Store.canon_setD hs.ranges i r }
  putTenant := State.putTenant_keeps (fun _ _ _ hs => { hs with }) fun u r hs => { hs with tenants := Store.canon_setD hs.tenants u r }
  dropTenant := State.dropTenant_keeps (fun _ _ _ hs => { hs with }) fun u r hs => { hs with tenants := Store.canon_setD hs.tenants u r }
  putRanges := State.putRanges_keeps (fun _ _ _ hs => { hs with }) fun i r hs => { hs with ranges := Store.canon_setD hs.ranges i r }
  slot k r hs := { hs with slots := Store.canon_setD hs.slots k r }
  stream k r _ hs := { hs with streams := Store.canon_setD hs.streams k r }
  lane l r hs := { hs with lanes := Store.canon_setD hs.lanes l r }
  segment id g hs := { hs with segments := Store.sorted_insert hs.segments id g }
  dropSegment id hs := { hs with segments := Store.sorted_erase hs.segments id }
  index key k hs := { hs with index := Store.sorted_insert hs.index key k }
  dropIndex key hs := { hs with index := Store.sorted_erase hs.index key }
  durable i r hs := { hs with durables := Store.sorted_insert hs.durables i r }
  dropDurable i hs := { hs with durables := Store.sorted_erase hs.durables i }
  flush fn r hs := { hs with flushes := Store.sorted_insert hs.flushes fn r }
  dropFlush fn hs := { hs with flushes := Store.sorted_erase hs.flushes fn }
  enqueue _ _ hs := { hs with }
  sendLane l _ hs := { hs with laneLinks := Store.canon_setD hs.laneLinks l _ }
  bytes a bs hs := { hs with staging := writeBytes_wf hs.staging a bs }
  decay hs := { hs with ranges := Store.canon_mapD hs.ranges _ }
  hushed hs := { hs with lanes := Store.canon_mapD hs.lanes (fun l => { l with waiting := [] }) }
  cleared hs := { hs with segments := rfl, streams := rfl, tenants := rfl, ranges := rfl }

/-- The part at its reset values has canonical tables, whatever the lane links have carried. -/
theorem State.Canonical.of_reset {s t : State} (hs : s.Canonical)
    (h : t.tables = { State.reset.tables with returns := t.returns, laneLinks := s.laneLinks }) : t.Canonical := by
  have hblank : State.Canonical { State.reset.tables with returns := t.returns, laneLinks := s.laneLinks } :=
    ⟨rfl, rfl, rfl, rfl, rfl, hs.laneLinks, rfl, rfl, rfl, rfl, rfl⟩
  exact hblank.of_tables h

theorem State.Canonical.assertReset {s : State} (hs : s.Canonical) (returnCut : Bool) (lanesCut : BitVec 8) :
    (s.assertReset returnCut lanesCut).Canonical := by
  unfold State.assertReset
  split
  · exact hs
  · have hcut : ∀ {u : State} (l : Nat), u.Canonical → (State.cutLane lanesCut u l).Canonical := by
      intro u l hu
      unfold State.cutLane
      repeat' split
      · exact closed_canonical.sendLane l _ hu
      all_goals exact hu
    have hlinks : ((List.range Config.lanes).foldl (State.cutLane lanesCut)
        (if (returnCut && !s.returns.isEmpty) = true then { s with returnLink := s.returnLink ++ [.abortMark] } else s)).Canonical := by
      refine foldl_keeps (fun u l => hcut l) _ ?_
      split
      · exact { hs with }
      · exact hs
    exact hlinks.of_reset rfl

theorem State.Canonical.releaseReset {s : State} (hs : s.Canonical) : s.releaseReset.Canonical := by
  unfold State.releaseReset
  dsimp only
  split
  · have hready : (State.enqueue { s.blank with lines := { s.lines with reset := false } } .ready).Canonical := hs.of_reset rfl
    have hstarted := closed_canonical.evalCredit hready
    split
    · exact closed_canonical.enterDumping { hstarted with }
    · exact { hstarted with }
  · exact hs

theorem State.Canonical.after {s : State} (hs : s.Canonical) (c : Instr) : (s.after c).Canonical := by
  by_cases hsent : c = .parcelSent
  · subst hsent
    show s.sendHead.Canonical
    unfold State.sendHead
    repeat' split
    · exact hs
    · exact hs
    · exact { hs with }
  by_cases hrelease : c = .resetRelease
  · subst hrelease
    exact hs.releaseReset
  by_cases hassert : ∃ r l, c = .resetAssert r l
  · obtain ⟨r, l, rfl⟩ := hassert
    exact hs.assertReset r l
  · exact closed_canonical.after c hsent hrelease (fun r l h => hassert ⟨r, l, h⟩) hs

/-- Settles O52: every write of a record keeps the canonical form, and a reset leaves empty tables. -/
theorem stepKeepsCanonicalForm : Obligations.StepKeepsCanonicalForm := by
  unfold Obligations.StepKeepsCanonicalForm
  intro s t hs hstep
  rw [State.canonical_iff] at hs ⊢
  exact step_keeps (P := State.Canonical) (fun _ _ hs => { hs with }) (fun _ _ hs => { hs with }) (fun c _ hs => hs.after c) s t hs hstep

/-! ## The return queue -/

/-- The return queue is that of `s` with parcels other than READY behind it. -/
def State.Enqueued (s t : State) : Prop := s.returns.IsPrefix t.returns ∧ t.returns.count .ready ≤ s.returns.count .ready

theorem State.enqueued_refl (s : State) : s.Enqueued s := ⟨List.prefix_rfl, Nat.le_refl _⟩

theorem State.Enqueued.congr {s t u : State} (h : s.Enqueued t) (hu : u.returns = t.returns) : s.Enqueued u := by
  unfold State.Enqueued
  rw [hu]
  exact h

theorem State.Enqueued.enqueue {s t : State} (h : s.Enqueued t) {p : ReturnParcel} (hp : p ≠ .ready) : s.Enqueued (t.enqueue p) := by
  obtain ⟨hprefix, hcount⟩ := h
  refine ⟨hprefix.trans (List.prefix_append _ _), ?_⟩
  rw [State.enqueue_returns, List.count_append, List.count_singleton, if_neg (by simpa using hp)]
  exact hcount

theorem closed_enqueued (s : State) : Closed s.Enqueued where
  other h e := h.congr (by have hreturns := congrArg State.returns e; exact hreturns)
  tenant _ _ _ h := h
  range _ _ _ _ h := h
  putTenant := State.putTenant_keeps (fun _ _ _ h => h.enqueue (by simp)) fun _ _ h => h
  dropTenant := State.dropTenant_keeps (fun _ _ _ h => h.enqueue (by simp)) fun _ _ h => h
  putRanges := State.putRanges_keeps (fun _ _ _ h => h.enqueue (by simp)) fun _ _ h => h
  slot _ _ h := h
  stream _ _ _ h := h
  lane _ _ h := h
  segment _ _ h := h
  dropSegment _ h := h
  index _ _ h := h
  dropIndex _ h := h
  durable _ _ h := h
  dropDurable _ h := h
  flush _ _ h := h
  dropFlush _ h := h
  enqueue _ hp h := h.enqueue hp
  sendLane _ _ h := h
  bytes _ _ h := h
  decay h := h
  hushed h := h
  cleared h := h

theorem State.enqueued_after (s : State) (c : Instr) (hsent : c ≠ .parcelSent) (hrelease : c ≠ .resetRelease)
    (hassert : ∀ r l, c ≠ .resetAssert r l) : s.Enqueued (s.after c) :=
  (closed_enqueued s).after c hsent hrelease hassert s.enqueued_refl

/-- RESET_ASSERT and PARCEL_SENT only shorten the return queue. -/
theorem State.count_ready_assertReset (s : State) (r : Bool) (l : BitVec 8) :
    (s.assertReset r l).returns.count .ready ≤ s.returns.count .ready := by
  unfold State.assertReset
  split
  · exact Nat.le_refl _
  · exact Nat.zero_le _

theorem State.count_ready_sendHead (s : State) : s.sendHead.returns.count .ready ≤ s.returns.count .ready := by
  unfold State.sendHead
  split
  · exact Nat.le_refl _
  · rename_i p rest hreturns
    split
    · exact Nat.le_refl _
    · show rest.count _ ≤ _
      rw [hreturns]
      exact (List.sublist_cons_self p rest).count_le _

/-- Settles O47: every operation enqueues at the tail, and only the release of RESET_N enqueues READY. -/
theorem returnQueueKeepsOrder : Obligations.ReturnQueueKeepsOrder := by
  unfold Obligations.ReturnQueueKeepsOrder
  refine ⟨fun s p rest hreset hreturns => ?sent, fun s c t hexec hsent hrelease hassert => ?order, fun s c t hexec hrelease => ?ready⟩
  case sent =>
    show Host.Outcome.next s.sendHead = _
    simp [State.sendHead, hreturns, hreset]
  case order =>
    rw [exec_eq_next_iff] at hexec
    exact hexec ▸ (s.enqueued_after c hsent hrelease hassert).1
  case ready =>
    rw [exec_eq_next_iff] at hexec
    subst hexec
    by_cases hsent : c = .parcelSent
    · exact hsent ▸ s.count_ready_sendHead
    by_cases hassert : ∃ r l, c = .resetAssert r l
    · obtain ⟨r, l, rfl⟩ := hassert
      exact s.count_ready_assertReset r l
    · exact (s.enqueued_after c hsent hrelease fun r l h => hassert ⟨r, l, h⟩).2

/-! ## Stream contexts -/

theorem closed_streamsLawful : Closed State.streamsLawful where
  other h e k := by
    have hstream := congrFun (congrArg State.stream e) k
    exact (show _ = _ from hstream) ▸ h k
  tenant _ _ _ h := h
  range _ _ _ _ h := h
  putTenant := State.putTenant_keeps (fun _ _ _ h => h) fun _ _ h => h
  dropTenant := State.dropTenant_keeps (fun _ _ _ h => h) fun _ _ h => h
  putRanges := State.putRanges_keeps (fun _ _ _ h => h) fun _ _ h => h
  slot _ _ h := h
  stream k r hr h j := by
    rw [State.stream_setStream]
    split
    · exact hr (h k)
    · exact h j
  lane _ _ h := h
  segment _ _ h := h
  dropSegment _ h := h
  index _ _ h := h
  dropIndex _ h := h
  durable _ _ h := h
  dropDurable _ h := h
  flush _ _ h := h
  dropFlush _ h := h
  enqueue _ _ h := h
  sendLane _ _ h := h
  bytes _ _ h := h
  decay h := h
  hushed h := h
  cleared _ _ := by simp [Stream.lawful, State.stream]

theorem Stream.lawful_reset : ({} : Stream).lawful := by simp [Stream.lawful]

theorem State.streamsLawful_after {s : State} (hs : s.streamsLawful) (c : Instr) : (s.after c).streamsLawful := by
  by_cases hsent : c = .parcelSent
  · subst hsent
    intro k
    have hstream : (s.after .parcelSent).stream = s.stream := s.after_agree .parcelSent
    exact hstream ▸ hs k
  by_cases hreset : c = .resetRelease ∨ ∃ r l, c = .resetAssert r l
  · have hblank : s.lines.reset = true ∧ c = .resetRelease ∨ s.lines.reset = false ∧ (∃ r l, c = .resetAssert r l)
        ∨ s.after c = s := by
      cases hr : s.lines.reset <;> rcases hreset with rfl | ⟨r, l, rfl⟩
      · exact .inr (.inr (show s.releaseReset = s by simp [State.releaseReset, hr]))
      · exact .inr (.inl ⟨rfl, r, l, rfl⟩)
      · exact .inl ⟨rfl, rfl⟩
      · exact .inr (.inr (show s.assertReset r l = s by simp [State.assertReset, hr]))
    rcases hblank with ⟨hr, rfl⟩ | ⟨hr, r, l, rfl⟩ | hsame
    · intro k
      have hstreams : (s.after .resetRelease).streams = [] := by
        show s.releaseReset.streams = []
        unfold State.releaseReset
        dsimp only
        have hcredit : ∀ u : State, u.evalCredit.streams = u.streams := fun u => agree u.evalCredit_frame
        have hdump : ∀ u : State, u.enterDumping.streams = u.streams := fun u => agree u.enterDumping_frame
        rw [if_pos hr]
        split
        · rw [hdump]
          exact hcredit _
        · exact hcredit _
      rw [State.stream, hstreams]
      exact Stream.lawful_reset
    · intro k
      have hstreams : (s.after (.resetAssert r l)).streams = [] := by
        show (s.assertReset r l).streams = []
        simp [State.assertReset, hr, State.blank]
      rw [State.stream, hstreams]
      exact Stream.lawful_reset
    · rw [hsame]
      exact hs
  · exact closed_streamsLawful.after c hsent (fun h => hreset (.inl h)) (fun r l h => hreset (.inr ⟨r, l, h⟩)) hs

end Sys2Proof.Machine
end

section
/-! Segment ids and how many segments there are: an OPEN segment is its stream's one, a DRAINING segment has a unit in flight, so a part
that obeys the ledger has at most 512 segments, and the next segment id names none of them (R83, R84). -/

namespace Sys2Proof.Machine

open Sys2Proof

/-! ## Tables as lists -/

theorem Store.mem_of_find? {α : Type} {m : Store α} {n : Nat} {a : α} (h : Store.find? m n = some a) : (n, a) ∈ m := by
  induction m with
  | nil => cases h
  | cons e t ih =>
    obtain ⟨k, v⟩ := e
    unfold Store.find? at h
    split at h
    · rename_i hkey
      cases h
      exact hkey ▸ List.mem_cons_self
    · exact List.mem_cons_of_mem _ (ih h)

theorem Store.keys_nodup {α : Type} {m : Store α} (h : Store.sorted m = true) : m.keys.Nodup := by
  rw [Store.sorted_iff] at h
  exact List.pairwise_map.2 (h.imp fun hlt => Nat.ne_of_lt hlt)

theorem Store.find?_of_mem {α : Type} {m : Store α} (h : Store.sorted m = true) {e : Nat × α} (he : e ∈ m) :
    Store.find? m e.1 = some e.2 := (Store.find?_eq_some_iff h e.1 e.2).2 he

/-! ## The next segment id (R84) -/

theorem freeId_lt (m : Store Segment) (fuel n : Nat) : freeId m fuel n < 65536 := by
  induction fuel generalizing n with
  | zero => exact Nat.mod_lt _ (by decide)
  | succ fuel ih =>
    unfold freeId
    split
    · exact Nat.mod_lt _ (by decide)
    · exact ih _

/-- The search for an id stops at a free one, unless all the ids it tries are in use. -/
theorem freeId_free_or (m : Store Segment) (fuel n : Nat) :
    Store.find? m (freeId m fuel n) = none ∨ ∀ i, i < fuel → (Store.find? m ((n + i) % 65536)).isSome = true := by
  induction fuel generalizing n with
  | zero => exact .inr fun i hi => absurd hi (Nat.not_lt_zero i)
  | succ fuel ih =>
    unfold freeId
    split
    · rename_i hfree
      exact .inl (Option.isNone_iff_eq_none.1 hfree)
    · rename_i hused
      refine (ih (n + 1)).imp_right fun hall i hi => ?_
      cases i with
      | zero => cases h : Store.find? m (n % 65536) <;> simp_all
      | succ i =>
        have hnext := hall i (Nat.lt_of_succ_lt_succ hi)
        rwa [Nat.add_assoc, Nat.add_comm 1 i] at hnext

/-- More ids than there are entries are not all in use. -/
theorem not_all_ids_used {m : Store Segment} {fuel : Nat} (n : Nat) (hentries : m.length < fuel) (hids : fuel ≤ 65536) :
    ¬ ∀ i, i < fuel → (Store.find? m ((n + i) % 65536)).isSome = true := by
  intro hall
  have hnodup : ((List.range fuel).map fun i => (n + i) % 65536).Nodup := by
    refine List.Nodup.map_on (fun i hi j hj h => ?_) List.nodup_range
    rw [List.mem_range] at hi hj
    omega
  have hsub : ((List.range fuel).map fun i => (n + i) % 65536) ⊆ m.keys := by
    intro id hid
    obtain ⟨i, hi, rfl⟩ := List.mem_map.1 hid
    obtain ⟨g, hg⟩ := Option.isSome_iff_exists.1 (hall i (List.mem_range.1 hi))
    exact List.mem_map_of_mem (Store.mem_of_find? hg)
  have hlength := (hnodup.subperm hsub).length_le
  simp only [List.length_map, List.length_range, Store.keys] at hlength
  omega

/-- Of more ids than there are entries, one is free. -/
theorem freeId_free {m : Store Segment} {fuel : Nat} (n : Nat) (hentries : m.length < fuel) (hids : fuel ≤ 65536) :
    Store.find? m (freeId m fuel n) = none :=
  (freeId_free_or m fuel n).resolve_right (not_all_ids_used n hentries hids)

theorem State.nextSegmentId_free {s : State} (h : s.segments.length < 65536) : Store.find? s.segments s.nextSegmentId = none :=
  freeId_free _ (Nat.lt_succ_self _) h

/-! ## How many segments there are (R83) -/

/-- The books of the segment manager: the laws of the segments, the open segments and the lanes that they stand on. -/
structure State.SegmentBooks (s : State) : Prop where
  sorted_segments : Store.sorted s.segments = true
  lanes : s.lanesLawful
  segments : s.segmentsLawful
  openSegments : s.openSegmentsLawful
  exist : s.lanesExist

theorem State.Ledger.sorted_segments {s : State} (h : s.Ledger) : Store.sorted s.segments = true :=
  ((State.canonical_iff s).1 h.canonical).segments

theorem State.Ledger.segmentBooks {s : State} (h : s.Ledger) : s.SegmentBooks :=
  ⟨h.sorted_segments, h.lanes, h.segments, h.openSegments, h.exist⟩

/-- Each OPEN segment is the open segment of a stream of its own. -/
theorem State.SegmentBooks.openSegments_length {s : State} (h : s.SegmentBooks) :
    (s.segments.filter fun e => e.2.endCause.isNone).length ≤ 256 := by
  obtain ⟨-, hopen, -, hstate, hbound⟩ := h.openSegments
  have hfound : ∀ e ∈ s.segments.filter fun e => e.2.endCause.isNone, (s.stream e.2.stream).openSeg = some e.1 := by
    intro e he
    obtain ⟨hmem, hnone⟩ := List.mem_filter.1 he
    exact hopen e.1 e.2 (Store.find?_of_mem h.sorted_segments hmem) (Option.isNone_iff_eq_none.1 hnone)
  have hkeys : ((s.segments.filter fun e => e.2.endCause.isNone).map Prod.fst).Nodup :=
    (Store.keys_nodup h.sorted_segments).sublist (List.filter_sublist.map _)
  have hnodup : ((s.segments.filter fun e => e.2.endCause.isNone).map fun e => e.2.stream).Nodup := by
    rw [List.Nodup, List.pairwise_map] at hkeys ⊢
    refine hkeys.imp_of_mem fun {x y} hx hy hne hstream => hne ?_
    have hsame := hfound x hx
    rw [hstream, hfound y hy] at hsame
    exact (Option.some.inj hsame).symm
  have hsub : ((s.segments.filter fun e => e.2.endCause.isNone).map fun e => e.2.stream) ⊆ List.range 256 := by
    intro k hk
    obtain ⟨e, he, rfl⟩ := List.mem_map.1 hk
    refine List.mem_range.2 (hbound _ fun hunbound => ?_)
    rcases hstate _ (Option.isSome_of_eq_some (hfound e he)) with hs | hs <;> rw [hs] at hunbound <;> cases hunbound
  simpa using (hnodup.subperm hsub).length_le

/-- Each DRAINING segment has a record in flight that names it. -/
theorem State.SegmentBooks.drainingSegments_length {s : State} (h : s.SegmentBooks) :
    (s.segments.filter fun e => e.2.endCause.isSome).length ≤ 256 := by
  obtain ⟨hcounts, -, -⟩ := h.segments
  have hkeys : ((s.segments.filter fun e => e.2.endCause.isSome).map fun e => some e.1).Nodup := by
    have hfst : ((s.segments.filter fun e => e.2.endCause.isSome).map Prod.fst).Nodup :=
      (Store.keys_nodup h.sorted_segments).sublist (List.filter_sublist.map _)
    rw [List.Nodup, List.pairwise_map] at hfst ⊢
    exact hfst.imp fun hne heq => hne (Option.some.inj heq)
  have hsub : ((s.segments.filter fun e => e.2.endCause.isSome).map fun e => some e.1)
      ⊆ (List.range 8).flatMap fun l => (s.lane l).inflight.map InFlight.seg := by
    intro id hid
    obtain ⟨e, he, rfl⟩ := List.mem_map.1 hid
    obtain ⟨hmem, hcause⟩ := List.mem_filter.1 he
    obtain ⟨-, -, hissued, -, hdraining⟩ := hcounts e.1 e.2 (Store.find?_of_mem h.sorted_segments hmem)
    have hbelow := hdraining (Option.ne_none_iff_isSome.2 hcause)
    obtain ⟨r, hr⟩ := List.exists_mem_of_length_pos (show 0 < s.outstanding e.1 e.2 by omega)
    obtain ⟨hrecord, hseg⟩ := List.mem_filter.1 hr
    refine List.mem_flatMap.2 ⟨e.2.lane, List.mem_range.2 ?_, List.mem_map.2 ⟨r, hrecord, by simpa using hseg⟩⟩
    by_contra hlane
    rw [h.exist.1 e.2.lane (Nat.le_of_not_lt hlane)] at hrecord
    cases hrecord
  have hrecords : ((List.range 8).flatMap fun l => (s.lane l).inflight.map InFlight.seg).length ≤ 256 := by
    have hlane : ∀ l, (s.lane l).inflight.length ≤ 32 := fun l => (h.lanes l).2.1
    simp only [List.length_flatMap, List.length_map]
    have hsum := List.sum_le_card_nsmul ((List.range 8).map fun l => (s.lane l).inflight.length) 32 (by simpa using fun l _ => hlane l)
    simpa using hsum
  have hlength := (hkeys.subperm hsub).length_le
  rw [List.length_map] at hlength
  exact hlength.trans hrecords

theorem State.SegmentBooks.segments_length {s : State} (h : s.SegmentBooks) : s.segments.length ≤ 512 := by
  have hsplit := List.length_eq_length_filter_add (l := s.segments) fun e => e.2.endCause.isNone
  have hopen := h.openSegments_length
  have hdraining := h.drainingSegments_length
  have hnot : (fun e : Nat × Segment => !e.2.endCause.isNone) = fun e => e.2.endCause.isSome := by
    funext e
    cases e.2.endCause <;> rfl
  rw [hnot] at hsplit
  omega

end Sys2Proof.Machine
end

section
/-! The end of an event (R56, R82, R85, R86): what one segment request does, what the sweep over all streams does, and what the POOL-LOW
notices after it enqueue. -/

namespace Sys2Proof.Machine

open Sys2Proof

/-! ## Grants leave a lane (R82) -/

/-- The lane after grants have left the front of its normal queue: the armed flag goes when one has left and the count is at or below the
mark. -/
def Lane.drawn (x : Lane) (normal : List Grant) : Lane :=
  { x with normal := normal, armed := x.armed && !decide (normal ≠ x.normal ∧ normal.length ≤ x.poolLowMark) }

/-- `y` is `x` after some of its grants have left. -/
def Lane.Draws (x y : Lane) : Prop := y.normal.IsSuffix x.normal ∧ y = x.drawn y.normal

theorem Lane.Draws.refl (x : Lane) : x.Draws x := ⟨List.suffix_rfl, by simp [Lane.drawn]⟩

theorem Lane.draws_drawn {x : Lane} {normal : List Grant} (h : normal.IsSuffix x.normal) : x.Draws (x.drawn normal) := ⟨h, rfl⟩

theorem Lane.Draws.armed {x y : Lane} (h : x.Draws y) :
    y.armed = (x.armed && !decide (y.normal ≠ x.normal ∧ y.normal.length ≤ x.poolLowMark)) := (congrArg Lane.armed h.2).trans rfl

theorem Lane.Draws.poolLowMark {x y : Lane} (h : x.Draws y) : y.poolLowMark = x.poolLowMark := (congrArg Lane.poolLowMark h.2).trans rfl

theorem Lane.Draws.up {x y : Lane} (h : x.Draws y) : y.up = x.up := (congrArg Lane.up h.2).trans rfl

theorem Lane.Draws.normal_nil {x y : Lane} (h : x.Draws y) (hx : x.normal = []) : y.normal = [] :=
  List.suffix_nil.1 (hx ▸ h.1)

theorem Lane.Draws.trans {x y z : Lane} (hxy : x.Draws y) (hyz : y.Draws z) : x.Draws z := by
  have harmedy := hxy.armed
  have hmark := hxy.poolLowMark
  obtain ⟨hsuffix, hy⟩ := hxy
  obtain ⟨hsuffix', hz⟩ := hyz
  refine ⟨hsuffix'.trans hsuffix, ?_⟩
  have hlength := hsuffix'.length_le
  have hsame : z.normal = x.normal → y.normal = x.normal := fun h =>
    hsuffix.eq_of_length (Nat.le_antisymm hsuffix.length_le (h ▸ hlength))
  have harmed : (!decide (y.normal ≠ x.normal ∧ y.normal.length ≤ x.poolLowMark)
      && !decide (z.normal ≠ y.normal ∧ z.normal.length ≤ x.poolLowMark))
      = !decide (z.normal ≠ x.normal ∧ z.normal.length ≤ x.poolLowMark) := by
    rw [Bool.eq_iff_iff]
    simp only [Bool.and_eq_true, Bool.not_eq_true', decide_eq_false_iff_not, not_and, not_le]
    constructor
    · rintro ⟨hfirst, hsecond⟩ hne
      by_cases hzy : z.normal = y.normal
      · exact hzy ▸ hfirst (hzy ▸ hne)
      · exact hsecond hzy
    · refine fun h => ⟨fun hne => Nat.lt_of_lt_of_le (h fun hz => hne (hsame hz)) hlength, fun hne => h fun hz => hne ?_⟩
      rw [hz, hsame hz]
  calc z = y.drawn z.normal := hz
    _ = { x with normal := z.normal, armed := y.armed && !decide (z.normal ≠ y.normal ∧ z.normal.length ≤ y.poolLowMark) } := by
      conv_lhs => rw [hy]
      rw [hy]
      rfl
    _ = x.drawn z.normal := by
      rw [harmedy, hmark, Bool.and_assoc, harmed]
      rfl

/-! ## Opening a segment (R85) -/

theorem State.poolLowCheck_lane (s : State) (l j : Nat) : (s.poolLowCheck l).lane j = if j = l
    then { s.lane l with armed := (s.lane l).armed && !decide ((s.lane l).normal.length ≤ (s.lane l).poolLowMark) } else s.lane j := by
  unfold State.poolLowCheck
  dsimp only
  split
  · rename_i hlow
    refine (s.lane_setLane l { s.lane l with armed := false } j).trans ?_
    simp [hlow]
  · rename_i hhigh
    split
    · rename_i hj
      subst hj
      have harmed : ((s.lane j).armed && !decide ((s.lane j).normal.length ≤ (s.lane j).poolLowMark)) = (s.lane j).armed := by
        cases h : (s.lane j).armed
        · rfl
        · simpa [h] using hhigh
      rw [harmed]
    · rfl

theorem State.poolLowCheck_due (s : State) (l : Nat) : (s.poolLowCheck l).due
    = s.due ++ if (s.lane l).armed = true ∧ (s.lane l).normal.length ≤ (s.lane l).poolLowMark then [l] else [] := by
  unfold State.poolLowCheck
  dsimp only
  split
  · rfl
  · exact (List.append_nil _).symm

/-- The segment opened from the grant `g`, the normal queue left at `rest`, before the POOL-LOW check (R85). -/
def State.opening (s : State) (k l : Nat) (g : Grant) (rest : List Grant) : State :=
  { s with
    lanes := Store.setD {} s.lanes l { s.lane l with normal := rest }
    segments := Store.insert s.segments s.nextSegmentId { stream := k, lane := l, block := g.block, capacity := g.capacity }
    nextSegment := (s.nextSegmentId + 1) % 65536
    streams := Store.setD {} s.streams k { s.stream k with state := .opened, openSeg := some s.nextSegmentId, lastLane := l } }

section

variable {s : State} {k l : Nat} {g : Grant} {rest : List Grant}

theorem State.openFrom_eq (hnormal : (s.lane l).normal = g :: rest) : s.openFrom k l = (s.opening k l g rest).poolLowCheck l := by
  unfold State.openFrom
  simp only [hnormal]
  rfl

theorem State.opening_lane (j : Nat) :
    (s.opening k l g rest).lane j = if j = l then { s.lane l with normal := rest } else s.lane j := Store.getD_setD ..

theorem State.openFrom_lane (hnormal : (s.lane l).normal = g :: rest) (j : Nat) :
    (s.openFrom k l).lane j = if j = l then (s.lane l).drawn rest else s.lane j := by
  have hne : rest ≠ (s.lane l).normal := by simp [hnormal]
  rw [State.openFrom_eq hnormal, State.poolLowCheck_lane]
  simp only [State.opening_lane]
  split
  · simp [Lane.drawn, hne]
  · rfl

theorem State.openFrom_stream (hnormal : (s.lane l).normal = g :: rest) (j : Nat) :
    (s.openFrom k l).stream j
      = if j = k then { s.stream k with state := .opened, openSeg := some s.nextSegmentId, lastLane := l } else s.stream j := by
  rw [State.openFrom_eq hnormal, congrFun (agree (π := State.stream) (State.poolLowCheck_frame _ l)) j]
  exact s.stream_setStream k { s.stream k with state := .opened, openSeg := some s.nextSegmentId, lastLane := l } j

theorem State.openFrom_segments (hnormal : (s.lane l).normal = g :: rest) :
    (s.openFrom k l).segments
      = Store.insert s.segments s.nextSegmentId { stream := k, lane := l, block := g.block, capacity := g.capacity } := by
  rw [State.openFrom_eq hnormal]
  exact agree (π := State.segments) (State.poolLowCheck_frame _ l)

theorem State.openFrom_due (hnormal : (s.lane l).normal = g :: rest) :
    (s.openFrom k l).due = s.due ++ if (s.lane l).armed = true ∧ rest.length ≤ (s.lane l).poolLowMark then [l] else [] := by
  rw [State.openFrom_eq hnormal, State.poolLowCheck_due]
  simp only [State.opening_lane, if_pos]
  rfl

end

/-! ## The answer to a request (R85, R86) -/

theorem State.laneFor_cases (s : State) (k : Nat) :
    (∃ l i g rest, s.laneFor (s.stream k) = some l ∧ i < 8 ∧ l = ((s.stream k).lastLane + 1 + i) % 8
        ∧ (s.stream k).laneSet.getLsbD l = true ∧ (s.lane l).up = true ∧ (s.lane l).normal = g :: rest
        ∧ ∀ j, j < i → s.givesNone s k (((s.stream k).lastLane + 1 + j) % 8))
      ∨ s.laneFor (s.stream k) = none ∧ ∀ l, l < 8 → s.givesNone s k l := by
  have hgives : ∀ l, ((s.stream k).onLane l && (s.lane l).canGrant) = false → s.givesNone s k l := by
    intro l hl hon hup
    simpa [Stream.onLane, Lane.canGrant, hon, hup] using hl
  have hrange : s.laneFor (s.stream k)
      = ((List.range 8).find? fun i => (s.stream k).onLane (((s.stream k).lastLane + 1 + i) % 8)
          && (s.lane (((s.stream k).lastLane + 1 + i) % 8)).canGrant).map fun i => ((s.stream k).lastLane + 1 + i) % 8 := by
    unfold State.laneFor laneOrder
    exact List.find?_map
  cases hfind : (List.range 8).find? fun i => (s.stream k).onLane (((s.stream k).lastLane + 1 + i) % 8)
      && (s.lane (((s.stream k).lastLane + 1 + i) % 8)).canGrant with
  | none =>
    refine .inr ⟨by rw [hrange, hfind]; rfl, fun l hl => hgives l ?_⟩
    have hall := List.find?_eq_none.1 hfind ((l + 7 - (s.stream k).lastLane % 8) % 8) (List.mem_range.2 (Nat.mod_lt _ (by decide)))
    have hindex : ((s.stream k).lastLane + 1 + (l + 7 - (s.stream k).lastLane % 8) % 8) % 8 = l := by omega
    rw [hindex] at hall
    simpa using hall
  | some i =>
    obtain ⟨hi, hmem, hbefore⟩ := List.find?_range_eq_some.1 hfind
    have hcan := hi
    simp only [Stream.onLane, Lane.canGrant, Bool.and_eq_true, Bool.not_eq_true', List.isEmpty_eq_false_iff] at hcan
    obtain ⟨hon, hup, hgrants⟩ := hcan
    obtain ⟨g, rest, hnormal⟩ := List.exists_cons_of_ne_nil hgrants
    exact .inl ⟨_, i, g, rest, by rw [hrange, hfind]; rfl, List.mem_range.1 hmem, rfl, hon, hup, hnormal,
      fun j hj => hgives _ (Bool.not_eq_true' _ ▸ hbefore j hj)⟩

/-- What one due or undue request leaves (R56, R85, R86). -/
structure State.Asked (v w : State) (k : Nat) : Prop where
  frame : w.butRequestSegment = v.butRequestSegment
  stream : w.stream k = { v.stream k with
    state := (w.stream k).state, openSeg := (w.stream k).openSeg, lastLane := (w.stream k).lastLane }
  others : ∀ j, j ≠ k ∨ (v.stream j).state ≠ .idle → w.stream j = v.stream j
  lanes : ∀ l, (v.lane l).Draws (w.lane l)
  length : w.segments.length ≤ v.segments.length + 1
  kept : v.segments.length < 65536 → ∀ id g, Store.find? v.segments id = some g → Store.find? w.segments id = some g
  fresh : ∀ id g, Store.find? w.segments id = some g →
    Store.find? v.segments id = some g ∨ (v.stream k).state = .idle ∧ g.stream = k ∧ (w.stream k).openSeg = some id
  asks : v.part = .run → (v.stream k).state = .idle → (v.stream k).openSeg = none → v.asksSegment w k
  notices : (w.starved = v.starved ∧ w.returns = v.returns ∧ ((v.stream k).state = .idle → (w.stream k).state ≠ .starved))
    ∨ ((v.stream k).state = .idle ∧ (w.stream k).state = .starved ∧ w.starved = v.starved ++ [k]
      ∧ w.returns = v.returns ++ [.streamStarved k])
  due : ∃ ls, w.due = v.due ++ ls ∧ ∀ l, l ∈ ls ↔ (v.lane l).armed = true ∧ (w.lane l).armed = false

theorem Store.length_insert_le {α : Type} (m : Store α) (n : Nat) (a : α) : (Store.insert m n a).length ≤ m.length + 1 := by
  induction m with
  | nil => exact Nat.le_refl _
  | cons e t ih =>
    obtain ⟨k, v⟩ := e
    unfold Store.insert
    repeat' split
    · exact Nat.le_refl _
    · exact Nat.le_succ _
    · exact Nat.succ_le_succ ih

theorem State.asked_undue {v : State} {k : Nat} (h : (v.stream k).state = .idle → (v.stream k).ready = 0) : v.Asked v k where
  frame := rfl
  stream := rfl
  others _ _ := rfl
  lanes l := .refl _
  length := Nat.le_succ _
  kept _ _ _ h := h
  fresh _ _ h := .inl h
  asks _ hidle hnone := by
    unfold State.asksSegment
    rw [if_neg (by rw [h hidle]; omega)]
    exact ⟨hidle, hnone, rfl⟩
  notices := .inl ⟨rfl, rfl, fun hidle => by rw [hidle]; decide⟩
  due := ⟨[], by simp, fun l => by cases (v.lane l).armed <;> simp⟩

theorem State.asked_starve {v : State} {k : Nat} (hidle : (v.stream k).state = .idle) (hready : 1 ≤ (v.stream k).ready)
    (hnone : ∀ l, l < 8 → v.givesNone v k l) : v.Asked (v.starve k) k := by
  have hstream : ∀ j, (v.starve k).stream j = if j = k then { v.stream k with state := .starved } else v.stream j :=
    fun j => v.stream_setStream k { v.stream k with state := .starved } j
  have hself := (hstream k).trans (if_pos rfl)
  exact {
    frame := rfl
    stream := by rw [hself]
    others := fun j hj => by rw [hstream, if_neg (hj.elim id fun hstate hjk => hstate (hjk ▸ hidle))]
    lanes := fun l => .refl _
    length := Nat.le_succ _
    kept := fun _ _ _ h => h
    fresh := fun _ _ h => .inl h
    asks := fun hrun _ hopen => by
      unfold State.asksSegment
      rw [if_pos ⟨hrun, by rw [hself]; exact hready⟩, hself]
      exact .inr ⟨rfl, hopen, List.mem_append_right _ List.mem_cons_self, hnone⟩
    notices := .inr ⟨hidle, by rw [hself], rfl, rfl⟩
    due := ⟨[], (List.append_nil _).symm, fun l => by
      show l ∈ [] ↔ (v.lane l).armed = true ∧ (v.lane l).armed = false
      cases (v.lane l).armed <;> simp⟩ }

theorem State.asked_openFrom {v : State} {k l i : Nat} {g : Grant} {rest : List Grant} (hidle : (v.stream k).state = .idle)
    (hready : 1 ≤ (v.stream k).ready) (hi : i < 8) (hl : l = ((v.stream k).lastLane + 1 + i) % 8)
    (hon : (v.stream k).laneSet.getLsbD l = true) (hup : (v.lane l).up = true) (hnormal : (v.lane l).normal = g :: rest)
    (hbefore : ∀ j, j < i → v.givesNone v k (((v.stream k).lastLane + 1 + j) % 8)) : v.Asked (v.openFrom k l) k := by
  have hself := (State.openFrom_stream (k := k) hnormal k).trans (if_pos rfl)
  have hlanes : ∀ j, (v.lane j).Draws ((v.openFrom k l).lane j) := by
    intro j
    rw [State.openFrom_lane hnormal]
    split
    · rename_i hj
      subst hj
      exact Lane.draws_drawn (hnormal ▸ List.suffix_cons g rest)
    · exact .refl _
  have hstarved : (v.openFrom k l).starved = v.starved := agree (v.openFrom_frame k l)
  have hreturns : (v.openFrom k l).returns = v.returns := agree (v.openFrom_frame k l)
  exact {
    frame := agree (v.openFrom_frame k l)
    stream := by rw [hself]
    others := fun j hj => by
      rw [State.openFrom_stream hnormal, if_neg (hj.elim id fun hstate hjk => hstate (hjk ▸ hidle))]
    lanes := hlanes
    length := State.openFrom_segments (k := k) hnormal ▸ Store.length_insert_le _ _ _
    kept := fun hroom id h hfound => by
      rw [State.openFrom_segments hnormal, Store.find?_insert_ne _ _ fun hid => ?_]
      · exact hfound
      · rw [hid, State.nextSegmentId_free hroom] at hfound
        cases hfound
    fresh := fun id h hfound => by
      rw [State.openFrom_segments hnormal, Store.find?_insert] at hfound
      split at hfound
      · rename_i hid
        cases hfound
        exact .inr ⟨hidle, rfl, by rw [hself, hid]⟩
      · exact .inl hfound
    asks := fun hrun _ _ => by
      unfold State.asksSegment
      rw [if_pos ⟨hrun, by rw [hself]; exact hready⟩, hself]
      refine .inl ⟨rfl, _, { stream := k, lane := l, block := g.block, capacity := g.capacity }, i, rfl, ?_, rfl, rfl, rfl,
        (hlanes l).up.trans hup, hon, rfl, hi, hl, fun j hj hset hjup => ?_⟩
      · rw [State.openFrom_segments hnormal, Store.find?_insert_self]
      · exact (hlanes _).normal_nil (hbefore j hj hset ((hlanes _).up ▸ hjup))
    notices := .inl ⟨hstarved, hreturns, fun _ => by rw [hself]; simp⟩
    due := by
      refine ⟨_, State.openFrom_due hnormal, fun j => ?_⟩
      have harmed := (hlanes j).armed
      by_cases hj : j = l
      · subst hj
        have hdrawn : ((v.openFrom k j).lane j).normal = rest := by rw [State.openFrom_lane hnormal, if_pos rfl]; rfl
        rw [hdrawn] at harmed
        rw [harmed]
        cases (v.lane j).armed <;> simp [hnormal]
      · rw [State.openFrom_lane hnormal, if_neg hj]
        have hnot : j ∉ (if (v.lane l).armed = true ∧ rest.length ≤ (v.lane l).poolLowMark then [l] else []) := by
          split <;> simp [hj]
        cases (v.lane j).armed <;> simp [hnot] }

theorem State.asked_requestIfDue (v : State) (k : Nat) : v.Asked (v.requestIfDue k) k := by
  by_cases hdue : (v.stream k).state = .idle ∧ 1 ≤ (v.stream k).ready
  · have hrequest : v.requestIfDue k = v.requestSegment k := if_pos hdue
    rw [hrequest]
    unfold State.requestSegment
    rcases v.laneFor_cases k with ⟨l, i, g, rest, hlane, hi, hl, hon, hup, hnormal, hbefore⟩ | ⟨hlane, hnone⟩
    · rw [hlane]
      exact State.asked_openFrom hdue.1 hdue.2 hi hl hon hup hnormal hbefore
    · rw [hlane]
      exact State.asked_starve hdue.1 hdue.2 hnone
  · have hundue : (v.stream k).state = .idle → (v.stream k).ready = 0 := fun hidle => by
      by_contra hready
      exact hdue ⟨hidle, Nat.pos_of_ne_zero hready⟩
    rw [State.requestIfDue_of hundue]
    exact State.asked_undue hundue

/-! ## The sweep over the streams (R56) -/

theorem State.asksSegment_congr {s u t : State} {k : Nat} (hpart : s.part = u.part) (hset : (s.stream k).laneSet = (u.stream k).laneSet)
    (hlast : (s.stream k).lastLane = (u.stream k).lastLane) (h : u.asksSegment t k) : s.asksSegment t k := by
  unfold State.asksSegment State.givesNone at *
  rw [hpart, hset, hlast]
  exact h

/-- What a request has left for a stream stays so in an event that keeps the stream and the segments, and takes grants alone from lanes. -/
theorem State.asksSegment_mono {s t w : State} {k : Nat} (hstream : w.stream k = t.stream k) (hlanes : ∀ l, (t.lane l).Draws (w.lane l))
    (hkept : ∀ id g, Store.find? t.segments id = some g → Store.find? w.segments id = some g) (hstarved : ∀ j ∈ t.starved, j ∈ w.starved)
    (h : s.asksSegment t k) : s.asksSegment w k := by
  have hgives : ∀ l, s.givesNone t k l → s.givesNone w k l := fun l hl hset hup => (hlanes l).normal_nil (hl hset ((hlanes l).up ▸ hup))
  unfold State.asksSegment at *
  rw [hstream]
  split
  · rename_i hdue
    rw [if_pos hdue] at h
    refine h.imp ?_ ?_
    · rintro ⟨hstate, id, g, i, hseg, hfound, hk, hissued, hcause, hup, hset, hlast, hi, hlane, hbefore⟩
      exact ⟨hstate, id, g, i, hseg, hkept _ _ hfound, hk, hissued, hcause, (hlanes _).up.trans hup, hset, hlast, hi, hlane,
        fun j hj => hgives _ (hbefore j hj)⟩
    · rintro ⟨hstate, hseg, hlisted, hnone⟩
      exact ⟨hstate, hseg, hstarved _ hlisted, fun l hl => hgives l (hnone l hl)⟩
  · rename_i hdue
    rwa [if_neg hdue] at h

/-- Every request of the sweep finds a free segment id, and no IDLE stream has an open segment. -/
def State.roomy (u : State) : Prop :=
  u.segments.length ≤ 512 ∧ ∀ k, (u.stream k).state = .idle → (u.stream k).openSeg = none

/-- What the requests of the streams below `n` leave. -/
structure State.Swept (u v : State) (n : Nat) : Prop where
  frame : v.butRequestSegment = u.butRequestSegment
  streams : ∀ k, v.stream k = { u.stream k with
    state := (v.stream k).state, openSeg := (v.stream k).openSeg, lastLane := (v.stream k).lastLane }
  others : ∀ k, n ≤ k ∨ (u.stream k).state ≠ .idle → v.stream k = u.stream k
  lanes : ∀ l, (u.lane l).Draws (v.lane l)
  length : v.segments.length ≤ u.segments.length + n
  kept : u.segments.length ≤ 1024 → ∀ id g, Store.find? u.segments id = some g → Store.find? v.segments id = some g
  fresh : u.roomy → ∀ id g, Store.find? v.segments id = some g →
    Store.find? u.segments id = some g ∨ (u.stream g.stream).state = .idle ∧ (v.stream g.stream).openSeg = some id
  asks : u.part = .run → u.segments.length ≤ 1024 → ∀ k, k < n → (u.stream k).state = .idle → (u.stream k).openSeg = none → u.asksSegment v k
  notices : ∃ ks, v.starved = u.starved ++ ks ∧ ks.Pairwise (· < ·) ∧ (∀ k ∈ ks, k < n)
    ∧ (∀ k, k ∈ ks ↔ (u.stream k).state = .idle ∧ (v.stream k).state = .starved)
    ∧ v.returns = u.returns ++ ks.map ReturnParcel.streamStarved
  due : ∃ ls, v.due = u.due ++ ls ∧ ∀ l, l ∈ ls ↔ (u.lane l).armed = true ∧ (v.lane l).armed = false

theorem State.swept_zero (u : State) : u.Swept u 0 where
  frame := rfl
  streams _ := rfl
  others _ _ := rfl
  lanes l := .refl _
  length := Nat.le_refl _
  kept _ _ _ h := h
  fresh _ _ _ h := .inl h
  asks _ _ k hk := absurd hk (Nat.not_lt_zero k)
  notices := ⟨[], by simp, .nil, by simp, fun k => by cases (u.stream k).state <;> simp, by simp⟩
  due := ⟨[], by simp, fun l => by cases (u.lane l).armed <;> simp⟩

/-- The next stream of the sweep. -/
theorem State.Swept.next {u v w : State} {n : Nat} (hn : n < 256) (h : u.Swept v n) (hw : v.Asked w n) : u.Swept w (n + 1) := by
  have hstream : v.stream n = u.stream n := h.others n (.inl (Nat.le_refl n))
  have hlength : u.segments.length ≤ 1024 → v.segments.length < 65536 := fun hroom => by
    have := h.length
    omega
  have hsame : ∀ k, k ≠ n → w.stream k = v.stream k := fun k hk => hw.others k (.inl hk)
  obtain ⟨ks, hstarved, hsorted, hbelow, hmem, hreturns⟩ := h.notices
  obtain ⟨ls, hdue, hlow⟩ := h.due
  obtain ⟨ls', hdue', hlow'⟩ := hw.due
  exact {
    frame := hw.frame.trans h.frame
    streams := fun k => by
      by_cases hk : k = n
      · subst hk
        have := hw.stream
        rwa [hstream] at this
      · rw [hsame k hk]
        exact h.streams k
    others := fun k hk => by
      by_cases hkn : k = n
      · subst hkn
        have hstate : (v.stream k).state ≠ .idle := by
          rw [hstream]
          exact hk.resolve_left (by omega)
        rw [hw.others k (.inr hstate), hstream]
      · rw [hsame k hkn]
        exact h.others k (hk.imp_left fun hle => by omega)
    lanes := fun l => (h.lanes l).trans (hw.lanes l)
    length := hw.length.trans (Nat.add_le_add_right h.length 1)
    kept := fun hroom id g hfound => hw.kept (hlength hroom) id g (h.kept hroom id g hfound)
    fresh := fun hroom id g hfound => by
      rcases hw.fresh id g hfound with hold | ⟨hidle, hk, hopen⟩
      · rcases h.fresh hroom id g hold with hold | ⟨hidle, hopen⟩
        · exact .inl hold
        · refine .inr ⟨hidle, ?_⟩
          by_cases hk : g.stream = n
          · rw [hk] at hidle hopen
            rw [hstream, hroom.2 n hidle] at hopen
            cases hopen
          · rw [hsame _ hk]
            exact hopen
      · exact .inr ⟨by rw [hk, ← hstream]; exact hidle, by rw [hk]; exact hopen⟩
    asks := fun hrun hroom k hk hidle hopen => by
      have hpart : v.part = u.part := agree h.frame
      by_cases hkn : k = n
      · subst hkn
        have hasks := hw.asks (hpart.trans hrun) (by rw [hstream]; exact hidle) (by rw [hstream]; exact hopen)
        exact State.asksSegment_congr hpart.symm (by rw [hstream]) (by rw [hstream]) hasks
      · refine State.asksSegment_mono (hsame k hkn) hw.lanes (hw.kept (hlength hroom)) (fun j hj => ?_)
          (h.asks hrun hroom k (by omega) hidle hopen)
        rcases hw.notices with ⟨hlist, -⟩ | ⟨-, -, hlist, -⟩ <;> rw [hlist]
        · exact hj
        · exact List.mem_append_left _ hj
    notices := by
      rcases hw.notices with ⟨hlist, hqueue, hnot⟩ | ⟨hidle, hstate, hlist, hqueue⟩
      · refine ⟨ks, hlist.trans hstarved, hsorted, fun k hk => Nat.lt_succ_of_lt (hbelow k hk), fun k => ?_, hqueue.trans hreturns⟩
        rw [hmem]
        by_cases hk : k = n
        · subst hk
          rw [hstream] at hnot ⊢
          refine ⟨fun ⟨hidle, hstate⟩ => ?_, fun ⟨hidle, hstate⟩ => absurd hstate (hnot hidle)⟩
          rw [hidle] at hstate
          cases hstate
        · rw [hsame k hk]
      · refine ⟨ks ++ [n], by rw [hlist, hstarved, List.append_assoc], ?_, ?_, fun k => ?_, ?_⟩
        · exact List.pairwise_append.2 ⟨hsorted, List.pairwise_singleton _ _, fun a ha b hb => by
            rw [List.mem_singleton.1 hb]
            exact hbelow a ha⟩
        · intro k hk
          rcases List.mem_append.1 hk with hk | hk
          · exact Nat.lt_succ_of_lt (hbelow k hk)
          · rw [List.mem_singleton.1 hk]
            exact Nat.lt_succ_self n
        · rw [List.mem_append, List.mem_singleton, hmem]
          by_cases hk : k = n
          · subst hk
            rw [← hstream]
            exact ⟨fun _ => ⟨hidle, hstate⟩, fun _ => .inr rfl⟩
          · rw [hsame k hk]
            exact or_iff_left hk
        · rw [hqueue, hreturns, List.map_append, List.append_assoc]
          rfl
    due := by
      refine ⟨ls ++ ls', by rw [hdue', hdue, List.append_assoc], fun l => ?_⟩
      rw [List.mem_append, hlow, hlow']
      have hfirst := (h.lanes l).armed
      have hsecond := (hw.lanes l).armed
      revert hfirst hsecond
      cases (u.lane l).armed <;> cases (v.lane l).armed <;> cases (w.lane l).armed <;> simp }

theorem State.swept (u : State) (n : Nat) (hn : n ≤ 256) : u.Swept ((List.range n).foldl State.requestIfDue u) n := by
  induction n with
  | zero => exact u.swept_zero
  | succ n ih =>
    rw [List.range_succ, List.foldl_append]
    exact (ih (Nat.le_of_succ_le hn)).next hn (State.asked_requestIfDue _ n)

/-! ## The POOL-LOW notices (R82) -/

/-- Every POOL-LOW due is enqueued once. -/
theorem State.sendPoolLows_all (n : Nat) (ls : List Nat) (s : State) (hn : ls.length ≤ n) :
    ∃ order : List Nat, order.Perm ls
      ∧ (State.sendPoolLows n ls s).returns = s.returns ++ order.map fun l => .poolLow l (s.lane l).normal.length := by
  induction n generalizing ls s with
  | zero =>
    obtain rfl := List.length_eq_zero_iff.1 (Nat.le_zero.1 hn)
    exact ⟨[], .nil, by simp [State.sendPoolLows]⟩
  | succ n ih =>
    match ls, hn with
    | [], _ => exact ⟨[], .nil, by simp [State.sendPoolLows]⟩
    | [l], _ => exact ⟨[l], .refl _, rfl⟩
    | l :: m :: ls, hn =>
      generalize hi : Config.freeChoice s.draws % ((m :: ls).length + 1) = i
      have hbound : i < (l :: m :: ls).length := hi ▸ Nat.mod_lt _ (Nat.succ_pos _)
      generalize hx : (l :: m :: ls).getD i l = x
      have hget : (l :: m :: ls)[i] = x := by rw [← hx, List.getD_eq_getElem _ _ hbound]
      obtain ⟨order, hperm, hreturns⟩ := ih ((l :: m :: ls).eraseIdx i)
        { s.enqueue (.poolLow x (s.lane x).normal.length) with draws := s.draws + 1 }
        (by rw [List.length_eraseIdx_of_lt hbound]; omega)
      refine ⟨x :: order, (hperm.cons x).trans (hget ▸ List.getElem_cons_eraseIdx_perm hbound), ?_⟩
      rw [State.sendPoolLows, hi, hx, hreturns, State.enqueue_returns, List.append_assoc]
      · rfl
      · exact List.cons_ne_nil _ _

theorem State.poolLowNotices_all (s : State) : ∃ order : List Nat, order.Perm s.due
    ∧ s.poolLowNotices.returns = s.returns ++ order.map fun l => .poolLow l (s.lane l).normal.length :=
  State.sendPoolLows_all _ _ { s with due := [] } (Nat.le_refl _)

/-! ## What ends an event -/

theorem State.segmentRequests_stay {u : State} (h : u.part ≠ .run) : u.segmentRequests = u := if_neg h

theorem State.segmentRequests_swept {u : State} (h : u.part = .run) : u.Swept u.segmentRequests 256 := by
  have hsweep : u.segmentRequests = (List.range 256).foldl State.requestIfDue u := if_pos h
  exact hsweep ▸ u.swept 256 (Nat.le_refl _)

/-- Outside RUN an IDLE stream is left as it was. -/
theorem State.asksSegment_still {u : State} {k : Nat} (hpart : u.part ≠ .run) (hidle : (u.stream k).state = .idle)
    (hopen : (u.stream k).openSeg = none) : u.asksSegment u k := by
  unfold State.asksSegment
  rw [if_neg fun h => hpart h.1]
  exact ⟨hidle, hopen, rfl⟩

theorem State.swept_still {u : State} (hpart : u.part ≠ .run) : u.Swept u 256 where
  frame := rfl
  streams _ := rfl
  others _ _ := rfl
  lanes l := .refl _
  length := Nat.le_add_right _ _
  kept _ _ _ h := h
  fresh _ _ _ h := .inl h
  asks hrun := absurd hrun hpart
  notices := ⟨[], by simp, .nil, by simp, fun k => by cases (u.stream k).state <;> simp, by simp⟩
  due := ⟨[], by simp, fun l => by cases (u.lane l).armed <;> simp⟩

theorem State.swept_segmentRequests (u : State) : u.Swept u.segmentRequests 256 := by
  by_cases hpart : u.part = .run
  · exact State.segmentRequests_swept hpart
  · rw [State.segmentRequests_stay hpart]
    exact State.swept_still hpart

theorem State.asksSegment_segmentRequests {u : State} (hroom : u.segments.length ≤ 1024) {k : Nat} (hk : k < 256)
    (hidle : (u.stream k).state = .idle) (hopen : (u.stream k).openSeg = none) : u.asksSegment u.segmentRequests k := by
  by_cases hpart : u.part = .run
  · exact u.swept_segmentRequests.asks hpart hroom k hk hidle hopen
  · rw [State.segmentRequests_stay hpart]
    exact State.asksSegment_still hpart hidle hopen

/-- What the requests and the notices at the end of an event leave, in terms of the state before them: that of the sweep, but for the
parcels. -/
structure State.EndsAs (u t : State) : Prop where
  streams : ∀ k, t.stream k = { u.stream k with
    state := (t.stream k).state, openSeg := (t.stream k).openSeg, lastLane := (t.stream k).lastLane }
  others : ∀ k, 256 ≤ k ∨ (u.stream k).state ≠ .idle → t.stream k = u.stream k
  lanes : ∀ l, (u.lane l).Draws (t.lane l)
  kept : u.segments.length ≤ 1024 → ∀ id g, Store.find? u.segments id = some g → Store.find? t.segments id = some g
  fresh : u.roomy → ∀ id g, Store.find? t.segments id = some g →
    Store.find? u.segments id = some g ∨ (u.stream g.stream).state = .idle ∧ (t.stream g.stream).openSeg = some id
  asks : u.segments.length ≤ 1024 → ∀ k, k < 256 → (u.stream k).state = .idle → (u.stream k).openSeg = none → u.asksSegment t k
  notices : ∃ starved low, t.starved = u.starved ++ starved ∧ starved.Pairwise (· < ·)
    ∧ (∀ k, k ∈ starved ↔ (u.stream k).state = .idle ∧ (t.stream k).state = .starved)
    ∧ t.returns = u.returns ++ starved.map ReturnParcel.streamStarved ++ low
    ∧ (∀ p ∈ low, ∃ l n, p = .poolLow l n)
    ∧ (u.due = [] → ∀ p, p ∈ low ↔ ∃ l, (u.lane l).armed = true ∧ (t.lane l).armed = false ∧ p = .poolLow l (t.lane l).normal.length)

theorem State.endRequests_ends (u : State) : u.EndsAs u.endRequests := by
  have h := u.swept_segmentRequests
  have hstream : u.endRequests.stream = u.segmentRequests.stream := agree u.segmentRequests.poolLowNotices_frame
  have hlane : u.endRequests.lane = u.segmentRequests.lane := agree u.segmentRequests.poolLowNotices_frame
  have hsegments : u.endRequests.segments = u.segmentRequests.segments := agree u.segmentRequests.poolLowNotices_frame
  have hlist : u.endRequests.starved = u.segmentRequests.starved := agree u.segmentRequests.poolLowNotices_frame
  obtain ⟨order, hperm, hreturns⟩ := u.segmentRequests.poolLowNotices_all
  obtain ⟨ks, hstarved, hsorted, -, hmem, hqueue⟩ := h.notices
  obtain ⟨ls, hdue, hlow⟩ := h.due
  exact {
    streams := fun k => by rw [hstream]; exact h.streams k
    others := fun k hk => by rw [hstream]; exact h.others k hk
    lanes := fun l => by rw [hlane]; exact h.lanes l
    kept := fun hroom => by rw [hsegments]; exact h.kept hroom
    fresh := fun hroom => by rw [hsegments, hstream]; exact h.fresh hroom
    asks := fun hroom k hk hidle hopen => by
      refine State.asksSegment_mono (congrFun hstream k) (fun l => ?_) (fun id g hfound => ?_) (fun j hj => ?_)
        (State.asksSegment_segmentRequests hroom hk hidle hopen)
      · rw [hlane]
        exact .refl _
      · rw [hsegments]
        exact hfound
      · rw [hlist]
        exact hj
    notices := by
      refine ⟨ks, _, hlist.trans hstarved, hsorted, fun k => by rw [hstream]; exact hmem k, hqueue ▸ hreturns, ?_, ?_⟩
      · intro p hp
        obtain ⟨l, -, rfl⟩ := List.mem_map.1 hp
        exact ⟨_, _, rfl⟩
      · intro hnone p
        rw [hlane, List.mem_map]
        have hall : ∀ l, l ∈ order ↔ (u.lane l).armed = true ∧ (u.segmentRequests.lane l).armed = false := by
          intro l
          rw [hperm.mem_iff, hdue, hnone, List.nil_append, hlow]
        constructor
        · rintro ⟨l, hl, rfl⟩
          exact ⟨l, ((hall l).1 hl).1, ((hall l).1 hl).2, rfl⟩
        · rintro ⟨l, harmed, hclear, rfl⟩
          exact ⟨l, (hall l).2 ⟨harmed, hclear⟩, rfl⟩ }

theorem State.poolLowNotices_due (u : State) : u.poolLowNotices.due = [] := by
  have hdue : ∀ n ls (s : State), s.due = [] → (State.sendPoolLows n ls s).due = [] := by
    intro n
    induction n with
    | zero => exact fun _ _ h => h
    | succ n ih =>
      intro ls s hs
      match ls with
      | [] => exact hs
      | [_] => exact hs
      | _ :: _ :: _ => exact ih _ _ hs
  exact hdue _ _ _ rfl

theorem State.endRequests_due (u : State) : u.endRequests.due = [] := u.segmentRequests.poolLowNotices_due

theorem State.endRequests_laneLinks (u : State) : u.endRequests.laneLinks = u.laneLinks := agree u.endRequests_frame

theorem State.Ledger.roomy {s : State} (h : s.Ledger) : s.roomy := by
  obtain ⟨-, -, -, hstate, -⟩ := h.openSegments
  refine ⟨h.segmentBooks.segments_length, fun k hidle => ?_⟩
  by_contra hopen
  rcases hstate k (Option.isSome_iff_ne_none.2 hopen) with hs | hs <;> rw [hidle] at hs <;> cases hs

theorem State.roomy_congr {s u : State} (hsegments : u.segments = s.segments)
    (hstreams : ∀ k, (u.stream k).state = (s.stream k).state ∧ (u.stream k).openSeg = (s.stream k).openSeg) (h : s.roomy) : u.roomy := by
  refine ⟨hsegments ▸ h.1, fun k hidle => ?_⟩
  obtain ⟨hstate, hopen⟩ := hstreams k
  exact hopen.trans (h.2 k (hstate ▸ hidle))

/-- An event whose acts before the requests change no stream's state, lane set, open segment or last lane, no segment, no lane and no
lane link, ends in what its requests make (R56, R82). -/
theorem State.requestsMade {s u : State} (hpart : u.part = s.part)
    (hstreams : ∀ k, (u.stream k).state = (s.stream k).state ∧ (u.stream k).openSeg = (s.stream k).openSeg
      ∧ (u.stream k).lastLane = (s.stream k).lastLane ∧ (u.stream k).laneSet = (s.stream k).laneSet)
    (hsegments : u.segments = s.segments) (hlanes : ∀ l, u.lane l = s.lane l) (hlinks : u.laneLinks = s.laneLinks)
    (hstarved : u.starved = s.starved) (hdue : u.due = s.due) : s.RequestsMade u.endRequests u.returns s.Ledger := by
  have h := u.endRequests_ends
  have hroom : s.Ledger → u.roomy := fun hs =>
    State.roomy_congr hsegments (fun k => ⟨(hstreams k).1, (hstreams k).2.1⟩) hs.roomy
  exact {
    idle := fun hs k hk hidle => by
      obtain ⟨hstate, -, hlast, hset⟩ := hstreams k
      exact State.asksSegment_congr hpart.symm hset.symm hlast.symm (h.asks (Nat.le_trans (hroom hs).1 (by decide)) k hk (hstate.trans hidle) ((hroom hs).2 k (hstate.trans hidle)))
    others := fun k hk => by
      obtain ⟨hstate, hopen, hlast, -⟩ := hstreams k
      rw [h.others k (.inr (hstate ▸ hk))]
      exact ⟨hstate, hopen, hlast⟩
    segments := fun hs => by
      rw [← hsegments]
      refine ⟨h.kept (Nat.le_trans (hroom hs).1 (by decide)), fun id g hfound => (h.fresh (hroom hs) id g hfound).imp_right fun ⟨hidle, hopen⟩ => ⟨?_, hopen⟩⟩
      exact (hstreams _).1 ▸ hidle
    lanes := fun l => hlanes l ▸ h.lanes l
    links := u.endRequests_laneLinks.trans hlinks
    notices := by
      obtain ⟨starved, low, hlist, hsorted, hmem, hreturns, hlow, hdrawn⟩ := h.notices
      refine ⟨starved, low, hstarved ▸ hlist, hsorted, fun k => (hstreams k).1 ▸ hmem k, hreturns, hlow, fun hnone p => ?_⟩
      rw [hdrawn (hdue.trans hnone)]
      simp only [hlanes] }

end Sys2Proof.Machine
end

section
/-! Padding (sections 3.4 and 3.5): what one pad, a sweep of pads, the pressure check and a requeue do to the stream contexts. -/

namespace Sys2Proof.Machine

open Sys2Proof

/-! ## One tail -/

theorem Stream.length_tail (t : Stream) : t.tail.length = t.tailSize := by
  have hle : t.tailSize ≤ t.queue.length := Nat.mod_le _ _
  simp only [Stream.tail, List.length_drop]
  omega

theorem Stream.tail_eq_nil_iff (t : Stream) : t.tail = [] ↔ t.tailSize = 0 := by
  rw [← List.length_eq_zero_iff, Stream.length_tail]

theorem Stream.bound_iff (t : Stream) : t.bound = true ↔ t.state ≠ .unbound := by simp [Stream.bound]

theorem Stream.paddable_iff (t : Stream) : t.paddable = true ↔ t.state ≠ .unbound ∧ 0 < t.tailSize ∧ t.pad = false := by
  simp [Stream.paddable, Stream.bound, and_assoc]

/-- The stream after a pad (section 3.5). -/
def Stream.padded (t : Stream) : Stream := { t with pad := t.pad || (t.bound && decide (0 < t.tailSize)) }

theorem Stream.padded_of_paddable {t : Stream} (h : t.paddable = true) : t.padded = { t with pad := true } := by
  obtain ⟨hbound, hsize, -⟩ := t.paddable_iff.1 h
  have hpad : (t.pad || (t.bound && decide (0 < t.tailSize))) = true := by simp [t.bound_iff.2 hbound, hsize]
  rw [Stream.padded, hpad]

theorem Stream.padded_of_not_paddable {t : Stream} (h : t.paddable = false) : t.padded = t := by
  have hpad : (t.pad || (t.bound && decide (0 < t.tailSize))) = t.pad := by
    simp only [Stream.paddable] at h
    cases hp : t.pad <;> simp_all
  rw [Stream.padded, hpad]

theorem State.stream_padStream (s : State) (k j : Nat) :
    (s.padStream k).stream j = if j = k then (s.stream k).padded else s.stream j := by
  rw [State.padStream_stream]
  cases h : (s.stream k).paddable with
  | true => simp [Stream.padded_of_paddable h]
  | false =>
    rw [Stream.padded_of_not_paddable h]
    split <;> simp_all

theorem State.padStream_of_not_paddable {s : State} {k : Nat} (h : (s.stream k).paddable = false) : s.padStream k = s :=
  if_neg (by simp [h])

/-! ## A sweep of pads -/

/-- A sweep that pads the streams that `c` accepts, where the pads do not alter what `c` reads. -/
theorem stream_forStreams_pad {c : State → Stream → Bool} (hc : ∀ s k, c (State.padStream s k) = c s) (s : State) (j : Nat) :
    (s.forStreams fun s k => if c s (s.stream k) then s.padStream k else s).stream j
      = if j < 256 ∧ c s (s.stream j) = true then (s.stream j).padded else s.stream j := by
  have hsweep := forStreams_stream (f := fun s k => if c s (s.stream k) then s.padStream k else s) (P := fun u => c u = c s)
    (g := fun t => if c s t = true then t.padded else t)
    (fun u k hu => by
      split
      · exact (hc u k).trans hu
      · exact hu)
    (fun u k j hu => by
      rw [hu]
      by_cases hk : c s (u.stream k) = true
      · simp only [hk, if_true]
        exact u.stream_padStream k j
      · simp only [hk]
        split <;> simp_all) (s := s) rfl j
  rw [hsweep]
  by_cases hj : j < 256 <;> simp [hj]

theorem State.tailDurable_padStream (s : State) (k : Nat) : (s.padStream k).tailDurable = s.tailDurable := by
  have hslot : (s.padStream k).slot = s.slot := agree (s.padStream_frame k)
  unfold State.tailDurable
  rw [hslot]

theorem State.lingerDue_congr {s u : State} (hslot : u.slot = s.slot) (hparams : u.params = s.params) : u.lingerDue = s.lingerDue := by
  unfold State.lingerDue State.lingerLimit State.tailDurable
  rw [hslot, hparams]

theorem State.lingerDue_padStream (s : State) (k : Nat) : (s.padStream k).lingerDue = s.lingerDue :=
  State.lingerDue_congr (agree (s.padStream_frame k)) (agree (s.padStream_frame k))

/-- The effective limit of R72 is reached by the counter. -/
theorem State.lingerDue_iff (s : State) (t : Stream) : s.lingerDue t = true ↔
    if (t.tail.any fun j => (s.slot j).durable.isSome) = true
    then (if t.lingerLimit = 0 then s.params.durableLinger else min t.lingerLimit s.params.durableLinger) ≤ t.linger
    else 0 < t.lingerLimit ∧ t.lingerLimit ≤ t.linger := by
  unfold State.lingerDue State.lingerLimit State.tailDurable
  by_cases hdurable : (t.tail.any fun k => (s.slot k).durable.isSome) = true
  · simp only [hdurable, if_true, decide_eq_true_eq]
  · simp only [hdurable]
    by_cases hlimit : t.lingerLimit = 0
    · simp [hlimit]
    · simp [hlimit, Nat.pos_of_ne_zero hlimit]

/-- The sweep of linger checks (R72). -/
theorem State.stream_checkLinger (s : State) (j : Nat) : (s.forStreams State.lingerCheck).stream j
    = if j < 256 ∧ s.lingerDue (s.stream j) = true then (s.stream j).padded else s.stream j :=
  stream_forStreams_pad State.lingerDue_padStream s j

/-- The durable-linger pads (R73). -/
theorem State.stream_durablePads (s : State) (j : Nat) : s.durablePads.stream j
    = if s.params.durableLinger = 0 ∧ j < 256 ∧ s.tailDurable (s.stream j) = true then (s.stream j).padded else s.stream j := by
  unfold State.durablePads
  by_cases hzero : s.params.durableLinger = 0
  · rw [if_pos hzero, stream_forStreams_pad State.tailDurable_padStream]
    simp [hzero]
  · simp [hzero]

/-- The pads of a FLUSH (R75, R146). -/
theorem State.stream_flushPads (s : State) (fn j : Nat) : (s.flushPads fn).stream j
    = if j < 256 ∧ ((s.stream j).tail.any fun i => (s.slot i).mark && (s.slot i).fn == fn) = true
      then (s.stream j).padded else s.stream j := by
  refine stream_forStreams_pad (c := fun s t => t.tail.any fun i => (s.slot i).mark && (s.slot i).fn == fn) (fun s k => ?_) s j
  have hslot : (s.padStream k).slot = s.slot := agree (s.padStream_frame k)
  rw [hslot]

/-- A tail with a slot that `p` accepts is not empty. -/
theorem Stream.tailSize_pos_of_any {t : Stream} {p : Nat → Bool} (h : t.tail.any p = true) : 0 < t.tailSize := by
  obtain ⟨k, hk, -⟩ := List.any_eq_true.1 h
  exact t.length_tail ▸ List.length_pos_of_mem hk

/-! ## Frames as equations -/

theorem State.eq_of_butSetStream {s t : State} (h : t.butSetStream = s.butSetStream) : t = { s with streams := t.streams } :=
  congrArg (fun x : State => { x with streams := t.streams }) h

/-! ## Free-slot pressure (R74) -/

/-- Of the streams below `n` with an unpadded tail, `best` is the one whose tail begins with the lowest landing sequence, the
lowest-numbered of equals. -/
def State.OldestTail (s : State) (n : Nat) (best : Option Nat) : Prop :=
  match best with
  | none => ∀ j, j < n → (s.stream j).paddable = false
  | some k => k < n ∧ (s.stream k).paddable = true
      ∧ ∀ j, j < n → (s.stream j).paddable = true → s.tailSeq k < s.tailSeq j ∨ s.tailSeq k = s.tailSeq j ∧ k ≤ j

theorem State.oldestTail_next {s : State} {n : Nat} {best : Option Nat} (h : s.OldestTail n best) :
    s.OldestTail (n + 1) (s.olderTail best n) := by
  unfold State.olderTail
  cases hn : (s.stream n).paddable with
  | false =>
    rw [if_neg (by decide)]
    cases best with
    | none =>
      intro j hj
      rcases Nat.lt_succ_iff_lt_or_eq.1 hj with hj | rfl
      · exact h j hj
      · exact hn
    | some k =>
      obtain ⟨hk, hpad, hfirst⟩ := h
      refine ⟨Nat.lt_succ_of_lt hk, hpad, fun j hj hjpad => ?_⟩
      rcases Nat.lt_succ_iff_lt_or_eq.1 hj with hj | rfl
      · exact hfirst j hj hjpad
      · rw [hn] at hjpad
        cases hjpad
  | true =>
    rw [if_pos rfl]
    cases best with
    | none =>
      refine ⟨Nat.lt_succ_self n, hn, fun j hj hjpad => ?_⟩
      rcases Nat.lt_succ_iff_lt_or_eq.1 hj with hj | rfl
      · rw [h j hj] at hjpad
        cases hjpad
      · exact .inr ⟨rfl, Nat.le_refl _⟩
    | some k =>
      obtain ⟨hk, hpad, hfirst⟩ := h
      dsimp only
      split
      · rename_i hlow
        refine ⟨Nat.lt_succ_self n, hn, fun j hj hjpad => ?_⟩
        rcases Nat.lt_succ_iff_lt_or_eq.1 hj with hj | rfl
        · have := hfirst j hj hjpad
          omega
        · exact .inr ⟨rfl, Nat.le_refl _⟩
      · rename_i hhigh
        refine ⟨Nat.lt_succ_of_lt hk, hpad, fun j hj hjpad => ?_⟩
        rcases Nat.lt_succ_iff_lt_or_eq.1 hj with hj | rfl
        · exact hfirst j hj hjpad
        · omega

theorem State.oldestTail_pressureStream (s : State) : s.OldestTail 256 s.pressureStream := by
  have hfold : ∀ n, s.OldestTail n ((List.range n).foldl s.olderTail none) := by
    intro n
    induction n with
    | zero => exact fun j hj => absurd hj (Nat.not_lt_zero j)
    | succ n ih =>
      rw [List.range_succ, List.foldl_append]
      exact State.oldestTail_next ih
  exact hfold 256

/-- Below the mark the stream with the oldest unpadded tail is padded. -/
theorem State.pressure_of_oldest {s : State} {k : Nat} (hlow : s.freeSlots < s.params.pressureMark) (hk : k < 256)
    (hpad : (s.stream k).paddable = true)
    (hfirst : ∀ j, j < 256 → (s.stream j).paddable = true → s.tailSeq k < s.tailSeq j ∨ s.tailSeq k = s.tailSeq j ∧ k ≤ j) :
    s.pressure = s.padStream k := by
  have hold := s.oldestTail_pressureStream
  unfold State.pressure
  rw [if_pos hlow]
  cases hbest : s.pressureStream with
  | none =>
    rw [hbest] at hold
    have hnot := hold k hk
    rw [hpad] at hnot
    cases hnot
  | some j =>
    rw [hbest] at hold
    obtain ⟨hj, hjpad, hjfirst⟩ := hold
    have hkj := hfirst j hj hjpad
    have hjk := hjfirst k hk hpad
    obtain rfl : j = k := by omega
    rfl

theorem State.pressure_of_none {s : State} (h : s.params.pressureMark ≤ s.freeSlots ∨ ∀ k, k < 256 → (s.stream k).paddable = false) :
    s.pressure = s := by
  unfold State.pressure
  split
  · rename_i hlow
    have hold := s.oldestTail_pressureStream
    cases hbest : s.pressureStream with
    | none => rfl
    | some k =>
      rw [hbest] at hold
      exact State.padStream_of_not_paddable ((h.resolve_left (by omega)) k hold.1)
  · rfl

/-! ## Requeue (R69) -/

theorem State.stream_requeue (s : State) (k fillers : Nat) (slots : List Nat) (j : Nat) :
    (s.requeue k slots fillers).stream j = if j = k
      then { s.stream k with
        queue := s.mergeBySeq slots (s.stream k).queue
        pad := decide (0 < ((s.stream k).queue.length + slots.length) % 16) && ((s.stream k).pad || decide (0 < fillers))
        linger := if ((s.stream k).queue.length + slots.length) % 16 = 0 then 0 else (s.stream k).linger }
      else s.stream j := by
  have hlength : (s.mergeBySeq slots (s.stream k).queue).length = (s.stream k).queue.length + slots.length := by
    rw [(s.mergeBySeq_perm slots _).length_eq, List.length_append]
  unfold State.requeue
  rw [State.stream_setStream]
  congr 1
  unfold Stream.settle Stream.tailSize
  simp only [hlength]
  by_cases hzero : ((s.stream k).queue.length + slots.length) % 16 = 0
  · simp [hzero, hlength]
  · have hpos : 0 < ((s.stream k).queue.length + slots.length) % 16 := Nat.pos_of_ne_zero hzero
    simp [hzero, hlength, hpos]

/-- Settles O29: a merge by landing sequence keeps order and elements, a sweep of pads pads what it accepts, and the pressure check finds
the oldest unpadded tail. -/
theorem tailsRequeueAndPad : Obligations.TailsRequeueAndPad := by
  unfold Obligations.TailsRequeueAndPad
  refine ⟨fun s k fillers slots hsorted => ?requeue, fun s k => ?durable, fun s => State.eq_of_butSetStream s.durablePads_frame,
    fun s hnone => ?still, fun s k first hlow hseq hk hbound htail hpad hfirst => ?pressure⟩
  case requeue =>
    rw [State.stream_requeue, if_pos rfl]
    refine ⟨s.mergeBySeq_sorted slots hsorted, s.mergeBySeq_perm slots _, by simp, rfl, fun j hj => ?_⟩
    rw [State.stream_requeue, if_neg hj]
  case durable =>
    rw [State.stream_durablePads]
    by_cases hdurable : ((s.stream k).tail.any fun j => (s.slot j).durable.isSome) = true
    · have hsize : 0 < (s.stream k).tailSize := Stream.tailSize_pos_of_any hdurable
      by_cases hdue : s.params.durableLinger = 0 ∧ k < 256
      · rw [if_pos ⟨hdue.1, hdue.2, hdurable⟩]
        simp only [Stream.padded, Stream.bound, hdue, hsize, hdurable]
        cases (s.stream k).state <;> simp
      · rw [if_neg fun h => hdue ⟨h.1, h.2.1⟩]
        simp only [not_and] at hdue
        have hnot : ¬ (s.params.durableLinger = 0 ∧ k < 256 ∧ (s.stream k).state ≠ .unbound) := fun h => hdue h.1 h.2.1
        simp [hnot]
    · rw [if_neg fun h => hdurable h.2.2]
      simp [hdurable]
  case still =>
    refine State.pressure_of_none (hnone.imp_right fun hall k hk => ?_)
    by_contra hpad
    obtain ⟨hbound, hsize, hclear⟩ := (Stream.paddable_iff _).1 (Bool.eq_true_of_not_eq_false hpad)
    have hset := hall k hk hbound fun hnil => Nat.ne_of_gt hsize ((Stream.tail_eq_nil_iff _).1 hnil)
    rw [hset] at hclear
    cases hclear
  case pressure =>
    have hpaddable : ∀ j, (s.stream j).paddable = true ↔ (s.stream j).state ≠ .unbound ∧ (s.stream j).tail ≠ [] ∧ (s.stream j).pad = false := by
      intro j
      rw [Stream.paddable_iff, Nat.pos_iff_ne_zero, ne_eq (s.stream j).tail, Stream.tail_eq_nil_iff]
    have hk' := (hpaddable k).2 ⟨hbound, htail, hpad⟩
    have hpads : s.pressure = s.padStream k := by
      refine State.pressure_of_oldest hlow hk hk' fun j hj hjpad => ?_
      obtain ⟨hjbound, hjtail, hjclear⟩ := (hpaddable j).1 hjpad
      have hmin := hfirst j hj hjbound hjtail hjclear
      rwa [hseq, hseq] at hmin
    rw [hpads]
    refine ⟨?_, fun j hj => ?_, State.eq_of_butSetStream (s.padStream_frame k)⟩
    · rw [State.stream_padStream, if_pos rfl, Stream.padded_of_paddable hk']
    · rw [State.stream_padStream, if_neg hj]

end Sys2Proof.Machine
end

section
/-! Events that pad and then request segments: the linger clock, FLUSH-STREAM and FLUSH; and HOLD-STREAM (R60, R62, R71, R145, R146). -/

namespace Sys2Proof.Machine

open Sys2Proof

/-! ## Commands that take a parcel -/

/-- The state from which a parcel has been taken: the parser is in AWAITING. -/
def State.freed (s : State) : State := { s with parser := .awaiting }

/-- A command that takes a parcel acts on the parcel offered, with the parser in AWAITING. -/
theorem exec_of_offers {s : State} {a : Arriving} {c : Instr} {want : Arriving → Bool} {act : State → Arriving → State}
    (hexec : exec c s = .next (s.take want act)) (hoffers : s.offers a) (hwanted : want a = true) :
    exec c s = .next (act s.freed a) := by
  rw [hexec, State.take_offers act hoffers hwanted]
  rfl

/-- A request whose body has the length that its code permits is the one with that code. -/
theorem Arriving.isCode_of_asks_permitted {a : Arriving} {code units : Nat} (h : a.asks code units)
    (hcode : requestCodes.contains code = true)
    (hunits : units = if code = 0x02 then 1 else if code = 0x10 then 2 else if code = 0x18 ∨ code = 0x30 then a.entryCount else 0) :
    a.isCode code = true :=
  Arriving.isCode_of_asks h hcode (by rw [hunits, permittedBody, h.2.1])

theorem Stream.padded_pad (t : Stream) : t.padded.pad = (t.pad || (t.bound && decide (0 < t.tailSize))) := rfl

theorem Stream.padded_pad_iff (t : Stream) : t.padded.pad = true ↔ t.pad = true ∨ (t.state ≠ .unbound ∧ 0 < t.queue.length % 16) := by
  rw [Stream.padded_pad, Bool.or_eq_true, Bool.and_eq_true, Stream.bound_iff, decide_eq_true_iff, Stream.tailSize]

theorem State.eq_of_butEndRequests {u t : State} (h : t.butEndRequests = u.butEndRequests) (hdue : t.due = []) : t = { u with
    streams := t.streams, starved := t.starved, segments := t.segments, nextSegment := t.nextSegment, lanes := t.lanes,
    returns := t.returns, due := [], draws := t.draws } := by
  calc t = { t with due := [] } := by rw [← hdue]
    _ = _ := congrArg (fun x : State => { x with
        streams := t.streams, starved := t.starved, segments := t.segments, nextSegment := t.nextSegment, lanes := t.lanes,
        returns := t.returns, due := [], draws := t.draws }) h

/-! ## The linger clock (R70 to R72) -/

/-- One stream at a linger clock expiry. -/
def Stream.ticked (s : State) (t : Stream) : Stream :=
  if t.paddable then
    if s.lingerDue { t with linger := min 255 (t.linger + 1) }
    then { t with linger := min 255 (t.linger + 1), pad := true } else { t with linger := min 255 (t.linger + 1) }
  else t

theorem State.stream_lingerTick (s : State) (k j : Nat) :
    (s.lingerTick k).stream j = if j = k then (s.stream k).ticked s else s.stream j := by
  unfold State.lingerTick Stream.ticked
  cases hpad : (s.stream k).paddable with
  | false =>
    simp only [Bool.false_eq_true, if_false]
    split <;> simp_all
  | true =>
    simp only [if_true]
    have hset := s.stream_setStream k { s.stream k with linger := min 255 ((s.stream k).linger + 1) }
    have hdue : (s.setStream k { s.stream k with linger := min 255 ((s.stream k).linger + 1) }).lingerDue = s.lingerDue :=
      State.lingerDue_congr rfl rfl
    have hticked : ({ s.stream k with linger := min 255 ((s.stream k).linger + 1) } : Stream).paddable = true := hpad
    unfold State.lingerCheck
    rw [hdue, hset, if_pos rfl]
    split
    · rw [State.stream_padStream, hset, if_pos rfl, Stream.padded_of_paddable hticked, hset]
      split <;> rfl
    · rw [hset]

theorem State.stream_lingerTicks (s : State) (j : Nat) :
    (s.forStreams State.lingerTick).stream j = if j < 256 then (s.stream j).ticked s else s.stream j := by
  refine forStreams_stream (P := fun u => u.lingerDue = s.lingerDue) (g := fun t => t.ticked s) (fun u k hu => ?_) (fun u k j hu => ?_)
    (s := s) rfl j
  · exact (State.lingerDue_congr (agree (u.lingerTick_frame k)) (agree (u.lingerTick_frame k))).trans hu
  · rw [State.stream_lingerTick]
    unfold Stream.ticked
    rw [hu]

theorem Stream.ticked_eq (s : State) (t : Stream) :
    t.ticked s = { t with linger := (t.ticked s).linger, pad := (t.ticked s).pad } := by
  unfold Stream.ticked
  repeat' split
  all_goals rfl

theorem State.lingerExpires_of_running {s : State} {d : Nat} (hrun : s.running = true) (hclock : s.lingerClock = some d) :
    s.lingerExpires = ({ s.reachTime d with lingerClock := some (d + 1000) }.forStreams State.lingerTick).endRequests := by
  unfold State.lingerExpires
  rw [hclock]
  exact if_pos hrun

theorem State.lingerTicks_frame (s : State) : (s.forStreams State.lingerTick).butSetStream = s.butSetStream :=
  foldl_frame State.butSetStream _ State.lingerTick_frame _ s

/-- The fields, streams aside, that the segment requests and the notices at the end of an event read and write. -/
def State.requestBasis (s : State) : State :=
  { part := s.part, segments := s.segments, lanes := s.lanes, laneLinks := s.laneLinks, starved := s.starved, due := s.due }

/-- An event that before its requests changes no stream but for linger counters and pads, and none of the basis of the requests. -/
theorem State.requestsMade_of_pads {s u : State} (hbasis : u.requestBasis = s.requestBasis)
    (hstreams : ∀ k, u.stream k = { s.stream k with linger := (u.stream k).linger, pad := (u.stream k).pad }) :
    s.RequestsMade u.endRequests u.returns s.Ledger := by
  refine State.requestsMade (agree hbasis) (fun k => ?_) (agree hbasis) (fun l => congrFun (agree (π := State.lane) hbasis) l)
    (agree hbasis) (agree hbasis) (agree hbasis)
  rw [hstreams]
  exact ⟨rfl, rfl, rfl, rfl⟩

/-- Of a stream the requests change only its state, open segment and last lane. -/
theorem State.stream_endRequests_of_pads {s u : State}
    (hstreams : ∀ k, u.stream k = { s.stream k with linger := (u.stream k).linger, pad := (u.stream k).pad }) (k : Nat) :
    u.endRequests.stream k = { s.stream k with
      linger := (u.stream k).linger, pad := (u.stream k).pad, state := (u.endRequests.stream k).state,
      openSeg := (u.endRequests.stream k).openSeg, lastLane := (u.endRequests.stream k).lastLane } := by
  have hends := u.endRequests_ends.streams k
  rwa [hstreams] at hends

theorem State.pad_endRequests (u : State) (k : Nat) : (u.endRequests.stream k).pad = (u.stream k).pad :=
  (congrArg Stream.pad (u.endRequests_ends.streams k)).trans rfl

/-- The same for an event that before its requests changes pads alone. -/
theorem State.stream_endRequests_of_padsAlone {s u : State}
    (hstreams : ∀ k, u.stream k = { s.stream k with linger := (u.stream k).linger, pad := (u.stream k).pad }) {k : Nat}
    (hlinger : (u.stream k).linger = (s.stream k).linger) : u.endRequests.stream k = { s.stream k with
      pad := (u.endRequests.stream k).pad, state := (u.endRequests.stream k).state,
      openSeg := (u.endRequests.stream k).openSeg, lastLane := (u.endRequests.stream k).lastLane } := by
  have hends := State.stream_endRequests_of_pads hstreams k
  have hpad : (u.endRequests.stream k).pad = (u.stream k).pad := (congrArg Stream.pad hends).trans rfl
  rw [hlinger] at hends
  rw [hpad]
  exact hends

section

variable {s : State} {d : Nat}

/-- The state before the requests of a linger clock expiry. -/
def State.clockTicked (s : State) (d : Nat) : State :=
  { s.reachTime d with lingerClock := some (d + 1000) }.forStreams State.lingerTick

theorem State.clockTicked_frame : (s.clockTicked d).butSetStream = { s.reachTime d with lingerClock := some (d + 1000) }.butSetStream :=
  State.lingerTicks_frame _

theorem State.stream_clockTicked (k : Nat) : (s.clockTicked d).stream k = if k < 256 then (s.stream k).ticked s else s.stream k := by
  have hdue : ({ s.reachTime d with lingerClock := some (d + 1000) } : State).lingerDue = s.lingerDue := State.lingerDue_congr rfl rfl
  unfold State.clockTicked
  rw [State.stream_lingerTicks]
  unfold Stream.ticked
  rw [hdue]
  rfl

theorem State.stream_clockTicked_eq (k : Nat) : (s.clockTicked d).stream k
    = { s.stream k with linger := ((s.clockTicked d).stream k).linger, pad := ((s.clockTicked d).stream k).pad } := by
  rw [State.stream_clockTicked]
  split
  · exact Stream.ticked_eq s _
  · rfl

end

theorem exec_lingerClockExpiry {s : State} {d : Nat} (hrun : s.running = true) (hclock : s.lingerClock = some d) :
    exec .lingerClockExpiry s = .next (s.clockTicked d).endRequests := by
  show Host.Outcome.next s.lingerExpires = _
  rw [State.lingerExpires_of_running hrun hclock]
  rfl

theorem Stream.ticked_of_paddable {s : State} {t : Stream} (h : t.paddable = true) :
    (t.ticked s).linger = min 255 (t.linger + 1)
      ∧ ((t.ticked s).pad = true ↔ s.lingerDue { t with linger := min 255 (t.linger + 1) } = true) := by
  obtain ⟨-, -, hpad⟩ := t.paddable_iff.1 h
  unfold Stream.ticked
  rw [if_pos h]
  split
  · rename_i hdue
    exact ⟨rfl, iff_of_true rfl hdue⟩
  · rename_i hdue
    exact ⟨rfl, iff_of_false (by simp [hpad]) hdue⟩

theorem Stream.ticked_of_not_paddable {s : State} {t : Stream} (h : t.paddable = false) : t.ticked s = t := if_neg (by simp [h])

/-- Settles O42: the tick of one stream is a rewrite of its own context, the sweep does it for each, and the requests follow. -/
theorem timersActAndRunOn : Obligations.TimersActAndRunOn := by
  unfold Obligations.TimersActAndRunOn
  refine ⟨fun s d hrun hclock => ?linger, fun s d hrun htimer => ?credit, fun s d hrun htimer => ?decay⟩
  case linger =>
    have hframe := (s.clockTicked d).endRequests_frame
    have hclocked := State.clockTicked_frame (s := s) (d := d)
    have hstream := State.stream_endRequests_of_pads (s := s) (State.stream_clockTicked_eq (d := d))
    have hreturns : (s.clockTicked d).returns = s.returns := (agree (π := State.returns) hclocked).trans rfl
    refine ⟨_, exec_lingerClockExpiry hrun hclock, (agree hframe).trans (agree (π := State.lingerClock) hclocked),
      (agree hframe).trans (agree (π := State.now) hclocked), fun k hk hbound hsize hpad => ?_, fun k hk => ?_, fun k => ?_, ?_, ?_⟩
    · have htick := Stream.ticked_of_paddable (s := s) ((s.stream k).paddable_iff.2 ⟨hbound, hsize, hpad⟩)
      have hlinger : ((s.clockTicked d).endRequests.stream k).linger = ((s.stream k).ticked s).linger := by
        rw [hstream, State.stream_clockTicked, if_pos hk]
      have hpadded : ((s.clockTicked d).endRequests.stream k).pad = ((s.stream k).ticked s).pad := by
        rw [hstream, State.stream_clockTicked, if_pos hk]
      rw [hlinger, hpadded, htick.2, State.lingerDue_iff]
      exact ⟨htick.1, Iff.rfl⟩
    · have hpad : (s.stream k).paddable = false := by
        rw [← Bool.not_eq_true, Stream.paddable_iff, Stream.tailSize]
        rintro ⟨hbound, hsize, hclear⟩
        rcases hk with hk | hk | hk
        · exact hbound hk
        · omega
        · rw [hk] at hclear
          cases hclear
      have hsame : (s.clockTicked d).stream k = s.stream k := by
        rw [State.stream_clockTicked, Stream.ticked_of_not_paddable hpad, ite_self]
      rw [hstream, hsame]
      exact ⟨rfl, rfl⟩
    · conv_lhs => rw [hstream]
      rw [hstream]
    · exact hreturns ▸ State.requestsMade_of_pads ((agree (π := State.requestBasis) hclocked).trans rfl) State.stream_clockTicked_eq
    · have hnow : (s.clockTicked d).endRequests.now = max s.now d := (agree hframe).trans (agree (π := State.now) hclocked)
      have hclock' : (s.clockTicked d).endRequests.lingerClock = some (d + 1000) :=
        (agree hframe).trans (agree (π := State.lingerClock) hclocked)
      have heq := State.eq_of_butEndRequests (hframe.trans (agree (π := State.butEndRequests) hclocked)) (State.endRequests_due _)
      generalize (s.clockTicked d).endRequests = t at hnow hclock' heq ⊢
      rw [hnow, hclock']
      exact heq
  case credit =>
    show Host.Outcome.next s.creditExpires = _
    unfold State.creditExpires
    rw [htimer]
    dsimp only
    rw [if_pos hrun]
    have hreturnable : State.returnable { s.reachTime d with creditTimer := none } = s.returnable := rfl
    rw [hreturnable]
    by_cases hzero : s.returnable = 0
    · rw [if_neg (by omega), if_pos hzero, hzero, List.append_nil]
      rfl
    · rw [if_pos (show 1 ≤ s.returnable from Nat.pos_of_ne_zero hzero), if_neg hzero]
      rfl
  case decay =>
    refine ⟨s.decayExpires, exec_decayExpiry s, ?_, ?_⟩ <;> rw [State.decayExpires_of_running hrun htimer] <;> rfl

/-! ## HOLD-STREAM and FLUSH-STREAM (R60, R62) -/

section

variable {s : State} {a : Arriving}

theorem State.holdStream_of_unbound (h : (s.stream a.stream).state = .unbound) : s.holdStream a = s.reply a .wrongState := by
  simp [State.holdStream, h]

theorem State.holdStream_of_held (h : (s.stream a.stream).state = .held) : s.holdStream a = s.reply a .ok := by
  simp [State.holdStream, h]

theorem State.holdStream_of_starved (h : (s.stream a.stream).state = .starved) : s.holdStream a
    = { s.setStream a.stream { s.stream a.stream with state := .held } with starved := s.starved.erase a.stream }.reply a .ok := by
  simp [State.holdStream, h]

theorem State.holdStream_of_active (h : (s.stream a.stream).state = .idle ∨ (s.stream a.stream).state = .opened) :
    s.holdStream a = (s.setStream a.stream { s.stream a.stream with state := .held }).reply a .ok := by
  rcases h with h | h <;> simp [State.holdStream, h]

theorem exec_holdStream (hoffers : s.offers a) (hasks : a.asks 0x22 0) :
    exec .holdStream s = .next (s.freed.holdStream a) :=
  exec_of_offers (act := State.holdStream) rfl hoffers (Arriving.isCode_of_asks_permitted hasks (by decide) rfl)

theorem exec_flushStream (hoffers : s.offers a) (hasks : a.asks 0x24 0) :
    exec .flushStream s = .next (s.freed.flushStream a) :=
  exec_of_offers (act := State.flushStream) rfl hoffers (Arriving.isCode_of_asks_permitted hasks (by decide) rfl)

/-- The state before the requests of an accepted FLUSH-STREAM. -/
def State.tailFlushed (s : State) (a : Arriving) : State := (s.freed.padStream a.stream).reply a .ok

theorem State.tailFlushed_frame :
    (s.tailFlushed a).butSetStream = (s.answered [a.replyOf .ok []]).butSetStream := by
  have hframe := s.freed.padStream_frame a.stream
  exact congrArg (fun u : State => u.enqueue (a.replyOf .ok [])) hframe

theorem State.stream_tailFlushed (j : Nat) :
    (s.tailFlushed a).stream j = if j = a.stream then (s.stream a.stream).padded else s.stream j :=
  s.freed.stream_padStream a.stream j

theorem State.stream_tailFlushed_eq (j : Nat) : (s.tailFlushed a).stream j
    = { s.stream j with linger := ((s.tailFlushed a).stream j).linger, pad := ((s.tailFlushed a).stream j).pad } := by
  rw [State.stream_tailFlushed]
  split
  · rename_i hj
    subst hj
    rfl
  · rfl

theorem State.flushStream_of_bound (h : (s.stream a.stream).state ≠ .unbound) :
    s.freed.flushStream a = (s.tailFlushed a).endRequests := if_pos ((Stream.bound_iff _).2 h)

theorem State.flushStream_of_unbound (h : (s.stream a.stream).state = .unbound) : s.flushStream a = s.reply a .wrongState :=
  if_neg (by simp [Stream.bound, h])

end

/-- A pad leaves a calm state calm, unless it is the pad of an IDLE stream. -/
theorem State.calm_of_padded {s u : State} {k : Nat} (hcalm : s.calm) (hidle : (s.stream k).state ≠ .idle) (hdue : u.due = s.due)
    (hstreams : ∀ j, u.stream j = if j = k then (s.stream k).padded else s.stream j) : u.calm := by
  refine ⟨fun j hj hstate => ?_, hdue.trans hcalm.2⟩
  rw [hstreams] at hstate ⊢
  split at hstate
  · exact absurd hstate hidle
  · rename_i hjk
    rw [if_neg hjk]
    exact hcalm.1 j hj hstate

/-- Settles O24: HOLD-STREAM writes one context, and FLUSH-STREAM pads one tail before the requests. -/
theorem holdAndFlushStreamByState : Obligations.HoldAndFlushStreamByState := by
  unfold Obligations.HoldAndFlushStreamByState
  refine ⟨fun s a k hoffers hasks hk => ?hold, fun s a k hoffers hasks hk => ?flush⟩
  case hold =>
    obtain rfl : a.stream = k := hk
    rw [exec_holdStream hoffers hasks]
    refine ⟨fun hstate => ?_, fun hstate => ?_, fun hbound hheld => ?_⟩
    · rw [State.holdStream_of_unbound (s := s.freed) hstate]
      rfl
    · rw [State.holdStream_of_held (s := s.freed) hstate]
      rfl
    · refine ⟨_, rfl, ?_⟩
      have hset := s.stream_setStream a.stream { s.stream a.stream with state := .held }
      cases hstate : (s.stream a.stream).state with
      | unbound => exact absurd hstate hbound
      | held => exact absurd hstate hheld
      | starved =>
        rw [State.holdStream_of_starved (s := s.freed) hstate]
        exact ⟨(hset _).trans (if_pos rfl), fun j hj => (hset j).trans (if_neg hj), by rw [if_pos rfl]; rfl⟩
      | idle =>
        rw [State.holdStream_of_active (s := s.freed) (.inl hstate)]
        exact ⟨(hset _).trans (if_pos rfl), fun j hj => (hset j).trans (if_neg hj), by rw [if_neg (by decide)]; rfl⟩
      | opened =>
        rw [State.holdStream_of_active (s := s.freed) (.inr hstate)]
        exact ⟨(hset _).trans (if_pos rfl), fun j hj => (hset j).trans (if_neg hj), by rw [if_neg (by decide)]; rfl⟩
  case flush =>
    obtain rfl : a.stream = k := hk
    rw [exec_flushStream hoffers hasks]
    refine ⟨fun hstate => ?_, fun hbound => ?_⟩
    · rw [State.flushStream_of_unbound (s := s.freed) hstate]
      rfl
    · rw [State.flushStream_of_bound hbound]
      have hframe := (s.tailFlushed a).endRequests_frame
      have hflushed := State.tailFlushed_frame (s := s) (a := a)
      have hstream := State.stream_endRequests_of_pads (State.stream_tailFlushed_eq (s := s) (a := a))
      have hpad : ∀ j, ((s.tailFlushed a).endRequests.stream j).pad = ((s.tailFlushed a).stream j).pad := fun j => by rw [hstream]
      refine ⟨_, rfl, ?_, fun j hj => ?_, fun j => ?_, ?_, ?_, fun hcalm hidle => ?_⟩
      · rw [hpad, State.stream_tailFlushed, if_pos rfl, Stream.padded_pad, (Stream.bound_iff _).2 hbound, Bool.true_and]
        rfl
      · rw [hpad, State.stream_tailFlushed]
        exact congrArg Stream.pad (if_neg hj)
      · have hlinger : ((s.tailFlushed a).stream j).linger = (s.stream j).linger := by
          rw [State.stream_tailFlushed]
          split
          · rename_i hj
            subst hj
            rfl
          · rfl
        exact State.stream_endRequests_of_padsAlone State.stream_tailFlushed_eq hlinger
      · have hreturns : (s.tailFlushed a).returns = s.returns ++ [a.replyOf .ok []] := (agree (π := State.returns) hflushed).trans rfl
        exact hreturns ▸ State.requestsMade_of_pads (s := s) ((agree (π := State.requestBasis) hflushed).trans rfl) State.stream_tailFlushed_eq
      · have heq := State.eq_of_butEndRequests (hframe.trans (agree (π := State.butEndRequests) hflushed)) (State.endRequests_due _)
        exact heq
      · have hcalm' : (s.tailFlushed a).calm := State.calm_of_padded hcalm hidle ((agree (π := State.due) hflushed).trans rfl) State.stream_tailFlushed
        rw [State.endRequests_calm hcalm']
        refine ⟨State.eq_of_butSetStream hflushed, fun j hj => ?_⟩
        rw [State.stream_tailFlushed, if_neg hj]

/-! ## FLUSH (R145, R146) -/

theorem State.mem_slotsWhere {s : State} (hsorted : Store.sorted s.slots = true) {p : Slot → Bool} (hp : p {} = false) (k : Nat) :
    k ∈ s.slotsWhere p ↔ p (s.slot k) = true := by
  unfold State.slotsWhere State.slot Store.getD
  constructor
  · intro hk
    obtain ⟨e, he, rfl⟩ := List.mem_map.1 hk
    obtain ⟨hmem, haccepted⟩ := List.mem_filter.1 he
    rw [Store.find?_of_mem hsorted hmem]
    exact haccepted
  · intro haccepted
    cases hfound : Store.find? s.slots k with
    | none =>
      rw [hfound] at haccepted
      exact absurd (hp.symm.trans haccepted) (by decide)
    | some r =>
      rw [hfound] at haccepted
      exact List.mem_map.2 ⟨(k, r), List.mem_filter.2 ⟨Store.mem_of_find? hfound, haccepted⟩, rfl⟩

section

variable {s : State} {a : Arriving}

theorem exec_flush (hoffers : s.offers a) (hkind : a.kind = kindFlush) :
    exec .flush s = .next (s.freed.takeFlush a) :=
  exec_of_offers (act := State.takeFlush) rfl hoffers (beq_iff_eq.2 hkind)

theorem State.validTenant_iff (fn : Nat) : s.validTenant fn = true ↔ fn ≤ 511 ∧ (s.tenant fn).valid = true := by
  simp only [State.validTenant, Config.tenants, Bool.and_eq_true, decide_eq_true_eq]
  exact and_congr_left fun _ => by omega

theorem State.takeFlush_of_noTenant (h : s.validTenant a.fn = false) : s.takeFlush a = s.enqueue (.flushed a.tag a.fn .noTenant) := by
  simp [State.takeFlush, h]

theorem State.takeFlush_of_noRecord (hvalid : s.validTenant a.fn = true) (hnone : Store.find? s.flushes a.fn = none) :
    s.takeFlush a = if s.hasInUse a.fn = false then s.enqueue (.flushed a.tag a.fn .ok)
      else if 32 ≤ s.flushes.length then s.enqueue (.flushed a.tag a.fn .busy) else s.acceptFlush a := by
  simp [State.takeFlush, hvalid, hnone]

theorem State.takeFlush_of_record {r : FlushRecord} (hvalid : s.validTenant a.fn = true) (hfound : Store.find? s.flushes a.fn = some r) :
    s.takeFlush a = if 4 ≤ r.tags.length then s.enqueue (.flushed a.tag a.fn .busy) else s.acceptFlush a := by
  simp [State.takeFlush, hvalid, hfound]

/-- The state before the requests of an accepted FLUSH. -/
def State.flushMarked (s : State) (a : Arriving) : State :=
  ((s.markSlots (s.unmarked a.fn)).setFlush a.fn
    { count := ((Store.find? s.flushes a.fn).getD {}).count + (s.unmarked a.fn).length
      tags := ((Store.find? s.flushes a.fn).getD {}).tags ++ [a.tag] }).flushPads a.fn

theorem State.acceptFlush_eq : s.acceptFlush a = (s.flushMarked a).endRequests := rfl

/-- The state outside what `flushMarked` may change: streams, slots, flushes. -/
def State.butFlushMarked (s : State) : State := { s with streams := [], slots := [], flushes := [] }

theorem State.flushMarked_frame : (s.flushMarked a).butFlushMarked = s.butFlushMarked := by
  have hpads := agree (π := State.butFlushMarked) (State.flushPads_frame ((s.markSlots (s.unmarked a.fn)).setFlush a.fn
    { count := ((Store.find? s.flushes a.fn).getD {}).count + (s.unmarked a.fn).length
      tags := ((Store.find? s.flushes a.fn).getD {}).tags ++ [a.tag] }) a.fn)
  have hmarks := agree (π := State.butFlushMarked) (s.markSlots_frame (s.unmarked a.fn))
  exact hpads.trans hmarks

theorem State.slot_flushMarked (hsorted : Store.sorted s.slots = true) (k : Nat) : (s.flushMarked a).slot k
    = if (s.slot k).inUse = true ∧ (s.slot k).fn = a.fn then { s.slot k with mark := true } else s.slot k := by
  have hpads := congrFun (agree (π := State.slot) (State.flushPads_frame ((s.markSlots (s.unmarked a.fn)).setFlush a.fn
    { count := ((Store.find? s.flushes a.fn).getD {}).count + (s.unmarked a.fn).length
      tags := ((Store.find? s.flushes a.fn).getD {}).tags ++ [a.tag] }) a.fn)) k
  refine hpads.trans ((s.markSlots_slot _ k).trans ?_)
  have hmem : k ∈ s.unmarked a.fn ↔ ((s.slot k).inUse = true ∧ (s.slot k).fn = a.fn) ∧ (s.slot k).mark = false := by
    rw [State.unmarked, State.mem_slotsWhere hsorted rfl]
    simp
  by_cases huse : (s.slot k).inUse = true ∧ (s.slot k).fn = a.fn
  · rw [if_pos huse]
    cases hmark : (s.slot k).mark with
    | false => rw [if_pos (hmem.2 ⟨huse, hmark⟩)]
    | true =>
      have hnot : k ∉ s.unmarked a.fn := fun h => by
        rw [(hmem.1 h).2] at hmark
        cases hmark
      rw [if_neg hnot, ← hmark]
  · rw [if_neg huse, if_neg fun h => huse (hmem.1 h).1]

theorem State.stream_flushMarked (k : Nat) : (s.flushMarked a).stream k
    = if k < 256 ∧ ((s.stream k).tail.any fun i => ((s.flushMarked a).slot i).mark && ((s.flushMarked a).slot i).fn == a.fn) = true
      then (s.stream k).padded else s.stream k := by
  have hstream : (s.markSlots (s.unmarked a.fn)).stream = s.stream := agree (s.markSlots_frame _)
  have hslot : (s.flushMarked a).slot = (s.markSlots (s.unmarked a.fn)).slot :=
    (agree (π := State.slot) (State.flushPads_frame _ a.fn)).trans rfl
  refine (State.stream_flushPads _ a.fn k).trans ?_
  rw [hslot]
  simp only [State.setFlush_stream, State.setFlush_slot, hstream]

theorem State.stream_flushMarked_eq (k : Nat) : (s.flushMarked a).stream k
    = { s.stream k with linger := ((s.flushMarked a).stream k).linger, pad := ((s.flushMarked a).stream k).pad } := by
  rw [State.stream_flushMarked]
  split <;> rfl

theorem State.flushes_flushMarked : (s.flushMarked a).flushes = Store.insert s.flushes a.fn
    { count := ((Store.find? s.flushes a.fn).getD {}).count + (s.unmarked a.fn).length
      tags := ((Store.find? s.flushes a.fn).getD {}).tags ++ [a.tag] } := by
  have hmarks : (s.markSlots (s.unmarked a.fn)).flushes = s.flushes := agree (s.markSlots_frame _)
  refine (agree (π := State.flushes) (State.flushPads_frame _ a.fn)).trans ?_
  rw [State.setFlush_flushes, hmarks]

end

/-- Settles O13: a FLUSH is answered by the first case of R145 that applies, or marks and pads before the requests. -/
theorem flushAnswersOrMarks : Obligations.FlushAnswersOrMarks := by
  unfold Obligations.FlushAnswersOrMarks
  refine ⟨fun s a status hoffers hkind hcase => ?answered, fun s a hoffers hkind hfn hvalid hcanon hcase => ?accepted⟩
  case answered =>
    rw [exec_flush hoffers hkind]
    congr 1
    rcases hcase with ⟨hno, rfl⟩ | ⟨hfn, hcase⟩
    · exact State.takeFlush_of_noTenant (s := s.freed) ((State.validTenant_eq_false_iff _).2 hno)
    · have hvalid : s.freed.validTenant a.fn = true := (State.validTenant_iff _).2 hfn
      rcases hcase with ⟨hnone, hcase⟩ | ⟨r, hfound, hfull, rfl⟩
      · rw [State.takeFlush_of_noRecord hvalid hnone]
        rcases hcase with ⟨huse, rfl⟩ | ⟨huse, hfull, rfl⟩
        · exact if_pos huse
        · rw [if_neg (show ¬ s.freed.hasInUse a.fn = false from fun h => by cases huse.symm.trans h)]
          exact if_pos hfull
      · rw [State.takeFlush_of_record hvalid hfound]
        exact if_pos hfull
  case accepted =>
    have hvalid' : s.freed.validTenant a.fn = true := (State.validTenant_iff _).2 ⟨hfn, hvalid⟩
    have haccepted : s.freed.takeFlush a = (s.freed.flushMarked a).endRequests := by
      rw [← State.acceptFlush_eq]
      rcases hcase with ⟨hnone, huse, hroom⟩ | ⟨r, hfound, hroom⟩
      · rw [State.takeFlush_of_noRecord hvalid' hnone, if_neg (show ¬ s.freed.hasInUse a.fn = false from fun h => by cases huse.symm.trans h),
          if_neg (show ¬ 32 ≤ s.freed.flushes.length from Nat.not_le_of_lt hroom)]
      · rw [State.takeFlush_of_record hvalid' hfound, if_neg (by omega)]
    rw [exec_flush hoffers hkind, haccepted]
    have hsorted := ((Store.canon_iff _ _).1 hcanon).1
    have hframe := State.flushMarked_frame (s := s.freed) (a := a)
    have hslot := State.slot_flushMarked (s := s.freed) (a := a) hsorted
    have hstream := State.stream_flushMarked (s := s.freed) (a := a)
    have hstream' := State.stream_flushMarked_eq (s := s.freed) (a := a)
    have hflushes := State.flushes_flushMarked (s := s.freed) (a := a)
    generalize s.freed.flushMarked a = u at hframe hslot hstream hstream' hflushes
    have hends := State.stream_endRequests_of_pads (s := s) hstream'
    have hslots : u.endRequests.slot = u.slot := agree u.endRequests_frame
    have hrecords : u.endRequests.flushes = u.flushes := agree u.endRequests_frame
    have hreturns : u.returns = s.returns := (agree (π := State.returns) hframe).trans rfl
    refine ⟨_, rfl, ?_, fun fn hne => ?_, fun k => ?_, fun k => ?_, ?_, fun k => ?_, ?_⟩
    · rw [hrecords, hflushes, Store.find?_insert_self, State.unmarked, State.slotsWhere, List.length_map]
      rfl
    · rw [hrecords, hflushes, Store.find?_insert_ne _ _ hne]
      rfl
    · rw [hslots]
      exact hslot k
    · have hpad : (u.endRequests.stream k).pad = (u.stream k).pad := by rw [hends]
      rw [hpad, hstream, hslots]
      have hany : ((s.stream k).tail.any fun i => (u.slot i).mark && (u.slot i).fn == a.fn) = true
          ↔ ∃ j ∈ (s.stream k).tail, (u.slot j).mark = true ∧ (u.slot j).fn = a.fn := by simp
      split
      · rename_i hpads
        obtain ⟨hk, hmarked⟩ := hpads
        have hsize : 0 < (s.stream k).queue.length % 16 := Stream.tailSize_pos_of_any hmarked
        refine (Stream.padded_pad_iff _).trans (or_congr_right ?_)
        exact ⟨fun h => ⟨hk, h.1, hany.1 hmarked⟩, fun h => ⟨h.2.1, hsize⟩⟩
      · rename_i hnot
        exact ⟨.inl, fun h => h.resolve_right fun ⟨hk, _, hmarked⟩ => hnot ⟨hk, hany.2 hmarked⟩⟩
    · exact hreturns ▸ State.requestsMade_of_pads ((agree (π := State.requestBasis) hframe).trans rfl) hstream'
    · have hlinger : (u.stream k).linger = (s.stream k).linger := by
        rw [hstream]
        split <;> rfl
      exact State.stream_endRequests_of_padsAlone (s := s) hstream' hlinger
    · have heq := State.eq_of_butEndRequests u.endRequests_frame (State.endRequests_due _)
      refine heq.trans ?_
      have hslots' : u.endRequests.slots = u.slots := agree u.endRequests_frame
      rw [hslots', hrecords]
      exact congrArg (fun x : State => { x with
        slots := u.slots, flushes := u.flushes, streams := u.endRequests.streams, starved := u.endRequests.starved,
        segments := u.endRequests.segments, nextSegment := u.endRequests.nextSegment, lanes := u.endRequests.lanes,
        returns := u.endRequests.returns, due := [], draws := u.endRequests.draws }) hframe

end Sys2Proof.Machine
end

section
/-! SET-PARAM, GET-PARAM and BAD-REQUEST: what is stored, what is answered, and the acts made at once (R168, R171 to R173). -/

namespace Sys2Proof.Machine

open Sys2Proof

/-! ## BAD-REQUEST (R168) -/

theorem Arriving.isBadRequest_iff {a : Arriving} (hkind : a.kind = kindMgmt) :
    a.isBadRequest = true ↔ a.code ∉ requestCodes ∨ a.bodyUnits ≠ permittedBody a := by
  simp [Arriving.isBadRequest, Arriving.isRequest, hkind]

/-- Settles O11: the request is refused exactly when its code or its body length is wrong. -/
theorem badRequestIsExactlyR168 : Obligations.BadRequestIsExactlyR168 := by
  unfold Obligations.BadRequestIsExactlyR168
  refine ⟨fun s a hoffers hkind hbad => ?_, fun s a hoffers hkind hcode hbody => ?_⟩
  · exact exec_badRequest_of_offers hoffers ((Arriving.isBadRequest_iff hkind).2 hbad)
  · have hgood : a.isBadRequest = false := by
      rw [← Bool.not_eq_true, Arriving.isBadRequest_iff hkind]
      exact fun h => h.elim (fun h => h hcode) (fun h => h hbody)
    rw [exec_badRequest, execBadRequest, State.take_unwanted _ hoffers.1 hgood]

/-! ## Storing a parameter (R171) -/

theorem paramOfCode_iff (c : Nat) (p : Param) : paramOfCode c = some p ↔ (c, p) ∈ [(1, Param.heatStep), (2, .decayInterval),
    (3, .programTimeout), (4, .timeoutLimit), (5, .issueWindow), (6, .poolLowMark), (7, .pressureMark), (8, .durableLinger),
    (9, .creditBatch), (10, .creditLinger), (11, .sequenceBase), (12, .dumpGeneration)] := by
  constructor
  · intro h
    unfold paramOfCode at h
    split at h <;> cases h <;> decide
  · exact (by decide : ∀ e ∈ [(1, Param.heatStep), (2, .decayInterval), (3, .programTimeout), (4, .timeoutLimit), (5, .issueWindow),
      (6, .poolLowMark), (7, .pressureMark), (8, .durableLinger), (9, .creditBatch), (10, .creditLinger), (11, .sequenceBase),
      (12, .dumpGeneration)], paramOfCode e.1 = some e.2) (c, p)

/-- The state outside what the store of a parameter and its act may change. -/
def State.butSetParam (s : State) : State :=
  { s with
    params := {}, lanes := [], sequence := 0, returns := [], decayTimer := none, credits := 0, creditTimer := none, streams := [],
    starved := [], segments := [], nextSegment := 0, due := [], draws := 0 }

theorem State.storeParam_frame (s : State) (p : Param) (l v : Nat) : (s.storeParam p l v).butSetParam = s.butSetParam := by
  cases p <;> rfl

theorem State.storeParam_lane (s : State) (p : Param) (l v j : Nat) : (s.storeParam p l v).lane j = { s.lane j with
    window := if p = .issueWindow ∧ j = l then v else (s.lane j).window
    poolLowMark := if p = .poolLowMark ∧ j = l then v else (s.lane j).poolLowMark } := by
  cases p with
  | issueWindow =>
    refine (s.lane_setLane l { s.lane l with window := v } j).trans ?_
    by_cases hj : j = l
    · simp [hj]
    · simp [hj]
  | poolLowMark =>
    refine (s.lane_setLane l { s.lane l with poolLowMark := v } j).trans ?_
    by_cases hj : j = l
    · simp [hj]
    · simp [hj]
  | _ => rfl

theorem State.storeParam_returns (s : State) (p : Param) (l v : Nat) : (s.storeParam p l v).returns = s.returns := by cases p <;> rfl

theorem State.storeParam_sequence (s : State) (p : Param) (l v : Nat) :
    (s.storeParam p l v).sequence = if p = .sequenceBase then v else s.sequence := by cases p <;> rfl

theorem State.paramValue_congr {s t : State} (hparams : t.params = s.params) (hsequence : t.sequence = s.sequence)
    (hlanes : ∀ l, (t.lane l).window = (s.lane l).window ∧ (t.lane l).poolLowMark = (s.lane l).poolLowMark) (q : Param) (l : Nat) :
    t.paramValue q l = s.paramValue q l := by
  cases q with
  | issueWindow => exact (hlanes l).1
  | poolLowMark => exact (hlanes l).2
  | sequenceBase => exact hsequence
  | _ =>
    unfold State.paramValue
    rw [hparams]

/-- A store changes the parameter stored, for a parameter held per lane on its lane alone. -/
theorem State.storeParam_paramValue (s : State) (p q : Param) (l v j : Nat) : (s.storeParam p l v).paramValue q j
    = if q = p ∧ (paramPerLane p = true → j = l) then v else s.paramValue q j := by
  by_cases hlane : q = .issueWindow ∨ q = .poolLowMark
  · have hstored := s.storeParam_lane p l v j
    rcases hlane with rfl | rfl
    · refine (congrArg Lane.window hstored).trans ?_
      cases p <;> simp [paramPerLane, State.paramValue]
    · refine (congrArg Lane.poolLowMark hstored).trans ?_
      cases p <;> simp [paramPerLane, State.paramValue]
  · cases p <;> cases q <;> simp_all [State.storeParam, State.paramValue, paramPerLane]

/-! ## The act of a parameter (R172) -/

/-- The act that a SET-PARAM of the parameter makes at once. -/
def Param.act (a : Arriving) : Param → State → State
  | .decayInterval => State.restartDecay
  | .durableLinger => State.checkAllLinger
  | .creditBatch => State.evalCredit
  | .poolLowMark => State.rearm a.paramLane
  | _ => id

theorem Param.act_frame (a : Arriving) (p : Param) (s : State) : (p.act a s).butSetParam = s.butSetParam := by
  cases p with
  | durableLinger => exact agree s.checkAllLinger_frame
  | creditBatch => exact agree s.evalCredit_frame
  | _ => rfl

theorem Param.act_params (a : Arriving) (p : Param) (s : State) : (p.act a s).params = s.params := by
  cases p with
  | durableLinger => exact agree s.checkAllLinger_frame
  | creditBatch => exact agree s.evalCredit_frame
  | _ => rfl

theorem Param.act_sequence (a : Arriving) (p : Param) (s : State) : (p.act a s).sequence = s.sequence := by
  cases p with
  | durableLinger => exact agree s.checkAllLinger_frame
  | creditBatch => exact agree s.evalCredit_frame
  | _ => rfl

theorem State.checkLinger_frame (s : State) : (s.forStreams State.lingerCheck).butSetStream = s.butSetStream :=
  foldl_frame State.butSetStream _ State.lingerCheck_frame _ s

/-- Of a lane an act changes at most the normal queue and the armed flag. -/
theorem Param.act_lane (a : Arriving) (p : Param) (s : State) (l : Nat) : (p.act a s).lane l
    = { s.lane l with normal := ((p.act a s).lane l).normal, armed := ((p.act a s).lane l).armed } := by
  cases p with
  | durableLinger =>
    have hdraws := (s.forStreams State.lingerCheck).endRequests_ends.lanes l
    have hlane : (s.forStreams State.lingerCheck).lane l = s.lane l := congrFun (agree (π := State.lane) s.checkLinger_frame) l
    rw [hlane] at hdraws
    show s.checkAllLinger.lane l = { s.lane l with normal := (s.checkAllLinger.lane l).normal, armed := (s.checkAllLinger.lane l).armed }
    unfold State.checkAllLinger
    exact hdraws.2.trans (by rw [hdraws.armed]; rfl)
  | creditBatch =>
    have hlane : s.evalCredit.lane l = s.lane l := congrFun (agree (π := State.lane) s.evalCredit_frame) l
    show s.evalCredit.lane l = { s.lane l with normal := (s.evalCredit.lane l).normal, armed := (s.evalCredit.lane l).armed }
    rw [hlane]
  | poolLowMark =>
    have hset := s.lane_setLane a.paramLane
      { s.lane a.paramLane with armed := decide ((s.lane a.paramLane).poolLowMark < (s.lane a.paramLane).normal.length) } l
    show (s.rearm a.paramLane).lane l
      = { s.lane l with normal := ((s.rearm a.paramLane).lane l).normal, armed := ((s.rearm a.paramLane).lane l).armed }
    unfold State.rearm
    rw [hset]
    split
    · rename_i hl
      rw [hl]
    · rfl
  | _ => rfl

theorem Param.act_returns (a : Arriving) (p : Param) (s : State) : ∃ rest, (p.act a s).returns = s.returns ++ rest := by
  cases p with
  | durableLinger =>
    obtain ⟨starved, low, -, -, -, hreturns, -⟩ := (s.forStreams State.lingerCheck).endRequests_ends.notices
    have hsame : (s.forStreams State.lingerCheck).returns = s.returns := agree s.checkLinger_frame
    exact ⟨starved.map ReturnParcel.streamStarved ++ low, by rw [← List.append_assoc, ← hsame]; exact hreturns⟩
  | creditBatch =>
    obtain ⟨rest, hreturns, -⟩ := s.evalCredit_returns
    exact ⟨rest, hreturns⟩
  | _ => exact ⟨[], (List.append_nil _).symm⟩

theorem Param.act_paramValue (a : Arriving) (p : Param) (s : State) (q : Param) (l : Nat) :
    (p.act a s).paramValue q l = s.paramValue q l :=
  State.paramValue_congr (Param.act_params a p s) (Param.act_sequence a p s) (fun l => by rw [Param.act_lane a p s l]; exact ⟨rfl, rfl⟩) q l

/-! ## SET-PARAM -/

section

variable {s : State} {a : Arriving} {p : Param}

/-- The value of a SET-PARAM as stored. -/
def Arriving.storedValue (a : Arriving) (p : Param) : Nat := clampInto (paramRange p) a.paramValue

theorem Arriving.storedValue_eq (a : Arriving) (p : Param) :
    a.storedValue p = max (paramRange p).1 (min (field (a.bodyUnit 0) 0 6) (paramRange p).2) :=
  congrArg (max (paramRange p).1) (Nat.min_comm ..)

/-- The state after the store and the REPLY, before the act. -/
def State.paramStored (s : State) (a : Arriving) (p : Param) : State :=
  (s.freed.storeParam p a.paramLane (a.storedValue p)).reply a .ok (paramBody (a.arg 9) a.paramLane (a.storedValue p))

theorem Arriving.isCode_setParam (hasks : a.asks 0x02 1) : a.isCode 0x02 = true :=
  Arriving.isCode_of_asks_permitted hasks (by decide) rfl

theorem Arriving.setsParam_of_asks (hasks : a.asks 0x02 1) (hparam : a.param = some p) : a.setsParam p = true := by
  simp [Arriving.setsParam, Arriving.isCode_setParam hasks, hparam]

/-- The six commands that carry out a SET-PARAM make the same checks and the same store, and the act of the parameter. -/
theorem exec_setParamCommand (hoffers : s.offers a) (hasks : a.asks 0x02 1) (hparam : a.param = some p) :
    exec (setParamCommand p) s = .next (s.freed.setParam a (p.act a)) := by
  have hsets := Arriving.setsParam_of_asks hasks hparam
  have hplain : setParamCommand p = .setParam → exec .setParam s = .next (s.freed.setParam a id) := by
    intro hcommand
    refine exec_of_offers (act := fun s a => s.setParam a id) rfl hoffers ?_
    rw [Arriving.setsPlainParam, Arriving.isCode_setParam hasks, hparam]
    cases p with
    | decayInterval | durableLinger | creditBatch | sequenceBase | poolLowMark => cases hcommand
    | _ => rfl
  cases p with
  | decayInterval => exact exec_of_offers (act := fun s a => s.setParam a State.restartDecay) rfl hoffers hsets
  | durableLinger => exact exec_of_offers (act := fun s a => s.setParam a State.checkAllLinger) rfl hoffers hsets
  | creditBatch => exact exec_of_offers (act := fun s a => s.setParam a State.evalCredit) rfl hoffers hsets
  | poolLowMark => exact exec_of_offers (act := fun s a => s.setParam a (State.rearm a.paramLane)) rfl hoffers hsets
  | sequenceBase => exact exec_of_offers (act := fun s a => s.setParam a id) rfl hoffers hsets
  | _ => exact hplain rfl

theorem paramPerLane_iff : paramPerLane p = true ↔ p = .issueWindow ∨ p = .poolLowMark := by cases p <;> simp [paramPerLane]

theorem Arriving.checkedParam_of_lane (hparam : a.param = some p) (hlane : (p = .issueWindow ∨ p = .poolLowMark) → a.paramLane ≤ 7) :
    a.checkedParam = some p := by
  unfold Arriving.checkedParam
  rw [hparam]
  exact if_neg fun ⟨hper, hhigh⟩ => Nat.not_lt_of_le (hlane (paramPerLane_iff.1 hper)) hhigh

theorem Arriving.checkedParam_of_high_lane (hparam : a.param = some p) (hper : p = .issueWindow ∨ p = .poolLowMark)
    (hhigh : 7 < a.paramLane) : a.checkedParam = none := by
  unfold Arriving.checkedParam
  rw [hparam]
  exact if_pos ⟨paramPerLane_iff.2 hper, hhigh⟩

theorem Arriving.checkedParam_of_none (hparam : a.param = none) : a.checkedParam = none := by
  unfold Arriving.checkedParam
  rw [hparam]

theorem exec_setParam_ok (hoffers : s.offers a) (hasks : a.asks 0x02 1) (hparam : a.param = some p)
    (hlane : (p = .issueWindow ∨ p = .poolLowMark) → a.paramLane ≤ 7) (hquiet : p = .sequenceBase → s.allFree = true) :
    exec (setParamCommand p) s = .next (p.act a (s.paramStored a p)) := by
  rw [exec_setParamCommand hoffers hasks hparam]
  unfold State.setParam
  rw [Arriving.checkedParam_of_lane hparam hlane]
  exact congrArg Host.Outcome.next (if_neg fun ⟨hbase, hbusy⟩ => by cases (hquiet hbase).symm.trans hbusy)

theorem State.setParam_badField {act : State → State} (h : a.checkedParam = none) : s.setParam a act = s.reply a .badField := by
  unfold State.setParam
  rw [h]

theorem State.setParam_notQuiet {act : State → State} (h : a.checkedParam = some .sequenceBase) (hbusy : s.allFree = false) :
    s.setParam a act = s.reply a .notQuiet := by
  unfold State.setParam
  rw [h]
  exact if_pos ⟨rfl, hbusy⟩

theorem State.paramStored_frame : (s.paramStored a p).butSetParam = s.freed.butSetParam := s.freed.storeParam_frame ..

theorem State.paramStored_returns : (s.paramStored a p).returns
    = s.returns ++ [a.replyOf .ok (paramBody (a.arg 9) a.paramLane (a.storedValue p))] :=
  congrArg (· ++ [_]) (s.freed.storeParam_returns ..)

theorem State.paramStored_lane (j : Nat) : (s.paramStored a p).lane j = { s.lane j with
    window := if p = .issueWindow ∧ j = a.paramLane then a.storedValue p else (s.lane j).window
    poolLowMark := if p = .poolLowMark ∧ j = a.paramLane then a.storedValue p else (s.lane j).poolLowMark } :=
  s.freed.storeParam_lane ..

theorem State.paramStored_paramValue (q : Param) (j : Nat) : (s.paramStored a p).paramValue q j
    = if q = p ∧ (paramPerLane p = true → j = a.paramLane) then a.storedValue p else s.paramValue q j :=
  s.freed.storeParam_paramValue ..

theorem exec_getParam (hoffers : s.offers a) (hasks : a.asks 0x03 0) : exec .getParam s = .next (s.freed.getParam a) :=
  exec_of_offers (act := State.getParam) rfl hoffers (Arriving.isCode_of_asks_permitted hasks (by decide) rfl)

end

/-- Settles O15: the codes and ranges are tables; a GET-PARAM reads one parameter; a SET-PARAM that passes the checks stores one. -/
theorem paramsReportedStoredOrRefused : Obligations.ParamsReportedStoredOrRefused := by
  unfold Obligations.ParamsReportedStoredOrRefused
  refine ⟨paramOfCode_iff, fun p => by cases p <;> decide, fun s a hoffers hasks => ?get,
    fun s a p hoffers hasks hparam hlane hquiet => ?set, fun s a hoffers hasks => ?refused⟩
  case get =>
    rw [exec_getParam hoffers hasks]
    unfold State.getParam
    cases hparam : paramOfCode (field a.head 9 1) with
    | none => rw [Arriving.checkedParam_of_none hparam]; rfl
    | some p =>
      by_cases hhigh : (p = .issueWindow ∨ p = .poolLowMark) ∧ 7 < field a.head 10 1
      · rw [Arriving.checkedParam_of_high_lane hparam hhigh.1 hhigh.2]
        simp only [if_pos hhigh]
        rfl
      · rw [Arriving.checkedParam_of_lane hparam fun hper => Nat.le_of_not_lt fun h => hhigh ⟨hper, h⟩]
        simp only [if_neg hhigh]
        cases p <;> rfl
  case set =>
    obtain ⟨rest, hrest⟩ := Param.act_returns a p (s.paramStored a p)
    have hframe := (Param.act_frame a p (s.paramStored a p)).trans State.paramStored_frame
    refine ⟨_, rest, exec_setParam_ok hoffers hasks hparam hlane hquiet, (agree (π := State.parser) hframe).trans rfl, ?_,
      fun q l hq => ?_, fun l hper hl => ?_, ?_, (agree (π := State.tenants) hframe).trans rfl,
      (agree (π := State.ranges) hframe).trans rfl, (agree (π := State.slots) hframe).trans rfl,
      (agree (π := State.index) hframe).trans rfl, (agree (π := State.durables) hframe).trans rfl,
      (agree (π := State.flushes) hframe).trans rfl, fun l => ?_⟩
    · rw [Param.act_paramValue, State.paramStored_paramValue, if_pos ⟨rfl, fun _ => rfl⟩, Arriving.storedValue_eq]
    · rw [Param.act_paramValue, State.paramStored_paramValue, if_neg fun h => hq h.1]
    · rw [Param.act_paramValue, State.paramStored_paramValue, if_neg fun h => hl (h.2 (paramPerLane_iff.2 hper))]
    · rw [hrest, State.paramStored_returns, List.append_assoc, Arriving.storedValue_eq]
      rfl
    · rw [Param.act_lane, State.paramStored_lane]
      exact ⟨rfl, rfl⟩
  case refused =>
    have hplain : ∀ hcode : a.param = none ∨ a.param = some .issueWindow, a.checkedParam = none →
        exec .setParam s = .next (s.answered [a.replyOf .badField []]) := by
      intro hcode hchecked
      have hwanted : a.setsPlainParam = true := by
        rw [Arriving.setsPlainParam, Arriving.isCode_setParam hasks]
        rcases hcode with h | h <;> rw [h] <;> rfl
      rw [exec_of_offers (act := fun s a => s.setParam a id) rfl hoffers hwanted, State.setParam_badField hchecked]
      rfl
    refine ⟨fun hnone => hplain (.inl hnone) (Arriving.checkedParam_of_none hnone),
      fun hparam hhigh => hplain (.inr hparam) (Arriving.checkedParam_of_high_lane hparam (.inl rfl) hhigh),
      fun hparam hhigh => ?_, fun hparam hbusy => ?_⟩
    · refine (exec_setParamCommand (p := .poolLowMark) hoffers hasks hparam).trans ?_
      rw [State.setParam_badField (Arriving.checkedParam_of_high_lane hparam (.inr rfl) hhigh)]
      rfl
    · refine (exec_setParamCommand (p := .sequenceBase) hoffers hasks hparam).trans ?_
      rw [State.setParam_notQuiet (s := s.freed) (Arriving.checkedParam_of_lane hparam fun h => by simp at h) hbusy]
      rfl

/-! ## The acts (R172) -/

theorem Param.act_decayTimer (a : Arriving) (p : Param) (s : State) : (p.act a s).decayTimer
    = if p = .decayInterval then some (s.now + 1000 * s.params.decayInterval) else s.decayTimer := by
  cases p with
  | durableLinger => exact agree s.checkAllLinger_frame
  | creditBatch => exact agree s.evalCredit_frame
  | _ => rfl

section

variable {s : State} {a : Arriving} {p : Param}

theorem Param.act_lane_of_noSweep (hp : p ≠ .durableLinger) (l : Nat) : (p.act a s).lane l = { s.lane l with
    armed := if p = .poolLowMark ∧ l = a.paramLane then decide ((s.lane l).poolLowMark < (s.lane l).normal.length)
      else (s.lane l).armed } := by
  cases p with
  | durableLinger => exact absurd rfl hp
  | creditBatch => exact congrFun (agree (π := State.lane) s.evalCredit_frame) l
  | poolLowMark =>
    refine (s.lane_setLane a.paramLane
      { s.lane a.paramLane with armed := decide ((s.lane a.paramLane).poolLowMark < (s.lane a.paramLane).normal.length) } l).trans ?_
    by_cases hl : l = a.paramLane
    · simp [hl]
    · simp [hl]
  | _ => rfl

/-- The state outside what an act that makes no sweep may change. -/
def State.butPlainAct (s : State) : State :=
  { s with lanes := [], returns := [], decayTimer := none, credits := 0, creditTimer := none }

theorem Param.act_frame_of_noSweep (hp : p ≠ .durableLinger) : (p.act a s).butPlainAct = s.butPlainAct := by
  cases p with
  | durableLinger => exact absurd rfl hp
  | creditBatch => exact agree s.evalCredit_frame
  | _ => rfl

theorem Param.act_of_noCredit (hp : p ≠ .durableLinger) (hc : p ≠ .creditBatch) : (p.act a s).returns = s.returns
    ∧ (p.act a s).credits = s.credits ∧ (p.act a s).creditTimer = s.creditTimer := by
  cases p with
  | durableLinger => exact absurd rfl hp
  | creditBatch => exact absurd rfl hc
  | _ => exact ⟨rfl, rfl, rfl⟩

theorem State.part_of_offers (h : s.offers a) : s.part = .run := by
  have hrun := (State.wholeParcel_some h.1).1
  simp only [State.running, Bool.and_eq_true, beq_iff_eq] at hrun
  exact hrun.2

theorem State.paramStored_sequence : (s.paramStored a p).sequence = if p = .sequenceBase then a.storedValue p else s.sequence :=
  s.freed.storeParam_sequence ..

/-- A sequence base as carried lies in the range of R170. -/
theorem Arriving.storedValue_sequenceBase (a : Arriving) : a.storedValue .sequenceBase = field (a.bodyUnit 0) 0 6 := by
  rw [Arriving.storedValue_eq]
  have hlt : field (a.bodyUnit 0) 0 6 < 2 ^ 48 := field_lt _ 0 6
  simp only [paramRange]
  omega

theorem Arriving.storedValue_durableLinger (a : Arriving) : a.storedValue .durableLinger = min 255 (field (a.bodyUnit 0) 0 6) := by
  rw [Arriving.storedValue_eq]
  simp only [paramRange]
  omega

/-- The state before the requests of a SET-PARAM of DURABLE-LINGER. -/
def State.lingerStored (s : State) (a : Arriving) : State := (s.paramStored a .durableLinger).forStreams State.lingerCheck

theorem State.lingerStored_frame : (s.lingerStored a).butSetStream = (s.paramStored a .durableLinger).butSetStream :=
  (s.paramStored a .durableLinger).checkLinger_frame

theorem State.stream_lingerStored (k : Nat) : (s.lingerStored a).stream k
    = if k < 256 ∧ (s.paramStored a .durableLinger).lingerDue (s.stream k) = true then (s.stream k).padded else s.stream k :=
  (s.paramStored a .durableLinger).stream_checkLinger k

theorem State.stream_lingerStored_eq (k : Nat) : (s.lingerStored a).stream k
    = { s.stream k with linger := ((s.lingerStored a).stream k).linger, pad := ((s.lingerStored a).stream k).pad } := by
  rw [State.stream_lingerStored]
  split <;> rfl

theorem State.storeDurableLinger_frame (s : State) (a : Arriving) (l v : Nat) (body : List Byte) :
    ((s.storeParam .durableLinger l v).reply a .ok body).butEndRequests
      = { s with params := { s.params with durableLinger := v } }.butEndRequests := rfl

theorem State.eq_of_storeDurableLinger {s t : State} {v : Nat}
    (h : t.butEndRequests = { s.freed with params := { s.params with durableLinger := v } }.butEndRequests) (hdue : t.due = []) : t = { s with
      parser := .awaiting, params := t.params, streams := t.streams, starved := t.starved, segments := t.segments,
      nextSegment := t.nextSegment, lanes := t.lanes, returns := t.returns, due := [], draws := t.draws } := by
  have hparams : t.params = { s.params with durableLinger := v } := (agree (π := State.params) h).trans rfl
  have heq := State.eq_of_butEndRequests h hdue
  rw [hparams]
  exact heq

theorem State.params_paramStored_durableLinger : (s.paramStored a .durableLinger).params
    = { s.params with durableLinger := min 255 (field (a.bodyUnit 0) 0 6) } :=
  congrArg (fun v => { s.params with durableLinger := v }) (Arriving.storedValue_durableLinger a)

theorem State.pad_lingerStored_iff {v : Nat} (hv : (s.paramStored a .durableLinger).params.durableLinger = v) (k : Nat) :
    ((s.lingerStored a).stream k).pad = true ↔ (s.stream k).pad = true ∨ (k < 256 ∧ (s.stream k).state ≠ .unbound ∧ 0 < (s.stream k).queue.length % 16 ∧
      if ((s.stream k).tail.any fun j => (s.slot j).durable.isSome) = true
      then (if (s.stream k).lingerLimit = 0 then v else min (s.stream k).lingerLimit v) ≤ (s.stream k).linger
      else 0 < (s.stream k).lingerLimit ∧ (s.stream k).lingerLimit ≤ (s.stream k).linger) := by
  have hslot : (s.paramStored a .durableLinger).slot = s.slot := (agree (π := State.slot) State.paramStored_frame).trans rfl
  have hreached := (s.paramStored a .durableLinger).lingerDue_iff (s.stream k)
  rw [hv, hslot] at hreached
  rw [State.stream_lingerStored]
  split
  · rename_i hpadded
    refine (Stream.padded_pad_iff _).trans (or_congr_right ?_)
    exact ⟨fun h => ⟨hpadded.1, h.1, h.2, hreached.1 hpadded.2⟩, fun h => ⟨h.2.1, h.2.2.1⟩⟩
  · rename_i hnot
    exact ⟨.inl, fun h => h.resolve_right fun h => hnot ⟨h.1, hreached.2 h.2.2.2⟩⟩

end

/-- Settles O16: every act but that of DURABLE-LINGER writes one lane, one timer or the credits; that one pads before the requests. -/
theorem setParamActsAtOnce : Obligations.SetParamActsAtOnce := by
  unfold Obligations.SetParamActsAtOnce
  refine ⟨fun s a p hoffers hasks hparam hlane hquiet hp => ?plain, fun s a hoffers hasks hparam => ?linger⟩
  case plain =>
    have hframe := Param.act_frame_of_noSweep (s := s.paramStored a p) (a := a) hp
    have hparams := Param.act_params a p (s.paramStored a p)
    have hlanes := fun l => (Param.act_lane_of_noSweep (s := s.paramStored a p) (a := a) hp l).trans
      (by rw [State.paramStored_lane (s := s) (a := a) (p := p) l])
    have hnow : (s.paramStored a p).now = s.now := (agree (π := State.now) (s.freed.storeParam_frame ..)).trans rfl
    have htimer : (s.paramStored a p).decayTimer = s.decayTimer := by cases p <;> rfl
    have hcredits : (s.paramStored a p).credits = s.credits := by cases p <;> rfl
    have hcreditTimer : (s.paramStored a p).creditTimer = s.creditTimer := by cases p <;> rfl
    have hkept : (s.paramStored a p).part = s.part := (agree (π := State.part) (s.freed.storeParam_frame ..)).trans rfl
    have hpart := hkept.trans (State.part_of_offers hoffers)
    refine ⟨_, exec_setParam_ok hoffers hasks hparam hlane hquiet, ?_, fun l => ?_, fun l => ?_, fun l => ?_, ?_, ?_, ?_, ?_⟩
    · rw [Param.act_decayTimer, hparams, hnow, htimer]
    · rw [hlanes]
      rfl
    · rw [hlanes]
    · rw [hlanes]
    · split
      · rename_i hc
        obtain ⟨-, hreturns, -⟩ := State.evalCredit_follows (s := { s with params := (p.act a (s.paramStored a p)).params })
          (u := s.paramStored a p) hpart hcredits hcreditTimer hnow hparams.symm
        subst hc
        refine hreturns.trans ?_
        rw [State.paramStored_returns, List.append_assoc, Arriving.storedValue_eq]
        rfl
      · rename_i hc
        rw [(Param.act_of_noCredit hp hc).1, State.paramStored_returns, Arriving.storedValue_eq]
        rfl
    · split
      · rename_i hc
        subst hc
        exact (State.evalCredit_follows (s := { s with params := (Param.creditBatch.act a (s.paramStored a .creditBatch)).params })
          (u := s.paramStored a .creditBatch) hpart hcredits hcreditTimer hnow hparams.symm).1
      · rename_i hc
        obtain ⟨-, hkept, hkept'⟩ := Param.act_of_noCredit (s := s.paramStored a p) (a := a) hp hc
        exact ⟨hkept.trans hcredits, hkept'.trans hcreditTimer⟩
    · rw [Param.act_sequence, State.paramStored_sequence]
      split
      · rename_i hbase
        rw [hbase, Arriving.storedValue_sequenceBase]
      · rfl
    · have hstored : (s.paramStored a p).butPlainAct = { s.freed.butPlainAct with
          params := (s.paramStored a p).params, sequence := (s.paramStored a p).sequence } := by cases p <;> rfl
      have hseq := Param.act_sequence a p (s.paramStored a p)
      generalize p.act a (s.paramStored a p) = t at hframe hparams hseq ⊢
      rw [hstored, ← hparams, ← hseq] at hframe
      exact congrArg (fun x : State => { x with
        lanes := t.lanes, returns := t.returns, decayTimer := t.decayTimer, credits := t.credits, creditTimer := t.creditTimer }) hframe
  case linger =>
    have hexec := exec_setParam_ok (p := .durableLinger) hoffers hasks hparam (fun h => by simp at h) (fun h => by simp at h)
    have hframe := State.lingerStored_frame (s := s) (a := a)
    have hparams : (s.lingerStored a).endRequests.params = { s.params with durableLinger := min 255 (field (a.bodyUnit 0) 0 6) } := by
      exact (agree (π := State.params) (State.endRequests_frame _)).trans
        ((agree (π := State.params) hframe).trans State.params_paramStored_durableLinger)
    have hreturns : (s.lingerStored a).returns = s.returns ++ [a.replyOf .ok (padToUnit (packed [(1, field a.head 9 1),
        (1, field a.head 10 1), (6, min 255 (field (a.bodyUnit 0) 0 6))]))] := by
      refine (agree (π := State.returns) hframe).trans ?_
      rw [State.paramStored_returns, Arriving.storedValue_durableLinger]
      rfl
    refine ⟨(s.lingerStored a).endRequests, hexec, hparams, fun k => ⟨?_, ?_⟩, ?_, ?_⟩
    · have hlinger : ((s.lingerStored a).stream k).linger = (s.stream k).linger := by
        rw [State.stream_lingerStored]
        split <;> rfl
      exact State.stream_endRequests_of_padsAlone State.stream_lingerStored_eq hlinger
    · rw [State.pad_endRequests]
      exact State.pad_lingerStored_iff
        (congrArg Params.durableLinger (State.params_paramStored_durableLinger.trans hparams.symm)) k
    · exact hreturns ▸ State.requestsMade_of_pads (s := s) ((agree (π := State.requestBasis) hframe).trans rfl) State.stream_lingerStored_eq
    · have hstored := s.freed.storeDurableLinger_frame a a.paramLane (a.storedValue .durableLinger)
        (paramBody (a.arg 9) a.paramLane (a.storedValue .durableLinger))
      exact State.eq_of_storeDurableLinger
        (((State.endRequests_frame _).trans (agree (π := State.butEndRequests) hframe)).trans hstored) (State.endRequests_due _)

end Sys2Proof.Machine
end

section
/-! Fields of received units, bytes of sent runs, and the tenant and range requests (R5 to R13, R181, R186). -/

namespace Sys2Proof.Machine

open Sys2Proof

/-! ## Fields of a unit (R181) -/

theorem field_eq (u : Unit16) (off len : Nat) : field u off len = u.toNat / 2 ^ (8 * off) % 2 ^ (8 * len) := by
  rw [field, BitVec.extractLsb'_toNat, Nat.shiftRight_eq_div_pow]

theorem bitAt_eq (u : Unit16) (off i : Nat) : bitAt u off i = u.toNat.testBit (8 * off + i) := rfl

/-! ## Bytes of a run (R181) -/

theorem length_leBytes (n v : Nat) : (leBytes n v).length = n := by
  induction n generalizing v with
  | zero => rfl
  | succ n ih => rw [leBytes, List.length_cons, ih]

theorem bytesAt_append_right {xs : List Byte} {off : Nat} (ys : List Byte) (len : Nat) (h : xs.length ≤ off) :
    bytesAt (xs ++ ys) off len = bytesAt ys (off - xs.length) len := by
  unfold bytesAt
  rw [List.drop_append, List.drop_eq_nil_of_le h, List.nil_append]

theorem bytesAt_append_left {xs : List Byte} {off len : Nat} (ys : List Byte) (h : off + len ≤ xs.length) :
    bytesAt (xs ++ ys) off len = bytesAt xs off len := by
  unfold bytesAt
  rw [List.drop_append_of_le_length (by omega), List.take_append_of_le_length (by rw [List.length_drop]; omega)]

theorem bytesAt_leBytes (n v : Nat) (rest : List Byte) : bytesAt (leBytes n v ++ rest) 0 n = v % 256 ^ n := by
  induction n generalizing v with
  | zero => simp [bytesAt, Nat.mod_one]
  | succ n ih =>
    have hrest := ih (v / 256)
    unfold bytesAt at hrest ⊢
    rw [List.drop_zero] at hrest ⊢
    rw [leBytes, List.cons_append, List.take_succ_cons, List.foldr_cons, hrest, BitVec.toNat_ofNat]
    exact (Nat.mod_mul (a := 256)).symm.trans (by rw [Nat.pow_succ'])

theorem packed_cons (n v : Nat) (fs : List (Nat × Nat)) : packed ((n, v) :: fs) = leBytes n v ++ packed fs := rfl

/-- The first field packed. -/
theorem bytesAt_packed_here (n v : Nat) (fs : List (Nat × Nat)) (rest : List Byte) :
    bytesAt (packed ((n, v) :: fs) ++ rest) 0 n = v % 256 ^ n := by
  rw [packed_cons, List.append_assoc, bytesAt_leBytes]

/-- A field behind the first one packed. -/
theorem bytesAt_packed_skip {n off : Nat} (v : Nat) (fs : List (Nat × Nat)) (rest : List Byte) (len : Nat) (h : n ≤ off) :
    bytesAt (packed ((n, v) :: fs) ++ rest) off len = bytesAt (packed fs ++ rest) (off - n) len := by
  rw [packed_cons, List.append_assoc, bytesAt_append_right _ _ (by rw [length_leBytes]; exact h), length_leBytes]

theorem length_packed (fs : List (Nat × Nat)) : (packed fs).length = (fs.map Prod.fst).sum := by
  induction fs with
  | nil => rfl
  | cons f fs ih => rw [packed_cons f.1 f.2, List.length_append, length_leBytes, ih]; rfl

theorem length_padTo {n : Nat} {bs : List Byte} (h : bs.length ≤ n) : (padTo n bs).length = n := by
  rw [padTo, List.length_append, List.length_replicate]
  omega

theorem length_padToUnit (bs : List Byte) : (padToUnit bs).length = (bs.length + 15) / 16 * 16 := length_padTo (by omega)

theorem bytesAt_indexBody {n : Nat} (h : n < 65536) : bytesAt (indexBody n) 0 2 = n := by
  unfold indexBody padToUnit padTo
  rw [bytesAt_leBytes]
  exact Nat.mod_eq_of_lt h

theorem length_indexBody (n : Nat) : (indexBody n).length = 16 := by
  rw [indexBody, length_padToUnit, length_leBytes]

/-! ## The fields of a PUT-TENANT (R186) -/

theorem find?_filterMap_key {α : Type} (c : Nat → Bool) (g : Nat → α) (ns : List Nat) (h : Nat) :
    Store.find? (ns.filterMap fun i => if c i then some (i, g i) else none) h
      = if h ∈ ns ∧ c h = true then some (g h) else none := by
  induction ns with
  | nil => simp
  | cons i ns ih =>
    cases hc : c i with
    | false =>
      rw [List.filterMap_cons_none (by simp [hc]), ih]
      by_cases hi : h = i
      · subst hi; simp [hc]
      · simp [hi]
    | true =>
      rw [List.filterMap_cons_some (b := (i, g i)) (by simp [hc]), Store.find?, ih]
      by_cases hi : h = i
      · subst hi; simp [hc]
      · simp [hi]

/-! ## Windows (R6, R7, R11) -/

theorem State.entryFault_iff (s : State) (first i : Nat) : s.entryFault first i = true ↔ ((s.range i).limit < (s.range i).base
    ∨ (first < i ∧ ¬ ((s.range (i - 1)).ns < (s.range i).ns
        ∨ ((s.range (i - 1)).ns = (s.range i).ns ∧ (s.range (i - 1)).limit < (s.range i).base)))) := by
  simp only [State.entryFault, Bool.or_eq_true, Bool.and_eq_true, decide_eq_true_eq, Bool.not_eq_true', decide_eq_false_iff_not]

theorem State.windowFault_eq_some {s : State} {first count i : Nat} (hlow : first ≤ i) (hhigh : i < first + count)
    (hfault : s.entryFault first i = true) (hbefore : ∀ j, first ≤ j → j < i → s.entryFault first j = false) :
    s.windowFault first count = some i := by
  unfold State.windowFault
  refine List.find?_range'_eq_some.2 ⟨hfault, List.mem_range'_1.2 ⟨hlow, hhigh⟩, fun j hj hji => ?_⟩
  rw [hbefore j hj hji]
  rfl

theorem State.windowFault_eq_none_iff {s : State} {first count : Nat} :
    s.windowFault first count = none ↔ ∀ i, first ≤ i → i < first + count → s.entryFault first i = false := by
  unfold State.windowFault
  rw [List.find?_eq_none]
  simp only [List.mem_range'_1, Bool.not_eq_true, and_imp]

theorem windowsMeet_iff (first count first' count' : Nat) : windowsMeet first count first' count' = true
    ↔ ∃ i, (first' ≤ i ∧ i < first' + count') ∧ first ≤ i ∧ i < first + count := by
  simp only [windowsMeet, decide_eq_true_eq]
  constructor
  · rintro ⟨h1, h2, h3, h4⟩
    exact ⟨max first first', by omega, by omega⟩
  · rintro ⟨i, h1, h2⟩
    omega

theorem Tenant.holds_iff (t : Tenant) (i : Nat) : t.holds i = true ↔ t.windowFirst ≤ i ∧ i < t.windowFirst + t.windowCount := by
  simp [Tenant.holds]

/-- The valid tenant `u`, accepted by `other`, has a window that shares an index with the run. -/
def State.ownsWithin (s : State) (other : Nat → Bool) (first count u : Nat) : Prop :=
  other u = true ∧ s.validTenant u = true ∧ ∃ i, (s.tenant u).holds i = true ∧ first ≤ i ∧ i < first + count

theorem State.ownsWithin_iff {s : State} {other : Nat → Bool} {first count u : Nat} (hu : u < 512) :
    s.ownsWithin other first count u ↔ (other u && (s.tenant u).valid
      && windowsMeet first count (s.tenant u).windowFirst (s.tenant u).windowCount) = true := by
  simp only [State.ownsWithin, Bool.and_eq_true, windowsMeet_iff, Tenant.holds_iff, State.validTenant, decide_eq_true_eq,
    Config.tenants, hu, true_and, and_assoc]

theorem State.windowOwner_eq_some_iff {s : State} {other : Nat → Bool} {first count u : Nat} :
    s.windowOwner other first count = some u
      ↔ u < 512 ∧ s.ownsWithin other first count u ∧ ∀ v, v < u → ¬ s.ownsWithin other first count v := by
  unfold State.windowOwner
  rw [firstFrom_eq_some]
  constructor
  · rintro ⟨-, hu, howns, hbefore⟩
    have hbound : u < 512 := by simpa [Config.tenants] using hu
    refine ⟨hbound, (State.ownsWithin_iff hbound).2 howns, fun v hv hown => ?_⟩
    have hnot := hbefore v (Nat.zero_le v) hv
    rw [(State.ownsWithin_iff (hv.trans hbound)).1 hown] at hnot
    cases hnot
  · rintro ⟨hu, howns, hbefore⟩
    refine ⟨Nat.zero_le u, by simpa [Config.tenants] using hu, (State.ownsWithin_iff hu).1 howns, fun v _ hv => ?_⟩
    rw [← Bool.not_eq_true, ← State.ownsWithin_iff (hv.trans hu)]
    exact hbefore v hv

theorem State.windowOwner_eq_none_iff {s : State} {other : Nat → Bool} {first count : Nat} :
    s.windowOwner other first count = none ↔ ∀ u, ¬ s.ownsWithin other first count u := by
  unfold State.windowOwner
  rw [firstFrom_eq_none]
  constructor
  · intro hnone u howns
    have hu : u < 512 := by
      have hvalid := howns.2.1
      simp only [State.validTenant, Bool.and_eq_true, decide_eq_true_eq] at hvalid
      exact hvalid.1
    have hnot := hnone u (Nat.zero_le u) (by simpa [Config.tenants] using hu)
    rw [(State.ownsWithin_iff hu).1 howns] at hnot
    cases hnot
  · intro hnone u _ hu
    rw [← Bool.not_eq_true, ← State.ownsWithin_iff (by simpa [Config.tenants] using hu)]
    exact hnone u

/-! ## The requests -/

section

variable {s : State} {a : Arriving}

theorem State.freed_tenant (u : Nat) : s.freed.tenant u = s.tenant u := rfl

theorem State.tenantQuiet_iff (fn : Nat) : s.tenantQuiet fn = true ↔ s.hasInUse fn = false
    ∧ (∀ i r, (i, r) ∈ s.durables → r.fn ≠ fn) ∧ Store.find? s.flushes fn = none := by
  simp only [State.tenantQuiet, Bool.and_eq_true, Bool.not_eq_true', List.any_eq_false, beq_iff_eq, Prod.forall,
    Option.isNone_iff_eq_none, and_assoc]

theorem State.tenantQuiet_eq_false_iff (fn : Nat) : s.tenantQuiet fn = false ↔ s.hasInUse fn = true
    ∨ (∃ i r, (i, r) ∈ s.durables ∧ r.fn = fn) ∨ (Store.find? s.flushes fn).isSome = true := by
  rw [← Bool.not_eq_true, State.tenantQuiet_iff, Option.isSome_iff_ne_none]
  simp only [not_and_or, not_forall, Bool.not_eq_false, ne_eq, not_not, exists_prop]

theorem exec_putTenant (hoffers : s.offers a) (hasks : a.asks 0x10 2) : exec .putTenant s = .next (s.freed.putTenant a) :=
  exec_of_offers (act := State.putTenant) rfl hoffers (Arriving.isCode_of_asks_permitted hasks (by decide) rfl)

theorem tenantBadField_iff (fn : Nat) (f : TenantFields) : tenantBadField fn f = true ↔ 511 < fn ∨ 1 < f.ackCode
    ∨ (f.coalescing = true ∧ f.ackCode = 1) ∨ 64 < f.windowCount ∨ 4096 < f.windowFirst + f.windowCount := by simp [tenantBadField]

theorem State.putTenant_badField (h : tenantBadField a.fn a.tenantFields = true) : s.putTenant a = s.reply a .badField := by
  simp [State.putTenant, h]

theorem State.putTenant_badRanges {i : Nat} (hgood : tenantBadField a.fn a.tenantFields = false)
    (hfault : (if a.tenantFields.valid then s.windowFault a.tenantFields.windowFirst a.tenantFields.windowCount else none) = some i) :
    s.putTenant a = s.reply a .badRanges (indexBody i) := by
  simp [State.putTenant, hgood, hfault]

theorem State.putTenant_conflict {u : Nat} (hgood : tenantBadField a.fn a.tenantFields = false)
    (hfault : (if a.tenantFields.valid then s.windowFault a.tenantFields.windowFirst a.tenantFields.windowCount else none) = none)
    (howner : (if a.tenantFields.valid then s.windowOwner (· != a.fn) a.tenantFields.windowFirst a.tenantFields.windowCount else none)
      = some u) :
    s.putTenant a = s.reply a .windowConflict (indexBody u) := by
  simp [State.putTenant, hgood, hfault, howner]

theorem State.putTenant_free (hgood : tenantBadField a.fn a.tenantFields = false)
    (hfault : (if a.tenantFields.valid then s.windowFault a.tenantFields.windowFirst a.tenantFields.windowCount else none) = none)
    (howner : (if a.tenantFields.valid then s.windowOwner (· != a.fn) a.tenantFields.windowFirst a.tenantFields.windowCount else none)
      = none) :
    s.putTenant a = if !a.tenantFields.valid && (s.tenant a.fn).valid && !s.tenantQuiet a.fn then s.reply a .notQuiet
      else (s.setTenant a.fn ((s.tenant a.fn).rewritten a.tenantFields)).reply a .ok := by
  simp [State.putTenant, hgood, hfault, howner]

end

/-- Settles O18: the checks of R5 to R8 in their order, each a search of the window or of the tenants. -/
theorem putTenantWritesOrRefuses : Obligations.PutTenantWritesOrRefuses := by
  unfold Obligations.PutTenantWritesOrRefuses
  have hgood : ∀ (a : Arriving), a.fn ≤ 511 → a.tenantFields.ackCode ≤ 1 →
      (a.tenantFields.coalescing = true → a.tenantFields.ackCode = 0) → a.tenantFields.windowCount ≤ 64 →
      a.tenantFields.windowFirst + a.tenantFields.windowCount ≤ 4096 → tenantBadField a.fn a.tenantFields = false := by
    intro a hfn hack hcoalescing hcount hrun
    rw [← Bool.not_eq_true, tenantBadField_iff]
    rintro (h | h | ⟨h, h'⟩ | h | h)
    · omega
    · omega
    · have := hcoalescing h
      omega
    · omega
    · omega
  refine ⟨fun s a f hoffers hasks hf hfn hack hcoalescing hcount hrun hsorted halone hquiet => ?accepted,
    fun s a f hoffers hasks hf => ⟨fun hbad => ?badField, fun hfn hack hcoalescing hcount hrun => ⟨?badRanges, ?conflict, ?notQuiet⟩⟩,
    fun s first i => s.entryFault_iff first i, fun a u v f hu hv hf => ?fields, field_eq, bitAt_eq⟩
  case accepted =>
    subst hf
    have hfault : (if a.tenantFields.valid then s.freed.windowFault a.tenantFields.windowFirst a.tenantFields.windowCount else none)
        = none := by
      split
      · rename_i hvalid
        exact State.windowFault_eq_none_iff.2 (hsorted hvalid)
      · rfl
    have howner : (if a.tenantFields.valid then s.freed.windowOwner (· != a.fn) a.tenantFields.windowFirst a.tenantFields.windowCount
        else none) = none := by
      split
      · rename_i hvalid
        refine State.windowOwner_eq_none_iff.2 fun u ⟨hother, huvalid, i, hholds, hlow, hhigh⟩ => ?_
        exact halone hvalid u i (by simpa using hother) huvalid hholds ⟨hlow, hhigh⟩
      · rfl
    have hset := s.tenant_setTenant a.fn ((s.tenant a.fn).rewritten a.tenantFields)
    have hwritten : ¬ (!a.tenantFields.valid && (s.freed.tenant a.fn).valid && !s.freed.tenantQuiet a.fn) = true := by
      simp only [Bool.and_eq_true, Bool.not_eq_true']
      rintro ⟨⟨hinvalid, hvalid⟩, hbusy⟩
      cases (hquiet hinvalid hvalid).symm.trans hbusy
    rw [exec_putTenant hoffers hasks, State.putTenant_free (hgood a hfn hack hcoalescing hcount hrun) hfault howner, if_neg hwritten]
    refine ⟨_, rfl, (hset a.fn).trans ((if_pos rfl).trans ?_), fun u hu => (hset u).trans (if_neg hu), rfl⟩
    unfold Tenant.rewritten clampInto
    rw [Nat.min_comm]
  case badField =>
    subst hf
    rw [exec_putTenant hoffers hasks, State.putTenant_badField ((tenantBadField_iff _ _).2 hbad)]
    rfl
  case badRanges =>
    subst hf
    intro i hvalid hlow hhigh hfault hbefore
    have hfound : (if a.tenantFields.valid then s.freed.windowFault a.tenantFields.windowFirst a.tenantFields.windowCount else none)
        = some i := by
      rw [if_pos hvalid]
      exact State.windowFault_eq_some hlow hhigh hfault hbefore
    rw [exec_putTenant hoffers hasks, State.putTenant_badRanges (hgood a hfn hack hcoalescing hcount hrun) hfound]
    exact ⟨_, rfl, length_indexBody i, bytesAt_indexBody (by omega)⟩
  case conflict =>
    subst hf
    intro u hvalid hsorted hu huvalid hmeets hbefore
    have hbound : u < 512 := by
      simp only [State.validTenant, Bool.and_eq_true, decide_eq_true_eq] at huvalid
      exact huvalid.1
    have hfault : (if a.tenantFields.valid then s.freed.windowFault a.tenantFields.windowFirst a.tenantFields.windowCount else none)
        = none := by
      rw [if_pos hvalid]
      exact State.windowFault_eq_none_iff.2 hsorted
    have howner : (if a.tenantFields.valid then s.freed.windowOwner (· != a.fn) a.tenantFields.windowFirst a.tenantFields.windowCount
        else none) = some u := by
      rw [if_pos hvalid]
      refine State.windowOwner_eq_some_iff.2 ⟨hbound, ⟨by simpa using hu, huvalid, hmeets⟩, ?_⟩
      rintro v hv ⟨hother, hvvalid, i, hholds, hrange⟩
      exact hbefore v hv (by simpa using hother) hvvalid i hholds hrange
    rw [exec_putTenant hoffers hasks, State.putTenant_conflict (hgood a hfn hack hcoalescing hcount hrun) hfault howner]
    exact ⟨_, rfl, length_indexBody u, bytesAt_indexBody (by omega)⟩
  case notQuiet =>
    subst hf
    intro hinvalid hvalid hbusy
    have hnone : ∀ o : Option Nat, (if a.tenantFields.valid then o else none) = none := fun o => by rw [hinvalid]; rfl
    have hrefused : (!a.tenantFields.valid && (s.freed.tenant a.fn).valid && !s.freed.tenantQuiet a.fn) = true := by
      rw [hinvalid, State.freed_tenant, hvalid, (State.tenantQuiet_eq_false_iff (s := s.freed) a.fn).2 hbusy]
      rfl
    rw [exec_putTenant hoffers hasks, State.putTenant_free (hgood a hfn hack hcoalescing hcount hrun) (hnone _) (hnone _),
      if_pos hrefused]
    rfl
  case fields =>
    subst hu hv hf
    refine ⟨rfl, rfl, rfl, rfl, rfl, rfl, rfl, fun h => ?_⟩
    refine (find?_filterMap_key (fun h => bitAt (a.bodyUnit 0) 9 h) (fun h => field (a.bodyUnit 1) (h - 1) 1) (List.range' 1 15) h).trans ?_
    refine if_congr ?_ rfl rfl
    rw [List.mem_range'_1]
    exact ⟨fun ⟨hrange, hbit⟩ => ⟨hrange.1, Nat.le_of_lt_succ hrange.2, hbit⟩, fun ⟨hlow, hhigh, hbit⟩ => ⟨⟨hlow, Nat.lt_succ_of_le hhigh⟩, hbit⟩⟩

end Sys2Proof.Machine
end

section
/-! The byte layouts of what the part sends (R181, R186 to R190): every layout is a run of packed fields, and a field is read behind the
fields before it. -/

namespace Sys2Proof.Machine

open Sys2Proof

/-! ## Padding is a field of zeros -/

theorem leBytes_zero (n : Nat) : leBytes n 0 = List.replicate n 0 := by
  induction n with
  | zero => rfl
  | succ n ih => rw [leBytes, Nat.zero_div, ih, List.replicate_succ]; rfl

theorem packed_append (fs gs : List (Nat × Nat)) : packed (fs ++ gs) = packed fs ++ packed gs := List.flatMap_append

theorem packed_single (n v : Nat) : packed [(n, v)] = leBytes n v := List.append_nil _

theorem padTo_packed (n : Nat) (fs : List (Nat × Nat)) : padTo n (packed fs) = packed (fs ++ [(n - (fs.map Prod.fst).sum, 0)]) := by
  rw [padTo, packed_append, packed_single, leBytes_zero, length_packed]

@[simp] theorem padToUnit_packed (fs : List (Nat × Nat)) : padToUnit (packed fs)
    = packed (fs ++ [(((fs.map Prod.fst).sum + 15) / 16 * 16 - (fs.map Prod.fst).sum, 0)]) := by
  rw [padToUnit, padTo_packed, length_packed]

@[simp] theorem padToUnit_leBytes (n v : Nat) : padToUnit (leBytes n v) = packed [(n, v), ((n + 15) / 16 * 16 - n, 0)] := by
  rw [← packed_single, padToUnit_packed]
  rfl

/-! ## Reading the fields -/

@[simp] theorem packed_nil_append (rest : List Byte) : packed [] ++ rest = rest := rfl

@[simp] theorem bytesAt_packed_alone (fs : List (Nat × Nat)) (off len : Nat) : bytesAt (packed fs) off len = bytesAt (packed fs ++ []) off len := by
  rw [List.append_nil]

@[simp] theorem bytesAt_zero_length (bs : List Byte) (off : Nat) : bytesAt bs off 0 = 0 := by simp [bytesAt]

theorem bytesAt_add (bs : List Byte) (off m n : Nat) (hm : off + m ≤ bs.length) :
    bytesAt bs off (m + n) = bytesAt bs off m + 256 ^ m * bytesAt bs (off + m) n := by
  unfold bytesAt
  rw [← List.drop_drop]
  have hlength : m ≤ (bs.drop off).length := by
    rw [List.length_drop]
    omega
  generalize bs.drop off = cs at hlength
  induction m generalizing cs with
  | zero => simp
  | succ m ih =>
    cases cs with
    | nil => simp at hlength
    | cons c cs =>
      rw [Nat.succ_add, List.take_succ_cons, List.take_succ_cons, List.foldr_cons, List.foldr_cons, List.drop_succ_cons,
        ih (by omega) cs (by simpa using hlength), Nat.pow_succ']
      simp only [Nat.mul_add, Nat.mul_assoc, Nat.add_assoc]

/-- A read that begins with the first field packed and goes on behind it. -/
@[simp] theorem bytesAt_packed_over {n len : Nat} (v : Nat) (fs : List (Nat × Nat)) (rest : List Byte) (h : n ≤ len) :
    bytesAt (packed ((n, v) :: fs) ++ rest) 0 len = v % 256 ^ n + 256 ^ n * bytesAt (packed fs ++ rest) 0 (len - n) := by
  have hlength : 0 + n ≤ (packed ((n, v) :: fs) ++ rest).length := by
    rw [packed_cons, List.append_assoc, List.length_append, length_leBytes]
    omega
  obtain ⟨m, rfl⟩ := Nat.exists_eq_add_of_le h
  rw [bytesAt_add _ 0 n m hlength, bytesAt_packed_here, bytesAt_packed_skip _ _ _ _ (by omega)]
  simp

/-- A read of the padding alone. -/
@[simp] theorem bytesAt_packed_zeros {n len : Nat} (fs : List (Nat × Nat)) (rest : List Byte) (h : len ≤ n) :
    bytesAt (packed ((n, 0) :: fs) ++ rest) 0 len = 0 := by
  have hzero : ∀ m, (List.replicate m (0 : Byte)).foldr (fun b n => b.toNat + 256 * n) 0 = 0 := by
    intro m
    induction m with
    | zero => rfl
    | succ m ih => rw [List.replicate_succ, List.foldr_cons, ih]; rfl
  rw [packed_cons, List.append_assoc, bytesAt_append_left _ (by rw [length_leBytes]; omega), leBytes_zero]
  unfold bytesAt
  rw [List.drop_zero, List.take_replicate]
  exact hzero _

/-- A read within one of the equal runs that a body is made of. -/
theorem bytesAt_flatMap {α : Type} {f : α → List Byte} {n : Nat} (hf : ∀ x, (f x).length = n) {xs : List α} {i : Nat} {x : α}
    (hx : xs[i]? = some x) (rest : List Byte) {off len : Nat} (hoff : off + len ≤ n) :
    bytesAt (xs.flatMap f ++ rest) (n * i + off) len = bytesAt (f x) off len := by
  induction xs generalizing i with
  | nil => cases hx
  | cons y xs ih =>
    rw [List.flatMap_cons, List.append_assoc]
    cases i with
    | zero =>
      obtain rfl : y = x := by simpa using hx
      rw [Nat.mul_zero, Nat.zero_add, bytesAt_append_left _ (by rw [hf]; exact hoff)]
    | succ i =>
      have hlength : (f y).length ≤ n * (i + 1) + off := by rw [hf, Nat.mul_succ]; omega
      have hbehind : n * (i + 1) + off - (f y).length = n * i + off := by rw [hf, Nat.mul_succ]; omega
      rw [bytesAt_append_right _ _ hlength, hbehind]
      exact ih (by simpa using hx)

theorem length_flatMap_const {α : Type} {f : α → List Byte} {n : Nat} (hf : ∀ x, (f x).length = n) (xs : List α) :
    (xs.flatMap f).length = n * xs.length := by
  induction xs with
  | nil => rfl
  | cons y xs ih => rw [List.flatMap_cons, List.length_append, hf, ih, List.length_cons, Nat.mul_succ, Nat.add_comm]

/-! ## Values that fit their field -/

@[simp] theorem toNat_mod_16 (x : BitVec 16) : x.toNat % 65536 = x.toNat := Nat.mod_eq_of_lt x.isLt
@[simp] theorem toNat_mod_32 (x : BitVec 32) : x.toNat % 4294967296 = x.toNat := Nat.mod_eq_of_lt x.isLt
@[simp] theorem toNat_mod_48 (x : BitVec 48) : x.toNat % 281474976710656 = x.toNat := Nat.mod_eq_of_lt x.isLt
@[simp] theorem flagNat_mod (b : Bool) : flagNat b % 256 = if b = true then 1 else 0 := by cases b <;> rfl
@[simp] theorem LandedStatus.code_mod (st : LandedStatus) : st.code % 256 = st.code := by cases st <;> rfl
@[simp] theorem PeekedStatus.code_mod (st : PeekedStatus) : st.code % 256 = st.code := by cases st <;> rfl
@[simp] theorem FlushedStatus.code_mod (st : FlushedStatus) : st.code % 256 = st.code := by cases st <;> rfl
@[simp] theorem Status.code_mod (st : Status) : st.code % 256 = st.code := by cases st <;> rfl
@[simp] theorem FailReason.code_mod (r : FailReason) : r.code % 256 = r.code := by cases r <;> rfl
@[simp] theorem DownCause.code_mod (c : DownCause) : c.code % 256 = c.code := by cases c <;> rfl
@[simp] theorem endCauseCode_mod (c : Option EndCause) : endCauseCode c % 256 = endCauseCode c := by
  cases c with
  | none => rfl
  | some c => cases c <;> rfl
@[simp] theorem UnitKind.code_mod (k : UnitKind) : k.code % 256 = if k = .dump then 1 else 0 := by cases k <;> rfl
@[simp] theorem AckMode.code_mod (m : AckMode) : m.code % 256 = if m = .durable then 1 else 0 := by cases m <;> rfl

/-! ## The parts of a layout -/

/-- A parcel is its header, its kind fields, zeros up to byte 16, and its body (R181). -/
theorem parcelBytes_eq (kind tag fn : Nat) (kindFields : List (Nat × Nat)) (body : List Byte) :
    parcelBytes kind tag fn kindFields body = packed ([(1, kind), (1, 0), (2, body.length / 16), (2, tag), (2, fn)]
      ++ (kindFields ++ [(8 - (kindFields.map Prod.fst).sum, 0)])) ++ body := by
  rw [parcelBytes, padTo_packed, packed_append _ (kindFields ++ _)]

@[simp] theorem length_tagBytes (first ns fn lba seq : Nat) : (tagBytes first ns fn lba seq).length = 16 := by simp [tagBytes, length_packed]

@[simp] theorem length_grantEntryBytes (g : UnitKind × Grant) : (grantEntryBytes g).length = 16 := by
  simp [grantEntryBytes, padToUnit_packed, length_packed]

@[simp] theorem length_recordBody (r : InFlight) : (recordBody r).length = 16 := by
  simp [recordBody, padToUnit_packed, length_packed]

/-- A read within the body of a parcel, behind its 16 bytes of head. -/
theorem bytesAt_parcel_body {kind tag fn : Nat} {kindFields : List (Nat × Nat)} (body : List Byte) {off len : Nat}
    (hfields : (kindFields.map Prod.fst).sum ≤ 8) :
    bytesAt (parcelBytes kind tag fn kindFields body) (16 + off) len = bytesAt body off len := by
  have hlength : (packed ([(1, kind), (1, 0), (2, body.length / 16), (2, tag), (2, fn)]
      ++ (kindFields ++ [(8 - (kindFields.map Prod.fst).sum, 0)]))).length = 16 := by
    simp only [length_packed, List.map_append, List.map_cons, List.map_nil, List.sum_append, List.sum_cons, List.sum_nil]
    omega
  rw [parcelBytes_eq, bytesAt_append_right _ _ (by omega), hlength, Nat.add_sub_cancel_left]

theorem length_parcelBytes {kind tag fn : Nat} {kindFields : List (Nat × Nat)} (body : List Byte)
    (hfields : (kindFields.map Prod.fst).sum ≤ 8) : (parcelBytes kind tag fn kindFields body).length = 16 + body.length := by
  simp only [parcelBytes_eq, List.length_append, length_packed, List.map_append, List.map_cons, List.map_nil, List.sum_append,
    List.sum_cons, List.sum_nil]
  omega

theorem drop_parcelBytes {kind tag fn : Nat} {kindFields : List (Nat × Nat)} (body : List Byte)
    (hfields : (kindFields.map Prod.fst).sum ≤ 8) : (parcelBytes kind tag fn kindFields body).drop 16 = body := by
  rw [parcelBytes_eq]
  refine List.drop_left' ?_
  simp only [length_packed, List.map_append, List.map_cons, List.map_nil, List.sum_append, List.sum_cons, List.sum_nil]
  omega

/-- Settles O48: each field of each parcel is read behind the fields packed before it, and each entry within its run of the body. -/
theorem returnParcelLayout : Obligations.ReturnParcelLayout := by
  unfold Obligations.ReturnParcelLayout
  refine ⟨⟨fun tag fn st n q => ?landed, fun seg l blk u es => ⟨?_, ?_, ?_, ?_, ?_, ?_, ?_, ?_, ?_, ?_, fun i e he => ?placed⟩,
    fun n => ?credit, fun l n => ?poolLow, fun l r seg u blk => ?programFailed, fun id g => ?segmentClosed⟩,
    fun tag fn st q data => ⟨?_, ?_, ?_, ?_, ?_, ?_, ?_, ?_, ?_, drop_parcelBytes data (by simp)⟩, fun tag fn st => ?flushed,
    fun tag fn code st body => ⟨?_, ?_, ?_, ?_, ?_, ?_, ?_, ?_, ?_, drop_parcelBytes body (by simp)⟩, rfl, fun k => ?starved,
    fun l c n => ?laneDown, fun l gs => ⟨?_, ?_, ?_, ?_, ?_, ?_, ?_, ?_, ?_, fun i kind g hg => ?returned⟩,
    ⟨rfl, rfl, rfl, rfl, rfl, rfl, rfl, rfl, rfl⟩⟩
  case placed =>
    have hentry : ∀ at' off len, at' = 16 + (16 * i + off) → off + len ≤ 16 →
        bytesAt (ReturnParcel.placed seg l blk u es).bytes at' len = bytesAt (tagBytes e.position e.ns e.fn e.lba e.seq) off len := by
      rintro _ off len rfl hoff
      refine (bytesAt_parcel_body _ (by simp)).trans ?_
      rw [← List.append_nil (List.flatMap _ es)]
      exact bytesAt_flatMap (fun _ => length_tagBytes _ _ _ _ _) he [] hoff
    rw [hentry _ 0 1 (by omega) (by decide), hentry _ 1 1 (by omega) (by decide), hentry _ 2 2 (by omega) (by decide),
      hentry _ 4 5 (by omega) (by decide), hentry _ 9 6 (by omega) (by decide), hentry _ 15 1 (by omega) (by decide)]
    simp [tagBytes, bytesAt_packed_skip, -List.append_nil]
  case returned =>
    have hentry : ∀ at' off len, at' = 16 + (16 * i + off) → off + len ≤ 16 →
        bytesAt (ReturnParcel.grantReturned l gs).bytes at' len = bytesAt (grantEntryBytes (kind, g)) off len := by
      rintro _ off len rfl hoff
      refine (bytesAt_parcel_body _ (by simp)).trans ?_
      rw [← List.append_nil (List.flatMap _ gs)]
      exact bytesAt_flatMap length_grantEntryBytes hg [] hoff
    rw [hentry _ 0 1 (by omega) (by decide), hentry _ 1 3 (by omega) (by decide), hentry _ 4 4 (by omega) (by decide),
      hentry _ 8 2 (by omega) (by decide), hentry _ 10 6 (by omega) (by decide)]
    simp [grantEntryBytes, bytesAt_packed_skip, -List.append_nil]
  all_goals simp [ReturnParcel.bytes, noticeBytes, parcelBytes_eq, length_packed, bytesAt_packed_skip, Nat.mul_comm, -List.append_nil]

end Sys2Proof.Machine
end

section
/-! The layouts of PROGRAM, the sector tag, the trailer and the result bodies (R109, R186, R189, R190), and the requests that report,
drop and write records (R9, R10, R11, R12, R13, R65, R135). -/

namespace Sys2Proof.Machine

open Sys2Proof

/-! ## PROGRAM and the sector tag (R189) -/

/-- One of the equal runs of a flattened list. -/
theorem flatten_slice {α : Type} {n : Nat} {xs : List (List α)} (hn : ∀ x ∈ xs, x.length = n) {i : Nat} {x : List α} (hx : xs[i]? = some x) :
    (xs.flatten.drop (n * i)).take n = x := by
  induction xs generalizing i with
  | nil => cases hx
  | cons y xs ih =>
    have hy : y.length = n := hn y List.mem_cons_self
    rw [List.flatten_cons]
    cases i with
    | zero =>
      obtain rfl : y = x := by simpa using hx
      rw [Nat.mul_zero, List.drop_zero, List.take_left' hy]
    | succ i =>
      have hlength : y.length ≤ n * (i + 1) := by rw [hy, Nat.mul_succ]; omega
      have hbehind : n * (i + 1) - y.length = n * i := by rw [hy, Nat.mul_succ]; omega
      rw [List.drop_append, List.drop_eq_nil_of_le hlength, List.nil_append, hbehind]
      exact ih (fun z hz => hn z (List.mem_cons_of_mem y hz)) (by simpa using hx)

theorem length_flatten_const {α : Type} {n : Nat} {xs : List (List α)} (hn : ∀ x ∈ xs, x.length = n) : xs.flatten.length = n * xs.length := by
  induction xs with
  | nil => rfl
  | cons y xs ih =>
    rw [List.flatten_cons, List.length_append, hn y List.mem_cons_self, ih fun z hz => hn z (List.mem_cons_of_mem y hz), List.length_cons,
      Nat.mul_succ, Nat.add_comm]

/-- A filler is FILLER and zeros (R109). -/
theorem fillerBytes_eq : fillerBytes = 1 :: List.replicate 4111 0 := by
  have htag : tagBytes 1 0 0 0 0 = 1 :: List.replicate 15 0 := rfl
  rw [fillerBytes, htag, List.cons_append, List.replicate_append_replicate]
  rfl

theorem State.length_sectorBytes (s : State) (k : Nat) : (s.sectorBytes k).length = 4112 := by
  simp [State.sectorBytes, State.slotData, Config.sectorBytes]

theorem State.sectorBytes_data (s : State) (k : Nat) {i : Nat} (hi : i < 4096) :
    (s.sectorBytes k).getD (16 + i) 0 = readByte s.staging (4096 * k + i) := by
  have htag := length_tagBytes 0 (s.slot k).ns (s.slot k).fn (s.slot k).lba (s.slot k).seq
  rw [State.sectorBytes, List.getD_eq_getElem?_getD, List.getElem?_append_right (by omega), htag, Nat.add_sub_cancel_left, State.slotData,
    List.getElem?_map, List.getElem?_range (by exact hi)]
  rfl

/-! ## The trailer (R190) -/

/-- The fields of a trailer in front of its block list. -/
def Trailer.front (c : Trailer) : List (Nat × Nat) :=
  [(4, trailerSignature), (4, c.generation), (6, c.first), (6, c.last), (4, c.dumped), (4, c.notDumped), (4, c.units),
    (1, flagNat c.truncated), (1, c.blocks.length)]

/-- One entry of a trailer's block list. -/
def TakenGrant.entry (g : TakenGrant) : List Byte := packed [(1, g.lane), (4, g.block.toNat), (2, g.assigned)]

theorem TakenGrant.length_entry (g : TakenGrant) : g.entry.length = 7 := by simp [TakenGrant.entry, length_packed]

theorem Trailer.length_front (c : Trailer) : (packed c.front).length = 34 := by simp [Trailer.front, length_packed]

theorem Trailer.bytes_eq (c : Trailer) : c.bytes = packed c.front ++ (c.blocks.flatMap TakenGrant.entry
    ++ List.replicate (4096 - (34 + 7 * c.blocks.length)) 0) := by
  have hlength : (packed c.front ++ c.blocks.flatMap TakenGrant.entry).length = 34 + 7 * c.blocks.length := by
    rw [List.length_append, c.length_front, length_flatMap_const TakenGrant.length_entry]
  rw [← hlength, ← List.append_assoc]
  rfl

/-- Settles O49: the sectors of a PROGRAM are equal runs of its body, and the fields of each layout follow one another. -/
theorem programAndTrailerLayout : Obligations.ProgramAndTrailerLayout := by
  unfold Obligations.ProgramAndTrailerLayout
  refine ⟨fun kind block unit fillers sectors b hlengths hcount hb => ?program,
    fun s k => ⟨s.length_sectorBytes k, ?_, ?_, ?_, ?_, ?_, ?_, fun i hi => s.sectorBytes_data k hi⟩,
    fun c hblocks => ?trailer, fun n d => ?counts⟩
  case program =>
    have hsixteen : (sectors ++ List.replicate fillers fillerBytes).length = 16 := by simpa using hcount
    have hruns : ∀ x ∈ sectors ++ List.replicate fillers fillerBytes, x.length = 4112 := by
      intro x hx
      rcases List.mem_append.1 hx with hx | hx
      · exact hlengths x hx
      · rw [List.eq_of_mem_replicate hx, fillerBytes_eq, List.length_cons, List.length_replicate]
    have hbody : (sectors ++ List.replicate fillers fillerBytes).flatten.length = 65792 := by
      rw [length_flatten_const hruns, hsixteen]
    rw [programBytes, ← List.flatten_append] at hb
    have hslice : ∀ i x, (sectors ++ List.replicate fillers fillerBytes)[i]? = some x → (b.drop (16 + 4112 * i)).take 4112 = x := by
      intro i x hx
      rw [hb, ← List.drop_drop, drop_parcelBytes _ (by simp)]
      exact flatten_slice hruns hx
    have hlength : b.length = 16 + 16 * 4112 := by rw [hb, length_parcelBytes _ (by simp), hbody]
    have hfillers : fillers % 256 = fillers := by omega
    refine ⟨hlength, ?_, ?_, ?_, ?_, ?_, ?_, ?_, ?_, fun i x hx => hslice i x ?_, fun i hlow hhigh => hslice i _ ?_⟩
    case refine_9 => rw [List.getElem?_append_left (List.getElem?_eq_some_iff.1 hx).1, hx]
    case refine_10 =>
      rw [List.getElem?_append_right hlow, List.getElem?_replicate, if_pos (by omega), fillerBytes_eq]
    all_goals
      rw [hb, parcelBytes_eq, hbody]
      simp [bytesAt_packed_skip, hfillers, -List.append_nil]
  case trailer =>
    have hentries := length_flatMap_const TakenGrant.length_entry c.blocks
    have hlength : c.bytes.length = 4096 := by
      rw [c.bytes_eq, List.length_append, List.length_append, List.length_replicate, c.length_front, hentries]
      omega
    have hcount : c.blocks.length % 256 = c.blocks.length := by omega
    refine ⟨hlength, rfl, ?_, ?_, ?_, ?_, ?_, ?_, ?_, ?_, fun i g hg => ?_, fun i hlow hhigh => ?_⟩
    case refine_9 =>
      have hentry : ∀ at' off len, at' = 34 + (7 * i + off) → off + len ≤ 7 → bytesAt c.bytes at' len = bytesAt g.entry off len := by
        rintro _ off len rfl hoff
        rw [c.bytes_eq, bytesAt_append_right _ _ (by rw [c.length_front]; omega), c.length_front, Nat.add_sub_cancel_left]
        exact bytesAt_flatMap TakenGrant.length_entry hg _ hoff
      rw [hentry _ 0 1 (by omega) (by decide), hentry _ 1 4 (by omega) (by decide), hentry _ 5 2 (by omega) (by decide)]
      simp [TakenGrant.entry, bytesAt_packed_skip, -List.append_nil]
    case refine_10 =>
      rw [c.bytes_eq, ← List.append_assoc, List.getD_eq_getElem?_getD,
        List.getElem?_append_right (by rw [List.length_append, c.length_front, hentries]; omega), List.getElem?_replicate]
      split <;> rfl
    all_goals
      rw [c.bytes_eq]
      simp [Trailer.front, Trailer.truncated, bytesAt_packed_skip, hcount, -List.append_nil]
  case counts => simp [countsBody, length_packed, bytesAt_packed_skip, -List.append_nil]
  all_goals simp [State.sectorBytes, tagBytes, bytesAt_packed_skip, -List.append_nil]

/-! ## The hint present mask (R186) -/

theorem testBit_two_pow_add_mul (k m h : Nat) : (2 ^ k + 2 ^ (k + 1) * m).testBit h = (decide (h = k) || (2 ^ (k + 1) * m).testBit h) := by
  rw [Nat.add_comm, Nat.testBit_two_pow_mul_add m (Nat.pow_lt_pow_right (by decide) k.lt_succ_self), Nat.testBit_two_pow_mul,
    Nat.testBit_two_pow]
  by_cases hlow : h < k + 1
  · rw [if_pos hlow, decide_eq_false (show ¬ h ≥ k + 1 by omega), Bool.false_and, Bool.or_false]
    exact decide_eq_decide.2 eq_comm
  · rw [if_neg hlow, decide_eq_false (show ¬ h = k by omega), decide_eq_true (show h ≥ k + 1 by omega), Bool.false_or, Bool.true_and]

theorem hintMask_cons (e : Nat × Nat) (hints : Store Nat) : hintMask (e :: hints) = 2 ^ e.1 + hintMask hints := rfl

theorem dvd_hintMask {k : Nat} {hints : Store Nat} (h : ∀ e ∈ hints, k < e.1) : 2 ^ (k + 1) ∣ hintMask hints := by
  refine List.dvd_sum fun n hn => ?_
  obtain ⟨e, he, rfl⟩ := List.mem_map.1 hn
  exact Nat.pow_dvd_pow 2 (h e he)

/-- The mask of distinct hints has exactly their bits. -/
theorem testBit_hintMask {hints : Store Nat} (hsorted : Store.sorted hints = true) (h : Nat) :
    (hintMask hints).testBit h = (Store.find? hints h).isSome := by
  induction hints with
  | nil => exact Nat.zero_testBit h
  | cons e hints ih =>
    obtain ⟨hlow, hrest⟩ := (Store.sorted_cons e hints).1 hsorted
    obtain ⟨m, hm⟩ := dvd_hintMask hlow
    rw [hintMask_cons, hm, testBit_two_pow_add_mul, ← hm, ih hrest, Store.find?]
    by_cases hkey : h = e.1
    · simp [hkey]
    · simp [hkey]

/-! ## Records reported (R9, R13, R65, R135) -/

theorem toNat_mod_8 (x : BitVec 8) : x.toNat % 256 = x.toNat := Nat.mod_eq_of_lt x.isLt

theorem StreamState.code_mod (st : StreamState) : st.code % 256 = st.code := by cases st <;> rfl

theorem length_rangeBody (r : Range) : (rangeBody r).length = 32 := by simp [rangeBody, length_packed]

/-- The fields of a tenant's body in front of its hint streams. -/
def Tenant.front (t : Tenant) : List (Nat × Nat) :=
  [(1, flagNat t.valid), (1, t.defaultStream), (1, t.ack.code), (1, flagNat t.coalescing), (2, t.cap), (2, t.windowFirst),
    (1, t.windowCount), (2, hintMask t.hints), (5, 0)]

/-- The hint streams of a tenant's body. -/
def Tenant.hintFields (t : Tenant) : List (Nat × Nat) := (List.range' 1 15).map fun h => (1, Store.getD 0 t.hints h)

/-- The fields of a tenant's body behind its hint streams. -/
def Tenant.back (t : Tenant) : List (Nat × Nat) :=
  [(1, 0), (2, t.stagedCount), (6, t.landed.toNat), (6, t.superseded.toNat), (2, 0), (4, t.refused.toNat), (12, 0)]

theorem Tenant.length_hintFields (t : Tenant) : (packed t.hintFields).length = 15 := by rw [length_packed]; rfl

theorem tenantBody_eq (t : Tenant) : tenantBody t = packed t.front ++ (packed t.hintFields ++ packed t.back) := by
  have hfront : padToUnit (packed [(1, flagNat t.valid), (1, t.defaultStream), (1, t.ack.code), (1, flagNat t.coalescing), (2, t.cap),
      (2, t.windowFirst), (1, t.windowCount), (2, hintMask t.hints)]) = packed t.front := by simp [Tenant.front]
  have hhints : padToUnit (packed t.hintFields) = packed (t.hintFields ++ [(1, 0)]) := by
    rw [padToUnit_packed, ← length_packed, t.length_hintFields]
  have hcounts : padToUnit (packed [(2, t.stagedCount), (6, t.landed.toNat), (6, t.superseded.toNat)])
      = packed [(2, t.stagedCount), (6, t.landed.toNat), (6, t.superseded.toNat), (2, 0)] := by simp
  have hrefused : padToUnit (leBytes 4 t.refused.toNat) = packed [(4, t.refused.toNat), (12, 0)] := padToUnit_leBytes _ _
  rw [tenantBody, hfront, hcounts, hrefused]
  refine (congrArg (packed t.front ++ · ++ _ ++ _) hhints).trans ?_
  simp only [← packed_append, Tenant.back, List.append_assoc, List.cons_append, List.nil_append]

theorem length_tenantBody (t : Tenant) : (tenantBody t).length = 64 := by
  rw [tenantBody_eq, List.length_append, List.length_append, t.length_hintFields]
  simp [Tenant.front, Tenant.back, length_packed]

theorem Tenant.length_front (t : Tenant) : (packed t.front).length = 16 := by simp [Tenant.front, length_packed]

/-- A read behind the hint streams of a tenant's body. -/
theorem bytesAt_tenantBody_back (t : Tenant) (off len : Nat) :
    bytesAt (tenantBody t) (31 + off) len = bytesAt (packed t.back) off len := by
  rw [tenantBody_eq, bytesAt_append_right _ _ (by rw [t.length_front]; omega), t.length_front,
    bytesAt_append_right _ _ (by rw [t.length_hintFields]; omega), t.length_hintFields]
  congr 1
  omega

/-- A read within a run of one-byte fields. -/
theorem bytesAt_packed_run (g : Nat → Nat) {n first i : Nat} (rest : List Byte) (hi : i < n) :
    bytesAt (packed ((List.range' first n).map fun h => (1, g h)) ++ rest) i 1 = g (first + i) % 256 := by
  induction n generalizing first i with
  | zero => cases hi
  | succ n ih =>
    rw [List.range'_succ, List.map_cons]
    cases i with
    | zero => exact bytesAt_packed_here _ _ _ _
    | succ i =>
      rw [bytesAt_packed_skip _ _ _ _ (by omega), Nat.add_sub_cancel, ih (by omega), Nat.add_assoc, Nat.add_comm 1 i]

/-- The hint streams stand behind the first unit of a tenant's body. -/
theorem bytesAt_tenantBody_hint (t : Tenant) {h : Nat} (hlow : 1 ≤ h) (hhigh : h ≤ 15) :
    bytesAt (tenantBody t) (15 + h) 1 = Store.getD 0 t.hints h % 256 := by
  obtain ⟨i, rfl⟩ := Nat.exists_eq_add_of_le hlow
  rw [tenantBody_eq, bytesAt_append_right _ _ (by rw [t.length_front]; omega), t.length_front]
  have hoff : 15 + (1 + i) - 16 = i := by omega
  rw [hoff]
  exact bytesAt_packed_run _ _ (by omega)

/-- The run of entries that a GET-RANGES reports. -/
def State.rangesReported (s : State) (a : Arriving) : List Byte := (List.range' a.start a.entryCount).flatMap fun i => rangeBody (s.range i)

theorem Arriving.badRun_iff (a : Arriving) : a.badRun = true ↔ a.entryCount = 0 ∨ 32 < a.entryCount ∨ 4096 < a.start + a.entryCount := by
  simp [Arriving.badRun]

section

variable {s : State} {a : Arriving}

theorem exec_getRanges (hoffers : s.offers a) (hasks : a.asks 0x19 0) : exec .getRanges s = .next (s.freed.getRanges a) :=
  exec_of_offers (act := State.getRanges) rfl hoffers (Arriving.isCode_of_asks_permitted hasks (by decide) rfl)

theorem exec_getTenant (hoffers : s.offers a) (hasks : a.asks 0x11 0) : exec .getTenant s = .next (s.freed.getTenant a) :=
  exec_of_offers (act := State.getTenant) rfl hoffers (Arriving.isCode_of_asks_permitted hasks (by decide) rfl)

end

/-- Settles O19: the layouts of the two bodies, field by field. -/
theorem getTenantAndGetRangesReturnRecords : Obligations.GetTenantAndGetRangesReturnRecords := by
  unfold Obligations.GetTenantAndGetRangesReturnRecords
  refine ⟨fun s a hoffers hasks => ?get, fun t => ⟨length_tenantBody t, ?_, ?_, ?_, ?_, ?_, ?_, ?_, fun h => bytesAt_tenantBody_hint t,
      (bytesAt_tenantBody_back t 1 2).trans ?_, (bytesAt_tenantBody_back t 3 6).trans ?_, (bytesAt_tenantBody_back t 9 6).trans ?_,
      (bytesAt_tenantBody_back t 17 4).trans ?_, fun hsorted hkeys h hh => ?mask⟩,
    fun s a hoffers hasks => ⟨fun hbad => ?bad, fun hlow hhigh hrun => ⟨s.rangesReported a, ?ranges, ?length, fun i hi r hr => ?range⟩⟩⟩
  case get =>
    rw [exec_getTenant hoffers hasks, State.getTenant]
    split
    · rfl
    · rfl
  case mask =>
    have hmask : bytesAt (tenantBody t) 9 2 = hintMask t.hints % 2 ^ 16 := by
      simp [tenantBody_eq, Tenant.front, bytesAt_packed_skip, -List.append_nil]
    rw [hmask, Nat.testBit_mod_two_pow, decide_eq_true hh, Bool.true_and, testBit_hintMask hsorted]
  case bad =>
    rw [exec_getRanges hoffers hasks, State.getRanges, if_pos (a.badRun_iff.2 (by omega))]
    rfl
  case ranges =>
    rw [exec_getRanges hoffers hasks, State.getRanges, if_neg (by rw [a.badRun_iff]; omega)]
    rfl
  case length =>
    rw [State.rangesReported, length_flatMap_const fun _ => length_rangeBody _, List.length_range']
  case range =>
    subst hr
    have hentry : ∀ at' off len, at' = 32 * i + off → off + len ≤ 32 →
        bytesAt (s.rangesReported a) at' len = bytesAt (rangeBody (s.range (a.start + i))) off len := by
      rintro _ off len rfl hoff
      rw [State.rangesReported, ← List.append_nil (List.flatMap _ _)]
      refine bytesAt_flatMap (fun _ => length_rangeBody _) ?_ [] hoff
      rw [List.getElem?_range' hi, Nat.one_mul]
    rw [hentry _ 0 1 (by omega) (by decide), hentry _ 1 1 (by omega) (by decide), hentry _ 2 1 (by omega) (by decide),
      hentry _ 3 1 (by omega) (by decide), hentry _ 4 2 (by omega) (by decide), hentry _ 6 5 (by omega) (by decide),
      hentry _ 11 5 (by omega) (by decide), hentry _ 16 2 (by omega) (by decide), hentry _ 18 1 (by omega) (by decide)]
    simp [rangeBody, bytesAt_packed_skip, -List.append_nil]
  all_goals simp [tenantBody_eq, Tenant.front, Tenant.back, bytesAt_packed_skip, -List.append_nil]

end Sys2Proof.Machine
end

section
/-! The requests that drop a tenant, write range entries, and report a stream or a lane (R10, R11, R12, R65, R135). -/

namespace Sys2Proof.Machine

open Sys2Proof

/-! ## DROP-TENANT (R10) -/

/-- Settles O20: the checks of R10 in order, and the write of the reset values. -/
theorem dropTenantReturnsResetValues : Obligations.DropTenantReturnsResetValues := by
  unfold Obligations.DropTenantReturnsResetValues
  intro s a hoffers hasks
  have hexec : exec .dropTenant s = .next (s.freed.dropTenant a) :=
    exec_of_offers (act := State.dropTenant) rfl hoffers (Arriving.isCode_of_asks_permitted hasks (by decide) rfl)
  rw [hexec]
  refine ⟨fun hfn => ?bad, fun hfn hbusy => ?busy, fun hfn hslots hdurables hflush => ?quiet⟩
  case bad =>
    rw [State.dropTenant, if_pos hfn]
    rfl
  case busy =>
    have hnot : s.freed.tenantQuiet a.fn = false := (State.tenantQuiet_eq_false_iff (s := s.freed) a.fn).2 hbusy
    rw [State.dropTenant, if_neg (by omega), hnot]
    rfl
  case quiet =>
    have hquiet : s.freed.tenantQuiet a.fn = true := (State.tenantQuiet_iff (s := s.freed) a.fn).2 ⟨hslots, hdurables, hflush⟩
    rw [State.dropTenant, if_neg (by omega), hquiet, if_neg (by decide)]
    exact ⟨_, rfl, s.freed.tenant_setTenant_self a.fn {}, fun u hu => s.freed.tenant_setTenant_ne a.fn {} hu, rfl⟩

/-! ## PUT-RANGES (R11, R12) -/

section

variable {s : State} {a : Arriving}

/-- The entries of a request, written one after another. -/
def State.putEntries (s : State) (es : List (Nat × Range)) : State := es.foldl (fun s e => s.setRange e.1 e.2) s

/-- The state without its range entries. -/
def State.butRanges (s : State) : State := { s with ranges := [] }

theorem State.butRanges_putEntries (s : State) (es : List (Nat × Range)) : (s.putEntries es).butRanges = s.butRanges := by
  induction es generalizing s with
  | nil => rfl
  | cons e es ih => exact (ih _).trans rfl

theorem State.range_putEntries_run (s : State) (r : Nat → Range) (first n : Nat) (x : Nat) :
    (s.putEntries ((List.range n).map fun i => (first + i, r i))).range x
      = if first ≤ x ∧ x < first + n then r (x - first) else s.range x := by
  induction n with
  | zero => rw [if_neg (by omega)]; rfl
  | succ n ih =>
    have hlast : s.putEntries ((List.range (n + 1)).map fun i => (first + i, r i))
        = (s.putEntries ((List.range n).map fun i => (first + i, r i))).setRange (first + n) (r n) := by
      rw [List.range_succ, List.map_append, State.putEntries, List.foldl_append]
      rfl
    rw [hlast, State.range_setRange, ih]
    by_cases hx : x = first + n
    · rw [if_pos hx, if_pos (by omega), hx, Nat.add_sub_cancel_left]
    · rw [if_neg hx]
      exact if_congr (by omega) rfl rfl

theorem Arriving.anyHighNamespace_iff (a : Arriving) : (a.carriedRanges.any fun e => decide (7 < e.2.ns)) = true
    ↔ ∃ i, i < a.entryCount ∧ 7 < field (a.bodyUnit i) 0 1 := by
  simp [Arriving.carriedRanges, rangeOfUnit]

theorem State.putRanges_badField (h : a.badRun = true ∨ ∃ i, i < a.entryCount ∧ 7 < field (a.bodyUnit i) 0 1) :
    s.putRanges a = s.reply a .badField := by
  rw [← a.anyHighNamespace_iff] at h
  rw [State.putRanges, if_pos (by rw [Bool.or_eq_true]; exact h)]

theorem State.putRanges_good (hrun : ¬ a.badRun = true) (hns : ∀ i, i < a.entryCount → field (a.bodyUnit i) 0 1 ≤ 7) :
    s.putRanges a = match s.windowOwner (fun _ => true) a.start a.entryCount with
      | some t => s.reply a .inUse (indexBody t)
      | none => (s.putEntries a.carriedRanges).reply a .ok := by
  have hhigh : ¬ (a.carriedRanges.any fun e => decide (7 < e.2.ns)) = true := by
    rw [a.anyHighNamespace_iff]
    rintro ⟨i, hi, hbad⟩
    have := hns i hi
    omega
  rw [State.putRanges, if_neg (by rw [Bool.or_eq_true]; exact not_or.2 ⟨hrun, hhigh⟩)]
  rfl

theorem max_one_eq (n : Nat) : max 1 n = if n = 0 then 1 else n := by
  split
  · omega
  · omega

end

/-- Settles O21: the checks of R11 in order, and the run of entries written. -/
theorem putRangesWritesOrRefuses : Obligations.PutRangesWritesOrRefuses := by
  unfold Obligations.PutRangesWritesOrRefuses
  have hexec : ∀ (s : State) (a : Arriving) (n : Nat), s.offers a → a.asks 0x18 n → a.entryCount = n →
      exec .putRanges s = .next (s.freed.putRanges a) := fun s a n hoffers hasks hcount =>
    exec_of_offers (act := State.putRanges) rfl hoffers (Arriving.isCode_of_asks_permitted hasks (by decide) hcount.symm)
  refine ⟨fun s a n hoffers hasks hcount hlow hhigh hrun hns hfree => ?written, fun s a n hoffers hasks hcount => ⟨fun hbad => ?bad,
    fun u hlow hhigh hrun hns hvalid hmeets hbefore => ?inUse⟩⟩
  case written =>
    have howner : s.freed.windowOwner (fun _ => true) a.start a.entryCount = none := by
      refine State.windowOwner_eq_none_iff.2 ?_
      rintro u ⟨-, hvalid, i, hholds, hfirst, hlast⟩
      exact hfree u i hvalid hholds ⟨hfirst, hcount ▸ hlast⟩
    have hrange := s.freed.range_putEntries_run (fun i => rangeOfUnit (a.bodyUnit i)) a.start a.entryCount
    have hothers := s.freed.butRanges_putEntries a.carriedRanges
    rw [hexec s a n hoffers hasks hcount, State.putRanges_good (by rw [a.badRun_iff]; omega) (by rw [hcount]; exact hns), howner]
    refine ⟨_, rfl, fun i hi => ?_, fun i hi => (hrange i).trans (if_neg (by omega)), ?_⟩
    · refine (hrange (a.start + i)).trans ((if_pos (by omega)).trans ?_)
      rw [Nat.add_sub_cancel_left, rangeOfUnit, max_one_eq]
    · exact congrArg (fun u : State =>
        { u with ranges := (s.freed.putEntries a.carriedRanges).ranges, returns := u.returns ++ [a.replyOf .ok []] }) hothers
  case bad =>
    rw [hexec s a n hoffers hasks hcount, State.putRanges_badField (by rw [a.badRun_iff, hcount]; tauto)]
    rfl
  case inUse =>
    have hbound : u < 512 := by
      simp only [State.validTenant, Bool.and_eq_true, decide_eq_true_eq] at hvalid
      exact hvalid.1
    have howner : s.freed.windowOwner (fun _ => true) a.start a.entryCount = some u := by
      refine State.windowOwner_eq_some_iff.2 ⟨hbound, ⟨rfl, hvalid, hcount ▸ hmeets⟩, ?_⟩
      rintro v hv ⟨-, hvvalid, i, hholds, hfirst, hlast⟩
      exact hbefore v hv hvvalid i hholds ⟨hfirst, hcount ▸ hlast⟩
    rw [hexec s a n hoffers hasks hcount, State.putRanges_good (by rw [a.badRun_iff]; omega) (by rw [hcount]; exact hns), howner]
    exact ⟨_, rfl, length_indexBody u, bytesAt_indexBody (by omega)⟩

/-! ## GET-STREAM and GET-LANE (R65, R135) -/

/-- The fields of a lane's body in front of its records and grants. -/
def Lane.front (x : Lane) (laneflt : Bool) : List (Nat × Nat) :=
  [(1, flagNat !x.up), (1, x.window), (2, x.pass), (1, x.position), (1, x.inflight.length), (4, x.unitsIssued.toNat), (1, x.consecutive),
    (4, x.done.toNat), (4, x.failed.toNat), (4, x.timeouts.toNat), (4, x.stray.toNat), (1, x.normal.length), (1, x.dump.length),
    (1, flagNat x.armed), (1, flagNat laneflt), (1, 0)]

theorem Lane.length_front (x : Lane) (f : Bool) : (packed (x.front f)).length = 32 := by simp [Lane.front, length_packed]

theorem laneBody_eq (x : Lane) (f : Bool) :
    laneBody x f = packed (x.front f) ++ (x.inflight.flatMap recordBody ++ x.grants.flatMap grantEntryBytes) := by
  rw [laneBody, List.append_assoc]
  simp [Lane.front]

/-- A read within an in-flight record of a lane's body. -/
theorem bytesAt_laneBody_record (x : Lane) (f : Bool) {i : Nat} {r : InFlight} (hr : x.inflight[i]? = some r) (at' off len : Nat)
    (hat : at' = 32 + (16 * i + off)) (hoff : off + len ≤ 16) : bytesAt (laneBody x f) at' len = bytesAt (recordBody r) off len := by
  rw [laneBody_eq, hat, bytesAt_append_right _ _ (by rw [x.length_front]; omega), x.length_front, Nat.add_sub_cancel_left]
  exact bytesAt_flatMap length_recordBody hr _ hoff

/-- A read within a grant of a lane's body. -/
theorem bytesAt_laneBody_grant (x : Lane) (f : Bool) {i : Nat} {g : UnitKind × Grant} (hg : x.grants[i]? = some g) (at' off len : Nat)
    (hat : at' = 32 + (16 * x.inflight.length + (16 * i + off))) (hoff : off + len ≤ 16) :
    bytesAt (laneBody x f) at' len = bytesAt (grantEntryBytes g) off len := by
  have hrecords := length_flatMap_const length_recordBody x.inflight
  rw [laneBody_eq, hat, bytesAt_append_right _ _ (by rw [x.length_front]; omega), x.length_front, Nat.add_sub_cancel_left,
    bytesAt_append_right _ _ (by omega), hrecords, Nat.add_sub_cancel_left, ← List.append_nil (List.flatMap _ x.grants)]
  exact bytesAt_flatMap length_grantEntryBytes hg [] hoff

theorem Stream.tailSize_mod (t : Stream) : t.tailSize % 256 = t.queue.length % 16 := by
  rw [Stream.tailSize]
  omega

/-- Settles O28: the layouts of the two bodies, field by field. -/
theorem getStreamAndGetLaneReport : Obligations.GetStreamAndGetLaneReport := by
  unfold Obligations.GetStreamAndGetLaneReport
  refine ⟨fun s a t hoffers hasks ht => ⟨s.freed.streamBody (s.stream (field a.head 9 1)), ?stream, ?_, ?state, ?_, ?_, ?_, ?_, ?_,
      ?empty, ?first, ?tail, ?_, ?_, ?_, ?_, ?_, ?_, ?_, ?_, ?_, ?_, ?_, ?_⟩,
    fun s a x hoffers hasks hx => ?lane⟩
  case stream =>
    exact exec_of_offers (act := fun s a => s.reply a .ok (s.streamBody (s.stream a.stream))) rfl hoffers
      (Arriving.isCode_of_asks_permitted hasks (by decide) rfl)
  case lane =>
    have hexec : exec .getLane s = .next (s.freed.getLane a) :=
      exec_of_offers (act := State.getLane) rfl hoffers (Arriving.isCode_of_asks_permitted hasks (by decide) rfl)
    have hlane : a.lane = field a.head 9 1 := rfl
    refine ⟨fun hbad => ?bad, fun hgood => ⟨laneBody x (s.lanefltLevel (field a.head 9 1)), ?_, ?lanelength, ?up, ?_, ?_, ?_, ?_, ?_, ?_, ?_, ?_,
      ?_, ?_, ?_, ?_, ?_, ?_, fun i r hr => ?record, fun i kind g hg => ?grant⟩⟩
    case bad =>
      rw [hexec, State.getLane, if_pos (by rw [hlane]; exact hbad)]
      rfl
    case up =>
      have hup : bytesAt (laneBody x (s.lanefltLevel (field a.head 9 1))) 0 1 = flagNat (!x.up) % 256 := by
        simp [laneBody_eq, Lane.front, -List.append_nil]
      rw [hup]
      cases x.up with
      | _ => rfl
    case refine_1 =>
      rw [hexec, State.getLane, if_neg (by rw [hlane]; omega), ← hx]
      rfl
    case lanelength =>
      rw [laneBody_eq, List.length_append, List.length_append, x.length_front, length_flatMap_const length_recordBody,
        length_flatMap_const length_grantEntryBytes, Lane.grants, List.length_append, List.length_map, List.length_map]
      omega
    case record =>
      have hentry := bytesAt_laneBody_record x (s.lanefltLevel (field a.head 9 1)) hr
      rw [hentry _ 0 1 (by omega) (by decide), hentry _ 1 1 (by omega) (by decide), hentry _ 2 2 (by omega) (by decide),
        hentry _ 4 4 (by omega) (by decide), hentry _ 8 2 (by omega) (by decide), hentry _ 10 1 (by omega) (by decide),
        hentry _ 11 1 (by omega) (by decide), hentry _ 12 1 (by omega) (by decide)]
      simp [recordBody, bytesAt_packed_skip, -List.append_nil]
    case grant =>
      have hentry := bytesAt_laneBody_grant x (s.lanefltLevel (field a.head 9 1)) (g := (kind, g)) hg
      rw [hentry _ 0 1 (by omega) (by decide), hentry _ 1 3 (by omega) (by decide), hentry _ 4 4 (by omega) (by decide),
        hentry _ 8 2 (by omega) (by decide), hentry _ 10 6 (by omega) (by decide)]
      simp [grantEntryBytes, bytesAt_packed_skip, -List.append_nil]
    all_goals simp [laneBody_eq, Lane.front, State.lanefltLevel, bytesAt_packed_skip, -List.append_nil]
  all_goals
    subst ht
    generalize s.stream (field a.head 9 1) = t
  case empty =>
    have hempty : bytesAt (s.freed.streamBody t) 7 1 = flagNat (!t.queue.isEmpty) % 256 := by
      simp [State.streamBody, bytesAt_packed_skip, -List.append_nil]
    rw [hempty]
    cases t.queue with
    | nil => rfl
    | cons k ks => rfl
  case first =>
    have hfirst : bytesAt (s.freed.streamBody t) 8 6
        = (if t.queue.isEmpty then 0 else (s.freed.slot (t.queue.headD 0)).seq) % 2 ^ 48 := by
      simp [State.streamBody, bytesAt_packed_skip, -List.append_nil]
    rw [hfirst]
    cases t.queue with
    | nil => rfl
    | cons k ks => rfl
  case state =>
    have hstate : bytesAt (s.freed.streamBody t) 0 1 = t.state.code := by
      simp [State.streamBody, StreamState.code_mod, -List.append_nil]
    rw [hstate]
    cases t.state with
    | _ => rfl
  all_goals simp [State.streamBody, Stream.ready, Stream.tailSize_mod, length_packed, bytesAt_packed_skip, toNat_mod_8, -List.append_nil]

end Sys2Proof.Machine
end

section
/-! What does not act outside RUN, in DUMPED and while a gate is closed (R115, R152, R164, R177, R184, R192). -/

namespace Sys2Proof.Machine

open Sys2Proof

section

variable {s : State}

/-! ## Conditions that fail -/

theorem State.take_of_not_running (h : s.running = false) (want : Arriving → Bool) (act : State → Arriving → State) : s.take want act = s :=
  State.take_none want act (by rw [State.wholeParcel, h]; rfl)

theorem State.take_of_gateClosed (h : s.ingressGateOpen = false) (want : Arriving → Bool) (act : State → Arriving → State) :
    s.take want act = s ∨ ∃ a, s.parser = .receiving a ∧ s.take want act = { s with parser := .gated a } := by
  rcases s.take_cases want act with hsame | ⟨a, hwhole, -, -, hgated⟩ | ⟨a, ⟨-, hopen⟩, -, -⟩
  · exact .inl hsame
  · obtain ⟨-, ⟨hparser, -⟩ | ⟨hparser, -⟩⟩ := State.wholeParcel_some hwhole
    · refine .inl (hgated.trans ?_)
      rw [← hparser]
    · exact .inr ⟨a, hparser, hgated⟩
  · rw [h] at hopen
    cases hopen

theorem State.running_of_dumped (h : s.part = .dumped) : s.running = false := by simp [State.running, h]

theorem State.live_of_dumped (h : s.part = .dumped) : s.live = false := by simp [State.live, h]

theorem State.takeable_of_not_live (h : s.live = false) (l : Nat) : s.takeable l = none := by
  unfold State.takeable
  split
  · rfl
  · rw [h]
    rfl

theorem State.takeable_of_gateClosed (h : s.answerGateOpen = false) (l : Nat) : s.takeable l = none := by
  unfold State.takeable
  split
  · rfl
  · rw [h, Bool.and_false]
    rfl

theorem State.takeAnswer_of_none {l : Nat} (h : s.takeable l = none) : s.takeAnswer l = s := by
  rw [State.takeAnswer, h]

theorem State.takeMalformed_of_none {l : Nat} (h : s.takeable l = none) : s.takeMalformed l = s := by
  rw [State.takeMalformed, h]

theorem State.expireRecord_of_not_live (h : s.live = false) (l i : Nat) : s.expireRecord l i = s := by
  unfold State.expireRecord
  split
  · rfl
  · rw [h]
    rfl

theorem State.lanefltTo_of_not_live (h : s.live = false) (l : Nat) (level : Bool) : s.lanefltTo l level = s.setLaneflt l level := by
  rw [State.lanefltTo, h, Bool.and_false, Bool.false_and]
  rfl

theorem State.pfailTo_of_not_running (h : s.running = false) (level : Bool) :
    s.pfailTo level = { s with lines := { s.lines with pfail := level } } := by
  rw [State.pfailTo, h, Bool.and_false]
  rfl

/-! ## Commands outside RUN -/

/-- The command takes the whole parcel that the parser holds. -/
def takesParcel : Instr → Bool
  | .write | .peek | .flush | .badRequest | .identify | .setParam | .setDecayInterval | .setDurableLinger | .setCreditBatch
  | .setSequenceBase | .setPoolLowMark | .getParam | .putTenant | .getTenant | .dropTenant | .putRanges | .getRanges | .putStream
  | .getStream | .holdStream | .releaseStream | .flushStream | .rotateStream | .unbindStream | .grantBlocks | .getLane | .restartLane
  | .clearPart => true
  | _ => false

theorem exec_takesParcel {c : Instr} (h : takesParcel c = true) : ∃ want act, ∀ s, exec c s = .next (s.take want act) := by
  cases c <;> first | exact absurd h Bool.false_ne_true | exact ⟨_, _, fun _ => rfl⟩

/-- The command acts in RUN only. -/
def needsRun : Instr → Bool
  | .landing _ | .heldWriteRetaking | .abortMark | .abortedWriteRelease | .parcelDiscarded | .decayExpiry | .lingerClockExpiry
  | .creditLingerExpiry | .parcelHeadArrival _ _ | .issue _ => true
  | c => takesParcel c

theorem State.discardParcel_of_not_running (h : s.running = false) : s.discardParcel = s := by
  rw [State.discardParcel, State.wholeParcel, h]
  rfl

theorem State.landBlock_of_not_running (h : s.running = false) (block : List Unit16) : s.landBlock block = s := by
  have htarget : s.landingTarget block = none := by
    unfold State.landingTarget
    split
    · rw [h]
      rfl
    · rfl
  rw [State.landBlock, htarget]

theorem State.retake_of_not_running (h : s.running = false) : s.retake = s := by
  unfold State.retake
  split
  · rw [h]
    rfl
  · rfl

theorem State.retake_of_gateClosed (h : s.ingressGateOpen = false) : s.retake = s := by
  unfold State.retake
  split
  · rw [h, Bool.and_false]
    rfl
  · rfl

theorem State.abortParcel_of_not_running (h : s.running = false) : s.abortParcel = s := by
  unfold State.abortParcel
  split
  · rw [h]
    rfl
  · rfl

theorem State.releaseAborted_of_not_running (h : s.running = false) : s.releaseAborted = s := by
  unfold State.releaseAborted
  split
  · rw [h]
    rfl
  · rfl

theorem State.releaseAborted_of_gateClosed (h : s.ingressGateOpen = false) : s.releaseAborted = s := by
  unfold State.releaseAborted
  split
  · rw [h, Bool.and_false]
    rfl
  · rfl

theorem State.headArrives_of_not_running (h : s.running = false) (head : Unit16) (body : List Unit16) : s.headArrives head body = s := by
  rw [State.headArrives, h]
  rfl

theorem State.issueOn_of_not_running (h : s.running = false) (l : Nat) : s.issueOn l = s := by
  rw [State.issueOn, h]
  rfl

theorem State.decayExpires_of_not_running (h : s.running = false) : s.decayExpires = s := by
  unfold State.decayExpires
  split
  · rfl
  · rw [h]
    rfl

theorem State.lingerExpires_of_not_running (h : s.running = false) : s.lingerExpires = s := by
  unfold State.lingerExpires
  split
  · rfl
  · rw [h]
    rfl

theorem State.creditExpires_of_not_running (h : s.running = false) : s.creditExpires = s := by
  unfold State.creditExpires
  split
  · rfl
  · rw [h]
    rfl

/-- Outside RUN a command that needs RUN does nothing. -/
theorem exec_of_not_running (h : s.running = false) {c : Instr} (hc : needsRun c = true) : exec c s = .next s := by
  cases htakes : takesParcel c with
  | true =>
    obtain ⟨want, act, hexec⟩ := exec_takesParcel htakes
    rw [hexec, State.take_of_not_running h]
  | false =>
    refine exec_eq_next_iff.2 ?_
    cases c
    case landing block => exact State.landBlock_of_not_running h block
    case heldWriteRetaking => exact State.retake_of_not_running h
    case abortMark => exact State.abortParcel_of_not_running h
    case abortedWriteRelease => exact State.releaseAborted_of_not_running h
    case parcelDiscarded => exact State.discardParcel_of_not_running h
    case decayExpiry => exact State.decayExpires_of_not_running h
    case lingerClockExpiry => exact State.lingerExpires_of_not_running h
    case creditLingerExpiry => exact State.creditExpires_of_not_running h
    case parcelHeadArrival head body => exact State.headArrives_of_not_running h head body
    case issue l => exact State.issueOn_of_not_running h l.val
    all_goals exact absurd (hc.symm.trans htakes) (by decide)

/-! ## DUMPED -/

/-- In DUMPED every command but the sending of a return parcel and RESET_N changes the lines PFAIL and LANEFLT at most. -/
theorem State.after_of_dumped (h : s.part = .dumped) {c : Instr} (hsent : c ≠ .parcelSent) (hrelease : c ≠ .resetRelease)
    (hassert : ∀ r l, c ≠ .resetAssert r l) : s.after c = { s with lines := (s.after c).lines } ∧ (s.after c).lines.reset = s.lines.reset := by
  have hsame : s.after c = s → s.after c = { s with lines := (s.after c).lines } ∧ (s.after c).lines.reset = s.lines.reset := by
    intro hsame
    rw [hsame]
    exact ⟨rfl, rfl⟩
  have hrun := State.running_of_dumped h
  have hlive := State.live_of_dumped h
  have hnot : (s.part == .dumping) = false := by rw [h]; rfl
  cases hneeds : needsRun c with
  | true => exact hsame (exec_eq_next_iff.1 (exec_of_not_running hrun hneeds))
  | false =>
    cases c
    case parcelSent => exact absurd rfl hsent
    case resetRelease => exact absurd rfl hrelease
    case resetAssert r l => exact absurd rfl (hassert r l)
    case answer l => exact hsame (State.takeAnswer_of_none (State.takeable_of_not_live hlive _))
    case malformedLaneParcel l => exact hsame (State.takeMalformed_of_none (State.takeable_of_not_live hlive _))
    case laneAbortMark l => exact hsame rfl
    case expiry l i => exact hsame (State.expireRecord_of_not_live hlive _ _)
    case answerArrival l head => exact hsame (show s.laneArrives l.val head = s by rw [State.laneArrives, hlive]; rfl)
    case dumpUnitSend => exact hsame (if_neg (by rw [State.mayDumpUnit, hlive]; simp))
    case trailerSend => exact hsame (if_neg (by rw [State.mayTrailer, hlive]; simp))
    case laneflt l level =>
      have heq : s.after (.laneflt l level) = s.setLaneflt l.val level := State.lanefltTo_of_not_live hlive _ _
      rw [heq]
      exact ⟨rfl, rfl⟩
    case pfail level =>
      have heq : s.after (.pfail level) = { s with lines := { s.lines with pfail := level } } := State.pfailTo_of_not_running hrun level
      rw [heq]
      exact ⟨rfl, rfl⟩
    all_goals cases hneeds

/-! ## The gates -/

/-- The command waits for the ingress gate. -/
def waitsForGate : Instr → Bool
  | .heldWriteRetaking | .abortedWriteRelease => true
  | c => takesParcel c

/-- While the ingress gate is closed nothing is taken; a whole parcel is GATED by the command that would take it. -/
theorem exec_of_gateClosed (h : s.ingressGateOpen = false) {c : Instr} (hc : waitsForGate c = true) :
    exec c s = .next s ∨ ∃ a, s.parser = .receiving a ∧ exec c s = .next { s with parser := .gated a } := by
  cases htakes : takesParcel c with
  | true =>
    obtain ⟨want, act, hexec⟩ := exec_takesParcel htakes
    rw [hexec]
    rcases State.take_of_gateClosed h want act with hsame | ⟨a, hparser, hgated⟩
    · exact .inl (congrArg _ hsame)
    · exact .inr ⟨a, hparser, congrArg _ hgated⟩
  | false =>
    refine .inl (exec_eq_next_iff.2 ?_)
    cases c
    case heldWriteRetaking => exact State.retake_of_gateClosed h
    case abortedWriteRelease => exact State.releaseAborted_of_gateClosed h
    all_goals exact absurd (hc.symm.trans htakes) (by decide)

end

/-- Settles O50: each command by the condition of its own that fails. -/
theorem partStateAndGatesHoldCommands : Obligations.PartStateAndGatesHoldCommands := by
  unfold Obligations.PartStateAndGatesHoldCommands
  refine ⟨fun s c hrun hc => exec_of_not_running hrun ?needs, fun s c t hdumped hexec hsent hrelease hassert => ?dumped,
    fun s c hgate hc => exec_of_gateClosed hgate ?waits, fun s lane hgate => ?lanes⟩
  case needs =>
    rcases hc with hc | ⟨b, rfl⟩ | ⟨h, b, rfl⟩ | ⟨l, rfl⟩
    · refine List.all_eq_true.1 (show List.all _ needsRun = true from ?_) c hc
      rfl
    · rfl
    · rfl
    · rfl
  case dumped =>
    obtain rfl := exec_eq_next_iff.1 hexec
    exact State.after_of_dumped hdumped hsent hrelease hassert
  case waits =>
    refine List.all_eq_true.1 (show List.all _ waitsForGate = true from ?_) c hc
    rfl
  case lanes =>
    exact ⟨exec_eq_next_iff.2 (State.takeAnswer_of_none (State.takeable_of_gateClosed hgate _)),
      exec_eq_next_iff.2 (State.takeMalformed_of_none (State.takeable_of_gateClosed hgate _))⟩

end Sys2Proof.Machine
end

section
/-! RESET_N (R177, R178): what its assertion and its release leave, and that an empty part obeys every law (R2, R4, R27, R54). -/

namespace Sys2Proof.Machine

open Sys2Proof

/-! ## An empty part -/

/-- No table lists anything, no parcel is handled, and the dump engine is at rest. -/
structure State.Bare (s : State) : Prop where
  tenants : s.tenants = []
  ranges : s.ranges = []
  slots : s.slots = []
  staging : s.staging = []
  index : s.index = []
  streams : s.streams = []
  segments : s.segments = []
  starved : s.starved = []
  lanes : s.lanes = []
  durables : s.durables = []
  flushes : s.flushes = []
  parser : s.parser = .awaiting
  sequence : s.sequence = 0
  credits : s.credits ≤ 16384
  due : s.due = []
  params : s.params = {}
  dump : (s.part = .run ∧ s.dump = {}) ∨ (s.part = .dumped ∧ s.dump.phase = .idle ∧ s.dump.taken = [])

namespace State.Bare

variable {s : State} (h : s.Bare)

include h

theorem tenant (u : Nat) : s.tenant u = {} := by rw [State.tenant, h.tenants]; rfl
theorem range (i : Nat) : s.range i = {} := by rw [State.range, h.ranges]; rfl
theorem slot (k : Nat) : s.slot k = {} := by rw [State.slot, h.slots]; rfl
theorem stream (k : Nat) : s.stream k = {} := by rw [State.stream, h.streams]; rfl
theorem lane (l : Nat) : s.lane l = {} := by rw [State.lane, h.lanes]; rfl
theorem segment (id : Nat) : Store.find? s.segments id = none := by rw [h.segments]; rfl
theorem slotCount (p : Slot → Bool) : s.slotCount p = 0 := by rw [State.slotCount, State.slotsWhere, h.slots]; rfl
theorem freeSlots : s.freeSlots = 16384 := by rw [State.freeSlots, h.slots]; rfl
theorem taken : s.dump.taken = [] := by
  rcases h.dump with ⟨-, hdump⟩ | ⟨-, -, htaken⟩
  · rw [hdump]
  · exact htaken

/-- With its links in canonical form an empty part obeys the ledger. -/
theorem ledger (hcanonical : s.canonical = true) : s.Ledger where
  canonical := hcanonical
  lanes l := by simp [h.lane, Lane.lawful]
  starvation := by simp [State.starvationLawful, h.starved, h.stream]
  landing := by simp [State.landingLawful, h.parser, h.sequence]
  landingSlots := by simp [State.landingSlotsLawful, h.slot, h.parser, Parser.landedSlots, Parser.parcel]
  queues := by simp [State.queuesLawful, h.slot, h.stream]
  issuedSlots := by simp [State.issuedSlotsLawful, h.slot, h.lane, Lane.issuedSlots]
  sequences := by simp [State.sequencesLawful, h.slot, Slot.inUse]
  index := by simp [State.indexLawful, h.index]
  counts := by
    have hcredits := h.credits
    simp [State.countsLawful, h.tenant, h.slotCount, h.freeSlots, h.durables, h.flushes, h.slot, hcredits]
  segments := by simp [State.segmentsLawful, h.segment, h.lane]
  openSegments := by simp [State.openSegmentsLawful, h.segment, h.stream]
  exist := by simp [State.lanesExist, h.lane, h.taken]

theorem calm : s.calm := ⟨fun k _ hidle => by simp [h.stream] at hidle, h.due⟩

theorem unitsLawful : s.unitsLawful := by
  simp [State.unitsLawful, State.unitsInFlight, State.unitsOf, h.stream, h.lane]

theorem dumpLawful : s.dumpLawful := by
  rcases h.dump with ⟨hpart, hdump⟩ | ⟨hpart, hphase, -⟩
  · simp [State.dumpLawful, hpart, hdump, h.lane]
  · simp [State.dumpLawful, hpart, hphase]

theorem rangesLawful : s.rangesLawful := fun i => by simp [h.range, Range.lawful]

theorem windowsLawful : s.windowsLawful := by simp [State.windowsLawful, State.validTenant, h.tenant]

theorem paramsLawful : s.params.lawful := by simp [h.params, Params.lawful]

theorem streamsLawful : s.streamsLawful := fun k => h.stream k ▸ Stream.lawful_reset

end State.Bare

theorem State.bare_reset : State.reset.Bare :=
  ⟨rfl, rfl, rfl, rfl, rfl, rfl, rfl, rfl, rfl, rfl, rfl, rfl, rfl, Nat.le_refl _, rfl, rfl, .inl ⟨rfl, rfl⟩⟩

/-- Settles O2: every table of the state after reset is empty. -/
theorem resetHoldsSpecValuesAndLaws : Obligations.ResetHoldsSpecValuesAndLaws := by
  unfold Obligations.ResetHoldsSpecValuesAndLaws
  have hbare := State.bare_reset
  refine ⟨⟨rfl, rfl, rfl, rfl, rfl, rfl, rfl, rfl, rfl, rfl, rfl, fun i => rfl, fun t => rfl, fun k => rfl, fun k => rfl, fun l => rfl,
    rfl, rfl, rfl, rfl, rfl, rfl, rfl, rfl, fun fn ns lba => rfl⟩, rfl, hbare.rangesLawful, hbare.windowsLawful, hbare.paramsLawful,
    hbare.streamsLawful, hbare.ledger rfl, hbare.calm, hbare.unitsLawful, hbare.dumpLawful⟩

/-! ## RESET_N -/

section

variable {s : State}

theorem State.bare_assertReset (hreset : s.lines.reset = false) (r : Bool) (l : BitVec 8) : (s.assertReset r l).Bare := by
  rw [State.assertReset, if_neg (by rw [hreset]; decide)]
  exact ⟨rfl, rfl, rfl, rfl, rfl, rfl, rfl, rfl, rfl, rfl, rfl, rfl, rfl, Nat.zero_le _, rfl, rfl, .inl ⟨rfl, rfl⟩⟩

/-- The part at the release, before a PFAIL that is asserted is taken (R178). -/
def State.started (s : State) : State :=
  { State.reset with
    pending := s.pending, now := s.now, lines := { s.lines with reset := false }, arrivals := s.arrivals, draws := s.draws,
    returnLink := s.returnLink, laneLinks := s.laneLinks, decayTimer := some (s.now + 1000000), lingerClock := some (s.now + 1000) }

/-- The part at the release, before the credit evaluation and the timers. -/
def State.released (s : State) : State := { s.blank with lines := { s.lines with reset := false } }.enqueue .ready

theorem State.restartDecay_of_default {u : State} (h : u.params.decayInterval = 1000) :
    u.restartDecay = { u with decayTimer := some (u.now + 1000000) } := by rw [State.restartDecay, h]

theorem State.evalCredit_released (s : State) :
    s.released.evalCredit = { s.released with credits := 16384, returns := [.ready, .credit 16384], creditTimer := none } := by
  have hreturnable : s.released.returnable = 16384 := rfl
  have hrun : ¬ (s.released.part != .run) = true := by
    show ¬ (PartState.run != .run) = true
    decide
  have hbatch : s.released.params.creditBatch = 64 := rfl
  have hcredits : s.released.credits = 0 := rfl
  rw [State.evalCredit, if_neg hrun, hreturnable, hbatch, if_pos (by decide), State.sendCredit, hreturnable, hcredits, Nat.zero_add]
  rfl

theorem State.releaseReset_eq (hreset : s.lines.reset = true) :
    s.releaseReset = if s.lines.pfail = true then s.started.enterDumping else s.started := by
  have hstart : ({ s.released.evalCredit.restartDecay with lingerClock := some (s.released.evalCredit.restartDecay.now + 1000) } : State)
      = s.started := by
    rw [State.evalCredit_released, State.restartDecay_of_default rfl]
    rfl
  rw [State.releaseReset, if_pos hreset, ← hstart]
  rfl

theorem State.bare_started : s.started.Bare :=
  ⟨rfl, rfl, rfl, rfl, rfl, rfl, rfl, rfl, rfl, rfl, rfl, rfl, rfl, Nat.le_refl _, rfl, rfl, .inl ⟨rfl, rfl⟩⟩

/-- With no dump grant the dump fails at its entry (R163). -/
theorem State.enterDumping_started : s.started.enterDumping = s.started.beginDump.enterDumped .failed := rfl

theorem State.bare_releaseReset (hreset : s.lines.reset = true) : s.releaseReset.Bare := by
  rw [State.releaseReset_eq hreset]
  split
  · rw [State.enterDumping_started]
    exact ⟨rfl, rfl, rfl, rfl, rfl, rfl, rfl, rfl, rfl, rfl, rfl, rfl, rfl, Nat.le_refl _, rfl, rfl, .inr ⟨rfl, rfl, rfl⟩⟩
  · exact State.bare_started

/-! ## The links at RESET_ASSERT (R177, R191) -/

/-- What a lane link has carried once a PROGRAM that was partly sent has been ended with an abort mark. -/
def cutLink (link : List LinkItem) : List LinkItem :=
  match link.getLast? with
  | some (.parcel _) => link ++ [.abortMark]
  | _ => link

theorem State.laneLink_cutLane (cut : BitVec 8) (l j : Nat) : (State.cutLane cut s l).laneLink j
    = if j = l ∧ cut.getLsbD l = true then cutLink (s.laneLink j) else s.laneLink j := by
  cases hcut : cut.getLsbD l with
  | false => simp [State.cutLane, hcut]
  | true =>
    have hlink : (State.cutLane cut s l).laneLink j = if j = l then cutLink (s.laneLink l) else s.laneLink j := by
      cases hlast : (s.laneLink l).getLast? with
      | none => simp +contextual [State.cutLane, cutLink, hcut, hlast]
      | some item =>
        cases item with
        | parcel bs =>
          rw [State.cutLane, if_pos hcut, hlast, cutLink, hlast]
          exact s.laneLink_sendLane l .abortMark j
        | abortMark => simp +contextual [State.cutLane, cutLink, hcut, hlast]
    rw [hlink]
    by_cases hj : j = l
    · rw [hj, if_pos rfl, if_pos ⟨rfl, rfl⟩]
    · rw [if_neg hj, if_neg fun h => hj h.1]

theorem State.laneLink_cutLanes (cut : BitVec 8) {ls : List Nat} (hls : ls.Nodup) (s : State) (j : Nat) :
    (ls.foldl (State.cutLane cut) s).laneLink j = if j ∈ ls ∧ cut.getLsbD j = true then cutLink (s.laneLink j) else s.laneLink j := by
  induction ls generalizing s with
  | nil => simp
  | cons l ls ih =>
    obtain ⟨hl, hrest⟩ := List.nodup_cons.1 hls
    rw [List.foldl_cons, ih hrest, State.laneLink_cutLane]
    by_cases hj : j = l
    · subst hj
      simp [hl]
    · simp [hj]

/-- The state without the records of its lane links. -/
def State.butLinks (s : State) : State := { s with laneLinks := [] }

theorem State.butLinks_cutLanes (cut : BitVec 8) (ls : List Nat) (s : State) :
    (ls.foldl (State.cutLane cut) s).butLinks = s.butLinks := by
  refine foldl_frame State.butLinks (State.cutLane cut) (fun s l => ?_) ls s
  unfold State.cutLane
  split
  · split
    · rfl
    · rfl
  · rfl

/-- The state at the assertion, before the blocks lose their state: the partly sent return parcel is ended. -/
def State.cutReturn (s : State) (returnCut : Bool) : State :=
  if returnCut && !s.returns.isEmpty then { s with returnLink := s.returnLink ++ [.abortMark] } else s

theorem State.laneLink_cutReturn (returnCut : Bool) (l : Nat) : (s.cutReturn returnCut).laneLink l = s.laneLink l := by
  unfold State.cutReturn
  split
  · rfl
  · rfl

theorem State.returnLink_cutReturn (returnCut : Bool) : (s.cutReturn returnCut).returnLink
    = if returnCut = true ∧ s.returns ≠ [] then s.returnLink ++ [.abortMark] else s.returnLink := by
  unfold State.cutReturn
  cases returnCut with
  | false => rfl
  | true =>
    cases s.returns with
    | nil => rfl
    | cons p ps => rfl

/-- The state without the records of its links. -/
def State.butAllLinks (s : State) : State := { s with laneLinks := [], returnLink := [] }

theorem State.butAllLinks_cutReturn (returnCut : Bool) : (s.cutReturn returnCut).butAllLinks = s.butAllLinks := by
  unfold State.cutReturn
  split
  · rfl
  · rfl

/-- The part in reset, with these links. -/
def State.asserted (s : State) : State := { s.blank with lines := { s.lines with reset := true } }

theorem State.assertReset_eq (hreset : s.lines.reset = false) (r : Bool) (l : BitVec 8) :
    s.assertReset r l = ((List.range Config.lanes).foldl (State.cutLane l) (s.cutReturn r)).asserted := by
  rw [State.assertReset, if_neg (by rw [hreset]; decide)]
  rfl

theorem cutLink_parcel {link : List LinkItem} {bs : List Byte} (h : link.getLast? = some (.parcel bs)) :
    cutLink link = link ++ [.abortMark] := by
  rw [cutLink, h]

theorem cutLink_other {link : List LinkItem} (h : ∀ bs, link.getLast? ≠ some (.parcel bs)) : cutLink link = link := by
  unfold cutLink
  split
  · rename_i bs heq
    exact absurd heq (h bs)
  · rfl

end

/-- Settles O3: what each of the two commands leaves, record by record. -/
theorem resetAssertAndRelease : Obligations.ResetAssertAndRelease := by
  unfold Obligations.ResetAssertAndRelease
  refine ⟨fun s returnCut lanesCut hreset => ?assert, fun s hreset hpfail => ?release, fun s hreset hpfail => ?dumped⟩
  case assert =>
    have hlanes := State.butLinks_cutLanes lanesCut (List.range Config.lanes) (s.cutReturn returnCut)
    have hlinks : ∀ l, (s.assertReset returnCut lanesCut).laneLink l
        = if l ∈ List.range Config.lanes ∧ lanesCut.getLsbD l = true then cutLink (s.laneLink l) else s.laneLink l := by
      intro l
      rw [State.assertReset_eq hreset]
      refine (State.laneLink_cutLanes lanesCut List.nodup_range _ l).trans ?_
      rw [State.laneLink_cutReturn]
    have hothers : ((List.range Config.lanes).foldl (State.cutLane lanesCut) (s.cutReturn returnCut)).butAllLinks = s.butAllLinks :=
      (congrArg State.butAllLinks hlanes).trans (s.butAllLinks_cutReturn returnCut)
    have hreturn : (s.assertReset returnCut lanesCut).returnLink = (s.cutReturn returnCut).returnLink := by
      rw [State.assertReset_eq hreset]
      exact (congrArg State.returnLink hlanes :)
    refine ⟨s.assertReset returnCut lanesCut, rfl, ?record, ?_, ?_, ?_, ?_, ?_, ?_, hreturn.trans (s.returnLink_cutReturn returnCut),
      fun l => ⟨fun bs hcut hlast => ?cut, fun hkept => ?kept⟩⟩
    case record =>
      rw [State.assertReset_eq hreset]
      exact congrArg (fun u : State => { u.asserted with
        returnLink := ((List.range Config.lanes).foldl (State.cutLane lanesCut) (s.cutReturn returnCut)).returnLink
        laneLinks := ((List.range Config.lanes).foldl (State.cutLane lanesCut) (s.cutReturn returnCut)).laneLinks }) hothers
    case cut =>
      have hlane : l < 8 := by
        by_contra hge
        rw [BitVec.getLsbD_of_ge _ _ (by omega)] at hcut
        cases hcut
      rw [hlinks, if_pos ⟨List.mem_range.2 hlane, hcut⟩, cutLink_parcel hlast]
    case kept =>
      rw [hlinks]
      rcases hkept with hcut | hother
      · rw [if_neg (by rw [hcut]; simp)]
      · rw [cutLink_other hother, ite_self]
    all_goals
      rw [State.assertReset_eq hreset]
      rfl
  case release =>
    refine exec_eq_next_iff.2 ((State.releaseReset_eq hreset).trans ?_)
    rw [if_neg (by rw [hpfail]; decide)]
    rfl
  case dumped =>
    refine ⟨_, exec_eq_next_iff.2 ((State.releaseReset_eq hreset).trans (if_pos hpfail)), ?_⟩
    rw [State.enterDumping_started]
    exact ⟨rfl, rfl, rfl, rfl, rfl, rfl, rfl, rfl, rfl⟩

end Sys2Proof.Machine
end

section
/-! The ingress parser, and the WRITE that is refused (R34, R36 to R40, R183, R184, R191). -/

namespace Sys2Proof.Machine

open Sys2Proof

section

variable {s : State} {a : Arriving}

/-! ## Slots freed that were not in use -/

/-- Freeing a slot that is not in use and that no index entry names changes that slot alone. -/
theorem State.freeSlot_of_unused {k : Nat} (hunused : (s.slot k).inUse = false)
    (hindex : ∀ key j, Store.find? s.index key = some j → (s.slot j).inUse = true) :
    s.freeSlot k = s.setSlot k { s.slot k with state := .free, durable := none, mark := false } := by
  have hnot : ¬ s.indexed (s.slot k).fn (s.slot k).ns (s.slot k).lba = some k := by
    intro hnames
    rw [hindex _ k hnames] at hunused
    cases hunused
  simp only [State.freeSlot]
  rw [if_neg hnot, if_neg (by rw [hunused]; decide)]

theorem State.freeSlotList_of_unused {ks : List Nat} (hunused : ∀ k ∈ ks, (s.slot k).inUse = false)
    (hindex : ∀ key j, Store.find? s.index key = some j → (s.slot j).inUse = true) :
    (s.freeSlotList ks).index = s.index ∧ (s.freeSlotList ks).tenants = s.tenants := by
  induction ks generalizing s with
  | nil => exact ⟨rfl, rfl⟩
  | cons k ks ih =>
    have hk := hunused k List.mem_cons_self
    have hfree := State.freeSlot_of_unused hk hindex
    have hslot : ∀ j, ((s.freeSlot k).slot j).inUse = if j = k then false else (s.slot j).inUse := by
      intro j
      rw [State.freeSlot_slot]
      split
      · rfl
      · rfl
    obtain ⟨hsameIndex, hsameTenants⟩ := ih (s := s.freeSlot k)
      (fun j hj => by rw [hslot]; split; exacts [rfl, hunused j (List.mem_cons_of_mem k hj)])
      (fun key j hkey => by
        rw [hfree] at hkey
        have huse := hindex key j hkey
        rw [hslot, if_neg (fun hjk => by rw [hjk, hk] at huse; cases huse), huse])
    refine ⟨hsameIndex.trans ?_, hsameTenants.trans ?_⟩
    · rw [hfree]
      rfl
    · rw [hfree]
      rfl

/-- Of a tenant's record the freeing of slots changes the staged count alone. -/
theorem State.freeSlotList_tenant_others (ks : List Nat) (u : Nat) :
    { (s.freeSlotList ks).tenant u with stagedCount := 0 } = { s.tenant u with stagedCount := 0 } := by
  refine foldl_frame (fun s : State => { s.tenant u with stagedCount := 0 }) State.freeSlot (fun s k => ?_) ks s
  show { (s.freeSlot k).tenant u with stagedCount := 0 } = { s.tenant u with stagedCount := 0 }
  rw [State.freeSlot_tenant]
  split
  · rfl
  · rfl

/-- A lawful state's LANDING slots are not in use, and its index names in-use slots. -/
theorem State.Ledger.landed_unused (h : s.Ledger) {k : Nat} (hk : k ∈ s.parser.landedSlots) : (s.slot k).inUse = false := by
  rw [Slot.inUse, (h.landingSlots.2.2.1 k).2 hk]
  rfl

theorem State.Ledger.index_inUse (h : s.Ledger) (key k : Nat) (hk : Store.find? s.index key = some k) : (s.slot k).inUse = true :=
  (h.index key k hk).1

theorem State.offers_part (h : s.offers a) : s.part = .run := by
  obtain ⟨hrun, -⟩ := State.wholeParcel_some h.1
  simp only [State.running, Bool.and_eq_true, beq_iff_eq] at hrun
  exact hrun.2

theorem State.offers_landedSlots (h : s.offers a) : s.parser.landedSlots = a.landed := by
  obtain ⟨-, ⟨hparser, -⟩ | ⟨hparser, -⟩⟩ := State.wholeParcel_some h.1 <;> rw [hparser] <;> rfl

/-! ## The refused WRITE (R40) -/

/-- A refusal between the freeing of the slots and the credit evaluation. -/
def State.refusing (s : State) (a : Arriving) (status : LandedStatus) : State :=
  ((s.freeSlotList a.landed).enqueue (.landed a.tag a.fn status a.count 0)).countRefused a.fn

theorem State.refuseWrite_eq (s : State) (a : Arriving) (status : LandedStatus) :
    s.refuseWrite a status = if a.landed.isEmpty then s.refusing a status else (s.refusing a status).evalCredit := rfl

theorem State.countRefused_tenant (s : State) (fn u : Nat) : (s.countRefused fn).tenant u
    = if u = fn ∧ s.validTenant u = true then { s.tenant u with refused := (s.tenant u).refused + 1 } else s.tenant u := by
  by_cases hv : s.validTenant fn = true
  · rw [State.countRefused, if_pos hv, State.tenant_setTenant]
    by_cases hu : u = fn
    · rw [if_pos hu, if_pos ⟨hu, hu ▸ hv⟩, hu]
    · rw [if_neg hu, if_neg fun h => hu h.1]
  · rw [State.countRefused, if_neg hv, if_neg]
    rintro ⟨rfl, h⟩
    exact hv h

/-- A refusal before it is counted. -/
def State.refusalAnswered (s : State) (a : Arriving) (status : LandedStatus) : State :=
  (s.freeSlotList a.landed).enqueue (.landed a.tag a.fn status a.count 0)

theorem State.refusing_count (s : State) (status : LandedStatus) :
    (s.refusing a status).butSetTenant = (s.refusalAnswered a status).butSetTenant := State.countRefused_frame _ _

/-- The state outside what a refusal may change before the credit evaluation. -/
def State.butRefusing (s : State) : State := { s with tenants := [], slots := [], index := [], returns := [] }

theorem State.refusing_frame (s : State) (status : LandedStatus) : (s.refusing a status).butRefusing = s.butRefusing := by
  have hanswered : (s.refusalAnswered a status).butRefusing = (s.freeSlotList a.landed).butRefusing := rfl
  exact (agree (π := State.butRefusing) (s.refusing_count status)).trans
    (hanswered.trans (agree (π := State.butRefusing) (s.freeSlotList_frame a.landed)))

theorem State.refusing_slot (s : State) (status : LandedStatus) (k : Nat) : (s.refusing a status).slot k
    = if k ∈ a.landed then { s.slot k with state := .free, durable := none, mark := false } else s.slot k :=
  (agree (π := fun s : State => s.slot k) (s.refusing_count status)).trans (s.freeSlotList_slot a.landed k)

theorem State.refusing_index (s : State) (status : LandedStatus) : (s.refusing a status).index = (s.freeSlotList a.landed).index :=
  (agree (π := State.index) (s.refusing_count status)).trans rfl

theorem State.refusing_returns (s : State) (status : LandedStatus) :
    (s.refusing a status).returns = s.returns ++ [.landed a.tag a.fn status a.count 0] := by
  have hreturns : (s.freeSlotList a.landed).returns = s.returns := agree (s.freeSlotList_frame a.landed)
  refine (agree (π := State.returns) (s.refusing_count status)).trans ?_
  rw [← hreturns]
  rfl

theorem State.refusing_tenant (s : State) (status : LandedStatus) (u : Nat) : (s.refusing a status).tenant u
    = if u = a.fn ∧ u < 512 ∧ (s.tenant u).valid = true
      then { (s.freeSlotList a.landed).tenant u with refused := (s.tenant u).refused + 1 } else (s.freeSlotList a.landed).tenant u := by
  have hothers := s.freeSlotList_tenant_others a.landed u
  have hvalid : ((s.freeSlotList a.landed).tenant u).valid = (s.tenant u).valid := (congrArg Tenant.valid hothers :)
  have hrefused : ((s.freeSlotList a.landed).tenant u).refused = (s.tenant u).refused := (congrArg Tenant.refused hothers :)
  refine (State.countRefused_tenant (s.refusalAnswered a status) a.fn u).trans ?_
  have hiff : (s.refusalAnswered a status).validTenant u = true ↔ u < 512 ∧ (s.tenant u).valid = true := by
    rw [← hvalid, State.validTenant, Bool.and_eq_true, decide_eq_true_eq]
    rfl
  rw [← hrefused]
  exact if_congr (and_congr_right' hiff) rfl rfl

/-- What a refused WRITE leaves, given that its slots are not in use where the law holds. -/
theorem State.writeRefused_refuseWrite {law : Prop} (hpart : s.part = .run)
    (hlaw : law → (∀ k ∈ a.landed, (s.slot k).inUse = false) ∧ ∀ key j, Store.find? s.index key = some j → (s.slot j).inUse = true)
    (status : LandedStatus) : s.WriteRefused (s.freed.refuseWrite a status) a status law := by
  have hframe := s.freed.refusing_frame (a := a) status
  obtain ⟨hcredits, hreturned, -⟩ := State.evalCredit_follows (s := s) (u := s.freed.refusing a status)
    ((agree (π := State.part) hframe :).trans hpart) (agree (π := State.credits) hframe :) (agree (π := State.creditTimer) hframe :)
    (agree (π := State.now) hframe :) (agree (π := State.params) hframe :)
  have heval := (s.freed.refusing a status).evalCredit_frame
  have hunused : law → (s.freed.freeSlotList a.landed).index = s.index ∧ (s.freed.freeSlotList a.landed).tenants = s.tenants := by
    intro hholds
    obtain ⟨hslots, hindex⟩ := hlaw hholds
    exact State.freeSlotList_of_unused (s := s.freed) hslots hindex
  have hsame : (s.freed.refuseWrite a status).butSendCredit = (s.freed.refusing a status).butSendCredit := by
    rw [State.refuseWrite_eq]
    split
    · rfl
    · exact heval
  have htenant : ∀ u, (s.freed.refuseWrite a status).tenant u = (s.freed.refusing a status).tenant u := fun u =>
    agree (π := fun s : State => s.tenant u) hsame
  refine ⟨?returns, ?credits, fun k => (agree (π := fun s : State => s.slot k) hsame).trans (s.freed.refusing_slot status k),
    fun hfn hvalid => ?refused, fun hholds u => ?tenants, fun hholds => ?index, ?frame⟩
  case returns =>
    rw [State.refuseWrite_eq]
    by_cases hlanded : a.landed = []
    · rw [hlanded]
      exact s.freed.refusing_returns status
    · rw [if_neg (by simpa using hlanded), if_neg hlanded, hreturned, s.freed.refusing_returns status, List.append_assoc]
      rfl
  case credits =>
    rw [State.refuseWrite_eq]
    by_cases hlanded : a.landed = []
    · rw [if_pos hlanded, if_pos (by simpa using hlanded)]
      exact ⟨(agree (π := State.credits) hframe :), (agree (π := State.creditTimer) hframe :)⟩
    · rw [if_neg hlanded, if_neg (by simpa using hlanded)]
      exact hcredits
  case refused =>
    have hrefused := congrArg Tenant.refused (s.freed.refusing_tenant (a := a) status a.fn)
    rw [if_pos ⟨rfl, hfn, hvalid⟩] at hrefused
    exact (congrArg Tenant.refused (htenant a.fn)).trans hrefused
  case tenants =>
    have hkept : (s.freed.freeSlotList a.landed).tenant u = s.tenant u := by rw [State.tenant, (hunused hholds).2, State.tenant]
    rw [htenant, s.freed.refusing_tenant status, hkept]
    rfl
  case index =>
    exact (agree (π := State.index) hsame).trans ((s.freed.refusing_index status).trans (hunused hholds).1)
  case frame =>
    have hall : (s.freed.refuseWrite a status).butRefuseWrite = s.freed.butRefuseWrite := s.freed.refuseWrite_frame a status
    generalize s.freed.refuseWrite a status = t at hall
    exact congrArg (fun u : State => { u with
      slots := t.slots, index := t.index, tenants := t.tenants, returns := t.returns, credits := t.credits, creditTimer := t.creditTimer })
      hall

/-! ## The checks of R36 -/

theorem State.framingFault_iff (s : State) (a : Arriving) : s.framingFault a = true ↔ a.count = 0 ∨ 64 < a.count
    ∨ a.bodyUnits ≠ a.count * 256 ∨ 7 < a.ns ∨ 2 ^ 40 < a.lba + a.count ∨ 2 ^ 48 - 1 < s.sequence + a.count := by
  simp only [State.framingFault, decide_eq_true_eq, Config.writeSectors]

/-- Checks 3 to 5 of R36 in their order. -/
theorem State.writeRefusal_eq (s : State) (a : Arriving) : s.writeRefusal a
    = if 511 < a.fn ∨ (s.tenant a.fn).valid = false then some .noTenant
      else if (s.stream (s.tenant a.fn).defaultStream).state = .unbound then some .noRoute
      else if (s.tenant a.fn).cap < (s.tenant a.fn).stagedCount + a.count then some .tenantFull else none := by
  have htenant : (!s.validTenant a.fn) = true ↔ 511 < a.fn ∨ (s.tenant a.fn).valid = false := by
    rw [Bool.not_eq_true', ← Bool.not_eq_true, State.validTenant_iff, not_and_or, Bool.not_eq_true, Nat.not_le]
  have hroute : (!(s.stream (s.tenant a.fn).defaultStream).bound) = true ↔ (s.stream (s.tenant a.fn).defaultStream).state = .unbound := by
    simp [Stream.bound]
  exact if_congr htenant rfl (if_congr hroute rfl rfl)

end

/-- Settles O6: the first check that applies decides, and the refusal is the same for all of them. -/
theorem writeRefusedByFirstCheck : Obligations.WriteRefusedByFirstCheck := by
  unfold Obligations.WriteRefusedByFirstCheck
  intro s a status hoffers hkind hstatus hbad
  have hexec : exec .write s = .next (s.freed.takeWrite a) :=
    exec_of_offers (act := State.takeWrite) rfl hoffers (by rw [hkind]; rfl)
  have hlaw : s.Ledger → (∀ k ∈ a.landed, (s.slot k).inUse = false) ∧ ∀ key j, Store.find? s.index key = some j → (s.slot j).inUse = true :=
    fun hledger => ⟨fun k hk => hledger.landed_unused (by rw [State.offers_landedSlots hoffers]; exact hk), hledger.index_inUse⟩
  have hrefused : s.freed.takeWrite a = s.freed.refuseWrite a status := by
    rw [hstatus] at hbad ⊢
    rw [State.takeWrite]
    by_cases hoverrun : a.overrun = true
    · rw [if_pos hoverrun, if_pos hoverrun]
    rw [if_neg hoverrun] at hbad ⊢
    by_cases hframing : a.count = 0 ∨ 64 < a.count ∨ a.bodyUnits ≠ a.count * 256 ∨ 7 < a.ns ∨ 2 ^ 40 < a.lba + a.count
        ∨ 2 ^ 48 - 1 < s.sequence + a.count
    · rw [if_neg hoverrun, if_pos ((s.freed.framingFault_iff a).2 hframing), if_pos hframing]
    rw [if_neg hframing] at hbad ⊢
    rw [if_neg hoverrun, if_neg fun h => hframing ((s.freed.framingFault_iff a).1 h), State.decideWrite]
    have hrefusal := s.freed.writeRefusal_eq a
    by_cases htenant : 511 < a.fn ∨ (s.tenant a.fn).valid = false
    · rw [hrefusal.trans (if_pos htenant), if_pos htenant]
    rw [if_neg htenant] at hbad ⊢
    by_cases hroute : (s.stream (s.tenant a.fn).defaultStream).state = .unbound
    · rw [hrefusal.trans ((if_neg htenant).trans (if_pos hroute)), if_pos hroute]
    rw [if_neg hroute] at hbad ⊢
    by_cases hfull : (s.tenant a.fn).cap < (s.tenant a.fn).stagedCount + a.count
    · rw [hrefusal.trans ((if_neg htenant).trans ((if_neg hroute).trans (if_pos hfull))), if_pos hfull]
    · exact absurd (if_neg hfull) hbad
  exact ⟨_, hexec, hrefused ▸ State.writeRefused_refuseWrite (State.offers_part hoffers) hlaw status⟩

end Sys2Proof.Machine
end

section
/-! The ingress parser: heads, foreign parcels and abort marks (R34, R183, R184, R191). -/

namespace Sys2Proof.Machine

open Sys2Proof

section

variable {s : State} {a : Arriving}

/-- The parcel that a head opens (R34). -/
def State.arrivingOf (s : State) (head : Unit16) (body : List Unit16) : Arriving where
  head := head
  body := body
  overrun := headKind head == kindWrite && decide (s.credits < creditNeed (headBodyUnits head))

/-- A WRITE that ended with an abort mark, its slots freed and its parcel gone. -/
def State.abortedFreed (s : State) (a : Arriving) : State := s.freed.freeSlotList a.landed

theorem State.releaseAborted_of_gated (hrun : s.running = true) (hparser : s.parser = .gated a) (haborted : a.aborted = true)
    (hgate : s.ingressGateOpen = true) : s.releaseAborted = (s.abortedFreed a).evalCredit := by
  rw [State.releaseAborted, hparser]
  exact if_pos (by rw [hrun, haborted, hgate]; rfl)

theorem State.part_of_running (h : s.running = true) : s.part = .run := by
  simp only [State.running, Bool.and_eq_true, beq_iff_eq] at h
  exact h.2

end

/-- Settles O4: the four commands by the parser's state. -/
theorem parserOpensDiscardsAndAborts : Obligations.ParserOpensDiscardsAndAborts := by
  unfold Obligations.ParserOpensDiscardsAndAborts
  refine ⟨fun s head body hrun hparser hfits => ?head, fun s a hwhole hwrite hpeek hflush hmgmt => ?foreign,
    fun s a hrun hparser => ?abort, fun s a hrun hparser haborted hgate => ?release⟩
  case head =>
    refine ⟨s.arrivingOf head body, rfl, rfl, rfl, rfl, ?_, ?_⟩
    · rw [State.arrivingOf, Bool.and_eq_true, beq_iff_eq, decide_eq_true_eq]
      rfl
    · refine exec_eq_next_iff.2 ((if_pos (by rw [hrun, hparser, hfits]; rfl)).trans ?_)
      by_cases hbody : headBodyUnits head = 0
      · rw [if_pos hbody]
        exact if_pos hbody
      · rw [if_neg hbody]
        exact if_neg hbody
  case foreign =>
    have hforeign : a.isForeign = true := by
      simp [Arriving.isForeign, kindWrite, kindPeek, kindFlush, kindMgmt, hwrite, hpeek, hflush, hmgmt]
    refine exec_eq_next_iff.2 ?_
    show s.discardParcel = _
    rw [State.discardParcel, hwhole]
    exact if_pos hforeign
  case abort =>
    refine exec_eq_next_iff.2 ?_
    show s.abortParcel = _
    rw [State.abortParcel, hparser]
    refine (if_pos hrun).trans ?_
    by_cases hlanded : a.landed = []
    · rw [if_pos hlanded, if_pos (by rw [hlanded]; rfl)]
    · rw [if_neg hlanded, if_neg (by simpa using hlanded)]
  case release =>
    have hframe : (s.abortedFreed a).butFreeSlot = s.freed.butFreeSlot := s.freed.freeSlotList_frame a.landed
    obtain ⟨hcredits, hreturns, -⟩ := State.evalCredit_follows (s := s) (u := s.abortedFreed a)
      ((agree (π := State.part) hframe :).trans (State.part_of_running hrun)) (agree (π := State.credits) hframe :)
      (agree (π := State.creditTimer) hframe :) (agree (π := State.now) hframe :) (agree (π := State.params) hframe :)
    have heval := (s.abortedFreed a).evalCredit_frame
    have hkept : (s.abortedFreed a).returns = s.returns := (agree (π := State.returns) hframe :)
    refine ⟨_, exec_eq_next_iff.2 (State.releaseAborted_of_gated hrun hparser haborted hgate),
      fun k => (agree (π := fun s : State => s.slot k) heval).trans (s.freed.freeSlotList_slot a.landed k), hreturns.trans (by rw [hkept]),
      hcredits, fun hledger => ?_, ?_⟩
    · have hunused : ∀ k ∈ a.landed, (s.slot k).inUse = false := fun k hk => hledger.landed_unused (by rw [hparser]; exact hk)
      obtain ⟨hindex, htenants⟩ := State.freeSlotList_of_unused (s := s.freed) hunused hledger.index_inUse
      exact ⟨(agree (π := State.index) heval).trans hindex, (agree (π := State.tenants) heval).trans htenants⟩
    · have hall : (s.abortedFreed a).evalCredit.butRefuseWrite = s.freed.butRefuseWrite :=
        (agree (π := State.butRefuseWrite) heval).trans (agree (π := State.butRefuseWrite) hframe)
      generalize (s.abortedFreed a).evalCredit = t at hall
      exact congrArg (fun u : State => { u with
        slots := t.slots, index := t.index, tenants := t.tenants, returns := t.returns, credits := t.credits,
        creditTimer := t.creditTimer }) hall

end Sys2Proof.Machine
end

section
/-! The route of a sector: cover, heat, hysteresis, hint and fallback (R4, R6, R14 to R20). -/

namespace Sys2Proof.Machine

open Sys2Proof

section

variable {s : State}

/-! ## Covering entries (R4, R16) -/

theorem Range.covers_iff (r : Range) (ns lba : Nat) : r.covers ns lba = true ↔ r.ns = ns ∧ r.base ≤ lba ∧ lba ≤ r.limit := by
  rw [Range.covers, decide_eq_true_eq]

theorem State.coveringEntry_some {t : Tenant} {ns lba i : Nat} (h : s.coveringEntry t ns lba = some i) :
    (t.windowFirst ≤ i ∧ i < t.windowFirst + t.windowCount) ∧ (s.range i).covers ns lba = true := by
  obtain ⟨hcovers, hmem, -⟩ := List.find?_range'_eq_some.1 h
  exact ⟨List.mem_range'_1.1 hmem, hcovers⟩

theorem State.coveringEntry_none_iff {t : Tenant} {ns lba : Nat} : s.coveringEntry t ns lba = none
    ↔ ∀ j, t.windowFirst ≤ j → j < t.windowFirst + t.windowCount → ¬ (s.range j).covers ns lba = true := by
  unfold State.coveringEntry Tenant.window
  rw [List.find?_eq_none]
  simp only [List.mem_range'_1, and_imp]

/-- In a sorted window the runs of a namespace follow one another (R6). -/
theorem State.windowSorted_before {t : Tenant} (hsorted : s.windowSorted t) {i j : Nat} (hlow : t.windowFirst ≤ i) (hij : i < j)
    (hhigh : j < t.windowFirst + t.windowCount) :
    (s.range i).ns < (s.range j).ns ∨ ((s.range i).ns = (s.range j).ns ∧ (s.range i).limit < (s.range j).base) := by
  have hfault : ∀ k, t.windowFirst ≤ k → k < t.windowFirst + t.windowCount → ¬ s.entryFault t.windowFirst k = true := fun k hk hk' h => by
    rw [hsorted k ((t.holds_iff k).2 ⟨hk, hk'⟩)] at h
    cases h
  induction j, hij using Nat.le_induction with
  | base =>
    have hnext := hfault (i + 1) (by omega) hhigh
    rw [State.entryFault_iff, Nat.add_sub_cancel, Nat.lt_succ_iff, not_or, not_and, not_not] at hnext
    exact hnext.2 hlow
  | succ j hij ih =>
    have hstep := ih (by omega)
    have hlast := hfault j (by omega) (by omega)
    have hnext := hfault (j + 1) (by omega) hhigh
    rw [State.entryFault_iff] at hlast hnext
    rw [Nat.add_sub_cancel] at hnext
    omega

/-- A sorted window covers a sector once at most. -/
theorem State.windowSorted_unique {t : Tenant} (hsorted : s.windowSorted t) {ns lba i j : Nat}
    (hi : t.windowFirst ≤ i ∧ i < t.windowFirst + t.windowCount) (hj : t.windowFirst ≤ j ∧ j < t.windowFirst + t.windowCount)
    (hcovers : (s.range i).covers ns lba = true) (hcovers' : (s.range j).covers ns lba = true) : j = i := by
  rw [Range.covers_iff] at hcovers hcovers'
  rcases Nat.lt_trichotomy i j with hlt | heq | hgt
  · have := State.windowSorted_before hsorted hi.1 hlt hj.2
    omega
  · exact heq.symm
  · have := State.windowSorted_before hsorted hj.1 hgt hi.2
    omega

/-! ## Heat and the stream chosen (R17 to R20) -/

theorem hintStream_getD (a : Arriving) (t : Tenant) (other : Nat) : (hintStream a t).getD other
    = if a.hintPresent = true ∧ 1 ≤ a.hint ∧ a.hint ≤ 15 ∧ (Store.find? t.hints a.hint).isSome = true
      then Store.getD 0 t.hints a.hint else other := by
  unfold hintStream Store.getD
  by_cases hhint : a.hintPresent = true ∧ 1 ≤ a.hint ∧ a.hint ≤ 15
  · rw [if_pos hhint]
    cases hfind : Store.find? t.hints a.hint with
    | none => simp
    | some k => simp [hhint]
  · rw [if_neg hhint, if_neg fun h => hhint ⟨h.1, h.2.1, h.2.2.1⟩]
    rfl

theorem State.fallback_eq (s : State) (t : Tenant) (k : Nat) :
    s.fallback t k = if (s.stream k).state = .unbound then t.defaultStream else k := by
  by_cases hstate : (s.stream k).state = .unbound
  · rw [if_pos hstate, State.fallback, if_neg (by simp [Stream.bound, hstate])]
  · rw [if_neg hstate, State.fallback, if_pos (by simp [Stream.bound, hstate])]

/-- The flag is up only with a hot stream named, so a hot entry names its hot stream (R18). -/
theorem Range.choice_routed (r : Range) (hit : Bool) (step : Nat) :
    (r.routed hit step).choice = if (r.routed hit step).hot = true then r.hotStream.getD 0 else r.cold := by
  have hstream : (r.routed hit step).hotStream = r.hotStream ∧ (r.routed hit step).cold = r.cold := by
    cases hit <;> exact ⟨rfl, rfl⟩
  rw [Range.choice, hstream.1, hstream.2]
  cases hhot : (r.routed hit step).hot with
  | false => rfl
  | true =>
    have hsome : r.hotStream.isSome = true := by
      rw [← hstream.1]
      simp only [Range.routed, Range.hotAfter, Bool.and_eq_true] at hhot
      exact hhot.1
    obtain ⟨k, hk⟩ := Option.isSome_iff_exists.1 hsome
    rw [hk]
    rfl

theorem Range.hotAfter_eq (r : Range) : r.hotAfter = if r.hotStream.isSome = false then false
    else if r.hot = true then !decide (r.heat < (r.threshold + 1) / 2) else decide (r.threshold ≤ r.heat) := by
  unfold Range.hotAfter Range.leave
  cases r.hotStream.isSome with
  | false => rfl
  | true =>
    cases r.hot with
    | false => rfl
    | true => simp [← decide_not]

end

/-- Settles O10: the cover by the order of the window, the route by its entry. -/
theorem routeFollowsHeatAndHint : Obligations.RouteFollowsHeatAndHint := by
  unfold Obligations.RouteFollowsHeatAndHint
  refine ⟨fun s t ns lba i hfound => ?found, fun s t ns lba => ?none, fun s a lba hnone => ?default, fun s a lba i r r' hfound hr hr' => ?routed⟩
  case found =>
    obtain ⟨hwindow, hcovers⟩ := State.coveringEntry_some hfound
    obtain ⟨hns, hbase, hlimit⟩ := (Range.covers_iff _ _ _).1 hcovers
    refine ⟨hwindow, hns, hbase, hlimit, fun hsorted j hlow hhigh hns' hbase' hlimit' => ?_⟩
    exact State.windowSorted_unique hsorted hwindow ⟨hlow, hhigh⟩ hcovers ((Range.covers_iff _ _ _).2 ⟨hns', hbase', hlimit'⟩)
  case none =>
    rw [State.coveringEntry_none_iff]
    simp only [Range.covers_iff]
  case default =>
    rw [State.route, hnone]
    refine Prod.ext rfl ?_
    show s.fallback (s.tenant a.fn) _ = _
    rw [hintStream_getD, State.fallback_eq]
    rfl
  case routed =>
    subst hr
    have hroute : s.route a lba = (s.setRange i ((s.range i).routed (s.indexed a.fn a.ns lba).isSome s.params.heatStep),
        s.fallback (s.tenant a.fn) ((hintStream a (s.tenant a.fn)).getD
          ((s.range i).routed (s.indexed a.fn a.ns lba).isSome s.params.heatStep).choice)) := by
      rw [State.route, hfound]
      refine Prod.ext rfl ?_
      show State.fallback (s.setRange i _) _ _ = _
      rw [State.heatStep, State.rangeChoice, State.range_setRange_self]
      rfl
    have hr'' : (s.range i).routed (s.indexed a.fn a.ns lba).isSome s.params.heatStep = { r' with hot := r'.hotAfter } := by
      rw [hr']
      cases (s.indexed a.fn a.ns lba).isSome <;> rfl
    refine ⟨_, _, hroute, ?_, fun j hj => State.range_setRange_ne _ _ _ hj, rfl, ?_⟩
    · rw [State.range_setRange_self, hr'', Range.hotAfter_eq, hr']
    · rw [hintStream_getD, State.fallback_eq, Range.choice_routed, State.range_setRange_self]

end Sys2Proof.Machine
end

section
/-! Ending a stream's open segment, and the requests that rewrite or retire a stream (R57 to R59, R64, R91, R92). -/

namespace Sys2Proof.Machine

open Sys2Proof

/-! ## Ending an open segment as ROTATED (R91, R92) -/

theorem Store.erase_insert {α : Type} (m : Store α) (n : Nat) (v : α) : Store.erase (Store.insert m n v) n = Store.erase m n := by
  induction m with
  | nil => simp [Store.insert, Store.erase]
  | cons e m ih =>
    unfold Store.insert
    split
    · simp [Store.erase]
    · split
      · rename_i h
        simp [Store.erase, h]
      · unfold Store.erase at ih ⊢
        rw [List.filter_cons, List.filter_cons, ih]

/-- A segment that leaves OPEN by a request (R91). -/
def Segment.rotated (g : Segment) : Segment := { g with endCause := some .rotated }

/-- The stream has lost the segment, and that closes at once when no unit of it is outstanding (R91, R92). -/
def State.rotatedOff (s : State) (k id : Nat) (g : Segment) : State :=
  { s.setStream k (s.stream k).released with
    segments := if g.done + g.failed = g.issued then Store.erase s.segments id else Store.insert s.segments id g.rotated
    returns := s.returns ++ if g.done + g.failed = g.issued then [.segmentClosed id g.rotated] else [] }

section

variable {s : State} {k id : Nat} {g : Segment}

theorem State.openSegment_eq_some {t : Stream} (h : s.openSegment t = some (id, g)) :
    t.openSeg = some id ∧ Store.find? s.segments id = some g := by
  unfold State.openSegment at h
  split at h
  · cases h
  · rename_i id' hseg
    obtain ⟨g', hfind, heq⟩ := Option.map_eq_some_iff.1 h
    cases heq
    exact ⟨hseg, hfind⟩

theorem State.openSegment_of_none {t : Stream} (h : t.openSeg = none) : s.openSegment t = none := by rw [State.openSegment, h]

theorem State.rotate_of_none (h : (s.stream k).openSeg = none) : s.rotate k = s := by
  rw [State.rotate, h]

theorem State.rotate_of_open (hopen : s.openSegment (s.stream k) = some (id, g)) (hcause : g.endCause = none) (hstream : g.stream = k) :
    s.rotate k = s.rotatedOff k id g := by
  obtain ⟨hseg, hfind⟩ := State.openSegment_eq_some hopen
  subst hstream
  have hdrain : s.drain id .rotated = (s.setSegment id g.rotated).setStream g.stream (s.stream g.stream).released := by
    rw [State.drain, hfind]
    exact if_pos (by rw [Segment.isOpen, hcause]; rfl)
  have hfind' : Store.find? (s.drain id .rotated).segments id = some g.rotated := by
    rw [hdrain]
    exact Store.find?_insert_self ..
  rw [State.rotate, hseg]
  show (s.drain id .rotated).closeIfSettled id = _
  rw [State.closeIfSettled, hfind', hdrain]
  unfold State.rotatedOff
  by_cases hsettled : g.done + g.failed = g.issued
  · rw [if_pos hsettled, if_pos hsettled, ← Store.erase_insert s.segments id g.rotated]
    exact if_pos (by simp [Segment.rotated, Segment.isOpen, Segment.settled, hsettled])
  · rw [if_neg hsettled, if_neg hsettled, List.append_nil]
    exact if_neg (by simp [Segment.rotated, Segment.isOpen, Segment.settled, hsettled])

theorem State.movedOff_of_none (h : s.openSegment (s.stream k) = none) {m : BitVec 8} : s.movedOff k m = false := by
  rw [State.movedOff, h]

theorem State.movedOff_of_open (h : s.openSegment (s.stream k) = some (id, g)) (m : BitVec 8) :
    s.movedOff k m = !m.getLsbD g.lane := by
  rw [State.movedOff, h]

theorem State.rotatedOff_stream (s : State) (k id : Nat) (g : Segment) (j : Nat) :
    (s.rotatedOff k id g).stream j = if j = k then (s.stream k).released else s.stream j := s.stream_setStream k (s.stream k).released j

theorem State.rotatedOff_find (s : State) (k id : Nat) (g : Segment) {i : Nat} (hi : i ≠ id) :
    Store.find? (s.rotatedOff k id g).segments i = Store.find? s.segments i := by
  unfold State.rotatedOff
  split
  · exact Store.find?_erase_ne _ hi
  · exact Store.find?_insert_ne _ _ hi

/-- The closed segment is gone and its SEGMENT-CLOSED enqueued, or the segment stays in the table with its end cause. -/
theorem State.rotatedOff_outcome (s : State) (k id : Nat) (g : Segment) : if g.done + g.failed = g.issued
    then Store.find? (s.rotatedOff k id g).segments id = none
      ∧ (s.rotatedOff k id g).returns = s.returns ++ [.segmentClosed id g.rotated]
    else Store.find? (s.rotatedOff k id g).segments id = some g.rotated ∧ (s.rotatedOff k id g).returns = s.returns := by
  unfold State.rotatedOff
  split
  · exact ⟨Store.find?_erase_self .., rfl⟩
  · exact ⟨Store.find?_insert_self .., List.append_nil _⟩

end

theorem Stream.released_of_held {t : Stream} (h : t.state = .held) : t.released = { t with openSeg := none } := by
  rw [Stream.released, h]
  rfl

/-! ## PUT-STREAM (R58, R59) -/

section

variable {s : State} {a : Arriving}

theorem Arriving.laneMask_eq (a : Arriving) : a.laneMask = BitVec.ofNat 8 (field a.head 10 1) := by
  unfold Arriving.laneMask field
  rw [BitVec.ofNat_toNat]
  rfl

theorem Arriving.laneMask_eq_zero_iff (a : Arriving) : a.laneMask = 0 ↔ field a.head 10 1 = 0 := by
  exact BitVec.toNat_inj.symm.trans Iff.rfl

theorem clampCadence_eq (c : Nat) : clampCadence c = if c = 0 then 1 else if 16 < c then 16 else 2 ^ Nat.log2 c := by
  have hsmall : ∀ c < 17, clampCadence c = if c = 0 then 1 else if 16 < c then 16 else 2 ^ Nat.log2 c := by decide
  by_cases hc : c < 17
  · exact hsmall c hc
  · rw [if_neg (by omega), if_pos (by omega), clampCadence, if_neg (by omega), if_neg (by omega), if_neg (by omega), if_neg (by omega)]

theorem exec_putStream (hoffers : s.offers a) (hasks : a.asks 0x20 0) : exec .putStream s = .next (s.freed.putStream a) :=
  exec_of_offers (act := State.putStream) rfl hoffers (Arriving.isCode_of_asks_permitted hasks (by decide) rfl)

theorem State.putStream_unmasked (h : a.laneMask = 0) : s.putStream a = s.reply a .badField := by
  rw [State.putStream, if_pos h]

theorem State.putStream_unbound (hmask : ¬ a.laneMask = 0) (hstate : (s.stream a.stream).state = .unbound) :
    s.putStream a = (s.setStream a.stream ((s.stream a.stream).bind a)).reply a .ok := by
  rw [State.putStream, if_neg hmask, hstate]

theorem State.putStream_wrongState (hmask : ¬ a.laneMask = 0) (hunbound : (s.stream a.stream).state ≠ .unbound)
    (hheld : (s.stream a.stream).state ≠ .held) : s.putStream a = s.reply a .wrongState := by
  rw [State.putStream, if_neg hmask]
  cases hstate : (s.stream a.stream).state
  case unbound => exact absurd hstate hunbound
  case held => exact absurd hstate hheld
  all_goals rfl

/-- A HELD stream reconfigured, before the check of its open segment. -/
def State.reconfigured (s : State) (a : Arriving) : State :=
  (s.setStream a.stream ((s.stream a.stream).configured a)).reply a .ok

theorem State.putStream_held (hmask : ¬ a.laneMask = 0) (hstate : (s.stream a.stream).state = .held) :
    s.putStream a = if s.movedOff a.stream a.laneMask then (s.reconfigured a).rotate a.stream else s.reconfigured a := by
  rw [State.putStream, if_neg hmask, hstate]
  rfl

theorem State.reconfigured_stream (s : State) (a : Arriving) (j : Nat) :
    (s.reconfigured a).stream j = if j = a.stream then (s.stream a.stream).configured a else s.stream j :=
  s.stream_setStream a.stream ((s.stream a.stream).configured a) j

theorem Stream.configured_eq (t : Stream) {d : Nat}
    (hd : d = if field a.head 11 1 = 0 then 1 else if 16 < field a.head 11 1 then 16 else 2 ^ Nat.log2 (field a.head 11 1)) :
    t.configured a = { t with
      laneSet := BitVec.ofNat 8 (field a.head 10 1), cadence := d, phase := field a.head 12 1 % d, lingerLimit := field a.head 13 1 } := by
  have hcadence : clampCadence (a.arg 11) = d := (clampCadence_eq _).trans hd.symm
  rw [Stream.configured, hcadence, a.laneMask_eq]
  rfl

end

/-- Settles O23: the three outcomes by the stream's state, and the end of a segment that the new lane set leaves. -/
theorem putStreamBindsOrReconfigures : Obligations.PutStreamBindsOrReconfigures := by
  unfold Obligations.PutStreamBindsOrReconfigures
  refine ⟨fun s a k d hoffers hasks hk hd => ?bind, fun s a k d hoffers hasks hk hd hmask hheld => ?held⟩
  case bind =>
    obtain rfl : a.stream = k := hk
    rw [exec_putStream hoffers hasks]
    refine ⟨fun hzero => ?_, fun hmask hunbound => ?_, fun hmask hunbound hheld => ?_⟩
    · rw [State.putStream_unmasked (s := s.freed) ((a.laneMask_eq_zero_iff).2 hzero)]
      rfl
    · rw [State.putStream_unbound (s := s.freed) (fun h => hmask (a.laneMask_eq_zero_iff.1 h)) hunbound]
      have hstream := s.freed.stream_setStream a.stream ((s.freed.stream a.stream).bind a)
      refine ⟨_, rfl, (hstream a.stream).trans ((if_pos rfl).trans ?_), fun j hj => (hstream j).trans (if_neg hj), rfl⟩
      rw [Stream.bind, Stream.configured_eq _ hd]
      rfl
    · rw [State.putStream_wrongState (s := s.freed) (fun h => hmask (a.laneMask_eq_zero_iff.1 h)) hunbound hheld]
      rfl
  case held =>
    obtain rfl : a.stream = k := hk
    rw [exec_putStream hoffers hasks, State.putStream_held (s := s.freed) (fun h => hmask (a.laneMask_eq_zero_iff.1 h)) hheld, ← a.laneMask_eq]
    have hstream := s.freed.reconfigured_stream a
    refine ⟨fun hkept => ?kept, fun id g hopen hoff hcause hgstream => ?moved⟩
    case kept =>
      have hmoved : s.freed.movedOff a.stream a.laneMask = false := by
        cases hopen : s.openSegment (s.stream a.stream) with
        | none => exact State.movedOff_of_none (s := s.freed) hopen
        | some e =>
          refine (State.movedOff_of_open (s := s.freed) (id := e.1) (g := e.2) hopen _).trans ?_
          rw [hkept e.1 e.2 hopen]
          rfl
      rw [hmoved, if_neg (by decide)]
      refine ⟨_, rfl, (hstream a.stream).trans ((if_pos rfl).trans ?_), fun j hj => (hstream j).trans (if_neg hj), rfl⟩
      rw [Stream.configured_eq _ hd, a.laneMask_eq]
      rfl
    case moved =>
      have hmoved : s.freed.movedOff a.stream a.laneMask = true := by
        rw [State.movedOff_of_open (s := s.freed) hopen, hoff]
        rfl
      have hopen' : (s.freed.reconfigured a).openSegment ((s.freed.reconfigured a).stream a.stream) = some (id, g) := by
        rw [hstream, if_pos rfl]
        exact hopen
      rw [if_pos hmoved, State.rotate_of_open hopen' hcause hgstream]
      have hrotated := (s.freed.reconfigured a).rotatedOff_stream a.stream id g
      have houtcome := (s.freed.reconfigured a).rotatedOff_outcome a.stream id g
      refine ⟨_, rfl, (hrotated a.stream).trans ((if_pos rfl).trans ?_), fun j hj => (hrotated j).trans ((if_neg hj).trans ((hstream j).trans (if_neg hj))), ?_,
        fun i hi => State.rotatedOff_find _ _ _ _ hi, rfl⟩
      · rw [hstream, if_pos rfl, Stream.released_of_held (t := (s.freed.stream a.stream).configured a) hheld, Stream.configured_eq _ hd, a.laneMask_eq]
        rfl
      · split
        · rename_i hsettled
          rw [if_pos hsettled] at houtcome
          exact ⟨houtcome.1, houtcome.2.trans (List.append_assoc _ _ _)⟩
        · rename_i hsettled
          rw [if_neg hsettled] at houtcome
          exact houtcome

/-! ## UNBIND-STREAM (R64) -/

section

variable {s : State} {a : Arriving}

theorem State.isDefault_iff (k : Nat) : s.isDefault k = true ↔ ∃ u r, (u, r) ∈ s.tenants ∧ r.valid = true ∧ r.defaultStream = k := by
  simp [State.isDefault]

/-- A stream that is retired, once its open segment has ended. -/
def State.retire (s : State) (k : Nat) : State := s.setStream k (s.stream k).retired

theorem State.drain_retired (s : State) (id : Nat) (cause : EndCause) (j : Nat) :
    ((s.drain id cause).stream j).retired = (s.stream j).retired := by
  unfold State.drain
  split
  · rfl
  · rename_i g hfind
    split
    · rw [State.stream_setStream]
      split
      · rename_i hj
        rw [hj]
        rfl
      · rfl
    · rfl

theorem State.closeIfSettled_stream (s : State) (id j : Nat) : (s.closeIfSettled id).stream j = s.stream j := by
  unfold State.closeIfSettled
  split
  · rfl
  · split
    · rfl
    · rfl

/-- The end of a segment changes nothing of a stream that a retired one keeps. -/
theorem State.rotate_retired (s : State) (k j : Nat) : ((s.rotate k).stream j).retired = (s.stream j).retired := by
  unfold State.rotate
  split
  · rfl
  · rename_i id hseg
    rw [State.drainAndClose, State.closeIfSettled_stream, State.drain_retired]

theorem State.unbindStream_wrongState (h : (s.stream a.stream).state = .opened ∨ (s.stream a.stream).state = .starved
    ∨ (s.stream a.stream).state = .unbound) : s.unbindStream a = s.reply a .wrongState := by
  rw [State.unbindStream, if_pos]
  rcases h with h | h | h <;> simp [h]

theorem State.unbindStream_quietState (h : (s.stream a.stream).state = .idle ∨ (s.stream a.stream).state = .held) :
    s.unbindStream a = if (s.stream a.stream).queue ≠ [] ∨ (s.stream a.stream).inflight ≠ 0 then s.reply a .notQuiet
      else if s.isDefault a.stream then s.reply a .inUse else ((s.reply a .ok).rotate a.stream).retire a.stream := by
  rw [State.unbindStream, if_neg (by tauto)]
  rfl

end

/-- Settles O27: the checks of R64 in their order, then the end of the segment and the reset values. -/
theorem unbindStreamRetires : Obligations.UnbindStreamRetires := by
  unfold Obligations.UnbindStreamRetires
  intro s a k hoffers hasks hk
  obtain rfl : a.stream = k := hk
  have hexec : exec .unbindStream s = .next (s.freed.unbindStream a) :=
    exec_of_offers (act := State.unbindStream) rfl hoffers (Arriving.isCode_of_asks_permitted hasks (by decide) rfl)
  rw [hexec]
  have hbusy : ∀ {P : Prop}, (s.stream a.stream).queue = [] → (s.stream a.stream).inflight = 0 →
      ((s.stream a.stream).queue ≠ [] ∨ (s.stream a.stream).inflight ≠ 0) → P := by
    intro P hqueue hinflight hbad
    rcases hbad with hbad | hbad
    · exact absurd hqueue hbad
    · exact absurd hinflight hbad
  refine ⟨fun hstate => ?wrong, fun hstate hwork => ?notQuiet, fun hstate hqueue hinflight hdefault => ?inUse,
    fun hstate hqueue hinflight hdefault => ?retired⟩
  case wrong =>
    rw [State.unbindStream_wrongState (s := s.freed) hstate]
    rfl
  case notQuiet =>
    rw [State.unbindStream_quietState (s := s.freed) hstate]
    exact congrArg _ (if_pos hwork)
  case inUse =>
    rw [State.unbindStream_quietState (s := s.freed) hstate]
    exact congrArg _ ((if_neg fun h => hbusy hqueue hinflight h).trans (if_pos ((State.isDefault_iff (s := s.freed) _).2 hdefault)))
  case retired =>
    have hnot : ¬ s.freed.isDefault a.stream = true := by
      rw [State.isDefault_iff]
      rintro ⟨u, r, hmem, hvalid, hstream⟩
      exact hdefault u r hmem hvalid hstream
    have hresult : s.freed.unbindStream a = ((s.freed.reply a .ok).rotate a.stream).retire a.stream := by
      rw [State.unbindStream_quietState (s := s.freed) hstate]
      exact (if_neg fun h => hbusy hqueue hinflight h).trans (if_neg hnot)
    have hretired : ∀ (u : State) (j : Nat), (u.retire a.stream).stream j = if j = a.stream then (u.stream a.stream).retired else u.stream j :=
      fun u j => u.stream_setStream a.stream (u.stream a.stream).retired j
    rw [hresult]
    refine ⟨_, rfl, ?_, fun hnone => ?none, fun id g hopen hcause hgstream => ?ended⟩
    · exact (hretired _ a.stream).trans ((if_pos rfl).trans ((s.freed.reply a .ok).rotate_retired a.stream a.stream))
    case none =>
      rw [State.rotate_of_none (s := s.freed.reply a .ok) hnone]
      exact ⟨fun j hj => (hretired _ j).trans (if_neg hj), rfl⟩
    case ended =>
      rw [State.rotate_of_open (s := s.freed.reply a .ok) hopen hcause hgstream]
      have hrotated := (s.freed.reply a .ok).rotatedOff_stream a.stream id g
      have houtcome := (s.freed.reply a .ok).rotatedOff_outcome a.stream id g
      refine ⟨?_, fun i hi => State.rotatedOff_find (s.freed.reply a .ok) a.stream _ g hi,
        fun j hj => (hretired _ j).trans ((if_neg hj).trans ((hrotated j).trans (if_neg hj))), rfl⟩
      split
      · rename_i hsettled
        rw [if_pos hsettled] at houtcome
        exact ⟨houtcome.1, houtcome.2.trans (List.append_assoc _ _ _)⟩
      · rename_i hsettled
        rw [if_neg hsettled] at houtcome
        exact houtcome

end Sys2Proof.Machine
end

section
/-! Lanes: restart, parcels that wait and stray answers, and the arbiter's search (R102 to R104, R115, R118, R134, R189). -/

namespace Sys2Proof.Machine

open Sys2Proof

section

variable {s : State}

theorem State.lane_updLane (s : State) (l : Nat) (f : Lane → Lane) (j : Nat) :
    (s.updLane l f).lane j = if j = l then f (s.lane l) else s.lane j := s.lane_setLane l (f (s.lane l)) j

/-! ## RESTART-LANE (R134) -/

end

/-- Settles O33: the checks of R134 in order. -/
theorem restartLaneBringsUp : Obligations.RestartLaneBringsUp := by
  unfold Obligations.RestartLaneBringsUp
  intro s a l hoffers hasks hl
  obtain rfl : a.lane = l := hl
  have hexec : exec .restartLane s = .next (s.freed.restartLane a) :=
    exec_of_offers (act := State.restartLane) rfl hoffers (Arriving.isCode_of_asks_permitted hasks (by decide) rfl)
  rw [hexec]
  have hnotup : (s.lane a.lane).up = false → ¬ (s.freed.lane a.lane).up = true := fun hdown => by
    show ¬ (s.lane a.lane).up = true
    rw [hdown]
    decide
  refine ⟨fun hbad => ?_, fun hl hup => ?_, fun hl hdown hfault => ?_, fun hl hdown hclear => ?_⟩
  · exact congrArg _ (if_pos hbad)
  · exact congrArg _ ((if_neg (by omega)).trans (if_pos hup))
  · exact congrArg _ ((if_neg (by omega)).trans ((if_neg (hnotup hdown)).trans (if_pos hfault)))
  · have hresult : s.freed.restartLane a
        = (s.freed.updLane a.lane fun x => { x with up := true, pass := 0, position := 255, consecutive := 0 }).reply a .ok :=
      (if_neg (by omega)).trans ((if_neg (hnotup hdown)).trans
        (if_neg (by rw [State.lanefltLevel]; show ¬ s.lines.laneflt.getLsbD a.lane = true; rw [hclear]; decide)))
    have hlane := s.freed.lane_updLane a.lane fun x => { x with up := true, pass := 0, position := 255, consecutive := 0 }
    rw [hresult]
    exact ⟨_, rfl, (hlane a.lane).trans (if_pos rfl), fun j hj => (hlane j).trans (if_neg hj), rfl⟩

/-! ## Parcels that wait, and stray answers (R115, R118, R189) -/

section

variable {s : State} {l : Nat} {w : Waiting}

theorem isAnswer_iff (h : Unit16) : isAnswer h = true ↔ headKind h = 0x31 ∧ headBodyUnits h = 0 := by
  simp [isAnswer, kindAnswer]

theorem answerOutcome_unknown {h : Unit16} (hdone : field h 14 1 ≠ 1) (hfail : field h 14 1 ≠ 2) : answerOutcome h = .unknown := by
  rw [answerOutcome, if_neg hdone, if_neg hfail]

/-- The first parcel at a lane has been taken and counted as stray. -/
def State.tookStray (s : State) (l : Nat) : State := (s.popWaiting l).strayAnswer l

theorem State.tookStray_lane (s : State) (l j : Nat) : (s.tookStray l).lane j
    = if j = l then { s.lane l with waiting := (s.lane l).waiting.tail, stray := (s.lane l).stray + 1 } else s.lane j := by
  unfold State.tookStray State.strayAnswer State.popWaiting
  rw [State.lane_updLane, State.lane_updLane, State.lane_updLane, if_pos rfl]
  split
  · rfl
  · rfl

theorem State.takeAnswer_of_takeable (h : s.takeable l = some w) (hanswer : isAnswer w.head = true) :
    s.takeAnswer l = (s.popWaiting l).answerTaken l w.head := by
  rw [State.takeAnswer, h]
  exact if_pos hanswer

theorem State.takeMalformed_of_takeable (h : s.takeable l = some w) (hanswer : isAnswer w.head = false) :
    s.takeMalformed l = s.tookStray l := by
  rw [State.takeMalformed, h]
  exact if_neg (by rw [hanswer]; decide)

theorem Lane.matching_eq_none_iff (x : Lane) (h : Unit16) :
    x.matching h = none ↔ ∀ r ∈ x.inflight, ¬ (r.block = answerBlock h ∧ r.unit = answerUnit h) := by
  simp [Lane.matching, List.findIdx?_eq_none_iff]

/-- The oldest record with the pair is the one matched (R117). -/
theorem Lane.matching_eq_some {x : Lane} {h : Unit16} {i : Nat} {r : InFlight} (hr : x.inflight[i]? = some r)
    (hblock : r.block = answerBlock h) (hunit : r.unit = answerUnit h)
    (hbefore : ∀ j q, j < i → x.inflight[j]? = some q → ¬ (q.block = answerBlock h ∧ q.unit = answerUnit h)) :
    x.matching h = some i := by
  obtain ⟨hi, hget⟩ := List.getElem?_eq_some_iff.1 hr
  refine List.findIdx?_eq_some_iff_getElem.2 ⟨hi, by simp [hget, hblock, hunit], fun j hj => ?_⟩
  have hnot := hbefore j _ hj (List.getElem?_eq_getElem (hj.trans hi))
  simpa using hnot

theorem State.answerTaken_unknown {h : Unit16} (hunknown : answerOutcome h = .unknown) : s.answerTaken l h = s.strayAnswer l := by
  rw [State.answerTaken, hunknown]

theorem State.answerTaken_unmatched {h : Unit16} (hnone : (s.lane l).matching h = none) : s.answerTaken l h = s.strayAnswer l := by
  unfold State.answerTaken
  split
  · rfl
  · rw [hnone]

end

/-- Settles O36: each command by what it finds at the lane. -/
theorem laneParcelsWaitAndStrayAnswersCount : Obligations.LaneParcelsWaitAndStrayAnswersCount := by
  unfold Obligations.LaneParcelsWaitAndStrayAnswersCount
  refine ⟨fun s lane head hlive => ?arrives, fun s lane l w hl htake hkind hbody hstray => ?stray,
    fun s lane l hl => ⟨fun w htake hmalformed => ?malformed, rfl⟩⟩
  case arrives =>
    have hresult : s.laneArrives lane.val head = { s.updLane lane.val fun x => { x with waiting := x.waiting ++ [{ head := head, arrival := s.arrivals }] }
        with arrivals := s.arrivals + 1 } := if_pos hlive
    have hlane := s.lane_updLane lane.val fun x => { x with waiting := x.waiting ++ [{ head := head, arrival := s.arrivals }] }
    refine ⟨_, exec_eq_next_iff.2 hresult, (hlane lane.val).trans (if_pos rfl), fun j hj => (hlane j).trans (if_neg hj), rfl⟩
  case stray =>
    have hanswer : isAnswer w.head = true := (isAnswer_iff w.head).2 ⟨hkind, hbody⟩
    have hresult : s.takeAnswer l = s.tookStray l := by
      rw [State.takeAnswer_of_takeable htake hanswer]
      rcases hstray with ⟨hdone, hfail⟩ | hnone
      · exact State.answerTaken_unknown (answerOutcome_unknown hdone hfail)
      · refine State.answerTaken_unmatched ((Lane.matching_eq_none_iff _ _).2 ?_)
        have hinflight : ((s.popWaiting l).lane l).inflight = (s.lane l).inflight := by
          rw [State.popWaiting, State.lane_updLane, if_pos rfl]
        rw [hinflight]
        exact hnone
    have hlane := s.tookStray_lane l
    subst hl
    exact ⟨_, exec_eq_next_iff.2 hresult, (hlane _).trans (if_pos rfl), fun j hj => (hlane j).trans (if_neg hj), rfl⟩
  case malformed =>
    have hanswer : isAnswer w.head = false := by
      rw [← Bool.not_eq_true, isAnswer_iff]
      tauto
    have hlane := s.tookStray_lane l
    subst hl
    exact ⟨_, exec_eq_next_iff.2 (State.takeMalformed_of_takeable htake hanswer), (hlane _).trans (if_pos rfl),
      fun j hj => (hlane j).trans (if_neg hj), rfl⟩

/-! ## The search (R102 to R104) -/

/-- The first element of an ascending list that a condition accepts is the least. -/
theorem find?_ascending {xs : List Nat} (hxs : xs.Pairwise (· < ·)) {p : Nat → Bool} {k : Nat} (h : xs.find? p = some k) :
    k ∈ xs ∧ p k = true ∧ ∀ j ∈ xs, j < k → p j = false := by
  obtain ⟨hp, before, behind, rfl, hbefore⟩ := List.find?_eq_some_iff_append.1 h
  refine ⟨by simp, hp, fun j hj hlt => ?_⟩
  rcases List.mem_append.1 hj with hj | hj
  · simpa using hbefore j hj
  · rcases List.mem_cons.1 hj with rfl | hj
    · exact absurd hlt (Nat.lt_irrefl _)
    · have hgt := (List.pairwise_cons.1 (List.pairwise_append.1 hxs).2.1).1 j hj
      omega

section

variable (s : State) (l : Nat)

theorem State.candidate_iff (k : Nat) : s.candidate l k = true ↔ (s.stream k).state = .opened ∧ 1 ≤ (s.stream k).ready
    ∧ ∃ id g, s.openSegment (s.stream k) = some (id, g) ∧ g.lane = l := by
  simp only [State.candidate, Bool.and_eq_true, beq_iff_eq, decide_eq_true_eq, and_assoc]
  refine and_congr_right fun _ => and_congr_right fun _ => ?_
  cases s.openSegment (s.stream k) with
  | none => simp
  | some e =>
    obtain ⟨id, g⟩ := e
    simp

theorem State.mem_candidates (k : Nat) : k ∈ s.candidates l ↔ s.candidate l k = true ∧ k < 256 := by
  rw [State.candidates, List.mem_filter, List.mem_range, and_comm, Config.streams]

theorem State.candidates_ascending : (s.candidates l).Pairwise (· < ·) := List.pairwise_lt_range.filter _

/-- The pass that the search looks at after `i` others (R104). -/
def State.passAt (i : Nat) : Nat := if i = 0 then (s.lane l).pass else ((s.lane l).pass + i) % 65536

/-- The candidates that the search looks at in that pass: in the current pass those after the position (R104). -/
def State.candidatesAt (i : Nat) : List Nat :=
  if i = 0 then (s.candidates l).filter fun k => (s.lane l).position < k else s.candidates l

/-- What the search finds in that pass. -/
def State.foundAt (i : Nat) : Option Nat := s.searchPass (s.candidatesAt l i) (s.passAt l i)

variable {s l}

theorem State.mem_candidatesAt {i j : Nat} :
    j ∈ s.candidatesAt l i ↔ (s.candidate l j = true ∧ j < 256) ∧ (i = 0 → (s.lane l).position < j) := by
  unfold State.candidatesAt
  split
  · rename_i hi
    simp [List.mem_filter, State.mem_candidates, hi]
  · rename_i hi
    simp [State.mem_candidates, hi]

theorem State.candidatesAt_ascending (i : Nat) : (s.candidatesAt l i).Pairwise (· < ·) := by
  unfold State.candidatesAt
  split
  · exact (s.candidates_ascending l).filter _
  · exact s.candidates_ascending l

theorem State.eligible_iff (p k : Nat) : s.eligible p k = true ↔ p % (s.stream k).cadence = (s.stream k).phase := by
  rw [State.eligible, beq_iff_eq]

theorem State.foundAt_some {i k : Nat} (h : s.foundAt l i = some k) : k ∈ s.candidatesAt l i
    ∧ s.passAt l i % (s.stream k).cadence = (s.stream k).phase
    ∧ ∀ j ∈ s.candidatesAt l i, j < k → s.passAt l i % (s.stream j).cadence ≠ (s.stream j).phase := by
  obtain ⟨hmem, hfound, hbefore⟩ := find?_ascending (s.candidatesAt_ascending i) h
  refine ⟨hmem, (State.eligible_iff _ _).1 hfound, fun j hj hlt heq => ?_⟩
  have hnot := hbefore j hj hlt
  rw [(State.eligible_iff _ _).2 heq] at hnot
  cases hnot

theorem State.foundAt_none {i : Nat} (h : s.foundAt l i = none) {j : Nat} (hj : j ∈ s.candidatesAt l i) :
    s.passAt l i % (s.stream j).cadence ≠ (s.stream j).phase := by
  intro heq
  have hnot := List.find?_eq_none.1 h j hj
  exact hnot ((State.eligible_iff _ _).2 heq)

theorem State.foundAt_succ (i : Nat) : s.foundAt l (i + 1) = s.searchPass (s.candidates l) (((s.lane l).pass + (i + 1)) % 65536) := rfl

/-- The search over later passes finds the first of them in which something is found. -/
theorem State.searchFrom_eq (n i : Nat) : s.searchFrom (s.candidates l) n ((s.lane l).pass + (i + 1))
    = ((List.range' (i + 1) n).findSome? fun j => (s.foundAt l j).map fun k => (s.passAt l j, k)) := by
  induction n generalizing i with
  | zero => rfl
  | succ n ih =>
    rw [State.searchFrom, List.range'_succ, List.findSome?_cons, ← State.foundAt_succ]
    cases s.foundAt l (i + 1) with
    | none => exact ih (i + 1)
    | some k => rfl

theorem State.search_eq : s.search l
    = ((List.range 17).findSome? fun j => (s.foundAt l j).map fun k => (s.passAt l j, k)) := by
  have hfirst : s.foundAt l 0 = s.searchPass ((s.candidates l).filter fun k => (s.lane l).position < k) (s.lane l).pass := rfl
  rw [List.range_eq_range', List.range'_succ, List.findSome?_cons, hfirst, State.search]
  cases s.searchPass ((s.candidates l).filter fun k => (s.lane l).position < k) (s.lane l).pass with
  | none => exact State.searchFrom_eq 16 0
  | some k => rfl

/-- The search stops at the first pass in which something is found. -/
theorem State.search_some {p k : Nat} (h : s.search l = some (p, k)) :
    ∃ i, i ≤ 16 ∧ p = s.passAt l i ∧ s.foundAt l i = some k ∧ ∀ j, j < i → s.foundAt l j = none := by
  rw [State.search_eq, List.findSome?_eq_some_iff] at h
  obtain ⟨before, i, behind, hrange, hfound, hbefore⟩ := h
  obtain ⟨k', hk', heq⟩ := Option.map_eq_some_iff.1 hfound
  cases heq
  have hascending : (before ++ i :: behind).Pairwise (· < ·) := hrange ▸ List.pairwise_lt_range
  have hi : i ∈ List.range 17 := by rw [hrange]; simp
  refine ⟨i, by have := List.mem_range.1 hi; omega, rfl, hk', fun j hj => ?_⟩
  have hmem : j ∈ before ++ i :: behind := by
    rw [← hrange]
    exact List.mem_range.2 (hj.trans (List.mem_range.1 hi))
  rcases List.mem_append.1 hmem with hmem | hmem
  · simpa using hbefore j hmem
  · rcases List.mem_cons.1 hmem with rfl | hmem
    · exact absurd hj (Nat.lt_irrefl _)
    · have hgt := (List.pairwise_cons.1 (List.pairwise_append.1 hascending).2.1).1 j hmem
      omega

theorem State.search_none (h : s.search l = none) {i : Nat} (hi : i ≤ 16) : s.foundAt l i = none := by
  rw [State.search_eq, List.findSome?_eq_none_iff] at h
  have hnone := h i (List.mem_range.2 (by omega))
  simpa using hnone

/-- Sixteen passes in a row meet every lawful cadence and phase. -/
theorem exists_pass {c : Nat} (hc : c ∈ [1, 2, 4, 8, 16]) {phase : Nat} (hphase : phase < c) (pass : Nat) :
    ∃ i, 1 ≤ i ∧ i ≤ 16 ∧ (pass + i) % 65536 % c = phase := by
  refine ⟨1 + (phase + c - (pass + 1) % c) % c, ?_⟩
  simp only [List.mem_cons, List.not_mem_nil, or_false] at hc
  rcases hc with rfl | rfl | rfl | rfl | rfl <;> omega

end

/-- Settles O34: the search looks at seventeen passes one after another, each in ascending stream number. -/
theorem searchFindsEligibleCandidate : Obligations.SearchFindsEligibleCandidate := by
  unfold Obligations.SearchFindsEligibleCandidate
  intro s l
  refine ⟨fun p k hfound => ?found, fun p k hfound cand hcand => ?first, s.candidate_iff l, fun hsome hlawful => ?meets⟩
  case found =>
    obtain ⟨i, hi, rfl, hfoundAt, -⟩ := State.search_some hfound
    obtain ⟨hmem, hpass, -⟩ := State.foundAt_some hfoundAt
    obtain ⟨⟨hcandidate, hbound⟩, hposition⟩ := State.mem_candidatesAt.1 hmem
    obtain ⟨hstate, hready, hseg⟩ := (s.candidate_iff l k).1 hcandidate
    refine ⟨hbound, hstate, hready, hpass, hseg, ?_⟩
    unfold State.passAt
    split
    · rename_i hzero
      exact .inl ⟨rfl, hposition hzero⟩
    · exact .inr ⟨i, by omega, hi, rfl⟩
  case first =>
    obtain ⟨i, hi, rfl, hfoundAt, hearlier⟩ := State.search_some hfound
    obtain ⟨hmem, hpass, hbefore⟩ := State.foundAt_some hfoundAt
    have hcandidates : ∀ h j, cand j → (h = 0 → (s.lane l).position < j) → j ∈ s.candidatesAt l h := fun h j hj hposition =>
      State.mem_candidatesAt.2 ⟨(hcand j).1 hj, hposition⟩
    exact ⟨i, hi, rfl, (State.mem_candidatesAt.1 hmem).2, fun j hj hposition hlt => hbefore j (hcandidates i j hj hposition) hlt,
      fun h j hh hj hposition => State.foundAt_none (hearlier h hh) (hcandidates h j hj hposition)⟩
  case meets =>
    obtain ⟨k, hcandidate, hbound⟩ := hsome
    obtain ⟨hcadence, hphase⟩ := hlawful k hbound
    obtain ⟨i, hlow, hhigh, hpass⟩ := exists_pass hcadence hphase (s.lane l).pass
    rw [Option.isSome_iff_ne_none]
    intro hnone
    have hmem : k ∈ s.candidatesAt l i := State.mem_candidatesAt.2 ⟨⟨hcandidate, hbound⟩, by omega⟩
    refine State.foundAt_none (State.search_none hnone hhigh) hmem ?_
    rw [State.passAt, if_neg (by omega), hpass]

end Sys2Proof.Machine
end

section
/-! Segment ids, the issue of one unit, and a segment that a unit fills (R76, R84, R89, R101, R106 to R110). -/

namespace Sys2Proof.Machine

open Sys2Proof

/-! ## The next segment id (R84) -/

/-- The search takes the first free id that it tries, unless all of them are in use. -/
theorem freeId_first (m : Store Segment) (fuel n : Nat) (h : ¬ ∀ i, i < fuel → (Store.find? m ((n + i) % 65536)).isSome = true) :
    ∃ i, i < fuel ∧ freeId m fuel n = (n + i) % 65536 ∧ Store.find? m ((n + i) % 65536) = none
      ∧ ∀ j, j < i → (Store.find? m ((n + j) % 65536)).isSome = true := by
  induction fuel generalizing n with
  | zero => exact absurd (fun i hi => absurd hi (Nat.not_lt_zero i)) h
  | succ fuel ih =>
    cases hfind : Store.find? m (n % 65536) with
    | none => exact ⟨0, Nat.succ_pos _, by rw [freeId, hfind]; rfl, hfind, fun j hj => absurd hj (Nat.not_lt_zero j)⟩
    | some g =>
      have hshift : ∀ i, n + 1 + i = n + (i + 1) := fun i => by omega
      have hlater : ¬ ∀ i, i < fuel → (Store.find? m ((n + 1 + i) % 65536)).isSome = true := by
        intro hall
        refine h fun i hi => ?_
        cases i with
        | zero => rw [Nat.add_zero, hfind]; rfl
        | succ i => rw [← hshift]; exact hall i (by omega)
      obtain ⟨i, hi, hid, hfree, hbefore⟩ := ih (n + 1) hlater
      rw [hshift] at hid hfree
      refine ⟨i + 1, by omega, ?_, hfree, fun j hj => ?_⟩
      · rw [freeId, hfind]
        exact hid
      · cases j with
        | zero => rw [Nat.add_zero, hfind]; rfl
        | succ j => rw [← hshift]; exact hbefore j (by omega)

/-! ## Draining -/

section

variable {s : State} {id : Nat} {g : Segment}

theorem State.drain_of_open (hfind : Store.find? s.segments id = some g) (hcause : g.endCause = none) (cause : EndCause) :
    s.drain id cause = (s.setSegment id { g with endCause := some cause }).setStream g.stream (s.stream g.stream).released := by
  rw [State.drain, hfind]
  exact if_pos (by rw [Segment.isOpen, hcause]; rfl)

/-- A segment goes DRAINING once (R91). -/
theorem State.drain_of_draining (hfind : Store.find? s.segments id = some g) (hcause : g.endCause ≠ none) (cause : EndCause) :
    s.drain id cause = s := by
  rw [State.drain, hfind]
  exact if_neg (by simpa [Segment.isOpen] using hcause)

end

theorem Stream.released_of_opened {t : Stream} (h : t.state = .opened) : t.released = { t with openSeg := none, state := .idle } := by
  rw [Stream.released, if_pos h]

/-! ## The issue of one unit (R106) -/

theorem Stream.settle_cases (t : Stream) :
    t.settle = { t with pad := t.pad && decide (t.tailSize ≠ 0), linger := if t.tailSize = 0 then 0 else t.linger } := by
  unfold Stream.settle
  by_cases h : t.tailSize = 0
  · simp [h]
  · simp [h]

theorem Stream.composed_state (t : Stream) (n : Nat) : (t.composed n).state = t.state := by rw [Stream.composed, Stream.settle_cases]
theorem Stream.composed_openSeg (t : Stream) (n : Nat) : (t.composed n).openSeg = t.openSeg := by rw [Stream.composed, Stream.settle_cases]

/-- The record of the next unit of a stream on its segment (R101, R108). -/
def State.issuedRecord (s : State) (k id : Nat) (g : Segment) : InFlight where
  kind := .normal
  seg := some id
  block := g.block
  unit := g.issued
  slots := (s.stream k).queue.take 16
  fillers := 16 - ((s.stream k).queue.take 16).length
  trailer := false
  expiry := s.now + 1000 * s.params.programTimeout

/-- The PROGRAM of the next unit of a stream on its segment (R109). -/
def State.issuedProgram (s : State) (k : Nat) (g : Segment) : List Byte :=
  programBytes .normal g.block g.issued (16 - ((s.stream k).queue.take 16).length) (((s.stream k).queue.take 16).map s.sectorBytes)

/-- A stream's next unit has been composed: its slots are ISSUED and have left the queue (R76). -/
def State.unitComposed (s : State) (k : Nat) : State :=
  (s.setSlotStates ((s.stream k).queue.take 16) .issued).setStream k ((s.stream k).composed ((s.stream k).queue.take 16).length)

/-- A lane's list with one record more. -/
def Lane.carrying (x : Lane) (r : InFlight) : Lane := { x with inflight := x.inflight ++ [r], unitsIssued := x.unitsIssued + 1 }

/-- A stream's next unit has been issued, before its segment is looked at (R106). -/
def State.unitIssued (s : State) (l k id : Nat) (g : Segment) : State :=
  (((s.unitComposed k).setSegment id { g with issued := g.issued + 1 }).updLane l fun x => x.carrying (s.issuedRecord k id g)).sendLane l
    (.parcel (s.issuedProgram k g))

section

variable {s : State} {l k id : Nat} {g : Segment}

/-- The state outside what the composition of a unit may change. -/
def State.butUnit (s : State) : State := { s with slots := [], streams := [] }

theorem State.unitComposed_frame (s : State) (k : Nat) : (s.unitComposed k).butUnit = s.butUnit := by
  have hslots := s.setSlotStates_frame ((s.stream k).queue.take 16) .issued
  have hstream : (s.unitComposed k).butUnit = (s.setSlotStates ((s.stream k).queue.take 16) .issued).butUnit := rfl
  exact hstream.trans (agree (π := State.butUnit) hslots)

theorem State.unitIssued_slot (j : Nat) : (s.unitIssued l k id g).slot j
    = if j ∈ (s.stream k).queue.take 16 then { s.slot j with state := .issued } else s.slot j := by
  simp only [State.unitIssued, State.updLane, State.sendLane_slot, State.setLane_slot, State.setSegment_slot, State.unitComposed,
    State.setStream_slot]
  exact s.setSlotStates_slot _ _ j

theorem State.unitComposed_stream (j : Nat) : (s.unitComposed k).stream j
    = if j = k then (s.stream k).composed ((s.stream k).queue.take 16).length else s.stream j := by
  have hstreams : (s.setSlotStates ((s.stream k).queue.take 16) .issued).stream j = s.stream j :=
    agree (π := fun s : State => s.stream j) (s.setSlotStates_frame _ _)
  rw [State.unitComposed, State.stream_setStream, hstreams]

theorem State.unitComposed_lane (j : Nat) : (s.unitComposed k).lane j = s.lane j := agree (π := fun u : State => u.lane j) (s.unitComposed_frame k)

theorem State.unitComposed_laneLink (j : Nat) : (s.unitComposed k).laneLink j = s.laneLink j :=
  agree (π := fun u : State => u.laneLink j) (s.unitComposed_frame k)

theorem State.unitComposed_segments : (s.unitComposed k).segments = s.segments := agree (π := State.segments) (s.unitComposed_frame k)

theorem State.unitIssued_stream (j : Nat) : (s.unitIssued l k id g).stream j
    = if j = k then (s.stream k).composed ((s.stream k).queue.take 16).length else s.stream j := by
  simp only [State.unitIssued, State.updLane, State.sendLane_stream, State.setLane_stream, State.setSegment_stream,
    State.unitComposed_stream]

theorem State.unitIssued_segments : (s.unitIssued l k id g).segments = Store.insert s.segments id { g with issued := g.issued + 1 } := by
  simp only [State.unitIssued, State.updLane, State.sendLane_segments, State.setLane_segments, State.setSegment_segments,
    State.unitComposed_segments]

theorem State.unitIssued_lane (j : Nat) : (s.unitIssued l k id g).lane j
    = if j = l then (s.lane l).carrying (s.issuedRecord k id g) else s.lane j := by
  simp only [State.unitIssued, State.sendLane_lane, State.lane_updLane, State.setSegment_lane, State.unitComposed_lane]

theorem State.unitIssued_laneLink (j : Nat) : (s.unitIssued l k id g).laneLink j = if j = l
    then s.laneLink l ++ [.parcel (s.issuedProgram k g)] else s.laneLink j := by
  simp only [State.unitIssued, State.laneLink_sendLane, State.updLane, State.setLane_laneLink, State.setSegment_laneLink,
    State.unitComposed_laneLink]

theorem State.issueUnit_eq (hopen : s.openSegment (s.stream k) = some (id, g)) : s.issueUnit l k
    = if g.capacity ≤ g.issued + 1 then (s.unitIssued l k id g).drain id .full else s.unitIssued l k id g := by
  have hnow : ((s.unitComposed k).setSegment id { g with issued := g.issued + 1 }).now = s.now :=
    (agree (π := State.now) (s.unitComposed_frame k) :)
  have hparams : ((s.unitComposed k).setSegment id { g with issued := g.issued + 1 }).params = s.params :=
    (agree (π := State.params) (s.unitComposed_frame k) :)
  unfold State.unitIssued State.issuedRecord
  rw [← hnow, ← hparams]
  simp only [State.issueUnit, hopen]
  rfl

end

/-- Settles O32: the ids tried in turn, and the drain that follows the unit. -/
theorem segmentIdsAndFullSegments : Obligations.SegmentIdsAndFullSegments := by
  unfold Obligations.SegmentIdsAndFullSegments
  refine ⟨fun s hlength => ?ids, fun s l k id g hopen hcause hstream hstate => ?full⟩
  case ids =>
    obtain ⟨i, hi, hid, hfree, hbefore⟩ := freeId_first s.segments (s.segments.length + 1) s.nextSegment
      (not_all_ids_used s.nextSegment (Nat.lt_succ_self _) (by omega))
    exact ⟨i, by omega, hid, (congrArg (Store.find? s.segments) hid).trans hfree, hbefore⟩
  case full =>
    obtain ⟨hseg, hfind⟩ := State.openSegment_eq_some hopen
    have hfind' : Store.find? (s.unitIssued l k id g).segments id = some { g with issued := g.issued + 1 } := by
      rw [State.unitIssued_segments, Store.find?_insert_self]
    have hdrain := State.drain_of_open hfind' hcause .full
    have hstream' : (s.unitIssued l k id g).stream k = (s.stream k).composed ((s.stream k).queue.take 16).length := by
      rw [State.unitIssued_stream, if_pos rfl]
    have hcomposed : ((s.unitIssued l k id g).stream k).state = .opened ∧ ((s.unitIssued l k id g).stream k).openSeg = some id := by
      rw [hstream', Stream.composed_state, Stream.composed_openSeg]
      exact ⟨hstate, hseg⟩
    subst hstream
    rw [State.issueUnit_eq hopen]
    by_cases hfull : g.capacity ≤ g.issued + 1
    · simp only [if_pos hfull]
      rw [hdrain, State.setStream_segments, State.setSegment_segments, Store.find?_insert_self, State.stream_setStream, if_pos rfl,
        Stream.released_of_opened hcomposed.1]
      refine ⟨rfl, rfl, rfl, fun i hi => ?_⟩
      rw [Store.find?_insert_ne _ _ hi, State.unitIssued_segments, Store.find?_insert_ne _ _ hi]
    · simp only [if_neg hfull]
      refine ⟨hfind'.trans ?_, hcomposed.1, hcomposed.2, fun i hi => ?_⟩
      · rw [← hcause]
      · rw [State.unitIssued_segments, Store.find?_insert_ne _ _ hi]

end Sys2Proof.Machine
end

section
/-! GRANT-BLOCKS, and the serve of the starvation list (R80 to R82, R85, R88). -/

namespace Sys2Proof.Machine

open Sys2Proof

/-! ## The serve of the starvation list (R88) -/

/-- The oldest listed stream that has the lane opens a segment from the lane's first grant. -/
def State.serveOne (s : State) (k l : Nat) : State := { s with starved := s.starved.erase k }.openFrom k l

/-- The listed streams that have the lane in their set, in the order of the list. -/
def State.starvedOn (s : State) (l : Nat) : List Nat := s.starved.filter fun k => (s.stream k).onLane l

/-- How many streams the serve of a lane serves. -/
def State.servedCount (s : State) (l : Nat) : Nat := min (s.lane l).normal.length (s.starvedOn l).length

/-- What the serve of a lane leaves (R82, R85, R88). -/
structure State.Served (s t : State) (l : Nat) : Prop where
  frame : t.butServe = s.butServe
  lanes : ∀ j, j ≠ l → t.lane j = s.lane j
  lane : t.lane l = (s.lane l).drawn ((s.lane l).normal.drop (s.servedCount l))
  sets : ∀ k j, (t.stream k).onLane j = (s.stream k).onLane j
  sublist : t.starved.Sublist s.starved
  onLane : t.starvedOn l = (s.starvedOn l).drop (s.servedCount l)
  offLane : (t.starved.filter fun k => !(s.stream k).onLane l) = s.starved.filter fun k => !(s.stream k).onLane l
  due : t.due = s.due ++ if ((s.lane l).armed && !(t.lane l).armed) = true then [l] else []
  opened : ∀ k ∈ s.starved, k ∈ t.starved ∨ ((t.stream k).state = .opened ∧ (t.stream k).lastLane = l)
  unlisted : ∀ k, k ∉ s.starved → t.stream k = s.stream k
  unserved : s.starved.Nodup → ∀ k ∈ t.starved, t.stream k = s.stream k
  segments : s.segments.length + (s.lane l).normal.length < 65536 → ∀ id g, Store.find? s.segments id = some g → Store.find? t.segments id = some g
  served : s.segments.length + (s.lane l).normal.length < 65536 → s.starved.Nodup → ∀ i k g, i < s.servedCount l →
    (s.starvedOn l)[i]? = some k → (s.lane l).normal[i]? = some g →
      ∃ id, t.stream k = { s.stream k with state := .opened, openSeg := some id, lastLane := l } ∧ Store.find? s.segments id = none
        ∧ Store.find? t.segments id = some { stream := k, lane := l, block := g.block, capacity := g.capacity }

theorem Lane.drawn_self (x : Lane) : x.drawn x.normal = x := by simp [Lane.drawn]

theorem State.served_refl {s : State} {l : Nat} (h : s.servedCount l = 0) : s.Served s l where
  frame := rfl
  lanes _ _ := rfl
  lane := by rw [h, List.drop_zero, Lane.drawn_self]
  sets _ _ := rfl
  sublist := List.Sublist.refl _
  onLane := by rw [h, List.drop_zero]
  offLane := rfl
  due := by simp
  opened _ hk := .inl hk
  unlisted _ _ := rfl
  unserved _ _ _ := rfl
  segments _ _ _ hid := hid
  served _ _ i k g hi := by omega

section

variable {s t : State} {k l : Nat} {g : Grant} {gs : List Grant}

theorem State.serveOne_lane (hnormal : (s.lane l).normal = g :: gs) (j : Nat) :
    (s.serveOne k l).lane j = if j = l then (s.lane l).drawn gs else s.lane j :=
  State.openFrom_lane (s := { s with starved := s.starved.erase k }) hnormal j

theorem State.serveOne_stream (hnormal : (s.lane l).normal = g :: gs) (j : Nat) : (s.serveOne k l).stream j
    = if j = k then { s.stream k with state := .opened, openSeg := some s.nextSegmentId, lastLane := l } else s.stream j :=
  State.openFrom_stream (s := { s with starved := s.starved.erase k }) hnormal j

theorem State.serveOne_segments (hnormal : (s.lane l).normal = g :: gs) : (s.serveOne k l).segments
    = Store.insert s.segments s.nextSegmentId { stream := k, lane := l, block := g.block, capacity := g.capacity } :=
  State.openFrom_segments (s := { s with starved := s.starved.erase k }) hnormal

theorem State.serveOne_due (hnormal : (s.lane l).normal = g :: gs) : (s.serveOne k l).due
    = s.due ++ if (s.lane l).armed = true ∧ gs.length ≤ (s.lane l).poolLowMark then [l] else [] :=
  State.openFrom_due (s := { s with starved := s.starved.erase k }) hnormal

theorem State.serveOne_starved : (s.serveOne k l).starved = s.starved.erase k :=
  (agree (π := State.starved) (State.openFrom_frame { s with starved := s.starved.erase k } k l)).trans rfl

theorem State.serveOne_frame : (s.serveOne k l).butServe = s.butServe :=
  (agree (π := State.butServe) (State.openFrom_frame { s with starved := s.starved.erase k } k l)).trans rfl

theorem State.serveOne_onLane (hnormal : (s.lane l).normal = g :: gs) (j x : Nat) :
    ((s.serveOne k l).stream j).onLane x = (s.stream j).onLane x := by
  rw [State.serveOne_stream hnormal]
  split
  · rename_i hj
    rw [hj]
    rfl
  · rfl

/-- The stream served is the first of those listed that have the lane. -/
theorem State.oldestStarved_some (h : s.oldestStarved l = some k) : ∃ before behind, s.starved = before ++ k :: behind
    ∧ (s.stream k).onLane l = true ∧ (∀ j ∈ before, (s.stream j).onLane l = false) ∧ s.starved.erase k = before ++ behind := by
  obtain ⟨hon, before, behind, hstarved, hbefore⟩ := List.find?_eq_some_iff_append.1 h
  have hoff : ∀ j ∈ before, (s.stream j).onLane l = false := fun j hj => by simpa using hbefore j hj
  have hnot : k ∉ before := fun hk => by rw [hoff k hk] at hon; cases hon
  exact ⟨before, behind, hstarved, hon, hoff, by rw [hstarved, List.erase_append_right _ hnot, List.erase_cons_head]⟩

/-- What serving one stream and then the others leaves. -/
theorem State.served_step (hnormal : (s.lane l).normal = g :: gs) (hk : s.oldestStarved l = some k) (h : (s.serveOne k l).Served t l) :
    s.Served t l := by
  obtain ⟨before, behind, hstarved, hon, hoff, herase⟩ := State.oldestStarved_some hk
  have hlane := State.serveOne_lane (k := k) hnormal
  have hlaneL : (s.serveOne k l).lane l = (s.lane l).drawn gs := (hlane l).trans (if_pos rfl)
  have hgs : ((s.serveOne k l).lane l).normal = gs := by rw [hlaneL]; rfl
  have hstream := State.serveOne_stream (k := k) hnormal
  have hsets := State.serveOne_onLane (k := k) hnormal
  have hlist : (s.serveOne k l).starved = before ++ behind := State.serveOne_starved.trans herase
  have hfilter : ∀ xs : List Nat, (xs.filter fun j => ((s.serveOne k l).stream j).onLane l) = xs.filter fun j => (s.stream j).onLane l :=
    fun xs => List.filter_congr fun j _ => hsets j l
  have hnone : before.filter (fun j => (s.stream j).onLane l) = [] := List.filter_eq_nil_iff.2 fun j hj => by rw [hoff j hj]; decide
  have honOld : s.starvedOn l = k :: behind.filter fun j => (s.stream j).onLane l := by
    rw [State.starvedOn, hstarved, List.filter_append, hnone, List.nil_append]
    exact List.filter_cons_of_pos hon
  have honNew : (s.serveOne k l).starvedOn l = behind.filter fun j => (s.stream j).onLane l := by
    rw [State.starvedOn, hfilter, hlist, List.filter_append, hnone, List.nil_append]
  have hcount : s.servedCount l = (s.serveOne k l).servedCount l + 1 := by
    rw [State.servedCount, State.servedCount, hgs, hnormal, honOld, honNew, List.length_cons, List.length_cons, Nat.succ_min_succ]
  have hdrawn : (s.lane l).Draws ((s.serveOne k l).lane l) := by
    rw [hlaneL]
    exact Lane.draws_drawn (by rw [hnormal]; exact List.suffix_cons g gs)
  have hdraws : ((s.serveOne k l).lane l).Draws (t.lane l) := by
    rw [h.lane]
    exact Lane.draws_drawn (List.drop_suffix _ _)
  have hduplicate : s.starved.Nodup → (s.serveOne k l).starved.Nodup ∧ k ∉ (s.serveOne k l).starved := by
    intro hnodup
    rw [hlist]
    rw [hstarved] at hnodup
    have hcons : (k :: (before ++ behind)).Nodup := (List.perm_middle.nodup_iff).1 hnodup
    exact ⟨(List.nodup_cons.1 hcons).2, (List.nodup_cons.1 hcons).1⟩
  have hroom : s.segments.length + (s.lane l).normal.length < 65536 →
      (s.serveOne k l).segments.length + ((s.serveOne k l).lane l).normal.length < 65536
        ∧ Store.find? s.segments s.nextSegmentId = none := by
    intro hbound
    rw [hnormal, List.length_cons] at hbound
    have hlength := Store.length_insert_le s.segments s.nextSegmentId
      ({ stream := k, lane := l, block := g.block, capacity := g.capacity } : Segment)
    rw [← State.serveOne_segments (k := k) hnormal] at hlength
    rw [hgs]
    exact ⟨by omega, State.nextSegmentId_free (by omega)⟩
  constructor
  case frame => exact h.frame.trans State.serveOne_frame
  case lanes => exact fun j hj => (h.lanes j hj).trans ((hlane j).trans (if_neg hj))
  case lane =>
    refine (hdrawn.trans hdraws).2.trans (congrArg _ ?_)
    rw [h.lane, hgs, hnormal, hcount, List.drop_succ_cons]
    rfl
  case sets => exact fun j x => (h.sets j x).trans (hsets j x)
  case sublist =>
    refine h.sublist.trans ?_
    rw [hlist, hstarved]
    exact List.Sublist.append_left (List.sublist_cons_self k behind) before
  case onLane => rw [h.onLane, honOld, honNew, hcount, List.drop_succ_cons]
  case offLane =>
    have hoffLane := h.offLane
    simp only [hsets] at hoffLane
    rw [hoffLane, hlist, hstarved, List.filter_append, List.filter_append, List.filter_cons_of_neg (a := k) (by rw [hon]; decide)]
  case due =>
    have hfirst : (s.serveOne k l).due
        = s.due ++ if ((s.lane l).armed && !((s.serveOne k l).lane l).armed) = true then [l] else [] := by
      rw [State.serveOne_due hnormal, hlaneL]
      refine congrArg _ (if_congr ?_ rfl rfl)
      simp +contextual [Lane.drawn, hnormal]
    have hlower : ((s.serveOne k l).lane l).armed = true → (s.lane l).armed = true := by
      rw [hdrawn.armed, Bool.and_eq_true]
      exact And.left
    have hlowest : (t.lane l).armed = true → ((s.serveOne k l).lane l).armed = true := by
      rw [hdraws.armed, Bool.and_eq_true]
      exact And.left
    rw [h.due, hfirst, List.append_assoc]
    refine congrArg _ ?_
    revert hlower hlowest
    cases (s.lane l).armed <;> cases ((s.serveOne k l).lane l).armed <;> cases (t.lane l).armed <;> simp
  case opened =>
    intro j hj
    by_cases hmem : j ∈ (s.serveOne k l).starved
    · exact h.opened j hmem
    · have hjk : j = k := by
        rw [hlist] at hmem
        rw [hstarved] at hj
        simp at hmem hj
        tauto
      rw [h.unlisted j hmem, hstream, if_pos hjk]
      exact .inr ⟨rfl, rfl⟩
  case unlisted =>
    intro j hj
    have hjk : j ≠ k := fun hjk => hj (by rw [hstarved, hjk]; simp)
    have hnot : j ∉ (s.serveOne k l).starved := fun hmem => hj (by rw [hlist] at hmem; rw [hstarved]; simp at hmem ⊢; tauto)
    exact (h.unlisted j hnot).trans ((hstream j).trans (if_neg hjk))
  case unserved =>
    intro hnodup j hj
    obtain ⟨hnodup', hk'⟩ := hduplicate hnodup
    have hjk : j ≠ k := fun hjk => hk' (hjk ▸ h.sublist.subset hj)
    exact (h.unserved hnodup' j hj).trans ((hstream j).trans (if_neg hjk))
  case segments =>
    intro hbound id g' hid
    obtain ⟨hbound', hfree⟩ := hroom hbound
    have hne : id ≠ s.nextSegmentId := fun heq => by rw [heq, hfree] at hid; cases hid
    exact h.segments hbound' id g' (by rw [State.serveOne_segments hnormal, Store.find?_insert_ne _ _ hne]; exact hid)
  case served =>
    intro hbound hnodup i k' g' hi hk' hg'
    obtain ⟨hbound', hfree⟩ := hroom hbound
    obtain ⟨hnodup', hnot⟩ := hduplicate hnodup
    rw [honOld] at hk'
    rw [hnormal] at hg'
    cases i with
    | zero =>
      obtain rfl : k = k' := by simpa using hk'
      obtain rfl : g = g' := by simpa using hg'
      refine ⟨s.nextSegmentId, ?_, hfree, h.segments hbound' _ _ ?_⟩
      · rw [h.unlisted k hnot, hstream, if_pos rfl]
      · rw [State.serveOne_segments hnormal, Store.find?_insert_self]
    | succ i =>
      rw [List.getElem?_cons_succ] at hk' hg'
      rw [← honNew] at hk'
      obtain ⟨id, hopened, hfresh, hfind⟩ := h.served hbound' hnodup' i k' g' (by omega) hk' (by rw [hgs]; exact hg')
      have hmem : k' ∈ (s.serveOne k l).starved := List.mem_of_mem_filter (List.mem_of_getElem? hk')
      have hne : id ≠ s.nextSegmentId := fun heq => by
        rw [heq, State.serveOne_segments hnormal, Store.find?_insert_self] at hfresh
        cases hfresh
      refine ⟨id, ?_, ?_, hfind⟩
      · rw [hopened, hstream, if_neg fun heq : k' = k => hnot (heq ▸ hmem)]
      · rw [State.serveOne_segments hnormal, Store.find?_insert_ne _ _ hne] at hfresh
        exact hfresh

/-- The serve of a lane that is UP serves the oldest streams that have it, as many as it has grants. -/
theorem State.served_serve (hup : (s.lane l).up = true) : s.Served (State.serve l (s.lane l).normal.length s) l := by
  generalize hnormal : (s.lane l).normal = gs
  induction gs generalizing s with
  | nil => exact State.served_refl (by rw [State.servedCount, hnormal, List.length_nil, Nat.zero_min])
  | cons g gs ih =>
    have hgrant : (s.lane l).canGrant = true := by rw [Lane.canGrant, hup, hnormal]; rfl
    rw [List.length_cons, State.serve, if_pos hgrant]
    cases hk : s.oldestStarved l with
    | none =>
      refine State.served_refl ?_
      have hempty : s.starvedOn l = [] := List.filter_eq_nil_iff.2 fun j hj => List.find?_eq_none.1 hk j hj
      rw [State.servedCount, hempty, List.length_nil, Nat.min_zero]
    | some k =>
      have hlane : (s.serveOne k l).lane l = (s.lane l).drawn gs := (State.serveOne_lane hnormal l).trans (if_pos rfl)
      exact State.served_step hnormal hk (ih (by rw [hlane]; exact hup) (by rw [hlane]; rfl))

end

/-! ## The request (R80 to R82) -/

section

variable {s : State} {a : Arriving}

/-- The grants that a request carries, as they are queued (R80). -/
theorem Arriving.grants_clamped (a : Arriving) : a.grants.map Grant.clamped = (List.range a.entryCount).map fun i =>
    ⟨BitVec.ofNat 32 (field (a.bodyUnit i) 0 4), min 4096 (field (a.bodyUnit i) 4 2)⟩ := by
  rw [Arriving.grants, List.map_map]
  refine List.map_congr_left fun i _ => ?_
  have hblock : BitVec.ofNat 32 (field (a.bodyUnit i) 0 4) = (a.bodyUnit i).extractLsb' 0 32 := by
    unfold field
    rw [BitVec.ofNat_toNat]
    rfl
  rw [hblock]
  rfl

theorem Arriving.grantsBad_iff (a : Arriving) : a.grantsBad = true ↔ 7 < a.lane ∨ 1 < a.grantKind ∨ a.entryCount = 0 ∨ 8 < a.entryCount
    ∨ ∃ i, i < a.entryCount ∧ field (a.bodyUnit i) 4 2 = 0 := by
  simp [Arriving.grantsBad, Arriving.grants, grantOfUnit, or_assoc]

theorem Lane.grantsFull_iff (x : Lane) {kind : Nat} (hkind : kind ≤ 1) (n : Nat) : x.grantsFull kind n = true
    ↔ (kind = 0 ∧ 32 < x.normal.length + n) ∨ (kind = 1 ∧ 4 < x.dump.length + n) := by
  unfold Lane.grantsFull
  by_cases hzero : kind = 0
  · simp [hzero, Config.normalGrants]
  · have hone : kind = 1 := by omega
    simp [hone, Config.dumpGrants]

/-- The lane as the request leaves it before the serve. -/
def Lane.grantedBy (x : Lane) (a : Arriving) : Lane := x.granted a.grantKind (a.grants.map Grant.clamped)

/-- The grants are queued and the REPLY is enqueued, before the serve (R81). -/
def State.granting (s : State) (a : Arriving) : State :=
  (s.setLane a.lane ((s.lane a.lane).grantedBy a)).reply a .ok ((s.lane a.lane).grantedBy a).counts

theorem State.grantBlocks_bad (h : a.grantsBad = true) : s.grantBlocks a = s.reply a .badField (countsBody 0 0) := by
  rw [State.grantBlocks, if_pos h]

theorem State.grantBlocks_down (hgood : ¬ a.grantsBad = true) (hdown : (s.lane a.lane).up = false) :
    s.grantBlocks a = s.reply a .laneDown (s.lane a.lane).counts := by
  rw [State.grantBlocks, if_neg hgood, if_pos (by rw [hdown]; rfl)]

theorem State.grantBlocks_full (hgood : ¬ a.grantsBad = true) (hup : (s.lane a.lane).up = true)
    (hfull : (s.lane a.lane).grantsFull a.grantKind a.entryCount = true) :
    s.grantBlocks a = s.reply a .full (s.lane a.lane).counts := by
  rw [State.grantBlocks, if_neg hgood, if_neg (by rw [hup]; decide), if_pos hfull]

theorem State.grantBlocks_ok (hgood : ¬ a.grantsBad = true) (hup : (s.lane a.lane).up = true)
    (hfits : ¬ (s.lane a.lane).grantsFull a.grantKind a.entryCount = true) : s.grantBlocks a
      = if a.grantKind = 0 then (State.serve a.lane ((s.lane a.lane).grantedBy a).normal.length (s.granting a)).poolLowNotices
        else s.granting a := by
  rw [State.grantBlocks, if_neg hgood, if_neg (by rw [hup]; decide), if_neg hfits]
  rfl

theorem State.granting_lane (j : Nat) :
    (s.granting a).lane j = if j = a.lane then (s.lane a.lane).grantedBy a else s.lane j :=
  s.lane_setLane a.lane ((s.lane a.lane).grantedBy a) j

theorem Lane.grantedBy_normal {x : Lane} (h : a.grantKind = 0) : x.grantedBy a = { x with
    normal := x.normal ++ a.grants.map Grant.clamped
    armed := x.armed || decide (x.poolLowMark < (x.normal ++ a.grants.map Grant.clamped).length) } := by
  rw [Lane.grantedBy, Lane.granted, if_pos h]

theorem Lane.grantedBy_dump {x : Lane} (h : a.grantKind ≠ 0) : x.grantedBy a = { x with dump := x.dump ++ a.grants.map Grant.clamped } := by
  rw [Lane.grantedBy, Lane.granted, if_neg h]

theorem Arriving.length_grants (a : Arriving) : (a.grants.map Grant.clamped).length = a.entryCount := by simp [Arriving.grants]

theorem Arriving.grants_good (a : Arriving) (hlane : a.lane ≤ 7) (hkind : a.grantKind ≤ 1) (hlow : 1 ≤ a.entryCount) (hhigh : a.entryCount ≤ 8)
    (hcapacity : ∀ i, i < a.entryCount → field (a.bodyUnit i) 4 2 ≠ 0) : ¬ a.grantsBad = true := by
  rw [a.grantsBad_iff]
  rintro (h | h | h | h | ⟨i, hi, hzero⟩)
  · omega
  · omega
  · omega
  · omega
  · exact hcapacity i hi hzero

/-- With no listed stream that has the lane the serve does nothing. -/
theorem State.serve_none {l : Nat} (h : s.oldestStarved l = none) (n : Nat) : State.serve l n s = s := by
  cases n with
  | zero => rfl
  | succ n =>
    unfold State.serve
    split
    · rw [h]
    · rfl

end

/-- Settles O30: the checks of R80 in order, and the grants that no listed stream waits for. -/
theorem grantBlocksQueuesOrRefuses : Obligations.GrantBlocksQueuesOrRefuses := by
  unfold Obligations.GrantBlocksQueuesOrRefuses
  have hexec : ∀ (s : State) (a : Arriving) (n : Nat), s.offers a → a.asks 0x30 n → a.entryCount = n →
      exec .grantBlocks s = .next (s.freed.grantBlocks a) := fun s a n hoffers hasks hcount =>
    exec_of_offers (act := State.grantBlocks) rfl hoffers (Arriving.isCode_of_asks_permitted hasks (by decide) hcount.symm)
  refine ⟨fun s a l kind n hoffers hasks hcount hl hkind => ?refused,
    fun s a l kind n gs hoffers hasks hcount hl hkind hlane hkindle hlow hhigh hcapacity hup hnormal hdump hgs hwaits => ?accepted⟩
  case refused =>
    obtain rfl : a.lane = l := hl
    obtain rfl : a.grantKind = kind := hkind
    rw [hexec s a n hoffers hasks hcount]
    subst hcount
    refine ⟨fun hbad => ?_, fun hlane hkindle hlow hhigh hcapacity => ?_⟩
    · rw [State.grantBlocks_bad ((a.grantsBad_iff).2 hbad)]
      rfl
    · have hgood := a.grants_good hlane hkindle hlow hhigh hcapacity
      refine ⟨fun hdown => ?_, fun hup hfull => ?_⟩
      · rw [State.grantBlocks_down (s := s.freed) hgood hdown]
        rfl
      · rw [State.grantBlocks_full (s := s.freed) hgood hup ((Lane.grantsFull_iff _ hkindle _).2 hfull)]
        rfl
  case accepted =>
    obtain rfl : a.lane = l := hl
    obtain rfl : a.grantKind = kind := hkind
    rw [hexec s a n hoffers hasks hcount]
    subst hcount
    have hgrants : a.grants.map Grant.clamped = gs := a.grants_clamped.trans hgs.symm
    have hlength : gs.length = a.entryCount := hgrants ▸ a.length_grants
    have hresult : s.freed.grantBlocks a = s.freed.granting a := by
      rw [State.grantBlocks_ok (s := s.freed) (a.grants_good hlane hkindle hlow hhigh hcapacity) hup
        (fun h => by rcases (Lane.grantsFull_iff _ hkindle _).1 h with ⟨hzero, hbig⟩ | ⟨hone, hbig⟩
                     · exact absurd (hnormal hzero) (Nat.not_le.2 hbig)
                     · exact absurd (hdump hone) (Nat.not_le.2 hbig))]
      split
      · rename_i hzero
        obtain ⟨hdue, hoff⟩ := hwaits hzero
        have hnone : (s.freed.granting a).oldestStarved a.lane = none := List.find?_eq_none.2 fun k hk => by
          have hnot := hoff k hk
          show ¬ (s.stream k).laneSet.getLsbD a.lane = true
          rw [hnot]
          decide
        rw [State.serve_none hnone, State.poolLowNotices_nil (s := s.freed.granting a) hdue]
      · rfl
    have hlanes := State.granting_lane (s := s.freed) (a := a)
    rw [hresult]
    refine ⟨_, rfl, (hlanes a.lane).trans ((if_pos rfl).trans ?_), fun j hj => (hlanes j).trans (if_neg hj), ?_⟩
    · by_cases hzero : a.grantKind = 0
      · rw [if_pos hzero, Lane.grantedBy_normal hzero, hgrants, List.length_append, hlength]
        rfl
      · rw [if_neg hzero, Lane.grantedBy_dump hzero, hgrants]
        rfl
    · have hcounts : ((s.lane a.lane).grantedBy a).counts = countsBody
          ((s.lane a.lane).normal.length + if a.grantKind = 0 then a.entryCount else 0)
          ((s.lane a.lane).dump.length + if a.grantKind = 0 then 0 else a.entryCount) := by
        by_cases hzero : a.grantKind = 0
        · rw [if_pos hzero, if_pos hzero, Lane.grantedBy_normal hzero, Lane.counts, hgrants, List.length_append, hlength]
          rfl
        · rw [if_neg hzero, if_neg hzero, Lane.grantedBy_dump hzero, Lane.counts, hgrants, List.length_append, hlength]
          rfl
      rw [← hcounts]
      rfl

/-! ## The serve after an accepted GRANT-BLOCKS -/

section

variable {s : State} {a : Arriving}

/-- The lane after normal grants have been queued and `m` of them have left. -/
theorem Lane.drawn_grantedBy {x : Lane} {gs : List Grant} {m : Nat} {armed low : Bool} (hkind : a.grantKind = 0)
    (hgs : gs = x.normal ++ a.grants.map Grant.clamped) (hm : m ≤ gs.length)
    (harmed : armed = (x.armed || decide (x.poolLowMark < gs.length)))
    (hlow : low = decide (1 ≤ m ∧ gs.length - m ≤ x.poolLowMark)) :
    (x.grantedBy a).drawn (gs.drop m) = { x with normal := gs.drop m, armed := armed && !low } := by
  have hleft : (gs.drop m ≠ gs ∧ (gs.drop m).length ≤ x.poolLowMark) ↔ (1 ≤ m ∧ gs.length - m ≤ x.poolLowMark) := by
    rw [List.length_drop]
    refine and_congr_left fun hmark => ⟨fun hne => ?_, fun hpos heq => ?_⟩
    · rcases Nat.eq_zero_or_pos m with rfl | hpos
      · exact absurd List.drop_zero hne
      · exact hpos
    · have := congrArg List.length heq
      rw [List.length_drop] at this
      omega
  rw [Lane.grantedBy_normal hkind, ← hgs, Lane.drawn, harmed, hlow, decide_eq_decide.2 hleft]

/-- The state outside what the serve after a GRANT-BLOCKS may change. -/
def State.butGrants (s : State) : State :=
  { s with returns := [], lanes := [], segments := [], nextSegment := 0, starved := [], streams := [], due := [], draws := 0 }

theorem State.eq_of_butGrants {t : State} (h : t.butGrants = s.freed.butGrants) (hdue : t.due = []) : t = { s with
    parser := .awaiting, returns := t.returns, lanes := t.lanes, segments := t.segments, nextSegment := t.nextSegment,
    starved := t.starved, streams := t.streams, due := [], draws := t.draws } := by
  obtain ⟨⟩ := t
  obtain ⟨⟩ := s
  simp only [State.butGrants, State.freed, State.mk.injEq] at h
  simp_all

end

/-- Settles O31: the serve takes the oldest streams and the first grants together, and stops when one of the two has run out. -/
theorem grantServesStarvedStreams : Obligations.GrantServesStarvedStreams := by
  unfold Obligations.GrantServesStarvedStreams
  intro s a l n hoffers hasks hcount hl hkind hlane hlow hhigh hcapacity hup hfits
  obtain rfl : a.lane = l := hl
  have hzero : a.grantKind = 0 := hkind
  subst hcount
  have hgood := a.grants_good hlane (by omega) hlow hhigh hcapacity
  have hexec : exec .grantBlocks s = .next (s.freed.grantBlocks a) :=
    exec_of_offers (act := State.grantBlocks) rfl hoffers (Arriving.isCode_of_asks_permitted hasks (by decide) rfl)
  have hroomy : ¬ (s.lane a.lane).grantsFull a.grantKind a.entryCount = true := fun h => by
    rcases (Lane.grantsFull_iff _ (by omega) _).1 h with ⟨-, hbig⟩ | ⟨hone, -⟩ <;> omega
  generalize hg : s.freed.granting a = g
  have hglane : ∀ j, g.lane j = if j = a.lane then (s.lane a.lane).grantedBy a else s.lane j := fun j => by
    rw [← hg]
    exact State.granting_lane (s := s.freed) j
  have hgl : g.lane a.lane = (s.lane a.lane).grantedBy a := (hglane _).trans (if_pos rfl)
  have hgup : (g.lane a.lane).up = true := by rw [hgl, Lane.grantedBy_normal hzero]; exact hup
  have hgstream : ∀ k, g.stream k = s.stream k := fun k => by rw [← hg]; rfl
  have hgstarved : g.starved = s.starved := by rw [← hg]; rfl
  have hgsegments : g.segments = s.segments := by rw [← hg]; rfl
  have hgdue : g.due = s.due := by rw [← hg]; rfl
  have hgreturns : g.returns = s.returns
      ++ [a.replyOf .ok (countsBody ((s.lane a.lane).normal.length + a.entryCount) (s.lane a.lane).dump.length)] := by
    have hcounts : ((s.lane a.lane).grantedBy a).counts
        = countsBody ((s.lane a.lane).normal.length + a.entryCount) (s.lane a.lane).dump.length := by
      rw [Lane.grantedBy_normal hzero, Lane.counts, List.length_append, a.length_grants]
    rw [← hg, ← hcounts]
    rfl
  have hnormal : (g.lane a.lane).normal = (s.lane a.lane).normal ++ a.grants.map Grant.clamped := by
    rw [hgl, Lane.grantedBy_normal hzero]
  have hnormalLength : (g.lane a.lane).normal.length = (s.lane a.lane).normal.length + a.entryCount := by
    rw [hnormal, List.length_append, a.length_grants]
  have hstarvedOn : g.starvedOn a.lane = s.starved.filter fun k => (s.stream k).onLane a.lane := by
    rw [State.starvedOn, hgstarved]
    simp only [hgstream]
  have hserved := State.served_serve (s := g) (l := a.lane) hgup
  generalize hu : State.serve a.lane (g.lane a.lane).normal.length g = u at hserved
  have hresult : s.freed.grantBlocks a = u.poolLowNotices := by
    rw [State.grantBlocks_ok (s := s.freed) hgood hup hroomy, if_pos hzero, hg, ← hu, hgl]
    rfl
  have hframe := State.poolLowNotices_frame u
  have hlanes : ∀ j, u.poolLowNotices.lane j = u.lane j := fun j => agree (π := (State.lane · j)) hframe
  have hstreams : ∀ k, u.poolLowNotices.stream k = u.stream k := fun k => agree (π := (State.stream · k)) hframe
  have hsegments : u.poolLowNotices.segments = u.segments := agree (π := State.segments) hframe
  have hstarved : u.poolLowNotices.starved = u.starved := agree (π := State.starved) hframe
  have hroom : s.segments.length ≤ 512 → g.segments.length + (g.lane a.lane).normal.length < 65536 := fun h => by
    rw [hgsegments, hnormalLength]
    omega
  have hunreturns : u.returns = g.returns := agree (π := State.returns) hserved.frame
  obtain ⟨order, hperm, hreturns⟩ := u.poolLowNotices_all
  have honLane := hserved.onLane
  have hoffLane := hserved.offLane
  rw [State.starvedOn] at honLane
  simp only [hserved.sets, hgstream, hgstarved, hstarvedOn] at honLane hoffLane
  have hservedCount : g.servedCount a.lane
      = min ((s.lane a.lane).normal.length + a.entryCount) (s.starved.filter fun k => (s.stream k).onLane a.lane).length := by
    rw [State.servedCount, hnormalLength, hstarvedOn]
  have hnormalLeft : (u.lane a.lane).normal = (g.lane a.lane).normal.drop (g.servedCount a.lane) := by rw [hserved.lane]; rfl
  refine ⟨u.poolLowNotices, order.map fun x => .poolLow x (u.lane x).normal.length, by rw [hexec, hresult], ?sublist, ?returns, ?notices,
    ?lanes, ?segments, ?frame, ?dry, ?balance, ?opened, ?unlisted, ?unserved, ?exact⟩
  case sublist => exact hstarved ▸ hgstarved ▸ hserved.sublist
  case returns => rw [hreturns, hunreturns, hgreturns, List.append_assoc]; rfl
  case notices =>
    intro p hp
    obtain ⟨x, -, rfl⟩ := List.mem_map.1 hp
    exact ⟨_, _, rfl⟩
  case lanes => exact fun j hj => (hlanes j).trans ((hserved.lanes j hj).trans ((hglane j).trans (if_neg hj)))
  case segments =>
    intro hfew id x hx
    rw [hsegments]
    exact hserved.segments (hroom hfew) id x (hgsegments.symm ▸ hx)
  case frame =>
    have hpoolLow : u.poolLowNotices.butGrants = u.butGrants := agree (π := State.butGrants) hframe
    have hserve : u.butGrants = g.butGrants := agree (π := State.butGrants) hserved.frame
    have hgranting : g.butGrants = s.freed.butGrants := hg ▸ rfl
    exact State.eq_of_butGrants (hpoolLow.trans (hserve.trans hgranting)) u.poolLowNotices_due
  case dry =>
    rw [hlanes, hnormalLeft, hstarved]
    rcases Nat.le_total (g.lane a.lane).normal.length (g.starvedOn a.lane).length with hle | hle
    · exact .inl (List.drop_eq_nil_of_le (Nat.le_min.2 ⟨Nat.le_refl _, hle⟩))
    · have hnone := honLane.trans (List.drop_eq_nil_of_le (hstarvedOn ▸ Nat.le_min.2 ⟨hle, Nat.le_refl _⟩))
      exact .inr fun k hk => Bool.not_eq_true _ ▸ List.filter_eq_nil_iff.1 hnone k hk
  case balance =>
    have hon := congrArg List.length honLane
    have hoff := congrArg List.length hoffLane
    rw [List.length_drop, hservedCount] at hon
    rw [hlanes, hstarved, hnormalLeft, List.length_drop, hservedCount, hnormalLength,
      u.starved.length_eq_length_filter_add fun k => (s.stream k).onLane a.lane,
      s.starved.length_eq_length_filter_add fun k => (s.stream k).onLane a.lane]
    omega
  case opened =>
    intro k hk
    rw [hstarved, hstreams]
    exact hserved.opened k (hgstarved.symm ▸ hk)
  case unlisted =>
    intro k hk
    rw [hstreams, hserved.unlisted k (hgstarved.symm ▸ hk), hgstream]
  case unserved =>
    intro hnodup k hk
    rw [hstreams, hserved.unserved (hgstarved.symm ▸ hnodup) k (hstarved ▸ hk), hgstream]
  case exact =>
    intro w m gs armed low hw hgs hm harmed hlow
    have hgrants : gs = (s.lane a.lane).normal ++ a.grants.map Grant.clamped := hgs.trans (congrArg _ a.grants_clamped.symm)
    have hgsnormal : (g.lane a.lane).normal = gs := hnormal.trans hgrants.symm
    have hcountm : g.servedCount a.lane = m := by rw [State.servedCount, hgsnormal, hstarvedOn, hm, hw]; rfl
    have hlaneAfter : u.lane a.lane = { s.lane a.lane with normal := gs.drop m, armed := armed && !low } := by
      rw [hserved.lane, hcountm, hgsnormal, hgl]
      exact Lane.drawn_grantedBy hzero hgrants (hm ▸ Nat.min_le_left ..) harmed hlow
    rw [hstarved]
    refine ⟨?_, hoffLane, (hlanes _).trans hlaneAfter, fun hdue => ?_, fun hfew hnodup i k x hi hk hx => ?_⟩
    · rw [hw, ← hcountm]
      exact honLane
    · have hgarmed : (g.lane a.lane).armed = armed := by
        rw [hgl, Lane.grantedBy_normal hzero, ← hgrants, harmed]
      have hudue : u.due = if (armed && low) = true then [a.lane] else [] := by
        rw [hserved.due, hgdue, hdue, List.nil_append, hlaneAfter, hgarmed]
        cases armed <;> cases low <;> rfl
      rw [hudue] at hperm
      split at hperm
      · rename_i hboth
        rw [List.perm_singleton.1 hperm, if_pos hboth, List.map_singleton, hlaneAfter, List.length_drop]
      · rename_i hnot
        rw [List.perm_nil.1 hperm, if_neg hnot]
        rfl
    · obtain ⟨id, hstream, hfree, hopen⟩ := hserved.served (hroom hfew) (hgstarved.symm ▸ hnodup) i k x (hcountm.symm ▸ hi)
        (hstarvedOn.symm ▸ hw ▸ hk) (hgsnormal.symm ▸ hx)
      exact ⟨id, (hstreams k).trans (hstream.trans (by rw [hgstream])), hgsegments ▸ hfree, hsegments.symm ▸ hopen⟩

end Sys2Proof.Machine
end

section
/-! The request of one stream at the end of an event; RELEASE-STREAM and ROTATE-STREAM (R56, R61, R63, R85, R86). -/

namespace Sys2Proof.Machine

open Sys2Proof

/-! ## The lane of a request (R85) -/

section

variable {s : State} {k : Nat}

theorem State.laneFor_eq_none (h : ∀ l, l < 8 → s.givesNone s k l) : s.laneFor (s.stream k) = none := by
  rcases s.laneFor_cases k with ⟨l, i, g, rest, -, -, hl, hon, hup, hnormal, -⟩ | ⟨hnone, -⟩
  · have hempty := h l (by omega) hon hup
    rw [hnormal] at hempty
    cases hempty
  · exact hnone

theorem State.laneFor_first {i l : Nat} {g : Grant} {gs : List Grant} (hl : l = ((s.stream k).lastLane + 1 + i) % 8)
    (hon : (s.stream k).laneSet.getLsbD l = true) (hup : (s.lane l).up = true) (hnormal : (s.lane l).normal = g :: gs)
    (hbefore : ∀ j, j < i → s.givesNone s k (((s.stream k).lastLane + 1 + j) % 8)) : s.laneFor (s.stream k) = some l := by
  rcases s.laneFor_cases k with ⟨l', i', g', rest, hsome, hi', hl', hon', hup', hnormal', hbefore'⟩ | ⟨-, hnone⟩
  · rcases Nat.lt_trichotomy i i' with hlt | rfl | hlt
    · have hempty := hbefore' i hlt (hl ▸ hon) (hl ▸ hup)
      rw [← hl, hnormal] at hempty
      cases hempty
    · rw [hsome, hl, hl']
    · have hempty := hbefore i' hlt (hl' ▸ hon') (hl' ▸ hup')
      rw [← hl', hnormal'] at hempty
      cases hempty
  · have hempty := hnone l (by omega) hon hup
    rw [hnormal] at hempty
    cases hempty

theorem Lane.drawn_tail {x : Lane} {g : Grant} {gs : List Grant} (h : x.normal = g :: gs) :
    x.drawn gs = { x with normal := gs, armed := x.armed && decide (x.poolLowMark < gs.length) } := by
  have hne : gs ≠ x.normal := by simp [h]
  simp [Lane.drawn, hne, ← decide_not]

end

theorem State.starve_stream (u : State) (k j : Nat) :
    (u.starve k).stream j = if j = k then { u.stream k with state := .starved } else u.stream j :=
  u.stream_setStream k { u.stream k with state := .starved } j

theorem State.starve_eq (u : State) (k : Nat) : u.starve k = { u with
    streams := (u.starve k).streams, starved := u.starved ++ [k], returns := u.returns ++ [.streamStarved k] } := rfl

/-! ## The request of one stream at the end of an event -/

/-- No stream but `k` requests a segment, and no POOL-LOW is due. -/
def State.calmBut (u : State) (k : Nat) : Prop :=
  (∀ j, j < 256 → j ≠ k → (u.stream j).state = .idle → (u.stream j).ready = 0) ∧ u.due = []

/-- The first grant of a lane has opened a segment for the stream, and the POOL-LOW due has been enqueued (R82, R85). -/
structure State.OpensFor (u t : State) (k l : Nat) (g : Grant) (gs : List Grant) : Prop where
  stream : t.stream k = { u.stream k with state := .opened, openSeg := some u.nextSegmentId, lastLane := l }
  others : ∀ j, j ≠ k → t.stream j = u.stream j
  segments : t.segments = Store.insert u.segments u.nextSegmentId { stream := k, lane := l, block := g.block, capacity := g.capacity }
  nextSegment : t.nextSegment = (u.nextSegmentId + 1) % 65536
  lane : t.lane l = { u.lane l with normal := gs, armed := (u.lane l).armed && decide ((u.lane l).poolLowMark < gs.length) }
  lanes : ∀ j, j ≠ l → t.lane j = u.lane j
  returns : t.returns = u.returns
    ++ if (u.lane l).armed = true ∧ gs.length ≤ (u.lane l).poolLowMark then [.poolLow l gs.length] else []
  frame : t = { u with
    returns := t.returns, streams := t.streams, segments := t.segments, nextSegment := t.nextSegment, lanes := t.lanes }

section

variable {s u : State} {k : Nat}

theorem State.calm.calmBut (hcalm : s.calm) (hothers : ∀ j, j ≠ k → u.stream j = s.stream j) (hdue : u.due = s.due) : u.calmBut k :=
  ⟨fun j hj hjk => hothers j hjk ▸ hcalm.1 j hj, hdue.trans hcalm.2⟩

theorem State.calmBut.endRequests_still (hcalm : u.calmBut k) (hstill : (u.stream k).state = .idle → (u.stream k).ready = 0) :
    u.endRequests = u :=
  State.endRequests_calm ⟨fun j hj => by
    by_cases hjk : j = k
    · exact hjk ▸ hstill
    · exact hcalm.1 j hj hjk, hcalm.2⟩

theorem State.calmBut.endRequests_one (hcalm : u.calmBut k) (hk : k < 256) (hrun : u.part = .run) :
    u.endRequests = (u.requestIfDue k).poolLowNotices := by
  have hothers := (u.asked_requestIfDue k).others
  have hsweep : u.segmentRequests = u.requestIfDue k := by
    refine (if_pos hrun).trans (forStreams_one hk (fun j hj => State.requestIfDue_of (hcalm.1 j (by omega) (by omega)))
      fun j hj hlt => State.requestIfDue_of ?_)
    rw [hothers j (.inl (by omega))]
    exact hcalm.1 j hlt (by omega)
  rw [State.endRequests, hsweep]

theorem State.calmBut.endRequests_starves (hcalm : u.calmBut k) (hk : k < 256) (hrun : u.part = .run)
    (hidle : (u.stream k).state = .idle) (hready : 1 ≤ (u.stream k).ready) (hnone : ∀ l, l < 8 → u.givesNone u k l) :
    u.endRequests = u.starve k := by
  have hrequest : u.requestIfDue k = u.starve k := by
    rw [State.requestIfDue, if_pos ⟨hidle, hready⟩, State.requestSegment, State.laneFor_eq_none hnone]
  rw [hcalm.endRequests_one hk hrun, hrequest]
  exact State.poolLowNotices_nil hcalm.2

theorem State.eq_of_butOpenFrom {v : State} {returns : List ReturnParcel} (h : v.butOpenFrom = u.butOpenFrom) (hdue : u.due = []) :
    ({ v with due := [], returns := returns } : State) = { u with
      returns := returns, streams := v.streams, segments := v.segments, nextSegment := v.nextSegment, lanes := v.lanes } := by
  calc ({ v with due := [], returns := returns } : State)
      = { v.butOpenFrom with
          returns := returns, streams := v.streams, segments := v.segments, nextSegment := v.nextSegment, lanes := v.lanes } := rfl
    _ = { u with
          returns := returns, streams := v.streams, segments := v.segments, nextSegment := v.nextSegment, lanes := v.lanes
          due := [] } := by rw [h]; rfl
    _ = _ := by rw [← hdue]

theorem State.opensFor_openFrom {l : Nat} {g : Grant} {gs : List Grant} (hdue : u.due = []) (hnormal : (u.lane l).normal = g :: gs) :
    u.OpensFor (u.openFrom k l).poolLowNotices k l g gs := by
  have hlane := State.openFrom_lane (k := k) hnormal
  have hself := (hlane l).trans ((if_pos rfl).trans (Lane.drawn_tail hnormal))
  have hnext : (u.openFrom k l).nextSegment = (u.nextSegmentId + 1) % 65536 := by
    rw [State.openFrom_eq hnormal]
    exact agree (π := State.nextSegment) (State.poolLowCheck_frame _ l)
  have hsegments := State.openFrom_segments (k := k) hnormal
  have hopenDue := State.openFrom_due (k := k) hnormal
  have hframe := State.openFrom_frame u k l
  have hreturns : (u.openFrom k l).returns = u.returns := agree (π := State.returns) hframe
  have hstream := State.openFrom_stream (k := k) hnormal
  rw [hdue, List.nil_append] at hopenDue
  generalize u.openFrom k l = v at *
  have hafter : v.poolLowNotices = { v with due := [], returns := u.returns
      ++ if (u.lane l).armed = true ∧ gs.length ≤ (u.lane l).poolLowMark then [.poolLow l gs.length] else [] } := by
    split at hopenDue
    · rename_i hlow
      rw [State.poolLowNotices_one hopenDue, if_pos hlow, ← hreturns, hself]
      rfl
    · rename_i hhigh
      rw [State.poolLowNotices_nil hopenDue, if_neg hhigh, List.append_nil, ← hreturns, ← hopenDue]
  rw [hafter]
  exact {
    stream := (hstream k).trans (if_pos rfl)
    others := fun j hj => (hstream j).trans (if_neg hj)
    segments := hsegments
    nextSegment := hnext
    lane := hself
    lanes := fun j hj => (hlane j).trans (if_neg hj)
    returns := rfl
    frame := State.eq_of_butOpenFrom hframe hdue }

theorem State.calmBut.endRequests_opens {i l : Nat} {g : Grant} {gs : List Grant} (hcalm : u.calmBut k) (hk : k < 256)
    (hrun : u.part = .run) (hidle : (u.stream k).state = .idle) (hready : 1 ≤ (u.stream k).ready) (_hi : i < 8)
    (hl : l = ((u.stream k).lastLane + 1 + i) % 8) (hon : (u.stream k).laneSet.getLsbD l = true) (hup : (u.lane l).up = true)
    (hnormal : (u.lane l).normal = g :: gs)
    (hbefore : ∀ j, j < i → u.givesNone u k (((u.stream k).lastLane + 1 + j) % 8)) : u.OpensFor u.endRequests k l g gs := by
  have hrequest : u.requestIfDue k = u.openFrom k l := by
    rw [State.requestIfDue, if_pos ⟨hidle, hready⟩, State.requestSegment, State.laneFor_first hl hon hup hnormal hbefore]
  rw [hcalm.endRequests_one hk hrun, hrequest]
  exact State.opensFor_openFrom hcalm.2 hnormal

/-- What the request of the only stream that may make one leaves, with the parcels it enqueues. -/
structure State.AskedAlone (u t : State) (k : Nat) (rest : List ReturnParcel) : Prop where
  stream : t.stream k = { u.stream k with
    state := (t.stream k).state, openSeg := (t.stream k).openSeg, lastLane := (t.stream k).lastLane }
  others : ∀ j, j ≠ k → t.stream j = u.stream j
  frame : t = { u with
    returns := t.returns, streams := t.streams, segments := t.segments, nextSegment := t.nextSegment, lanes := t.lanes,
    starved := t.starved }
  returns : t.returns = u.returns ++ rest
  notices : ∀ p ∈ rest, p = .streamStarved k ∨ ∃ l n, p = .poolLow l n
  kept : u.segments.length < 65536 → ∀ id g, Store.find? u.segments id = some g → Store.find? t.segments id = some g
  gone : ∀ id, Store.find? u.segments id = none → (t.stream k).openSeg ≠ some id → Store.find? t.segments id = none
  served : (u.stream k).state = .idle → 1 ≤ (u.stream k).ready → (t.stream k).state = .opened ∨ (t.stream k).state = .starved

theorem State.askedAlone_self (u : State) (k : Nat) (h : (u.stream k).state = .idle → (u.stream k).ready = 0) : u.AskedAlone u k [] where
  stream := rfl
  others _ _ := rfl
  frame := rfl
  returns := (List.append_nil _).symm
  notices := by simp
  kept _ _ _ hfind := hfind
  gone _ hfind _ := hfind
  served hidle hready := by have := h hidle; omega

theorem State.askedAlone_starve (u : State) (k : Nat) : u.AskedAlone (u.starve k) k [.streamStarved k] where
  stream := by rw [State.starve_stream, if_pos rfl]
  others j hj := by rw [State.starve_stream, if_neg hj]
  frame := rfl
  returns := rfl
  notices p hp := .inl (List.mem_singleton.1 hp)
  kept _ _ _ hfind := hfind
  gone _ hfind _ := hfind
  served _ _ := .inr (by rw [State.starve_stream, if_pos rfl])

theorem State.OpensFor.askedAlone {t : State} {l : Nat} {g : Grant} {gs : List Grant} (h : u.OpensFor t k l g gs) : u.AskedAlone t k
    (if (u.lane l).armed = true ∧ gs.length ≤ (u.lane l).poolLowMark then [.poolLow l gs.length] else []) where
  stream := by rw [h.stream]
  others := h.others
  frame := by
    have hstarved : t.starved = u.starved := (congrArg State.starved h.frame).trans rfl
    exact hstarved ▸ h.frame
  returns := h.returns
  notices p hp := by
    split at hp
    · exact .inr ⟨l, _, List.mem_singleton.1 hp⟩
    · cases hp
  kept hroom id x hfind := by
    have hfree := State.nextSegmentId_free hroom
    rw [h.segments, Store.find?_insert_ne _ _ fun heq => by rw [heq, hfree] at hfind; cases hfind]
    exact hfind
  gone id hfind hopen := by
    have hne : id ≠ u.nextSegmentId := fun heq => hopen (by rw [h.stream, heq])
    rw [h.segments, Store.find?_insert_ne _ _ hne]
    exact hfind
  served _ _ := .inl (by rw [h.stream])

theorem State.calmBut.endRequests_alone (hcalm : u.calmBut k) (hk : k < 256) (hrun : u.part = .run) :
    ∃ rest, u.AskedAlone u.endRequests k rest := by
  by_cases hdue : (u.stream k).state = .idle ∧ 1 ≤ (u.stream k).ready
  · obtain ⟨hidle, hready⟩ := hdue
    rcases u.laneFor_cases k with ⟨l, i, g, gs, -, hi, hl, hon, hup, hnormal, hbefore⟩ | ⟨-, hnone⟩
    · exact ⟨_, (hcalm.endRequests_opens hk hrun hidle hready hi hl hon hup hnormal hbefore).askedAlone⟩
    · rw [hcalm.endRequests_starves hk hrun hidle hready hnone]
      exact ⟨_, u.askedAlone_starve k⟩
  · have hstill : (u.stream k).state = .idle → (u.stream k).ready = 0 := fun hidle => by
      by_contra hready
      exact hdue ⟨hidle, by omega⟩
    rw [hcalm.endRequests_still hstill]
    exact ⟨_, u.askedAlone_self k hstill⟩

end

/-! ## RELEASE-STREAM (R61) -/

section

variable {s : State} {a : Arriving}

theorem Arriving.stream_lt (a : Arriving) : a.stream < 256 := field_lt a.head 9 1

/-- The state of a RELEASE-STREAM before its requests. -/
def State.unheld (s : State) (a : Arriving) : State :=
  (s.setStream a.stream { s.stream a.stream with
    state := if (s.stream a.stream).openSeg.isSome then .opened else .idle }).reply a .ok

theorem State.releaseStream_held (h : (s.stream a.stream).state = .held) : s.releaseStream a = (s.unheld a).endRequests := if_pos h

theorem State.releaseStream_wrongState (h : (s.stream a.stream).state ≠ .held) : s.releaseStream a = s.reply a .wrongState := if_neg h

theorem State.unheld_stream (j : Nat) : (s.unheld a).stream j = if j = a.stream
    then { s.stream a.stream with state := if (s.stream a.stream).openSeg.isSome then .opened else .idle } else s.stream j :=
  s.stream_setStream a.stream _ j

end

/-- Settles O25: the released stream is the only one that may request a segment. -/
theorem releaseStreamByState : Obligations.ReleaseStreamByState := by
  unfold Obligations.ReleaseStreamByState
  intro s a k hoffers hasks hk hcalm
  obtain rfl : a.stream = k := hk
  have hexec : exec .releaseStream s = .next (s.freed.releaseStream a) :=
    exec_of_offers (act := State.releaseStream) rfl hoffers (Arriving.isCode_of_asks_permitted hasks (by decide) rfl)
  have hrun : s.part = .run := State.offers_part hoffers
  have hlt := a.stream_lt
  generalize hu : s.freed.unheld a = u
  have hheld : (s.stream a.stream).state = .held → exec .releaseStream s = .next u.endRequests := fun h => by
    rw [hexec, State.releaseStream_held (s := s.freed) h, hu]
  have hstream : ∀ j, u.stream j = if j = a.stream
      then { s.stream a.stream with state := if (s.stream a.stream).openSeg.isSome then .opened else .idle } else s.stream j :=
    fun j => hu ▸ State.unheld_stream (s := s.freed) j
  have hself := (hstream a.stream).trans (if_pos rfl)
  have hothers : ∀ j, j ≠ a.stream → u.stream j = s.stream j := fun j hj => (hstream j).trans (if_neg hj)
  have hcalmBut : u.calmBut a.stream := hcalm.calmBut hothers (by rw [← hu]; rfl)
  have hframe : u = { s.answered [a.replyOf .ok []] with streams := u.streams } := by rw [← hu]; rfl
  have hlane : ∀ l, u.lane l = s.lane l := fun l => by rw [← hu]; rfl
  have hset : (u.stream a.stream).laneSet = (s.stream a.stream).laneSet := by rw [hself]
  have hlast : (u.stream a.stream).lastLane = (s.stream a.stream).lastLane := by rw [hself]
  have hready : (u.stream a.stream).ready = (s.stream a.stream).ready := by rw [hself]; rfl
  have hidle : (s.stream a.stream).openSeg = none → (u.stream a.stream).state = .idle := fun h => by rw [hself, h]; rfl
  refine ⟨fun hstate => ?wrong, fun hstate hopen => ?opened, fun hstate hnone hunready => ?idle,
    fun hstate hnone hsome hgives => ?starved, fun i l g gs hstate hnone hsome hi hl hon hup hnormal hbefore => ?opens⟩
  case wrong => rw [hexec, State.releaseStream_wrongState (s := s.freed) hstate]; rfl
  case opened =>
    have hopened : u.stream a.stream = { s.stream a.stream with state := .opened } := by rw [hself, hopen]; rfl
    have hstill := hcalmBut.endRequests_still fun h => absurd (h.symm.trans (congrArg Stream.state hopened)) StreamState.noConfusion
    exact ⟨u, by rw [hheld hstate, hstill], hopened, hothers, hframe⟩
  case idle =>
    have hstill := hcalmBut.endRequests_still fun _ => hready.trans hunready
    exact ⟨u, by rw [hheld hstate, hstill], by rw [hself, hnone]; rfl, hothers, hframe⟩
  case starved =>
    have hstarves := hcalmBut.endRequests_starves hlt (by rw [← hu]; exact hrun) (hidle hnone) (hready ▸ hsome)
      fun l hl hon hup => hlane l ▸ hgives l hl (hset ▸ hon) (hlane l ▸ hup)
    refine ⟨_, hheld hstate, ?_, fun j hj => ?_, ?_⟩
    · rw [hstarves, State.starve_stream, if_pos rfl, hself]
    · rw [hstarves, State.starve_stream, if_neg hj, hothers j hj]
    · rw [hstarves, State.starve_eq, hframe]
      exact congrArg (fun r : List ReturnParcel => ({ s with
        parser := .awaiting, returns := r, streams := (u.starve a.stream).streams, starved := s.starved ++ [a.stream] } : State))
        (List.append_assoc _ _ _)
  case opens =>
    have hopens := hcalmBut.endRequests_opens hlt (by rw [← hu]; exact hrun) (hidle hnone) (hready ▸ hsome) hi (hlast ▸ hl)
      (hset ▸ hon) (hlane l ▸ hup) ((congrArg Lane.normal (hlane l)).trans hnormal)
      fun j hj hon hup => hlast ▸ hlane _ ▸ hbefore j hj (hset ▸ hlast ▸ hon) (hlast ▸ hlane _ ▸ hup)
    have hnext : u.nextSegmentId = s.nextSegmentId := by rw [← hu]; rfl
    have hsegments := hopens.segments
    have hreturns := hopens.returns
    have hlaneAfter := hopens.lane
    have hstreamAfter := hopens.stream
    have hsegment := hopens.nextSegment
    have hstateAfter := hopens.frame
    rw [hnext] at hsegments hsegment hstreamAfter
    rw [hself] at hstreamAfter
    rw [hlane] at hreturns hlaneAfter
    generalize u.endRequests = t at *
    rw [show u.segments = s.segments by rw [← hu]; rfl] at hsegments
    refine ⟨t, hheld hstate, hstreamAfter, fun j hj => (hopens.others j hj).trans (hothers j hj), ?_, fun id hid => ?_, hsegment,
      hlaneAfter, fun j hj => (hopens.lanes j hj).trans (hlane j), ?_, ?_⟩
    · rw [hsegments]
      exact Store.find?_insert_self ..
    · rw [hsegments]
      exact Store.find?_insert_ne _ _ hid
    · rw [hreturns, ← hu]
      exact List.append_assoc _ _ _
    · rw [hstateAfter, ← hu]
      rfl

/-! ## ROTATE-STREAM (R63) -/

theorem State.nextSegmentId_congr {s u : State} (hsegments : u.segments = s.segments) (hnext : u.nextSegment = s.nextSegment) :
    u.nextSegmentId = s.nextSegmentId := by rw [State.nextSegmentId, hsegments, hnext]; rfl

section

variable {s : State} {a : Arriving} {id : Nat} {g : Segment}

theorem State.rotateStream_active (h : (s.stream a.stream).state = .opened ∨ (s.stream a.stream).state = .held) :
    s.freed.rotateStream a = ((s.tailFlushed a).rotate a.stream).endRequests := if_pos h

theorem State.rotateStream_wrongState
    (h : (s.stream a.stream).state = .idle ∨ (s.stream a.stream).state = .starved ∨ (s.stream a.stream).state = .unbound) :
    s.rotateStream a = s.reply a .wrongState := if_neg (by rcases h with h | h | h <;> rw [h] <;> decide)

/-- The state of a ROTATE-STREAM that ends a segment, before its requests. -/
def State.tailRotated (s : State) (a : Arriving) (id : Nat) (g : Segment) : State := (s.tailFlushed a).rotatedOff a.stream id g

theorem State.tailFlushed_answered : s.tailFlushed a = { s.answered [a.replyOf .ok []] with streams := (s.tailFlushed a).streams } :=
  State.eq_of_butSetStream State.tailFlushed_frame

theorem State.tailFlushed_rotate (hopen : s.openSegment (s.stream a.stream) = some (id, g)) (hcause : g.endCause = none)
    (hstream : g.stream = a.stream) : (s.tailFlushed a).rotate a.stream = s.tailRotated a id g := by
  refine State.rotate_of_open ?_ hcause hstream
  have hsegments : (s.tailFlushed a).segments = s.segments := (congrArg State.segments State.tailFlushed_answered).trans rfl
  rw [State.stream_tailFlushed, if_pos rfl, State.openSegment, hsegments]
  exact hopen

theorem State.tailRotated_stream (j : Nat) : (s.tailRotated a id g).stream j
    = if j = a.stream then (s.stream a.stream).padded.released else s.stream j := by
  rw [State.tailRotated, State.rotatedOff_stream, State.stream_tailFlushed, State.stream_tailFlushed, if_pos rfl]
  split <;> rfl

theorem State.tailRotated_eq : s.tailRotated a id g = { s with
    parser := .awaiting
    streams := (s.tailRotated a id g).streams
    segments := if g.done + g.failed = g.issued then Store.erase s.segments id else Store.insert s.segments id g.rotated
    returns := (s.returns ++ [a.replyOf .ok []])
      ++ if g.done + g.failed = g.issued then [.segmentClosed id g.rotated] else [] } :=
  congrArg (fun u : State => ({ u with
    streams := (s.tailRotated a id g).streams
    segments := if g.done + g.failed = g.issued then Store.erase u.segments id else Store.insert u.segments id g.rotated
    returns := u.returns ++ if g.done + g.failed = g.issued then [.segmentClosed id g.rotated] else [] } : State))
    (State.tailFlushed_answered (s := s) (a := a))

end

/-- Settles O26: the segment has left the stream, which is then the only one that may request a segment. -/
theorem rotateStreamEndsSegment : Obligations.RotateStreamEndsSegment := by
  unfold Obligations.RotateStreamEndsSegment
  intro s a k hoffers hasks hk hlt
  obtain rfl : a.stream = k := hk
  have hexec : exec .rotateStream s = .next (s.freed.rotateStream a) :=
    exec_of_offers (act := State.rotateStream) rfl hoffers (Arriving.isCode_of_asks_permitted hasks (by decide) rfl)
  have hrun : s.part = .run := State.offers_part hoffers
  have hpad : ∀ h : (s.stream a.stream).state ≠ .unbound, (s.stream a.stream).padded.pad
      = ((s.stream a.stream).pad || decide (0 < (s.stream a.stream).queue.length % 16)) := fun h => by
    rw [Stream.padded_pad, (Stream.bound_iff _).2 h, Bool.true_and, Stream.tailSize]
  refine ⟨fun hstate => ?wrong, fun hheld hnone hcalm => ?held, fun id g hstate hopen hcause hstream hcalm => ?ends⟩
  case wrong => rw [hexec, State.rotateStream_wrongState (s := s.freed) hstate]; rfl
  case held =>
    have hself : (s.tailFlushed a).stream a.stream = (s.stream a.stream).padded :=
      (State.stream_tailFlushed a.stream).trans (if_pos rfl)
    have hothers : ∀ j, j ≠ a.stream → (s.tailFlushed a).stream j = s.stream j :=
      fun j hj => (State.stream_tailFlushed j).trans (if_neg hj)
    have hrotate : (s.tailFlushed a).rotate a.stream = s.tailFlushed a := State.rotate_of_none (by rw [hself]; exact hnone)
    have hcalmBut : (s.tailFlushed a).calmBut a.stream := hcalm.calmBut hothers ((congrArg State.due State.tailFlushed_answered).trans rfl)
    have hstill := hcalmBut.endRequests_still fun h => absurd (h.symm.trans ((congrArg Stream.state hself).trans hheld)) StreamState.noConfusion
    refine ⟨s.tailFlushed a, by rw [hexec, State.rotateStream_active (.inr hheld), hrotate, hstill], ?_, hothers,
      State.tailFlushed_answered⟩
    rw [hself, ← hpad (by rw [hheld]; exact StreamState.noConfusion)]
    rfl
  case ends =>
    have hbound : (s.stream a.stream).state ≠ .unbound := by rcases hstate with h | h <;> rw [h] <;> exact StreamState.noConfusion
    have hueq := State.tailRotated_eq (s := s) (a := a) (id := id) (g := g)
    have hustream := State.tailRotated_stream (s := s) (a := a) (id := id) (g := g)
    have hact : exec .rotateStream s = .next (s.tailRotated a id g).endRequests := by
      rw [hexec, State.rotateStream_active hstate, State.tailFlushed_rotate hopen hcause hstream]
    generalize s.tailRotated a id g = u at *
    have hself := (hustream a.stream).trans (if_pos rfl)
    have hothers : ∀ j, j ≠ a.stream → u.stream j = s.stream j := fun j hj => (hustream j).trans (if_neg hj)
    have hdue : u.due = s.due := (congrArg State.due hueq).trans rfl
    have hlanes : u.lanes = s.lanes := (congrArg State.lanes hueq).trans rfl
    have hstarved : u.starved = s.starved := (congrArg State.starved hueq).trans rfl
    have hnext : u.nextSegment = s.nextSegment := (congrArg State.nextSegment hueq).trans rfl
    have hsegments := (congrArg State.segments hueq).trans rfl
    have hreturns := (congrArg State.returns hueq).trans rfl
    have hcalmBut : u.calmBut a.stream := hcalm.calmBut hothers hdue
    have hpart : u.part = .run := ((congrArg State.part hueq).trans rfl).trans hrun
    obtain ⟨rest, hend⟩ := hcalmBut.endRequests_alone hlt hpart
    have hstill := hcalmBut.endRequests_still
    have hstarves := hcalmBut.endRequests_starves hlt hpart
    have hopens := fun i l d ds => hcalmBut.endRequests_opens (i := i) (l := l) (g := d) (gs := ds) hlt hpart
    generalize u.endRequests = t at *
    have hreleased : (u.stream a.stream).openSeg = none ∧ (u.stream a.stream).lastLane = (s.stream a.stream).lastLane
        ∧ (u.stream a.stream).laneSet = (s.stream a.stream).laneSet ∧ (u.stream a.stream).queue = (s.stream a.stream).queue
        ∧ (u.stream a.stream).pad = (s.stream a.stream).padded.pad := by
      rw [hself]
      exact ⟨rfl, rfl, rfl, rfl, rfl⟩
    obtain ⟨hnone, hlast, hset, hqueue, hupad⟩ := hreleased
    have hidle : (s.stream a.stream).state = .opened → (u.stream a.stream).state = .idle := fun h => by
      rw [hself]
      exact if_pos h
    have hheld : (s.stream a.stream).state = .held → (u.stream a.stream).state = .held := fun h => by
      rw [hself]
      exact (if_neg (by rw [show (s.stream a.stream).padded.state = (s.stream a.stream).state from rfl, h]; decide)).trans h
    have hready : (t.stream a.stream).ready = (u.stream a.stream).ready := by rw [hend.stream]; rfl
    have hstays : (s.stream a.stream).state = .held ∨ (t.stream a.stream).ready = 0 → t = u := fun h => hstill fun hi => by
      rcases h with h | h
      · exact absurd (hi.symm.trans (hheld h)) StreamState.noConfusion
      · exact hready ▸ h
    have hfew : s.segments.length ≤ 512 → u.segments.length < 65536 := fun h => by
      rw [hsegments]
      split
      · exact Nat.lt_of_le_of_lt (List.length_filter_le ..) (Nat.lt_of_le_of_lt h (by decide))
      · exact Nat.lt_of_le_of_lt (Store.length_insert_le ..) (by omega)
    have hlane : ∀ l, u.lane l = s.lane l := fun l => by rw [State.lane, hlanes]; rfl
    refine ⟨t, rest, hact, ?parser, ?pad, ?queue, fun h => ?heldAfter, fun h => ?openedAfter, ?returns, fun hroom hopen' => ?drains,
      fun hroom hsettled hne => ?closes, fun j hj => (hend.others j hj).trans (hothers j hj), ?stream, ?frame, hend.notices, ?clauses⟩
    case parser => rw [hend.frame, hueq]
    case pad => rw [hend.stream, ← hpad hbound]; exact hupad
    case queue => rw [hend.stream]; exact hqueue
    case heldAfter => rw [hstays (.inl h)]; exact ⟨hheld h, hnone⟩
    case openedAfter =>
      by_cases hzero : (t.stream a.stream).ready = 0
      · exact .inl ⟨hzero, hstays (.inr hzero) ▸ hidle h⟩
      · exact .inr ⟨by omega, hend.served (hidle h) (by omega)⟩
    case returns => rw [hend.returns, hreturns, List.append_assoc, List.append_assoc]; rfl
    case drains =>
      refine hend.kept (hfew hroom) id _ ?_
      rw [hsegments, if_neg hopen']
      exact Store.find?_insert_self ..
    case closes =>
      refine hend.gone id ?_ hne
      rw [hsegments, if_pos hsettled]
      exact Store.find?_erase_self ..
    case stream =>
      have htpad : (t.stream a.stream).pad = (s.stream a.stream).padded.pad := by rw [hend.stream]; exact hupad
      rw [htpad]
      refine hend.stream.trans ?_
      rw [hself]
      rfl
    case frame => exact hend.frame.trans (by rw [hueq])
    case clauses =>
      intro w hw
      have hwsegments : u.segments = w.segments := hsegments.trans (by rw [hw]; rfl)
      have hwnext : u.nextSegmentId = w.nextSegmentId := State.nextSegmentId_congr hwsegments (hnext.trans (by rw [hw]))
      refine ⟨fun h => ?still, fun hopened hsome hgives => ?starves,
        fun i l d ds hopened hsome hi hl hon hup hnormal hbefore => ?opens⟩
      case still =>
        have htu := hstays h
        have hrest : rest = [] := List.append_right_eq_self.1 (hend.returns.symm.trans (congrArg State.returns htu))
        rw [htu]
        exact ⟨hnone, hlast, hrest, hwsegments, hnext, hlanes, hstarved⟩
      case starves =>
        have htu := hstarves (hidle hopened) (hready ▸ hsome) fun l hl hon hup => hlane l ▸ hgives l hl (hset ▸ hon) (hlane l ▸ hup)
        have hrest : rest = [.streamStarved a.stream] :=
          List.append_cancel_left (hend.returns.symm.trans (congrArg State.returns htu))
        rw [htu, State.starve_stream, if_pos rfl]
        exact ⟨rfl, hnone, hlast, hrest, hwsegments, hnext, hlanes, congrArg (· ++ [a.stream]) hstarved⟩
      case opens =>
        have hopen' := hopens i l d ds (hidle hopened) (hready ▸ hsome) hi (hlast ▸ hl) (hset ▸ hon) (hlane l ▸ hup)
          ((congrArg Lane.normal (hlane l)).trans hnormal)
          fun j hj hon hup => hlast ▸ hlane _ ▸ hbefore j hj (hset ▸ hlast ▸ hon) (hlast ▸ hlane _ ▸ hup)
        have hrest := List.append_cancel_left (hend.returns.symm.trans hopen'.returns)
        have hlaneAfter := hopen'.lane
        rw [hlane] at hrest hlaneAfter
        refine ⟨?_, ?_, ?_, ?_, fun x hx => ?_, ?_, hlaneAfter, fun j hj => (hopen'.lanes j hj).trans (hlane j), ?_, hrest⟩
        · rw [hopen'.stream]
        · rw [hopen'.stream, hwnext]
        · rw [hopen'.stream]
        · rw [hopen'.segments, hwnext]
          exact Store.find?_insert_self ..
        · rw [hopen'.segments, ← hwsegments]
          exact Store.find?_insert_ne _ _ (hwnext ▸ hx)
        · rw [hopen'.nextSegment, hwnext]
        · rw [hopen'.frame]
          exact hstarved

end Sys2Proof.Machine
end

section
/-! CLEAR-PART (R93, R175, R176). -/

namespace Sys2Proof.Machine

open Sys2Proof

section

variable {s : State} {a : Arriving}

theorem State.quiet_iff : s.quiet = true
    ↔ s.allFree = true ∧ (∀ l, l < 8 → (s.lane l).inflight = []) ∧ s.durables = [] ∧ s.flushes = [] := by
  simp only [State.quiet, Bool.and_eq_true, List.all_eq_true, List.mem_range, List.isEmpty_iff, and_assoc]

/-- A fold over lanes whose step rewrites its own lane by `h`, which reads that lane alone, rewrites each of them by `h`. -/
theorem lane_foldl {f : State → Nat → State} {h : Lane → Lane}
    (hf : ∀ s k j, (f s k).lane j = if j = k then h (s.lane k) else s.lane j) (s : State) (n j : Nat) :
    ((List.range n).foldl f s).lane j = if j < n then h (s.lane j) else s.lane j := by
  induction n with
  | zero => exact (if_neg (Nat.not_lt_zero j)).symm
  | succ n ih =>
    rw [List.range_succ, List.foldl_append, List.foldl_cons, List.foldl_nil, hf]
    by_cases hj : j = n
    · subst hj
      rw [if_pos rfl, if_pos (Nat.lt_succ_self j), ih, if_neg (Nat.lt_irrefl j)]
    · rw [if_neg hj, ih]
      exact if_congr (by omega) rfl rfl

/-! ## The SEGMENT-CLOSED parcels -/

theorem State.openSegment_of_some {t : Stream} {id : Nat} {g : Segment} (hopen : t.openSeg = some id)
    (hfind : Store.find? s.segments id = some g) : s.openSegment t = some (id, g) := by
  unfold State.openSegment
  simp [hopen, hfind]

/-- The SEGMENT-CLOSED of the stream's open segment, when it has one (R91, R92). -/
def State.rotatedParcels (s : State) (k : Nat) : Option ReturnParcel :=
  (s.openSegment (s.stream k)).map fun e => .segmentClosed e.1 { e.2 with endCause := some .rotated }

theorem State.closeIfSettled_returns (s : State) (id : Nat) :
    ∃ rest, (s.closeIfSettled id).returns = s.returns ++ rest ∧ ∀ p ∈ rest, ∃ i g, p = .segmentClosed i g := by
  unfold State.closeIfSettled
  split
  · exact ⟨[], (List.append_nil _).symm, by simp⟩
  · rename_i g _
    split
    · exact ⟨[.segmentClosed id g], rfl, fun p hp => ⟨id, g, List.mem_singleton.1 hp⟩⟩
    · exact ⟨[], (List.append_nil _).symm, by simp⟩

theorem State.rotate_returns (s : State) (k : Nat) :
    ∃ rest, (s.rotate k).returns = s.returns ++ rest ∧ ∀ p ∈ rest, ∃ i g, p = .segmentClosed i g := by
  unfold State.rotate
  split
  · exact ⟨[], (List.append_nil _).symm, by simp⟩
  · rename_i id _
    obtain ⟨rest, hreturns, hrest⟩ := (s.drain id .rotated).closeIfSettled_returns id
    exact ⟨rest, hreturns.trans (congrArg (· ++ rest) (agree (π := State.returns) (s.drain_frame id .rotated))), hrest⟩

theorem returns_forStreams_rotate (s : State) :
    ∃ rest, (s.forStreams State.rotate).returns = s.returns ++ rest ∧ ∀ p ∈ rest, ∃ i g, p = .segmentClosed i g := by
  unfold State.forStreams
  generalize List.range Config.streams = ks
  induction ks generalizing s with
  | nil => exact ⟨[], (List.append_nil _).symm, by simp⟩
  | cons k ks ih =>
    obtain ⟨first, hfirst, hclosed⟩ := s.rotate_returns k
    obtain ⟨rest, hreturns, hrest⟩ := ih (s.rotate k)
    refine ⟨first ++ rest, by rw [List.foldl_cons, hreturns, hfirst, List.append_assoc], fun p hp => ?_⟩
    exact (List.mem_append.1 hp).elim (hclosed p) (hrest p)

/-- Every stream's open segment is in the table, is its own and has no unit outstanding. -/
def State.openSettled (s : State) : Prop := ∀ k id, (s.stream k).openSeg = some id →
  ∃ g, Store.find? s.segments id = some g ∧ g.stream = k ∧ g.endCause = none ∧ g.done + g.failed = g.issued

theorem State.Ledger.openSettled (h : s.Ledger) (hquiet : ∀ l, l < 8 → (s.lane l).inflight = []) : s.openSettled := by
  intro k id hopen
  obtain ⟨g, hfind, hstream, hcause, -⟩ := h.openSegments.1 k id hopen
  obtain ⟨-, -, hsum, -⟩ := h.segments.1 id g hfind
  have hnone : (s.lane g.lane).inflight = [] := by
    by_cases hl : g.lane < 8
    · exact hquiet _ hl
    · rw [h.exist.1 _ (by omega)]
  have houtstanding : s.outstanding id g = 0 := by rw [State.outstanding, hnone]; rfl
  exact ⟨g, hfind, hstream, hcause, by omega⟩

/-- What the rotation of the streams below `n` leaves: the others are as they were, and so are their segments. -/
structure State.RotatedBelow (s u : State) (n : Nat) : Prop where
  streams : ∀ j, n ≤ j → u.stream j = s.stream j
  segments : ∀ j id, n ≤ j → (s.stream j).openSeg = some id → Store.find? u.segments id = Store.find? s.segments id
  returns : u.returns = s.returns ++ (List.range n).filterMap s.rotatedParcels

theorem State.RotatedBelow.next {u : State} {n : Nat} (hs : s.openSettled) (h : s.RotatedBelow u n) :
    s.RotatedBelow (u.rotate n) (n + 1) := by
  have hstream := h.streams n (Nat.le_refl n)
  have hparcels : (List.range (n + 1)).filterMap s.rotatedParcels
      = (List.range n).filterMap s.rotatedParcels ++ (s.rotatedParcels n).toList := by
    rw [List.range_succ, List.filterMap_append]
    cases hp : s.rotatedParcels n <;> simp [hp]
  cases hopen : (s.stream n).openSeg with
  | none =>
    have hnone : s.rotatedParcels n = none := by rw [State.rotatedParcels, State.openSegment_of_none hopen]; rfl
    rw [State.rotate_of_none (hstream ▸ hopen)]
    exact {
      streams := fun j hj => h.streams j (by omega)
      segments := fun j id hj => h.segments j id (by omega)
      returns := by rw [h.returns, hparcels, hnone, Option.toList_none, List.append_nil] }
  | some id =>
    obtain ⟨g, hfind, hgn, hcause, hsettled⟩ := hs n id hopen
    have hsome : s.rotatedParcels n = some (.segmentClosed id g.rotated) := by
      rw [State.rotatedParcels, State.openSegment_of_some hopen hfind]
      rfl
    have hopenu : u.openSegment (u.stream n) = some (id, g) :=
      State.openSegment_of_some (hstream ▸ hopen) ((h.segments n id (Nat.le_refl n) hopen).trans hfind)
    rw [State.rotate_of_open hopenu hcause hgn]
    have hout := u.rotatedOff_outcome n id g
    rw [if_pos hsettled] at hout
    exact {
      streams := fun j hj => by rw [State.rotatedOff_stream, if_neg (by omega), h.streams j (by omega)]
      segments := fun j i hj hji => by
        have hne : i ≠ id := fun heq => by
          obtain ⟨g', hfind', hgj, -⟩ := hs j i hji
          rw [heq, hfind] at hfind'
          cases hfind'
          omega
        rw [State.rotatedOff_find _ _ _ _ hne, h.segments j i (by omega) hji]
      returns := by rw [hout.2, h.returns, hparcels, hsome, List.append_assoc]; rfl }

theorem State.openSettled.forStreams_rotate (hs : s.openSettled) :
    (s.forStreams State.rotate).returns = s.returns ++ (List.range 256).filterMap s.rotatedParcels := by
  have hbelow : ∀ n, s.RotatedBelow ((List.range n).foldl State.rotate s) n := by
    intro n
    induction n with
    | zero => exact { streams := fun _ _ => rfl, segments := fun _ _ _ _ => rfl, returns := (List.append_nil _).symm }
    | succ n ih =>
      rw [List.range_succ, List.foldl_append]
      exact ih.next hs
  exact (hbelow 256).returns

/-! ## The GRANT-RETURNED parcels -/

/-- A lane without grants. -/
def Lane.ungranted (x : Lane) : Lane := { x with normal := [], dump := [], armed := false }

theorem State.returnGrants_lane (s : State) (l j : Nat) :
    (s.returnGrants l).lane j = if j = l then (s.lane l).ungranted else s.lane j := by
  have hlanes : (s.returnGrants l).lanes = (s.setLane l (s.lane l).ungranted).lanes := by
    unfold State.returnGrants
    simp only
    split <;> rfl
  rw [State.lane, hlanes]
  exact s.lane_setLane l (s.lane l).ungranted j

theorem State.returnGrants_returns (s : State) (l : Nat) : (s.returnGrants l).returns = s.returns ++ s.grantParcels l := by
  have hempty : (s.lane l).grants.isEmpty = true ↔ (s.lane l).normal ++ (s.lane l).dump = [] := by simp [Lane.grants]
  unfold State.returnGrants State.grantParcels
  by_cases h : (s.lane l).normal ++ (s.lane l).dump = []
  · rw [if_pos h]
    simp only [hempty.2 h, if_true]
    exact (List.append_nil _).symm
  · rw [if_neg h]
    simp only [Bool.not_eq_true _ ▸ mt hempty.1 h, Bool.false_eq_true, if_false]
    rfl

theorem returns_foldl_returnGrants (s : State) (n : Nat) :
    ((List.range n).foldl State.returnGrants s).returns = s.returns ++ (List.range n).flatMap s.grantParcels := by
  induction n with
  | zero => exact (List.append_nil _).symm
  | succ n ih =>
    have hlane : ((List.range n).foldl State.returnGrants s).lane n = s.lane n :=
      (lane_foldl State.returnGrants_lane s n n).trans (if_neg (Nat.lt_irrefl n))
    rw [List.range_succ, List.foldl_append, List.foldl_cons, List.foldl_nil, State.returnGrants_returns, ih, List.flatMap_append,
      List.append_assoc, List.flatMap_singleton]
    refine congrArg (fun p => s.returns ++ ((List.range n).flatMap s.grantParcels ++ p)) ?_
    unfold State.grantParcels
    rw [hlane]

theorem State.mem_grantParcels {l : Nat} {p : ReturnParcel} (h : p ∈ s.grantParcels l) : ∃ gs, p = .grantReturned l gs := by
  unfold State.grantParcels at h
  split at h
  · cases h
  · exact ⟨_, List.mem_singleton.1 h⟩

/-! ## The tables at their reset values -/

/-- The segments are closed and the grants returned. -/
def State.givenBack (s : State) : State := (List.range 8).foldl State.returnGrants (s.forStreams State.rotate)

/-- The state outside what CLEAR-PART may change. -/
def State.butClearPart (s : State) : State :=
  { s with returns := [], lanes := [], segments := [], starved := [], streams := [], tenants := [], ranges := [] }

theorem State.givenBack_frame : s.givenBack.butClearPart = s.butClearPart := by
  have hreturn := foldl_frame State.butReturnGrants _ State.returnGrants_frame (List.range 8) (s.forStreams State.rotate)
  have hrotate := foldl_frame State.butDrainAndClose _ State.rotate_frame (List.range Config.streams) s
  exact (agree (π := State.butClearPart) hreturn).trans (agree (π := State.butClearPart) hrotate)

theorem State.givenBack_lane (l : Nat) : s.givenBack.lane l = if l < 8 then (s.lane l).ungranted else s.lane l := by
  have hrotate : (s.forStreams State.rotate).lane l = s.lane l :=
    agree (π := (State.lane · l)) (foldl_frame State.butDrainAndClose _ State.rotate_frame (List.range Config.streams) s)
  rw [State.givenBack, lane_foldl State.returnGrants_lane, hrotate]

/-- The tables that CLEAR-PART empties are empty (R176). -/
def State.untabled (s : State) : State := { s with segments := [], starved := [], streams := [], tenants := [], ranges := [] }

/-- The tables that CLEAR-PART empties are empty, the grants returned and the lanes' counters 0. -/
def State.emptied (s : State) : State :=
  (List.range 8).foldl (fun u l => u.updLane l Lane.cleared) s.givenBack.untabled

theorem State.clearPart_quiet (h : s.quiet = true) : s.clearPart a = (s.reply a .ok).emptied := by
  rw [State.clearPart, h]
  rfl

theorem State.clearPart_notQuiet (h : s.quiet = false) : s.clearPart a = s.reply a .notQuiet := by
  rw [State.clearPart, h]
  rfl

theorem State.lane_untabled (l : Nat) : s.untabled.lane l = s.lane l := rfl

theorem State.returns_untabled : s.untabled.returns = s.returns := rfl

theorem State.emptied_frame : s.emptied.butSetLane = s.givenBack.untabled.butSetLane :=
  foldl_frame State.butSetLane (fun u l => u.updLane l Lane.cleared) (fun u l => u.setLane_frame l (u.lane l).cleared) (List.range 8)
    s.givenBack.untabled

theorem State.emptied_lane {l : Nat} (hl : l < 8) : s.emptied.lane l = (s.lane l).ungranted.cleared := by
  have hcleared := lane_foldl (f := fun u l => u.updLane l Lane.cleared) (fun u k j => u.lane_setLane k (u.lane k).cleared j)
    s.givenBack.untabled 8 l
  have hungranted : s.givenBack.untabled.lane l = (s.lane l).ungranted := by
    rw [State.lane_untabled, State.givenBack_lane, if_pos hl]
  rw [State.emptied, hcleared, if_pos hl, hungranted]

theorem State.eq_of_untabled {g v : State} (hg : g.butClearPart = s.butClearPart) (hv : v.butSetLane = g.untabled.butSetLane) :
    v = { s with
      returns := v.returns, lanes := v.lanes, segments := [], starved := [], streams := [], tenants := [], ranges := [] } := by
  have hreturns : v.returns = g.returns := (agree (π := State.returns) hv).trans State.returns_untabled
  calc v = { v.butSetLane with lanes := v.lanes } := rfl
    _ = { g.butClearPart with returns := g.returns, lanes := v.lanes } := by rw [hv]; rfl
    _ = _ := by rw [hg, ← hreturns]; rfl

theorem State.emptied_eq : s.emptied = { s with
    returns := s.emptied.returns, lanes := s.emptied.lanes, segments := [], starved := [], streams := [], tenants := [], ranges := [] } :=
  State.eq_of_untabled State.givenBack_frame State.emptied_frame

theorem State.emptied_returns : s.emptied.returns = s.givenBack.returns :=
  (agree (π := State.returns) State.emptied_frame).trans State.returns_untabled

theorem State.givenBack_returns : s.givenBack.returns
    = (s.forStreams State.rotate).returns ++ (List.range 8).flatMap (s.forStreams State.rotate).grantParcels :=
  returns_foldl_returnGrants _ 8

theorem State.grantParcels_rotated (l : Nat) : (s.forStreams State.rotate).grantParcels l = s.grantParcels l := by
  have hrotate : (s.forStreams State.rotate).lane l = s.lane l :=
    agree (π := (State.lane · l)) (foldl_frame State.butDrainAndClose _ State.rotate_frame (List.range Config.streams) s)
  rw [State.grantParcels, hrotate]
  rfl

end

/-- Settles O17: the open segments are closed stream by stream and the grants returned lane by lane, before the tables are emptied. -/
theorem clearPartClearsOrRefuses : Obligations.ClearPartClearsOrRefuses := by
  unfold Obligations.ClearPartClearsOrRefuses
  have hexec : ∀ (s : State) (a : Arriving), s.offers a → a.asks 0x3F 0 → exec .clearPart s = .next (s.freed.clearPart a) :=
    fun s a hoffers hasks => exec_of_offers (act := State.clearPart) rfl hoffers (Arriving.isCode_of_asks_permitted hasks (by decide) rfl)
  refine ⟨fun s a hoffers hasks hfree hflight hdurables hflushes => ?cleared, fun s a hoffers hasks hbusy => ?refused⟩
  case cleared =>
    have hquiet : s.freed.quiet = true := State.quiet_iff.2 ⟨hfree, hflight, hdurables, hflushes⟩
    rw [hexec s a hoffers hasks, State.clearPart_quiet hquiet]
    generalize hu : s.freed.reply a .ok = u
    have hueq : u = s.answered [a.replyOf .ok []] := hu ▸ rfl
    have hstream : ∀ k, u.stream k = s.stream k := fun k => hueq ▸ rfl
    have hsegments : u.segments = s.segments := hueq ▸ rfl
    have hparcels : ∀ l, u.grantParcels l = s.grantParcels l := fun l => hueq ▸ rfl
    have hopened : u.rotatedParcels = s.rotatedParcels := hueq ▸ rfl
    obtain ⟨closed, hclosed, hkinds⟩ := returns_forStreams_rotate u
    have hreturns : u.emptied.returns = u.returns ++ (closed ++ (List.range 8).flatMap s.grantParcels) := by
      rw [State.emptied_returns, State.givenBack_returns, hclosed, List.append_assoc]
      exact congrArg (fun f => u.returns ++ (closed ++ (List.range 8).flatMap f))
        (funext fun l => (State.grantParcels_rotated l).trans (hparcels l))
    refine ⟨u.emptied, closed ++ (List.range 8).flatMap s.grantParcels, rfl, ?_, fun p hp => ?_, fun hlaws => ?_, fun l hl => ?_, ?_⟩
    · rw [hreturns, hueq]
      exact List.append_assoc _ _ _
    · rcases List.mem_append.1 hp with hp | hp
      · exact .inl (hkinds p hp)
      · obtain ⟨l, -, hl⟩ := List.mem_flatMap.1 hp
        exact .inr ⟨l, State.mem_grantParcels hl⟩
    · have hsettled : u.openSettled := fun k id hopen => by
        rw [hstream] at hopen
        rw [hsegments]
        exact hlaws.openSettled hflight k id hopen
      rw [List.append_cancel_left (hclosed.symm.trans hsettled.forStreams_rotate), hopened]
      rfl
    · rw [State.emptied_lane hl, hueq]
      rfl
    · exact (State.emptied_eq).trans (by rw [hueq]; rfl)
  case refused =>
    have hquiet : s.freed.quiet = false := by
      by_contra h
      obtain ⟨hfree, hflight, hdurables, hflushes⟩ := State.quiet_iff.1 (Bool.not_eq_false _ ▸ h)
      rcases hbusy with h | ⟨l, hl, h⟩ | h | h
      · exact absurd (hfree.symm.trans h) (by decide)
      · exact h (hflight l hl)
      · exact h hdurables
      · exact h hflushes
    rw [hexec s a hoffers hasks, State.clearPart_notQuiet hquiet]
    rfl

end Sys2Proof.Machine
end

section
/-! ISSUE: one or two units of the stream that the search finds, and the end of the event (R105, R106, R108 to R110). -/

namespace Sys2Proof.Machine

open Sys2Proof

/-! ## Several units of one stream -/

/-- The slots of the stream's unit `i`, counted from the next one. -/
def Stream.unitSlots (t : Stream) (i : Nat) : List Nat := (t.queue.drop (16 * i)).take 16

/-- The record of the stream's unit `i`, counted from the next one (R101, R108). -/
def State.nthRecord (s : State) (k id : Nat) (g : Segment) (i : Nat) : InFlight where
  kind := .normal
  seg := some id
  block := g.block
  unit := g.issued + i
  slots := (s.stream k).unitSlots i
  fillers := 16 - ((s.stream k).unitSlots i).length
  trailer := false
  expiry := s.now + 1000 * s.params.programTimeout

/-- The PROGRAM of the stream's unit `i`, counted from the next one (R109). -/
def State.nthProgram (s : State) (k : Nat) (g : Segment) (i : Nat) : LinkItem :=
  .parcel (programBytes .normal g.block (g.issued + i) (16 - ((s.stream k).unitSlots i).length)
    (((s.stream k).unitSlots i).map s.sectorBytes))

/-- What the issue of `n` units of the stream on the lane leaves, before the segment is drained (R106). -/
structure State.UnitsIssued (s u : State) (l k id n : Nat) (g : Segment) : Prop where
  slot : ∀ j, u.slot j = if j ∈ (s.stream k).queue.take (16 * n) then { s.slot j with state := .issued } else s.slot j
  stream : u.stream k = { s.stream k with
    queue := (s.stream k).queue.drop (16 * n), pad := (u.stream k).pad, linger := (u.stream k).linger
    inflight := (s.stream k).inflight + n, issued := (s.stream k).issued + BitVec.ofNat 32 n
    fillers := (s.stream k).fillers + BitVec.ofNat 48 (16 * n - ((s.stream k).queue.take (16 * n)).length) }
  settled : n ≠ 0 → ((s.stream k).queue.length - 16 * n) % 16 = 0 → (u.stream k).pad = false ∧ (u.stream k).linger = 0
  unsettled : ((s.stream k).queue.length - 16 * n) % 16 ≠ 0 →
    (u.stream k).pad = (s.stream k).pad ∧ (u.stream k).linger = (s.stream k).linger
  others : ∀ j, j ≠ k → u.stream j = s.stream j
  lane : u.lane l = { s.lane l with
    inflight := (s.lane l).inflight ++ (List.range n).map (s.nthRecord k id g)
    unitsIssued := (s.lane l).unitsIssued + BitVec.ofNat 32 n }
  lanes : ∀ j, j ≠ l → u.lane j = s.lane j
  laneLink : u.laneLink l = s.laneLink l ++ (List.range n).map (s.nthProgram k g)
  laneLinks : ∀ j, j ≠ l → u.laneLink j = s.laneLink j
  segment : Store.find? u.segments id = some { g with issued := g.issued + n }
  segments : ∀ i, i ≠ id → Store.find? u.segments i = Store.find? s.segments i
  length : u.segments.length ≤ s.segments.length + n
  sorted : Store.sorted s.segments = true → Store.sorted u.segments = true
  frame : u.butIssueUnit = s.butIssueUnit

section

variable {s u : State} {l k id n : Nat} {g : Segment}

theorem State.unitsIssued_zero (hfind : Store.find? s.segments id = some g) : s.UnitsIssued s l k id 0 g where
  slot j := by simp
  stream := by simp
  settled h := absurd rfl h
  unsettled _ := ⟨rfl, rfl⟩
  others _ _ := rfl
  lane := by simp
  lanes _ _ := rfl
  laneLink := by simp
  laneLinks _ _ := rfl
  segment := hfind
  segments _ _ := rfl
  length := Nat.le_refl _
  sorted := fun h => h
  frame := rfl

theorem Stream.composed_eq (t : Stream) : t.composed (t.queue.take 16).length = { t with
    queue := t.queue.drop 16
    pad := t.pad && decide ((t.queue.length - 16) % 16 ≠ 0)
    linger := if (t.queue.length - 16) % 16 = 0 then 0 else t.linger
    inflight := t.inflight + 1
    issued := t.issued + 1
    fillers := t.fillers + BitVec.ofNat 48 (16 - (t.queue.take 16).length) } := by
  have hdrop : t.queue.drop (t.queue.take 16).length = t.queue.drop 16 := by
    rw [List.length_take]
    rcases Nat.le_total 16 t.queue.length with h | h
    · rw [Nat.min_eq_left h]
    · rw [Nat.min_eq_right h, List.drop_length, List.drop_eq_nil_of_le h]
  rw [Stream.composed, Stream.settle_cases, hdrop]
  simp only [Stream.tailSize, List.length_drop]

theorem State.unitIssued_length : (s.unitIssued l k id g).segments.length ≤ s.segments.length + 1 := by
  rw [State.unitIssued_segments]
  exact Store.length_insert_le ..

theorem State.setSegment_updLane_sendLane_frame (s : State) (id : Nat) (g : Segment) (l : Nat) (f : Lane → Lane) (i : LinkItem) :
    (((s.setSegment id g).updLane l f).sendLane l i).butIssueUnit = s.butIssueUnit := rfl

theorem State.unitIssued_frame : (s.unitIssued l k id g).butIssueUnit = s.butIssueUnit := by
  have hcomposed := agree (π := State.butIssueUnit) (s.unitComposed_frame k)
  rw [State.unitIssued, State.setSegment_updLane_sendLane_frame, hcomposed]

theorem State.sectorBytes_congr (hstaging : u.staging = s.staging) (hslot : ∀ j, (u.slot j).ns = (s.slot j).ns
    ∧ (u.slot j).fn = (s.slot j).fn ∧ (u.slot j).lba = (s.slot j).lba ∧ (u.slot j).seq = (s.slot j).seq) :
    u.sectorBytes = s.sectorBytes := by
  funext j
  obtain ⟨hns, hfn, hlba, hseq⟩ := hslot j
  simp only [State.sectorBytes, State.slotData, hns, hfn, hlba, hseq, hstaging]

/-- The stream's counters after one unit more with `n` real sectors; queue, pad and linger counter are those of `v`. -/
def Stream.unitMore (t v : Stream) (n : Nat) : Stream :=
  { t with
    queue := v.queue, pad := v.pad, linger := v.linger, inflight := t.inflight + 1, issued := t.issued + 1
    fillers := t.fillers + BitVec.ofNat 48 (16 - n) }

/-- One unit more, of a stream that had full units in its queue until then. -/
theorem State.UnitsIssued.next (h : s.UnitsIssued u l k id n g) (hfull : 16 * n ≤ (s.stream k).queue.length) :
    s.UnitsIssued (u.unitIssued l k id { g with issued := g.issued + n }) l k id (n + 1) g := by
  have hqueue : (u.stream k).queue = (s.stream k).queue.drop (16 * n) := (congrArg Stream.queue h.stream).trans rfl
  have htake : (s.stream k).queue.take (16 * (n + 1)) = (s.stream k).queue.take (16 * n) ++ (u.stream k).queue.take 16 := by
    rw [hqueue, Nat.mul_succ, List.take_add]
  have hdrop : (s.stream k).queue.drop (16 * (n + 1)) = (u.stream k).queue.drop 16 := by rw [hqueue, List.drop_drop, Nat.mul_succ]
  have hleft : (u.stream k).queue.length - 16 = (s.stream k).queue.length - 16 * (n + 1) := by rw [hqueue, List.length_drop]; omega
  have hstream := State.unitIssued_stream (s := u) (l := l) (k := k) (id := id) (g := { g with issued := g.issued + n })
  have hself := (hstream k).trans ((if_pos rfl).trans (Stream.composed_eq _))
  have hrecord : u.issuedRecord k id { g with issued := g.issued + n } = s.nthRecord k id g n := by
    have hnow : u.now = s.now := agree (π := State.now) h.frame
    have hparams : u.params = s.params := agree (π := State.params) h.frame
    rw [State.issuedRecord, State.nthRecord, hnow, hparams, hqueue]
    rfl
  have hprogram : LinkItem.parcel (u.issuedProgram k { g with issued := g.issued + n }) = s.nthProgram k g n := by
    have hbytes : u.sectorBytes = s.sectorBytes := State.sectorBytes_congr (agree (π := State.staging) h.frame) fun j => by
      rw [h.slot]
      split <;> exact ⟨rfl, rfl, rfl, rfl⟩
    rw [State.issuedProgram, State.nthProgram, hbytes, hqueue]
    rfl
  have hmem : ∀ j, j ∈ (u.stream k).queue.take 16 ∨ j ∈ (s.stream k).queue.take (16 * n) ↔ j ∈ (s.stream k).queue.take (16 * (n + 1)) :=
    fun j => by rw [htake, List.mem_append, or_comm]
  have hlane := State.unitIssued_lane (s := u) (l := l) (k := k) (id := id) (g := { g with issued := g.issued + n })
  have hlink := State.unitIssued_laneLink (s := u) (l := l) (k := k) (id := id) (g := { g with issued := g.issued + n })
  exact {
    slot := fun j => by
      rw [State.unitIssued_slot, h.slot, ← if_congr (hmem j) rfl rfl, ite_or]
      by_cases hj : j ∈ (s.stream k).queue.take (16 * n)
      · simp [hj]
      · simp [hj]
    stream := by
      generalize (u.unitIssued l k id { g with issued := g.issued + n }).stream k = v at hself
      have hfields : v = (u.stream k).unitMore v ((u.stream k).queue.take 16).length := by rw [hself]; rfl
      refine hfields.trans ((congrArg (Stream.unitMore · v ((u.stream k).queue.take 16).length) h.stream).trans ?_)
      have hqueueAfter : v.queue = (s.stream k).queue.drop (16 * (n + 1)) := by rw [hself, hdrop]
      have hfillers : (s.stream k).fillers + BitVec.ofNat 48 (16 * n - ((s.stream k).queue.take (16 * n)).length)
          + BitVec.ofNat 48 (16 - ((u.stream k).queue.take 16).length)
          = (s.stream k).fillers + BitVec.ofNat 48 (16 * (n + 1) - ((s.stream k).queue.take (16 * (n + 1))).length) := by
        rw [BitVec.add_assoc, ← BitVec.ofNat_add, htake, List.length_append, List.length_take, List.length_take]
        exact congrArg (fun m => (s.stream k).fillers + BitVec.ofNat 48 m) (by omega)
      have hissued : (s.stream k).issued + BitVec.ofNat 32 n + 1 = (s.stream k).issued + BitVec.ofNat 32 (n + 1) := by
        rw [BitVec.add_assoc, BitVec.ofNat_add]
        rfl
      unfold Stream.unitMore
      simp only [hfillers, hissued, hqueueAfter]
      rfl
    settled := fun _ hzero => by
      rw [hself]
      simp only [hleft, hzero]
      simp
    unsettled := fun hpos => by
      have hbefore : n ≠ 0 → ((s.stream k).queue.length - 16 * n) % 16 ≠ 0 := fun _ => by omega
      have hu : (u.stream k).pad = (s.stream k).pad ∧ (u.stream k).linger = (s.stream k).linger := h.unsettled (by omega)
      rw [hself]
      simp [hleft, hu, hpos]
    others := fun j hj => ((hstream j).trans (if_neg hj)).trans (h.others j hj)
    lane := by
      rw [hlane, if_pos rfl, h.lane, hrecord, List.range_succ, List.map_append, BitVec.ofNat_add]
      simp only [Lane.carrying, List.append_assoc, BitVec.add_assoc]
      rfl
    lanes := fun j hj => ((hlane j).trans (if_neg hj)).trans (h.lanes j hj)
    laneLink := by
      rw [hlink, if_pos rfl, h.laneLink, hprogram, List.range_succ, List.map_append, List.append_assoc]
      rfl
    laneLinks := fun j hj => ((hlink j).trans (if_neg hj)).trans (h.laneLinks j hj)
    segment := by
      rw [State.unitIssued_segments]
      exact Store.find?_insert_self ..
    segments := fun i hi => by
      rw [State.unitIssued_segments, Store.find?_insert_ne _ _ hi]
      exact h.segments i hi
    length := State.unitIssued_length.trans (Nat.add_le_add_right h.length 1)
    sorted := fun hsorted => by
      rw [State.unitIssued_segments]
      exact Store.sorted_insert (h.sorted hsorted) _ _
    frame := State.unitIssued_frame.trans h.frame }

/-! ## The units that one ISSUE sends (R105) -/

theorem State.UnitsIssued.openSegment (h : s.UnitsIssued u l k id n g) (hopen : s.openSegment (s.stream k) = some (id, g)) :
    u.openSegment (u.stream k) = some (id, { g with issued := g.issued + n }) := by
  obtain ⟨hseg, -⟩ := State.openSegment_eq_some hopen
  refine State.openSegment_of_some ?_ h.segment
  rw [h.stream]
  exact hseg

theorem State.UnitsIssued.one (h : s.UnitsIssued u l k id n g) (hopen : s.openSegment (s.stream k) = some (id, g))
    (hfull : 16 * n ≤ (s.stream k).queue.length) : ∃ v, s.UnitsIssued v l k id (n + 1) g
      ∧ u.issueUnit l k = if g.capacity ≤ g.issued + (n + 1) then v.drain id .full else v :=
  ⟨_, h.next hfull, State.issueUnit_eq (h.openSegment hopen)⟩

/-- The units of one ISSUE. -/
def State.issueUnits (s : State) (l k n : Nat) : State := if n = 2 then (s.issueUnit l k).issueUnit l k else s.issueUnit l k

theorem State.issueUnits_eq (hopen : s.openSegment (s.stream k) = some (id, g)) (hn : n = 1 ∨ n = 2)
    (htwo : n = 2 → 16 ≤ (s.stream k).queue.length ∧ g.issued + 2 ≤ g.capacity) : ∃ v, s.UnitsIssued v l k id n g
      ∧ s.issueUnits l k n = if g.capacity ≤ g.issued + n then v.drain id .full else v := by
  obtain ⟨-, hfind⟩ := State.openSegment_eq_some hopen
  obtain ⟨v, hv, hissue⟩ := (State.unitsIssued_zero (l := l) (k := k) hfind).one hopen (Nat.zero_le _)
  rcases hn with rfl | rfl
  · exact ⟨v, hv, hissue⟩
  · obtain ⟨hlength, hroom⟩ := htwo rfl
    obtain ⟨w, hw, hissue'⟩ := hv.one hopen hlength
    rw [if_neg (by omega)] at hissue
    refine ⟨w, hw, ?_⟩
    rw [State.issueUnits, if_pos rfl, hissue]
    exact hissue'

/-- The lane's arbiter stands at the pair that the search found (R104). -/
def State.positioned (s : State) (l p k : Nat) : State := s.updLane l fun x => { x with pass := p, position := k }

theorem State.grantsTwo_iff (hopen : s.openSegment (s.stream k) = some (id, g)) : s.grantsTwo l k = true
    ↔ 2 ≤ (s.stream k).ready ∧ (s.lane l).inflight.length + 2 ≤ (s.lane l).window ∧ g.issued + 2 ≤ g.capacity := by
  simp only [State.grantsTwo, hopen, Lane.roomFor, Bool.and_eq_true, decide_eq_true_eq, and_assoc]

/-- How many units the stream found is granted. -/
def State.granted (s : State) (l k : Nat) : Nat := if s.grantsTwo l k = true then 2 else 1

theorem State.issueOn_of_found {p : Nat} (hrun : s.running = true) (hup : (s.lane l).up = true)
    (hroom : (s.lane l).inflight.length < (s.lane l).window) (hsearch : s.search l = some (p, k)) :
    s.issueOn l = ((s.positioned l p k).issueUnits l k (s.granted l k)).durablePads.endRequests := by
  have hcond : (s.running && (s.lane l).up && (s.lane l).roomFor 1) = true := by
    rw [hrun, hup, Lane.roomFor]
    simpa using hroom
  have hgranted : s.granted l k = 2 ↔ s.grantsTwo l k = true := by
    unfold State.granted
    split <;> simp_all
  rw [State.issueOn, if_pos hcond, hsearch, State.issueUnits, if_congr hgranted rfl rfl]
  rfl

theorem State.drain_stream (s : State) (id : Nat) (cause : EndCause) (j : Nat) : (s.drain id cause).stream j = { s.stream j with
    state := ((s.drain id cause).stream j).state, openSeg := ((s.drain id cause).stream j).openSeg } := by
  unfold State.drain
  split
  · rfl
  · rename_i g _
    split
    · rw [State.stream_setStream]
      split
      · rename_i hj
        subst hj
        rfl
      · rfl
    · rfl

end

/-! ## What an ISSUE leaves -/

/-- The state of an ISSUE before its pads, from the state `u` in which the units are issued. -/
def State.afterUnits (u : State) (id n : Nat) (g : Segment) : State := if g.capacity ≤ g.issued + n then u.drain id .full else u

section

variable {s u : State} {l k id n p : Nat} {g : Segment}

theorem State.afterUnits_frame : (u.afterUnits id n g).butDrain = u.butDrain := by
  unfold State.afterUnits
  split
  · exact u.drain_frame id .full
  · rfl

theorem State.afterUnits_stream (j : Nat) : (u.afterUnits id n g).stream j = { u.stream j with
    state := ((u.afterUnits id n g).stream j).state, openSeg := ((u.afterUnits id n g).stream j).openSeg } := by
  unfold State.afterUnits
  split
  · exact u.drain_stream id .full j
  · rfl

theorem State.positioned_lane (j : Nat) : (s.positioned l p k).lane j
    = if j = l then { s.lane l with pass := p, position := k } else s.lane j := s.lane_updLane l _ j

theorem State.drain_bound (s : State) (id : Nat) (cause : EndCause) (j : Nat) :
    ((s.drain id cause).stream j).bound = (s.stream j).bound := by
  unfold State.drain
  split
  · rfl
  · rename_i g _
    split
    · rw [State.stream_setStream]
      split
      · rename_i hj
        subst hj
        rw [Stream.released]
        cases hstate : (s.stream g.stream).state <;> simp only [Stream.bound, hstate] <;> rfl
      · rfl
    · rfl

theorem State.afterUnits_bound (j : Nat) : ((u.afterUnits id n g).stream j).bound = (u.stream j).bound := by
  unfold State.afterUnits
  split
  · exact u.drain_bound id .full j
  · rfl

/-- What an ISSUE leaves before its requests (R105, R106, R109). -/
structure State.IssueReady (s d : State) (l p k id n : Nat) (g : Segment) : Prop where
  lane : d.lane l = { s.lane l with
    pass := p, position := k, inflight := (s.lane l).inflight ++ (List.range n).map (s.nthRecord k id g)
    unitsIssued := (s.lane l).unitsIssued + BitVec.ofNat 32 n }
  lanes : ∀ j, j ≠ l → d.lane j = s.lane j
  laneLink : d.laneLink l = s.laneLink l ++ (List.range n).map (s.nthProgram k g)
  laneLinks : ∀ j, j ≠ l → d.laneLink j = s.laneLink j
  stream : d.stream k = { s.stream k with
    queue := (s.stream k).queue.drop (16 * n), pad := (d.stream k).pad, linger := (d.stream k).linger
    inflight := (s.stream k).inflight + n, issued := (s.stream k).issued + BitVec.ofNat 32 n
    fillers := (s.stream k).fillers + BitVec.ofNat 48 (16 * n - ((s.stream k).queue.take (16 * n)).length)
    state := (d.stream k).state, openSeg := (d.stream k).openSeg }
  pad : (d.stream k).pad = if ((s.stream k).queue.length - 16 * n) % 16 = 0 then false
    else (s.stream k).pad || (decide (s.params.durableLinger = 0) && (s.stream k).tail.any fun j => (s.slot j).durable.isSome)
  linger : (d.stream k).linger = if ((s.stream k).queue.length - 16 * n) % 16 = 0 then 0 else (s.stream k).linger
  queues : ∀ j, j ≠ k → (d.stream j).queue = (s.stream j).queue
  slot : ∀ j, d.slot j = if j ∈ (s.stream k).queue.take (16 * n) then { s.slot j with state := .issued } else s.slot j
  frame : d.butIssueUnit = s.butIssueUnit

theorem Stream.tail_drop {t v : Stream} {n : Nat} (hqueue : v.queue = t.queue.drop (16 * n)) (hleft : (t.queue.length - 16 * n) % 16 ≠ 0) :
    v.tail = t.tail := by
  rw [Stream.tail, Stream.tail, Stream.tailSize, Stream.tailSize, hqueue, List.drop_drop, List.length_drop]
  exact congrArg (List.drop · t.queue) (by omega)

theorem State.UnitsIssued.issueReady (h : (s.positioned l p k).UnitsIssued u l k id n g) (hbound : (s.stream k).bound = true)
    (hlt : k < 256) (hn : n ≠ 0) : s.IssueReady (u.afterUnits id n g).durablePads l p k id n g := by
  have hvbound : ((u.afterUnits id n g).stream k).bound = true := by
    rw [State.afterUnits_bound, h.stream]
    exact hbound
  have hvframe := State.afterUnits_frame (u := u) (id := id) (n := n) (g := g)
  have hvstream := State.afterUnits_stream (u := u) (id := id) (n := n) (g := g)
  generalize u.afterUnits id n g = v at *
  have hdframe := v.durablePads_frame
  have hdstream := v.stream_durablePads
  generalize v.durablePads = d at *
  have hlane : ∀ j, d.lane j = u.lane j := fun j =>
    (agree (π := (State.lane · j)) hdframe).trans (agree (π := (State.lane · j)) hvframe)
  have hlink : ∀ j, d.laneLink j = u.laneLink j := fun j =>
    (agree (π := (State.laneLink · j)) hdframe).trans (agree (π := (State.laneLink · j)) hvframe)
  have hslot : ∀ j, d.slot j = u.slot j := fun j =>
    (agree (π := (State.slot · j)) hdframe).trans (agree (π := (State.slot · j)) hvframe)
  have hdurable : ∀ j, (v.slot j).durable = (s.slot j).durable := fun j => by
    rw [show v.slot j = u.slot j from agree (π := (State.slot · j)) hvframe, h.slot]
    split <;> rfl
  have hparams : v.params = s.params := (agree (π := State.params) hvframe).trans (agree (π := State.params) h.frame)
  have hpadded : ∀ j, d.stream j = { v.stream j with pad := (d.stream j).pad } := fun j => by
    rw [hdstream]
    split <;> rfl
  have hqueue : (v.stream k).queue = (s.stream k).queue.drop (16 * n) := by rw [hvstream, h.stream]; rfl
  have htail : (v.stream k).tailSize = ((s.stream k).queue.length - 16 * n) % 16 := by
    rw [Stream.tailSize, hqueue, List.length_drop]
  have hvpad : (v.stream k).pad = (u.stream k).pad := by rw [hvstream]
  have hvlinger : (v.stream k).linger = (u.stream k).linger := by rw [hvstream]
  have hlinger : (d.stream k).linger = (u.stream k).linger := by rw [hpadded]; exact hvlinger
  exact {
    lane := by
      rw [hlane, h.lane, State.positioned_lane, if_pos rfl]
      rfl
    lanes := fun j hj => by rw [hlane, h.lanes j hj, State.positioned_lane, if_neg hj]
    laneLink := (hlink l).trans h.laneLink
    laneLinks := fun j hj => (hlink j).trans (h.laneLinks j hj)
    stream := by
      have hstate : (d.stream k).state = (v.stream k).state := by rw [hpadded]
      have hopenSeg : (d.stream k).openSeg = (v.stream k).openSeg := by rw [hpadded]
      refine (hpadded k).trans ?_
      rw [hstate, hopenSeg, hlinger, hvstream, h.stream]
      rfl
    pad := by
      rw [hdstream, ← hparams]
      by_cases hzero : ((s.stream k).queue.length - 16 * n) % 16 = 0
      · have hnot : ¬ v.tailDurable (v.stream k) = true := fun hany => by
          have := Stream.tailSize_pos_of_any hany
          omega
        rw [if_neg fun hall => hnot hall.2.2, if_pos hzero, hvpad]
        exact (h.settled hn hzero).1
      · have hany : v.tailDurable (v.stream k) = (s.stream k).tail.any fun j => (s.slot j).durable.isSome := by
          rw [State.tailDurable, Stream.tail_drop hqueue hzero]
          simp only [hdurable]
        have hpad : (v.stream k).pad = (s.stream k).pad := hvpad.trans (h.unsettled hzero).1
        rw [if_neg hzero, ← hany]
        by_cases hdue : v.params.durableLinger = 0 ∧ k < 256 ∧ v.tailDurable (v.stream k) = true
        · obtain ⟨hnone, -, hsome⟩ := hdue
          rw [if_pos ⟨hnone, hlt, hsome⟩, Stream.padded_pad, hvbound, hpad, htail, hsome, decide_eq_true hnone,
            decide_eq_true (Nat.pos_of_ne_zero hzero)]
        · rw [if_neg hdue, hpad]
          have hfalse : (decide (v.params.durableLinger = 0) && v.tailDurable (v.stream k)) = false := by
            by_contra hall
            rw [Bool.not_eq_false, Bool.and_eq_true, decide_eq_true_iff] at hall
            exact hdue ⟨hall.1, hlt, hall.2⟩
          rw [hfalse, Bool.or_false]
    linger := by
      rw [hlinger]
      split
      · rename_i hzero
        exact (h.settled hn hzero).2
      · rename_i hpos
        exact (h.unsettled hpos).2
    queues := fun j hj => by rw [hpadded, hvstream, h.others j hj]; rfl
    slot := fun j => (hslot j).trans (h.slot j)
    frame := (agree (π := State.butIssueUnit) hdframe).trans ((agree (π := State.butIssueUnit) hvframe).trans h.frame) }

/-- What an ISSUE on a stream's own OPEN segment leaves before its requests (R57, R89). -/
structure State.SegmentFed (s d : State) (k id n : Nat) (g : Segment) : Prop where
  segment : Store.find? d.segments id
    = some { g with issued := g.issued + n, endCause := if g.capacity ≤ g.issued + n then some .full else none }
  segments : ∀ i, i ≠ id → Store.find? d.segments i = Store.find? s.segments i
  length : d.segments.length ≤ s.segments.length + (n + 1)
  fed : g.issued + n < g.capacity → (d.stream k).state = .opened ∧ (d.stream k).openSeg = some id
  full : g.capacity ≤ g.issued + n → (d.stream k).state = .idle ∧ (d.stream k).openSeg = none
  others : s.params.durableLinger ≠ 0 → ∀ j, j ≠ k → d.stream j = s.stream j

theorem State.UnitsIssued.segmentFed (h : (s.positioned l p k).UnitsIssued u l k id n g) (hopen : s.openSegment (s.stream k) = some (id, g))
    (hstate : (s.stream k).state = .opened) (hcause : g.endCause = none) (hstream : g.stream = k) :
    s.SegmentFed (u.afterUnits id n g).durablePads k id n g := by
  obtain ⟨hseg, -⟩ := State.openSegment_eq_some hopen
  have hustate : (u.stream k).state = .opened := by rw [h.stream]; exact hstate
  have huseg : (u.stream k).openSeg = some id := by rw [h.stream]; exact hseg
  have huparams : u.params = s.params := agree (π := State.params) h.frame
  have hpads : ∀ v : State, v.durablePads.segments = v.segments := fun v => agree (π := State.segments) v.durablePads_frame
  have hpadded : ∀ (v : State) j, v.durablePads.stream j = { v.stream j with pad := (v.durablePads.stream j).pad } := fun v j => by
    rw [v.stream_durablePads]
    split <;> rfl
  have hnoPads : ∀ v : State, v.params.durableLinger ≠ 0 → v.durablePads = v := fun v hv => if_neg hv
  have hparams : (u.afterUnits id n g).params = s.params := (agree (π := State.params) State.afterUnits_frame).trans huparams
  by_cases hfull : g.capacity ≤ g.issued + n
  · have hv : u.afterUnits id n g
        = (u.setSegment id { g with issued := g.issued + n, endCause := some .full }).setStream k (u.stream k).released := by
      rw [State.afterUnits, if_pos hfull, State.drain_of_open h.segment hcause, hstream]
    have hvstream : ∀ j, (u.afterUnits id n g).stream j = if j = k then (u.stream k).released else u.stream j := fun j => by
      rw [hv, State.stream_setStream]
      rfl
    have hvsegments : (u.afterUnits id n g).segments
        = Store.insert u.segments id { g with issued := g.issued + n, endCause := some .full } := by rw [hv]; rfl
    generalize u.afterUnits id n g = v at *
    have hvk : (v.stream k).state = .idle ∧ (v.stream k).openSeg = none := by
      rw [hvstream, if_pos rfl, Stream.released_of_opened hustate]
      exact ⟨rfl, rfl⟩
    exact {
      segment := by rw [hpads, hvsegments, if_pos hfull]; exact Store.find?_insert_self ..
      segments := fun i hi => by rw [hpads, hvsegments, Store.find?_insert_ne _ _ hi]; exact h.segments i hi
      length := by
        rw [hpads, hvsegments]
        exact (Store.length_insert_le ..).trans (Nat.add_le_add_right h.length 1)
      fed := fun hlt => absurd hfull (Nat.not_le.2 hlt)
      full := fun _ => by rw [hpadded]; exact hvk
      others := fun hlinger j hj => by
        rw [hnoPads v (hparams ▸ hlinger), hvstream, if_neg hj]
        exact h.others j hj }
  · have hv : u.afterUnits id n g = u := if_neg hfull
    rw [hv]
    exact {
      segment := by rw [hpads, if_neg hfull, ← hcause]; exact h.segment
      segments := fun i hi => by rw [hpads]; exact h.segments i hi
      length := by rw [hpads]; exact h.length.trans (Nat.add_le_add_left (Nat.le_succ n) _)
      fed := fun _ => by rw [hpadded]; exact ⟨hustate, huseg⟩
      full := fun hle => absurd hle hfull
      others := fun hlinger j hj => by
        rw [hnoPads u (huparams ▸ hlinger)]
        exact h.others j hj }

end

/-- Settles O35: the units are issued one after another, the segment is drained when it is full, and its stream is then the only one that
may request a segment. -/
theorem issueSendsGrantedUnits : Obligations.IssueSendsGrantedUnits := by
  unfold Obligations.IssueSendsGrantedUnits
  intro s lane l p k id n g hl hrun hup hroom hsearch hopen hless hn
  subst hl
  obtain ⟨i, -, -, hfound, -⟩ := State.search_some hsearch
  obtain ⟨hmem, -, -⟩ := State.foundAt_some hfound
  obtain ⟨⟨hcandidate, hlt⟩, -⟩ := State.mem_candidatesAt.1 hmem
  obtain ⟨hstate, hready, -⟩ := (s.candidate_iff _ k).1 hcandidate
  have hgranted : s.granted lane.val k = n := by rw [hn, State.granted, if_congr (State.grantsTwo_iff hopen) rfl rfl]
  have hntwo : n = 1 ∨ n = 2 := by rw [hn]; split <;> simp
  have htwo : n = 2 → 16 ≤ (s.stream k).queue.length ∧ g.issued + 2 ≤ g.capacity := fun h => by
    rw [h] at hn
    split at hn
    · rename_i hcond
      obtain ⟨hready, -, hcapacity⟩ := hcond
      refine ⟨?_, hcapacity⟩
      unfold Stream.ready at hready
      split at hready <;> omega
    · cases hn
  obtain ⟨u, hu, hunits⟩ := State.issueUnits_eq (s := s.positioned lane.val p k) (l := lane.val) hopen hntwo htwo
  have hissueOn : s.issueOn lane.val = (u.afterUnits id n g).durablePads.endRequests := by
    rw [State.issueOn_of_found hrun hup hroom hsearch, hgranted, hunits]
    rfl
  have hexec : exec (.issue lane) s = .next (u.afterUnits id n g).durablePads.endRequests := congrArg Host.Outcome.next hissueOn
  have hframe : (u.afterUnits id n g).durablePads.endRequests.butIssueOn = s.butIssueOn := hissueOn ▸ s.issueOn_frame lane.val
  have hbound : (s.stream k).bound = true := (Stream.bound_iff _).2 (by rw [hstate]; exact StreamState.noConfusion)
  have hbasis := hu.issueReady hbound hlt (by omega)
  have hlaws := hu.segmentFed hopen hstate
  generalize (u.afterUnits id n g).durablePads = d at *
  have hends := d.endRequests_ends
  have hlinks : ∀ j, d.endRequests.laneLink j = d.laneLink j := fun j => congrArg (Store.getD [] · j) d.endRequests_laneLinks
  have hslots : ∀ j, d.endRequests.slot j = d.slot j := fun j => agree (π := (State.slot · j)) d.endRequests_frame
  have halone := fun hcalm => State.calmBut.endRequests_alone (u := d) (k := k) hcalm hlt
  have hstarves := fun hcalm => State.calmBut.endRequests_starves (u := d) (k := k) hcalm hlt
  have hopens := fun hcalm hr hidle hready i l ds d' => State.calmBut.endRequests_opens (u := d) (k := k) (i := i) (l := l) (g := ds) (gs := d') hcalm hlt hr hidle hready
  have hstill := fun hcalm => State.calmBut.endRequests_still (u := d) (k := k) hcalm
  generalize d.endRequests = t at *
  generalize lane.val = l at *
  have hlane := fun j => (hends.lanes j).2
  have hself := hends.streams k
  obtain ⟨starved, low, -, -, -, hreturns, hlow, -⟩ := hends.notices
  have hdreturns : d.returns = s.returns := agree (π := State.returns) hbasis.frame
  have hinflight : ∀ j, (t.lane j).inflight = (d.lane j).inflight := fun j => by rw [hlane]; rfl
  refine ⟨t, starved.map ReturnParcel.streamStarved ++ low, hexec, ?pass, ?position, ?unitsIssued, ?records, ?programs, ?queue, ?inflight,
    ?issued, ?fillers, ?pad, ?linger, fun j => (hslots j).trans (hbasis.slot j), fun j hj => ⟨?links, ?flights⟩, fun j hj => ?queues,
    ?returns, ?notices, fun hcause hstream hfew => ?law, ?staging, ?index, ?tenants, ?ranges, ?durables, ?flushes, ?credits, ?sequence, ?params⟩
  case pass => rw [hlane, hbasis.lane]; rfl
  case position => rw [hlane, hbasis.lane]; rfl
  case unitsIssued => rw [hlane, hbasis.lane]; rfl
  case records => rw [hinflight, hbasis.lane]; rfl
  case programs => rw [hlinks, hbasis.laneLink]; rfl
  case queue => rw [hself, hbasis.stream]
  case inflight => rw [hself, hbasis.stream]
  case issued => rw [hself, hbasis.stream]
  case fillers => rw [hself, hbasis.stream]
  case pad => rw [hself]; exact hbasis.pad
  case linger => rw [hself]; exact hbasis.linger
  case links => exact (hlinks j).trans (hbasis.laneLinks j hj)
  case flights => rw [hinflight, hbasis.lanes j hj]
  case queues => rw [hends.streams j]; exact hbasis.queues j hj
  case returns => rw [hreturns, hdreturns, List.append_assoc]
  case notices =>
    intro q hq
    rcases List.mem_append.1 hq with hq | hq
    · obtain ⟨j, -, rfl⟩ := List.mem_map.1 hq
      exact .inl ⟨j, rfl⟩
    · exact .inr (hlow q hq)
  case law =>
    have hfed := hlaws hcause hstream
    have hlength := hfed.length
    have hdlast : (d.stream k).lastLane = (s.stream k).lastLane := by rw [hbasis.stream]
    have hdset : (d.stream k).laneSet = (s.stream k).laneSet := by rw [hbasis.stream]
    have hdpart : d.part = s.part := agree (π := State.part) hbasis.frame
    have hready : (t.stream k).ready = (d.stream k).ready := by rw [hself]; rfl
    refine ⟨hends.kept (by omega) id _ hfed.segment, fun i h hi hfind => hends.kept (by omega) i h ((hfed.segments i hi).trans hfind),
      fun hfew' => ?keeps, fun hfull => ?asks, fun hcalm hlinger => ?calm⟩
    case keeps =>
      obtain ⟨hdstate, hdseg⟩ := hfed.fed hfew'
      rw [hends.others k (.inr (by rw [hdstate]; exact StreamState.noConfusion))]
      exact ⟨hdstate, hdseg, hdlast⟩
    case asks =>
      obtain ⟨hdstate, hdseg⟩ := hfed.full hfull
      exact State.asksSegment_congr hdpart.symm hdset.symm hdlast.symm (hends.asks (by omega) k hlt hdstate hdseg)
    case calm =>
      have hothers := hfed.others hlinger
      have hddue : d.due = s.due := agree (π := State.due) hbasis.frame
      have hdstarved : d.starved = s.starved := agree (π := State.starved) hbasis.frame
      have hdrun : d.part = .run := hdpart.trans (State.part_of_running hrun)
      have hcalmBut : d.calmBut k := hcalm.calmBut hothers hddue
      obtain ⟨rest, hrest⟩ := halone hcalmBut hdrun
      have hgiven : ∀ x, (d.lane x).normal = (s.lane x).normal ∧ (d.lane x).armed = (s.lane x).armed
          ∧ (d.lane x).up = (s.lane x).up ∧ (d.lane x).poolLowMark = (s.lane x).poolLowMark := fun x => by
        by_cases hx : x = l
        · rw [hx, hbasis.lane]
          exact ⟨rfl, rfl, rfl, rfl⟩
        · rw [hbasis.lanes x hx]
          exact ⟨rfl, rfl, rfl, rfl⟩
      have hparcels : ∀ ps, t.returns = d.returns ++ ps → starved.map ReturnParcel.streamStarved ++ low = ps := fun ps h =>
        List.append_cancel_left ((List.append_assoc ..).symm.trans (hreturns.symm.trans h))
      refine ⟨fun j hj => (hrest.others j hj).trans (hothers j hj), fun hno => ?still, fun hfull hsome hgives => ?starves,
        fun i x ds ds' hfull hsome hi hx hon hup' hnormal hbefore => ?opens⟩
      case still =>
        have htd : t = d := hstill hcalmBut fun hidle => by
          rcases hno with hno | hno
          · exact absurd (hidle.symm.trans (hfed.fed hno).1) StreamState.noConfusion
          · exact hready ▸ hno
        refine ⟨hparcels [] (by rw [htd, List.append_nil]), by rw [htd, hdstarved], fun j => ?_⟩
        rw [htd]
        exact ⟨(hgiven j).1, (hgiven j).2.1⟩
      case starves =>
        obtain ⟨hdstate, -⟩ := hfed.full hfull
        have htd := hstarves hcalmBut hdrun hdstate (hready ▸ hsome) fun x hx hon hup' => by
          obtain ⟨hnormal, -, hdup, -⟩ := hgiven x
          exact hnormal.trans (hgives x hx (hdset ▸ hon) (hdup ▸ hup'))
        refine ⟨by rw [htd, State.starve_stream, if_pos rfl], ?_, hparcels _ (by rw [htd]; rfl)⟩
        rw [htd]
        exact congrArg (· ++ [k]) hdstarved
      case opens =>
        obtain ⟨hdstate, -⟩ := hfed.full hfull
        obtain ⟨hdnormal, hdarmed, hdup, hdmark⟩ := hgiven x
        have hopen' := hopens hcalmBut hdrun hdstate (hready ▸ hsome) i x ds ds' hi (hdlast ▸ hx) (hdset ▸ hon) (hdup.trans hup')
          (hdnormal.trans hnormal) fun j hj hon hup' => by
            rw [hdlast, (hgiven _).1]
            rw [hdlast] at hon hup'
            exact hbefore j hj (hdset ▸ hon) ((hgiven _).2.2.1 ▸ hup')
        have hfree := State.nextSegmentId_free (s := d) (by omega)
        refine ⟨by rw [hopen'.stream], by rw [hopen'.stream], ?_, ⟨d.nextSegmentId, by rw [hopen'.stream], ?_, ?_⟩, ?_, ?_, ?_⟩
        · rw [hopen'.frame]
          exact hdstarved
        · rw [← hfed.segments _ fun heq => by rw [heq, hfed.segment] at hfree; cases hfree]
          exact hfree
        · rw [hopen'.segments]
          exact Store.find?_insert_self ..
        · rw [hopen'.lane]
        · rw [hopen'.lane, ← hdarmed, ← hdmark]
        · rw [← hdarmed, ← hdmark]
          exact hparcels _ hopen'.returns
  case staging => exact agree (π := State.staging) hframe
  case index => exact agree (π := State.index) hframe
  case tenants => exact agree (π := State.tenants) hframe
  case ranges => exact agree (π := State.ranges) hframe
  case durables => exact agree (π := State.durables) hframe
  case flushes => exact agree (π := State.flushes) hframe
  case credits => exact agree (π := State.credits) hframe
  case sequence => exact agree (π := State.sequence) hframe
  case params => exact agree (π := State.params) hframe

end Sys2Proof.Machine
end

section
/-! Settlement: one slot (R122, R142, R147, R148), and an ANSWER with DONE for a NORMAL record (R117, R120 to R123). -/

namespace Sys2Proof.Machine

open Sys2Proof

/-! ## One slot -/

theorem foldl_enqueue {α : Type} (f : α → ReturnParcel) (l : List α) (s : State) :
    l.foldl (fun s x => s.enqueue (f x)) s = { s with returns := s.returns ++ l.map f } := by
  induction l generalizing s with
  | nil => rw [List.map_nil, List.append_nil]; rfl
  | cons x t ih =>
    rw [List.foldl_cons, ih, List.map_cons]
    exact congrArg (fun ps => ({ s with returns := ps } : State)) (List.append_assoc s.returns [f x] (t.map f))

/-- The durable write record that the slot refers to. -/
def State.durableOf (s : State) (k : Nat) : Option DurableRecord := (s.slot k).durable.bind (Store.find? s.durables ·)

/-- The flush record of a marked slot's tenant. -/
def State.flushOf (s : State) (k : Nat) : Option FlushRecord :=
  if (s.slot k).mark = true then Store.find? s.flushes (s.slot k).fn else none

/-- The LANDED that the settlement of a slot makes due (R142). -/
def DurableRecord.dueAtLast : Option DurableRecord → List ReturnParcel
  | some r => if r.remaining = 1 then [.landed r.tag r.fn .ok r.count r.first] else []
  | none => []

/-- The FLUSHED parcels that the settlement of a slot of this tenant makes due (R148). -/
def FlushRecord.dueAtLast (fn : Nat) : Option FlushRecord → List ReturnParcel
  | some r => if r.count = 1 then r.tags.map (fun tag => .flushed tag fn .ok) else []
  | none => []

section

variable {s : State} {k : Nat}

theorem State.settleDurable_none (h : s.durableOf k = none) : s.settleDurable k = s := by
  unfold State.settleDurable
  split
  · rfl
  · rename_i i hi
    have hnone : Store.find? s.durables i = none := by rw [State.durableOf, hi] at h; exact h
    rw [hnone]

theorem State.settleDurable_some {r : DurableRecord} {i : Nat} (hi : (s.slot k).durable = some i) (hr : Store.find? s.durables i = some r)
    (hpos : 1 ≤ r.remaining) : s.settleDurable k = if r.remaining = 1
      then (s.enqueue (.landed r.tag r.fn .ok r.count r.first)).dropDurable i
      else s.setDurable i { r with remaining := r.remaining - 1 } := by
  unfold State.settleDurable
  rw [hi]
  simp only [hr]
  exact if_congr (by omega) rfl rfl

theorem State.settleDurable_returns (hpos : ∀ r, s.durableOf k = some r → 1 ≤ r.remaining) :
    (s.settleDurable k).returns = s.returns ++ DurableRecord.dueAtLast (s.durableOf k) := by
  cases hd : s.durableOf k with
  | none => rw [State.settleDurable_none hd]; exact (List.append_nil _).symm
  | some r =>
    obtain ⟨i, hi, hr⟩ := Option.bind_eq_some_iff.1 hd
    rw [State.settleDurable_some hi hr (hpos r hd), DurableRecord.dueAtLast]
    split
    · rfl
    · exact (List.append_nil _).symm

theorem State.settleDurable_self {r : DurableRecord} {i : Nat} (hi : (s.slot k).durable = some i)
    (hr : Store.find? s.durables i = some r) (hpos : 1 ≤ r.remaining) : Store.find? (s.settleDurable k).durables i
      = if r.remaining = 1 then none else some { r with remaining := r.remaining - 1 } := by
  rw [State.settleDurable_some hi hr hpos]
  split
  · exact Store.find?_erase_self ..
  · exact Store.find?_insert_self ..

theorem State.settleDurable_others {i : Nat} (hi : (s.slot k).durable ≠ some i) :
    Store.find? (s.settleDurable k).durables i = Store.find? s.durables i := by
  unfold State.settleDurable
  split
  · rfl
  · rename_i j hj
    have hne : i ≠ j := fun h => hi (h ▸ hj)
    split
    · rfl
    · split
      · exact Store.find?_erase_ne _ hne
      · exact Store.find?_insert_ne _ _ hne

theorem State.settleFlush_none (h : s.flushOf k = none) : s.settleFlush k = s := by
  unfold State.settleFlush
  split
  · rename_i hmark
    have hnone : Store.find? s.flushes (s.slot k).fn = none := by rw [State.flushOf, if_pos hmark] at h; exact h
    simp only [hnone]
  · rfl

theorem State.settleFlush_some {r : FlushRecord} (h : s.flushOf k = some r) (hpos : 1 ≤ r.count) :
    s.settleFlush k = if r.count = 1
      then { s with returns := s.returns ++ r.tags.map fun tag => ReturnParcel.flushed tag (s.slot k).fn .ok }.dropFlush (s.slot k).fn
      else s.setFlush (s.slot k).fn { r with count := r.count - 1 } := by
  unfold State.flushOf at h
  split at h
  · rename_i hmark
    unfold State.settleFlush
    simp only [hmark, if_true, h, foldl_enqueue fun tag => ReturnParcel.flushed tag (s.slot k).fn .ok]
    exact if_congr (by omega) rfl rfl
  · cases h

theorem State.settleFlush_returns (hpos : ∀ r, s.flushOf k = some r → 1 ≤ r.count) :
    (s.settleFlush k).returns = s.returns ++ FlushRecord.dueAtLast (s.slot k).fn (s.flushOf k) := by
  cases hf : s.flushOf k with
  | none => rw [State.settleFlush_none hf]; exact (List.append_nil _).symm
  | some r =>
    rw [State.settleFlush_some hf (hpos r hf), FlushRecord.dueAtLast]
    split
    · rfl
    · exact (List.append_nil _).symm

theorem State.settleFlush_self {r : FlushRecord} (h : s.flushOf k = some r) (hpos : 1 ≤ r.count) :
    Store.find? (s.settleFlush k).flushes (s.slot k).fn = if r.count = 1 then none else some { r with count := r.count - 1 } := by
  rw [State.settleFlush_some h hpos]
  split
  · exact Store.find?_erase_self ..
  · exact Store.find?_insert_self ..

theorem State.settleFlush_others {fn : Nat} (h : (s.slot k).mark = false ∨ fn ≠ (s.slot k).fn) :
    Store.find? (s.settleFlush k).flushes fn = Store.find? s.flushes fn := by
  unfold State.settleFlush
  simp only
  split
  · rename_i hmark
    have hne : fn ≠ (s.slot k).fn := h.resolve_left (by rw [hmark]; decide)
    split
    · rfl
    · split
      · rw [foldl_enqueue fun tag => ReturnParcel.flushed tag (s.slot k).fn .ok]
        exact Store.find?_erase_ne _ hne
      · exact Store.find?_insert_ne _ _ hne
  · rfl

/-- The records are settled before the slot is freed. -/
def State.recordsSettled (s : State) (k : Nat) : State := (s.settleDurable k).settleFlush k

/-- The state outside what the settlement of a slot's records may change. -/
def State.butRecords (s : State) : State := { s with durables := [], flushes := [], returns := [] }

theorem State.recordsSettled_frame : (s.recordsSettled k).butRecords = s.butRecords :=
  (agree (π := State.butRecords) ((s.settleDurable k).settleFlush_frame k)).trans (agree (π := State.butRecords) (s.settleDurable_frame k))

theorem State.slot_settleDurable (j : Nat) : (s.settleDurable k).slot j = s.slot j :=
  agree (π := (State.slot · j)) (s.settleDurable_frame k)

theorem State.flushOf_settleDurable : (s.settleDurable k).flushOf k = s.flushOf k := by
  have hflushes : (s.settleDurable k).flushes = s.flushes := agree (π := State.flushes) (s.settleDurable_frame k)
  rw [State.flushOf, State.flushOf, State.slot_settleDurable, hflushes]

theorem State.settleSlot_slot (j : Nat) : (s.settleSlot k).slot j
    = if j = k then { s.slot k with state := .free, durable := none, mark := false } else s.slot j := by
  have hslot : ∀ i, (s.recordsSettled k).slot i = s.slot i := fun i => agree (π := (State.slot · i)) State.recordsSettled_frame
  exact ((s.recordsSettled k).freeSlot_slot k j).trans (by rw [hslot, hslot])

theorem State.settleSlot_returns (hd : ∀ r, s.durableOf k = some r → 1 ≤ r.remaining) (hf : ∀ r, s.flushOf k = some r → 1 ≤ r.count) :
    (s.settleSlot k).returns
      = s.returns ++ DurableRecord.dueAtLast (s.durableOf k) ++ FlushRecord.dueAtLast (s.slot k).fn (s.flushOf k) := by
  have hfree : (s.settleSlot k).returns = (s.recordsSettled k).returns := agree (π := State.returns) ((s.recordsSettled k).freeSlot_frame k)
  rw [hfree, State.recordsSettled, State.settleFlush_returns fun r h => hf r (State.flushOf_settleDurable ▸ h), State.settleDurable_returns hd,
    State.flushOf_settleDurable, State.slot_settleDurable]

theorem State.settleSlot_durables : (s.settleSlot k).durables = (s.settleDurable k).durables :=
  (agree (π := State.durables) ((s.recordsSettled k).freeSlot_frame k)).trans
    (agree (π := State.durables) ((s.settleDurable k).settleFlush_frame k))

theorem State.settleSlot_flushes : (s.settleSlot k).flushes = ((s.settleDurable k).settleFlush k).flushes :=
  agree (π := State.flushes) ((s.recordsSettled k).freeSlot_frame k)

theorem State.settleSlot_tenant (u : Nat) : (s.settleSlot k).tenant u = if u = (s.slot k).fn ∧ (s.slot k).inUse = true
    then { s.tenant u with stagedCount := (s.tenant u).stagedCount - 1 } else s.tenant u := by
  have hslot : (s.recordsSettled k).slot k = s.slot k := agree (π := (State.slot · k)) State.recordsSettled_frame
  have htenant : (s.recordsSettled k).tenant u = s.tenant u := agree (π := (State.tenant · u)) State.recordsSettled_frame
  exact ((s.recordsSettled k).freeSlot_tenant k u).trans (by rw [hslot, htenant])

theorem State.settleSlot_index : (s.settleSlot k).index = if s.indexed (s.slot k).fn (s.slot k).ns (s.slot k).lba = some k
    then Store.erase s.index (identityKey (s.slot k).fn (s.slot k).ns (s.slot k).lba) else s.index := by
  have hslot : (s.recordsSettled k).slot k = s.slot k := agree (π := (State.slot · k)) State.recordsSettled_frame
  have hindex : (s.recordsSettled k).index = s.index := agree (π := State.index) State.recordsSettled_frame
  have hindexed : ∀ fn ns lba, (s.recordsSettled k).indexed fn ns lba = s.indexed fn ns lba := fun fn ns lba => by
    rw [State.indexed, State.indexed, hindex]
  exact ((s.recordsSettled k).freeSlot_index k).trans (by rw [hslot, hindex, hindexed])

theorem State.eq_of_butSettleSlot {t : State} (h : t.butSettleSlot = s.butSettleSlot) : t = { s with
    slots := t.slots, durables := t.durables, flushes := t.flushes, returns := t.returns, tenants := t.tenants, index := t.index } :=
  congrArg (fun u : State => { u with
    slots := t.slots, durables := t.durables, flushes := t.flushes, returns := t.returns, tenants := t.tenants, index := t.index }) h

end

/-- Settles O38: the durable record, then the flush record, then the slot. -/
theorem slotSettlesRecordsThenFrees : Obligations.SlotSettlesRecordsThenFrees := by
  unfold Obligations.SlotSettlesRecordsThenFrees
  intro s k d f hd hf hdpos hfpos
  obtain rfl : d = s.durableOf k := hd
  obtain rfl : f = s.flushOf k := hf
  refine ⟨?slot, fun j hj => ?slots, fun r i hr hi => ?durable, fun i hi => ?durables, fun r hr => ?flush, fun fn hfn => ?flushes, ?returns,
    ?count, State.settleSlot_tenant, fun hnames => ⟨?unnamed, fun key hkey => ?entries⟩, fun hnot => ?index,
    State.eq_of_butSettleSlot (s.settleSlot_frame k)⟩
  case slot => rw [State.settleSlot_slot, if_pos rfl]
  case slots => rw [State.settleSlot_slot, if_neg hj]
  case durable =>
    have hfound : Store.find? s.durables i = some r := by rwa [State.durableOf, hi] at hr
    rw [State.settleSlot_durables]
    exact State.settleDurable_self hi hfound (hdpos r hr)
  case durables =>
    rw [State.settleSlot_durables]
    exact State.settleDurable_others hi
  case flush =>
    rw [State.settleSlot_flushes]
    have hself := State.settleFlush_self (State.flushOf_settleDurable.trans hr) (hfpos r hr)
    rwa [State.slot_settleDurable] at hself
  case flushes =>
    have hflushes : (s.settleDurable k).flushes = s.flushes := agree (π := State.flushes) (s.settleDurable_frame k)
    rw [State.settleSlot_flushes, State.settleFlush_others (by rwa [State.slot_settleDurable]), hflushes]
  case returns =>
    rw [State.settleSlot_returns hdpos hfpos]
    cases s.durableOf k <;> cases s.flushOf k <;> rfl
  case count =>
    rw [State.settleSlot_tenant]
    cases (s.slot k).inUse <;> simp
  case unnamed =>
    rw [State.indexed, State.settleSlot_index, if_pos hnames]
    exact Store.find?_erase_self ..
  case entries =>
    rw [State.settleSlot_index, if_pos hnames]
    exact Store.find?_erase_ne _ hkey
  case index => rw [State.settleSlot_index, if_neg hnot]

end Sys2Proof.Machine
end

section
/-! An ANSWER with DONE for a NORMAL record, in RUN and in DUMPING (R117, R120 to R123). -/

namespace Sys2Proof.Machine

open Sys2Proof

/-! ## The settlement of a unit reads neither the lanes nor the return queue -/

/-- The state with other lanes and another return queue. -/
def State.relaned (s : State) (lanes : Store Lane) (returns : List ReturnParcel) : State := { s with lanes := lanes, returns := returns }

/-- LANDED OK or FLUSHED OK. -/
def ReturnParcel.isPayment (p : ReturnParcel) : Prop := (∃ tag fn c q, p = .landed tag fn .ok c q) ∨ ∃ tag fn, p = .flushed tag fn .ok

/-- An act that enqueues payments and does not read the lanes or the return queue. -/
def Pays (f : State → State) (s : State) : Prop :=
  ∃ ps, (f s).returns = s.returns ++ ps ∧ (∀ p ∈ ps, p.isPayment) ∧ ∀ lanes returns,
    f (s.relaned lanes returns) = (f s).relaned lanes (returns ++ ps)

section

variable {s : State} {k : Nat} {lanes : Store Lane} {returns : List ReturnParcel}

theorem Pays.of_quiet {f : State → State} (hreturns : (f s).returns = s.returns)
    (h : ∀ lanes returns, f (s.relaned lanes returns) = (f s).relaned lanes returns) : Pays f s :=
  ⟨[], by rw [hreturns, List.append_nil], by simp, fun lanes returns => by rw [List.append_nil, h]⟩

theorem Pays.comp {f g : State → State} (hf : Pays f s) (hg : Pays g (f s)) : Pays (g ∘ f) s := by
  obtain ⟨ps, hps, hpay, hfrom⟩ := hf
  obtain ⟨qs, hqs, hpay', hfrom'⟩ := hg
  refine ⟨ps ++ qs, by rw [Function.comp_apply, hqs, hps, List.append_assoc], fun p hp => ?_, fun lanes returns => ?_⟩
  · exact (List.mem_append.1 hp).elim (hpay p) (hpay' p)
  · rw [Function.comp_apply, hfrom, hfrom', List.append_assoc]
    rfl

theorem State.pays_settleDurable (s : State) (k : Nat) : Pays (State.settleDurable · k) s := by
  cases hi : (s.slot k).durable with
  | none =>
    have hstill : ∀ u : State, u.slot k = s.slot k → u.settleDurable k = u := fun u hu => by rw [State.settleDurable, hu, hi]
    exact .of_quiet (congrArg State.returns (hstill s rfl)) fun lanes returns => by
      simp only [hstill s rfl, hstill (s.relaned lanes returns) rfl]
  | some i =>
    cases hr : Store.find? s.durables i with
    | none =>
      have hstill : ∀ u : State, u.slot k = s.slot k → u.durables = s.durables → u.settleDurable k = u := fun u hu hd => by
        rw [State.settleDurable, hu, hi]
        simp only [hd, hr]
      exact .of_quiet (congrArg State.returns (hstill s rfl rfl)) fun lanes returns => by
        simp only [hstill s rfl rfl, hstill (s.relaned lanes returns) rfl rfl]
    | some r =>
      have hact : ∀ u : State, u.slot k = s.slot k → u.durables = s.durables → u.settleDurable k = if r.remaining ≤ 1
          then (u.enqueue (.landed r.tag r.fn .ok r.count r.first)).dropDurable i
          else u.setDurable i { r with remaining := r.remaining - 1 } := fun u hu hd => by
        rw [State.settleDurable, hu, hi]
        simp only [hd, hr]
      by_cases hlast : r.remaining ≤ 1
      · refine ⟨[.landed r.tag r.fn .ok r.count r.first], ?_, fun p hp => ?_, fun lanes returns => ?_⟩
        · simp only [hact s rfl rfl, if_pos hlast]
          rfl
        · exact .inl ⟨_, _, _, _, List.mem_singleton.1 hp⟩
        · simp only [hact s rfl rfl, hact (s.relaned lanes returns) rfl rfl, if_pos hlast]
          rfl
      · refine .of_quiet ?_ fun lanes returns => ?_
        · simp only [hact s rfl rfl, if_neg hlast]
          rfl
        · simp only [hact s rfl rfl, hact (s.relaned lanes returns) rfl rfl, if_neg hlast]
          rfl

theorem State.pays_settleFlush (s : State) (k : Nat) : Pays (State.settleFlush · k) s := by
  cases hf : s.flushOf k with
  | none =>
    have hstill := State.settleFlush_none hf
    exact .of_quiet (congrArg State.returns hstill) fun lanes returns =>
      (State.settleFlush_none (s := s.relaned lanes returns) hf).trans (congrArg (State.relaned · lanes returns) hstill.symm)
  | some r =>
    have hact : ∀ u : State, u.slot k = s.slot k → u.flushes = s.flushes → u.settleFlush k = if r.count ≤ 1
        then { u with returns := u.returns ++ r.tags.map fun tag => ReturnParcel.flushed tag (s.slot k).fn .ok }.dropFlush (s.slot k).fn
        else u.setFlush (s.slot k).fn { r with count := r.count - 1 } := fun u hu hd => by
      unfold State.flushOf at hf
      split at hf
      · rename_i hmark
        unfold State.settleFlush
        simp only [hu, hd, hmark, if_true, hf, foldl_enqueue fun tag => ReturnParcel.flushed tag (s.slot k).fn .ok]
      · cases hf
    by_cases hlast : r.count ≤ 1
    · refine ⟨r.tags.map fun tag => .flushed tag (s.slot k).fn .ok, ?_, fun p hp => ?_, fun lanes returns => ?_⟩
      · simp only [hact s rfl rfl, if_pos hlast]
        rfl
      · obtain ⟨tag, -, rfl⟩ := List.mem_map.1 hp
        exact .inr ⟨_, _, rfl⟩
      · simp only [hact s rfl rfl, hact (s.relaned lanes returns) rfl rfl, if_pos hlast]
        rfl
    · refine .of_quiet ?_ fun lanes returns => ?_
      · simp only [hact s rfl rfl, if_neg hlast]
        rfl
      · simp only [hact s rfl rfl, hact (s.relaned lanes returns) rfl rfl, if_neg hlast]
        rfl

/-- The tables after a slot is freed (R3, R28, R47). -/
theorem State.freeSlot_eq (s : State) (k : Nat) : s.freeSlot k = { s with
    index := if s.indexed (s.slot k).fn (s.slot k).ns (s.slot k).lba = some k
      then Store.erase s.index (identityKey (s.slot k).fn (s.slot k).ns (s.slot k).lba) else s.index
    tenants := if (s.slot k).inUse = true
      then Store.setD {} s.tenants (s.slot k).fn
        { s.tenant (s.slot k).fn with stagedCount := (s.tenant (s.slot k).fn).stagedCount - 1 } else s.tenants
    slots := Store.setD {} s.slots k { s.slot k with state := .free, durable := none, mark := false } } := by
  unfold State.freeSlot
  by_cases hnames : s.indexed (s.slot k).fn (s.slot k).ns (s.slot k).lba = some k
  · by_cases huse : (s.slot k).inUse = true
    · simp only [if_pos hnames, if_pos huse]
      rfl
    · simp only [if_pos hnames, if_neg huse]
      rfl
  · by_cases huse : (s.slot k).inUse = true
    · simp only [if_neg hnames, if_pos huse]
      rfl
    · simp only [if_neg hnames, if_neg huse]
      rfl

theorem State.pays_freeSlot (s : State) (k : Nat) : Pays (State.freeSlot · k) s := by
  refine .of_quiet (agree (π := State.returns) (s.freeSlot_frame k)) fun lanes returns => ?_
  show (s.relaned lanes returns).freeSlot k = (s.freeSlot k).relaned lanes returns
  rw [State.freeSlot_eq, State.freeSlot_eq s]
  rfl

theorem State.pays_settleSlot (s : State) (k : Nat) : Pays (State.settleSlot · k) s :=
  ((s.pays_settleDurable k).comp ((s.settleDurable k).pays_settleFlush k)).comp ((s.recordsSettled k).pays_freeSlot k)

theorem State.pays_settleSlots (s : State) (ks : List Nat) : Pays (State.settleSlots · ks) s := by
  induction ks generalizing s with
  | nil => exact .of_quiet rfl fun _ _ => rfl
  | cons k ks ih => exact (s.pays_settleSlot k).comp (ih (s.settleSlot k))

theorem State.settleSlots_slot (s : State) (ks : List Nat) (j : Nat) : (s.settleSlots ks).slot j
    = if j ∈ ks then { s.slot j with state := .free, durable := none, mark := false } else s.slot j :=
  foldl_slots (g := fun r => { r with state := .free, durable := none, mark := false }) (fun _ => rfl)
    (fun _ _ j => State.settleSlot_slot j) ks s j

end

end Sys2Proof.Machine
end

section
/-! An ANSWER with DONE for a NORMAL record, in RUN and in DUMPING (R117, R120 to R123). -/

namespace Sys2Proof.Machine

open Sys2Proof

/-! ## The conditions of R162 while the dump goes on -/

section

variable {s : State}

/-- With capacity left or the trailer in flight, the end of an event changes the phase of the dump engine alone (R162, R163). -/
theorem State.dumpCheck_goesOn (h : s.part = .dumping → s.dump.remaining ≠ 0 ∨ s.dumpInFlight true = true) :
    s.dumpCheck = { s with dump := { s.dump with phase := s.dumpCheck.dump.phase } }
      ∧ (s.part = .dumping → s.dumpCheck.dumpSettled s.dump.phase) := by
  by_cases hpart : s.part = .dumping
  · rw [State.dumpCheck, if_pos hpart]
    by_cases hzero : s.dump.remaining = 0
    · have htrailer := (h hpart).resolve_left (not_not.2 hzero)
      rw [if_pos hzero, if_pos htrailer]
      exact ⟨rfl, fun _ => ⟨fun _ hnone => absurd (htrailer.symm.trans hnone) (by decide), fun _ _ => ⟨hpart, rfl⟩, fun hne => absurd hzero hne⟩⟩
    · rw [if_neg hzero]
      split
      · rename_i hdue
        exact ⟨rfl, fun _ => ⟨fun hz => absurd hz hzero, fun hz => absurd hz hzero, fun _ => ⟨hpart, (if_pos hdue).symm⟩⟩⟩
      · rename_i hdue
        exact ⟨rfl, fun _ => ⟨fun hz => absurd hz hzero, fun hz => absurd hz hzero, fun _ => ⟨hpart, (if_neg hdue).symm⟩⟩⟩
  · rw [State.dumpCheck, if_neg hpart]
    exact ⟨rfl, fun hp => absurd hp hpart⟩

theorem any_eraseIdx {α : Type} {p : α → Bool} {l : List α} {i : Nat} {r : α} (hr : l[i]? = some r) (hp : p r = false) :
    (l.eraseIdx i).any p = l.any p := by
  obtain ⟨hi, hget⟩ := List.getElem?_eq_some_iff.1 hr
  have hsplit : l = l.take i ++ r :: l.drop (i + 1) := by
    rw [← hget, List.cons_getElem_drop_succ, List.take_append_drop]
  rw [List.eraseIdx_eq_take_drop_succ, List.any_append]
  conv_rhs => rw [hsplit, List.any_append, List.any_cons, hp, Bool.false_or]

/-! ## The segment of a unit that is DONE (R90, R92) -/

/-- A unit of the segment has been counted as DONE, and the segment has closed if it was DRAINING and this was its last unit. -/
def State.doneCounted (s : State) (id : Nat) : State := (s.countDone id).closeIfSettled id

theorem State.doneCounted_some {id : Nat} {g : Segment} (hfind : Store.find? s.segments id = some g) : s.doneCounted id
    = if g.endCause ≠ none ∧ g.done + 1 + g.failed = g.issued
      then { s with
        segments := Store.erase s.segments id, returns := s.returns ++ [.segmentClosed id { g with done := g.done + 1 }] }
      else s.setSegment id { g with done := g.done + 1 } := by
  have hcount : s.countDone id = s.setSegment id { g with done := g.done + 1 } := by
    unfold State.countDone
    rw [hfind]
  have hfind' : Store.find? (s.setSegment id { g with done := g.done + 1 }).segments id = some { g with done := g.done + 1 } :=
    Store.find?_insert_self ..
  have hdue : (!({ g with done := g.done + 1 } : Segment).isOpen && ({ g with done := g.done + 1 } : Segment).settled) = true
      ↔ g.endCause ≠ none ∧ g.done + 1 + g.failed = g.issued := by
    simp only [Segment.isOpen, Segment.settled, Bool.and_eq_true, Bool.not_eq_true', beq_iff_eq]
    cases g.endCause <;> simp
  rw [State.doneCounted, hcount, State.closeIfSettled, hfind', ← Store.erase_insert s.segments id { g with done := g.done + 1 }]
  exact if_congr hdue rfl rfl

theorem State.doneCounted_returns (s : State) (id : Nat) :
    ∃ closed, (s.doneCounted id).returns = s.returns ++ closed ∧ ∀ p ∈ closed, ∃ i g, p = .segmentClosed i g := by
  have hcount : (s.countDone id).returns = s.returns := by
    unfold State.countDone
    split <;> rfl
  obtain ⟨closed, hclosed, hkinds⟩ := (s.countDone id).closeIfSettled_returns id
  exact ⟨closed, by rw [State.doneCounted, hclosed, hcount], hkinds⟩

/-- The state outside the segments and the return queue. -/
def State.butClosed (s : State) : State := { s with segments := [], returns := [] }

theorem State.doneCounted_frame (s : State) (id : Nat) : (s.doneCounted id).butClosed = s.butClosed := by
  have hcount : (s.countDone id).butClosed = s.butClosed := by
    unfold State.countDone
    split <;> rfl
  exact (agree (π := State.butClosed) ((s.countDone id).closeIfSettled_frame id)).trans hcount

/-! ## The acts of a DONE before the credit evaluation -/

/-- The first parcel at the lane has been taken, and the record that it matches has left the list (R117). -/
def State.answering (s : State) (l i : Nat) : State :=
  (s.popWaiting l).updLane l fun x => { x with inflight := x.inflight.eraseIdx i, consecutive := 0 }

theorem State.answering_lane (l i j : Nat) : (s.answering l i).lane j = if j = l
    then { s.lane l with waiting := (s.lane l).waiting.tail, inflight := (s.lane l).inflight.eraseIdx i, consecutive := 0 } else s.lane j := by
  unfold State.answering State.popWaiting
  rw [State.lane_updLane, State.lane_updLane, State.lane_updLane, if_pos rfl]
  split <;> rfl

/-- One fewer unit of the stream in flight, when there is one (R123). -/
def State.unitLanded (s : State) : Option Nat → State
  | none => s
  | some k => s.updStream k Stream.landedUnit

theorem State.unitLanded_stream (o : Option Nat) (j : Nat) :
    (s.unitLanded o).stream j = if o = some j then (s.stream j).landedUnit else s.stream j := by
  cases o with
  | none => exact (if_neg (by simp)).symm
  | some k =>
    refine (s.stream_setStream k (s.stream k).landedUnit j).trans ?_
    by_cases hj : j = k
    · subst hj
      rw [if_pos rfl, if_pos rfl]
    · rw [if_neg hj, if_neg fun h => hj (Option.some.inj h).symm]

theorem State.unitLanded_frame (o : Option Nat) : (s.unitLanded o).butSetStream = s.butSetStream := by
  cases o <;> rfl

/-- The PLACED of a unit (R121). -/
def State.placedParcel (s : State) (l : Nat) (r : InFlight) : ReturnParcel :=
  .placed (r.seg.getD 0) l r.block r.unit (s.placedEntries r.slots)

/-- A DONE for a NORMAL record, before the credit evaluation (R120 to R123). -/
def State.unitDone (s : State) (l : Nat) (r : InFlight) : State :=
  ((((s.enqueue (s.placedParcel l r)).settleSlots r.slots).doneCounted (r.seg.getD 0)).unitLanded (s.streamOf (r.seg.getD 0))).updLane l
    fun x => { x with done := x.done + 1 }

theorem State.normalDone_eq (s : State) (l : Nat) (r : InFlight) : s.normalDone l r = (s.unitDone l r).evalCredit := by
  unfold State.normalDone State.unitDone State.unitLanded
  split <;> rename_i h
  · simp only [h]
    rfl
  · simp only [h]
    rfl

/-- The state outside what a DONE for a NORMAL record may change before the credit evaluation. -/
def State.butUnitDone (s : State) : State :=
  { s with tenants := [], slots := [], index := [], streams := [], segments := [], lanes := [], durables := [], flushes := [], returns := [] }

/-- What the acts of a DONE for a NORMAL record leave before the credit evaluation. -/
structure State.DoneReady (s e : State) (l i : Nat) (r : InFlight) (paid closed : List ReturnParcel) : Prop where
  lane : e.lane l = { s.lane l with
    waiting := (s.lane l).waiting.tail, inflight := (s.lane l).inflight.eraseIdx i, consecutive := 0, done := (s.lane l).done + 1 }
  lanes : ∀ j, j ≠ l → e.lane j = s.lane j
  returns : e.returns = s.returns ++ s.placedParcel l r :: (paid ++ closed)
  settled : (s.settleSlots r.slots).returns = s.returns ++ paid
  payments : ∀ p ∈ paid, p.isPayment
  closings : ∀ p ∈ closed, ∃ id g, p = .segmentClosed id g
  tables : e.slots = (s.settleSlots r.slots).slots ∧ e.durables = (s.settleSlots r.slots).durables
    ∧ e.flushes = (s.settleSlots r.slots).flushes ∧ e.index = (s.settleSlots r.slots).index ∧ e.tenants = (s.settleSlots r.slots).tenants
  streams : ∀ j, e.stream j = if s.streamOf (r.seg.getD 0) = some j then (s.stream j).landedUnit else s.stream j
  segments : ∀ g, Store.find? s.segments (r.seg.getD 0) = some g →
    if g.endCause ≠ none ∧ g.done + 1 + g.failed = g.issued
    then e.segments = Store.erase s.segments (r.seg.getD 0) ∧ closed = [.segmentClosed (r.seg.getD 0) { g with done := g.done + 1 }]
    else e.segments = Store.insert s.segments (r.seg.getD 0) { g with done := g.done + 1 } ∧ closed = []
  frame : e.butUnitDone = s.butUnitDone

theorem State.doneReady (s : State) (l i : Nat) (r : InFlight) :
    ∃ paid closed, s.DoneReady ((s.answering l i).unitDone l r) l i r paid closed := by
  obtain ⟨paid, hpaid, hpayments, hfrom⟩ := s.pays_settleSlots r.slots
  have hplaced : (s.answering l i).placedParcel l r = s.placedParcel l r := rfl
  have hstart : (s.answering l i).enqueue (s.placedParcel l r) = s.relaned (s.answering l i).lanes (s.returns ++ [s.placedParcel l r]) := rfl
  have hsettled : ((s.answering l i).enqueue ((s.answering l i).placedParcel l r)).settleSlots r.slots
      = (s.settleSlots r.slots).relaned (s.answering l i).lanes (s.returns ++ [s.placedParcel l r] ++ paid) := by
    rw [hplaced, hstart]
    exact hfrom _ _
  have hlane := State.answering_lane (s := s) l i
  have howner : (s.answering l i).streamOf (r.seg.getD 0) = s.streamOf (r.seg.getD 0) := rfl
  have hu := s.settleSlots_frame r.slots
  unfold State.unitDone
  rw [hsettled, howner]
  generalize hsettle : s.settleSlots r.slots = u at *
  generalize hb : u.relaned (s.answering l i).lanes (s.returns ++ [s.placedParcel l r] ++ paid) = b
  obtain ⟨closed, hclosed, hclosings⟩ := b.doneCounted_returns (r.seg.getD 0)
  have hcframe := b.doneCounted_frame (r.seg.getD 0)
  have hsegments := fun g => State.doneCounted_some (s := b) (id := r.seg.getD 0) (g := g)
  generalize b.doneCounted (r.seg.getD 0) = c at *
  have hdframe := State.unitLanded_frame (s := c) (s.streamOf (r.seg.getD 0))
  have hdstream := State.unitLanded_stream (s := c) (s.streamOf (r.seg.getD 0))
  generalize c.unitLanded (s.streamOf (r.seg.getD 0)) = d at *
  have hdlane : ∀ j, d.lane j = (s.answering l i).lane j := fun j =>
    (agree (π := (State.lane · j)) hdframe).trans ((agree (π := (State.lane · j)) hcframe).trans (hb ▸ rfl))
  have helane := d.lane_updLane l fun x => { x with done := x.done + 1 }
  have hframe : d.butUnitDone = s.butUnitDone :=
    (agree (π := State.butUnitDone) hdframe).trans ((agree (π := State.butUnitDone) hcframe).trans
      (hb ▸ show u.butUnitDone = s.butUnitDone from agree (π := State.butUnitDone) hu))
  have hdsegments : d.segments = c.segments := agree (π := State.segments) hdframe
  have hdreturns : d.returns = c.returns := agree (π := State.returns) hdframe
  have hbsegments : b.segments = s.segments := hb ▸ show u.segments = s.segments from agree (π := State.segments) hu
  have hbreturns : b.returns = s.returns ++ [s.placedParcel l r] ++ paid := hb ▸ rfl
  refine ⟨paid, closed, {
    lane := ?lane, lanes := fun j hj => ?lanes, returns := ?returns, settled := hpaid, payments := hpayments, closings := hclosings
    tables := ?tables, streams := fun j => ?streams, segments := fun g hg => ?segments, frame := hframe }⟩
  case lane => rw [helane, if_pos rfl, hdlane, hlane, if_pos rfl]
  case lanes => rw [helane, if_neg hj, hdlane, hlane, if_neg hj]
  case returns =>
    refine hdreturns.trans (hclosed.trans ?_)
    rw [hbreturns, List.append_assoc, List.append_assoc]
    rfl
  case tables =>
    have hbu : b.slots = u.slots ∧ b.durables = u.durables ∧ b.flushes = u.flushes ∧ b.index = u.index ∧ b.tenants = u.tenants :=
      hb ▸ ⟨rfl, rfl, rfl, rfl, rfl⟩
    obtain ⟨hslots, hdurables, hflushes, hindex, htenants⟩ := hbu
    rw [hsettle]
    exact ⟨(agree (π := State.slots) hdframe).trans ((agree (π := State.slots) hcframe).trans hslots),
      (agree (π := State.durables) hdframe).trans ((agree (π := State.durables) hcframe).trans hdurables),
      (agree (π := State.flushes) hdframe).trans ((agree (π := State.flushes) hcframe).trans hflushes),
      (agree (π := State.index) hdframe).trans ((agree (π := State.index) hcframe).trans hindex),
      (agree (π := State.tenants) hdframe).trans ((agree (π := State.tenants) hcframe).trans htenants)⟩
  case streams =>
    have hcstream : c.stream j = s.stream j :=
      (agree (π := (State.stream · j)) hcframe).trans (hb ▸ show u.stream j = s.stream j from agree (π := (State.stream · j)) hu)
    refine (hdstream j).trans ?_
    rw [hcstream]
  case segments =>
    have hc := hsegments g (hbsegments ▸ hg)
    by_cases hdue : g.endCause ≠ none ∧ g.done + 1 + g.failed = g.issued
    · rw [if_pos hdue] at hc ⊢
      refine ⟨hdsegments.trans ((congrArg State.segments hc).trans ?_), List.append_cancel_left (hclosed.symm.trans (congrArg State.returns hc))⟩
      rw [← hbsegments]
    · rw [if_neg hdue] at hc ⊢
      refine ⟨hdsegments.trans ((congrArg State.segments hc).trans ?_),
        List.append_cancel_left (hclosed.symm.trans ((congrArg State.returns hc).trans (List.append_nil _).symm))⟩
      rw [← hbsegments]
      rfl

theorem State.live_of_takeable {l : Nat} {w : Waiting} (h : s.takeable l = some w) : s.live = true := by
  unfold State.takeable at h
  split at h
  · cases h
  · split at h
    · rename_i hcond
      simp only [Bool.and_eq_true] at hcond
      exact hcond.1.1
    · cases h

theorem State.part_of_live (h : s.live = true) : s.part = .run ∨ s.part = .dumping := by
  unfold State.live at h
  cases hpart : s.part
  · exact .inl rfl
  · exact .inr rfl
  · rw [hpart] at h
    simp at h

/-- A taken ANSWER with DONE that matches a NORMAL record (R117, R120). -/
theorem State.takeAnswer_done {l i : Nat} {w : Waiting} {r : InFlight} (htake : s.takeable l = some w) (hanswer : isAnswer w.head = true)
    (houtcome : answerOutcome w.head = .done) (hmatch : (s.lane l).matching w.head = some i) (hr : (s.lane l).inflight[i]? = some r)
    (hkind : r.kind = .normal) : s.takeAnswer l = ((s.answering l i).normalDone l r).dumpCheck := by
  have hinflight : ((s.popWaiting l).lane l).inflight = (s.lane l).inflight := by
    rw [State.popWaiting, State.lane_updLane, if_pos rfl]
  have hmatching : ((s.popWaiting l).lane l).matching w.head = some i := by rw [Lane.matching, hinflight]; exact hmatch
  rw [State.takeAnswer_of_takeable htake hanswer, State.answerTaken, houtcome]
  simp only [hmatching, hinflight, hr]
  rw [State.answerMatched, State.recordDone, hkind]
  rfl

end

/-- The state outside what a DONE for a NORMAL record may change. -/
def State.butDone (s : State) : State := { s.butUnitDone with dump := {}, credits := 0, creditTimer := none }

/-- Settles O37: the acts of R120 to R123 one after another, and the conditions of R162, which do not end the dump. -/
theorem donePlacesAndFreesTheUnit : Obligations.DonePlacesAndFreesTheUnit := by
  unfold Obligations.DonePlacesAndFreesTheUnit
  intro s lane l i w r hl htake hheadKind hbody hcode hr hblock hunit hbefore hkind hgoes
  obtain ⟨paid, closed, hready⟩ := s.doneReady l i r
  have htaken : exec (.answer lane) s = .next ((s.answering l i).unitDone l r).evalCredit.dumpCheck := by
    have houtcome : answerOutcome w.head = .done := if_pos hcode
    have hresult := State.takeAnswer_done htake ((isAnswer_iff w.head).2 ⟨hheadKind, hbody⟩) houtcome
      (Lane.matching_eq_some hr hblock hunit hbefore) hr hkind
    rw [State.normalDone_eq] at hresult
    subst hl
    exact exec_eq_next_iff.2 hresult
  generalize (s.answering l i).unitDone l r = e at *
  have hlive := State.part_of_live (State.live_of_takeable htake)
  have hepart : e.part = s.part := agree (π := State.part) hready.frame
  have heval := e.evalCredit_frame
  have hcredit : s.part = .run → s.creditsFollow e.evalCredit ∧ e.evalCredit.returns = e.returns ++ s.creditParcels e.evalCredit :=
    fun hrun => by
      obtain ⟨hfollows, hreturns, -⟩ := State.evalCredit_follows (s := s) (u := e) (hepart.trans hrun)
        (agree (π := State.credits) hready.frame) (agree (π := State.creditTimer) hready.frame) (agree (π := State.now) hready.frame)
        (agree (π := State.params) hready.frame)
      exact ⟨hfollows, hreturns⟩
  have hnoCredit : s.part = .dumping → e.evalCredit = e := fun hdumping => by
    rw [State.evalCredit, hepart, hdumping]
    rfl
  have hflight : ∀ trailer, e.evalCredit.dumpInFlight trailer = s.dumpInFlight trailer := fun trailer => by
    have hlane : ∀ j, (e.evalCredit.lane j).hasDump trailer = (s.lane j).hasDump trailer := fun j => by
      rw [show e.evalCredit.lane j = e.lane j from agree (π := (State.lane · j)) heval]
      by_cases hj : j = l
      · subst hj
        rw [hready.lane]
        exact any_eraseIdx hr (by rw [hkind]; rfl)
      · rw [hready.lanes j hj]
    simp only [State.dumpInFlight, hlane]
  have hfpart : e.evalCredit.part = s.part := (agree (π := State.part) heval).trans hepart
  have hfdump : e.evalCredit.dump = s.dump := (agree (π := State.dump) heval).trans (agree (π := State.dump) hready.frame)
  obtain ⟨hphase, hsettled⟩ := State.dumpCheck_goesOn (s := e.evalCredit) fun hdumping => by
    rw [hfdump, hflight]
    exact hgoes (hfpart ▸ hdumping)
  have hstays : s.part = .run → e.evalCredit.dumpCheck = e.evalCredit := fun hrun => if_neg (by rw [hfpart, hrun]; decide)
  generalize e.evalCredit = f at *
  generalize f.dumpCheck = t at *
  have hkept : ∀ {α : Type} (π : State → α) (_ : ∀ u phase, π { u with dump := { u.dump with phase := phase } } = π u), π t = π f :=
    fun π hπ => (congrArg π hphase).trans (hπ f t.dump.phase)
  have hlane : ∀ j, t.lane j = e.lane j := fun j => (hkept (State.lane · j) fun _ _ => rfl).trans (agree (π := (State.lane · j)) heval)
  have hstream : ∀ j, t.stream j = e.stream j := fun j =>
    (hkept (State.stream · j) fun _ _ => rfl).trans (agree (π := (State.stream · j)) heval)
  have hsegments : t.segments = e.segments := (hkept State.segments fun _ _ => rfl).trans (agree (π := State.segments) heval)
  have hslots : t.slots = (s.settleSlots r.slots).slots :=
    (hkept State.slots fun _ _ => rfl).trans ((agree (π := State.slots) heval).trans hready.tables.1)
  have hslot : ∀ k, t.slot k = if k ∈ r.slots then { s.slot k with state := .free, durable := none, mark := false } else s.slot k :=
    fun k => by
      rw [State.slot, hslots]
      exact s.settleSlots_slot r.slots k
  have hframe : t.butDone = s.butDone :=
    (hkept State.butDone fun _ _ => rfl).trans ((agree (π := State.butDone) heval).trans (agree (π := State.butDone) hready.frame))
  refine ⟨t, paid, closed, htaken, ?lane, fun j hj => ?lanes, ?returns, fun u hu => ?settled, hready.payments, hready.closings,
    fun hrun => ?run, fun hdumping => ?dumping, fun id g k hseg hfind hstreamk => ?law, fun k hk => ?freed, fun k hk => ?unfreed,
    fun k => ?streams, ?staging, ?ranges, ?sequence, ?params, ?starved, ?next, ?links⟩
  case lane => rw [hlane, hready.lane]
  case lanes => rw [hlane, hready.lanes j hj]
  case returns =>
    refine (hkept State.returns fun _ _ => rfl).trans ?_
    rcases hlive with hrun | hdumping
    · rw [if_pos hrun, (hcredit hrun).2, hready.returns, hstays hrun, List.append_assoc]
      rfl
    · rw [if_neg (by rw [hdumping]; decide), List.append_nil, hnoCredit hdumping, hready.returns]
      rfl
  case settled =>
    obtain ⟨hs, hd, hf, hi, ht⟩ := hready.tables
    subst hu
    exact ⟨hready.settled, hslots,
      (hkept State.durables fun _ _ => rfl).trans ((agree (π := State.durables) heval).trans hd),
      (hkept State.flushes fun _ _ => rfl).trans ((agree (π := State.flushes) heval).trans hf),
      (hkept State.index fun _ _ => rfl).trans ((agree (π := State.index) heval).trans hi),
      (hkept State.tenants fun _ _ => rfl).trans ((agree (π := State.tenants) heval).trans ht)⟩
  case run =>
    rw [hstays hrun]
    exact ⟨(hcredit hrun).1, hfpart.trans hrun, hfdump⟩
  case dumping =>
    have hef := hnoCredit hdumping
    refine ⟨?_, ?_, ?_, ?_⟩
    · rw [hkept State.credits fun _ _ => rfl, hef]
      exact agree (π := State.credits) hready.frame
    · rw [hkept State.creditTimer fun _ _ => rfl, hef]
      exact agree (π := State.creditTimer) hready.frame
    · refine (congrArg State.dump hphase).trans ?_
      rw [hfdump]
    · rw [← hfdump]
      exact hsettled (hfpart.trans hdumping)
  case law =>
    have hid : r.seg.getD 0 = id := by rw [hseg]; rfl
    have howner : s.streamOf (r.seg.getD 0) = some k := by rw [hid, State.streamOf, hfind, ← hstreamk]; rfl
    have hsegment := hready.segments g (hid.symm ▸ hfind)
    refine ⟨?_, fun j hj => ?_, ?_, fun j hj => ?_⟩
    · rw [hstream, hready.streams, if_pos howner]
      rfl
    · rw [hstream, hready.streams, if_neg fun h => hj (Option.some.inj (howner.symm.trans h)).symm]
    · rw [hsegments]
      rw [hid] at hsegment
      split at hsegment
      · rename_i hdue
        rw [if_pos hdue, hsegment.1, hsegment.2]
        exact ⟨Store.find?_erase_self .., rfl⟩
      · rename_i hdue
        rw [if_neg hdue, hsegment.1, hsegment.2]
        exact ⟨Store.find?_insert_self .., rfl⟩
    · rw [hsegments]
      rw [hid] at hsegment
      split at hsegment <;> rw [hsegment.1]
      · exact Store.find?_erase_ne _ hj
      · exact Store.find?_insert_ne _ _ hj
  case freed => rw [hslot, if_pos hk]
  case unfreed => rw [hslot, if_neg hk]
  case streams =>
    rw [hstream, hready.streams]
    split <;> exact ⟨rfl, rfl, rfl⟩
  case staging => exact agree (π := State.staging) hframe
  case ranges => exact agree (π := State.ranges) hframe
  case sequence => exact agree (π := State.sequence) hframe
  case params => exact agree (π := State.params) hframe
  case starved => exact agree (π := State.starved) hframe
  case next => exact agree (π := State.nextSegment) hframe
  case links => exact agree (π := State.laneLinks) hframe

end Sys2Proof.Machine
end

section
/-! The dump engine: its grants, PFAIL (R151, R152, R154, R155), and the sending of data units and the trailer (R156, R157, R162). -/

namespace Sys2Proof.Machine

open Sys2Proof

/-! ## Taking a dump grant (R155) -/

/-- A dump grant as taken from the store of lane `j`. -/
def Grant.takenFrom (j : Nat) (g : Grant) : TakenGrant := { lane := j, block := g.block, capacity := g.capacity }

/-- The front of the store of lane `j` has gone to the tail of the taken grants. -/
def State.grantTaken (s : State) (j : Nat) (g : Grant) (rest : List Grant) : State :=
  { s.setLane j { s.lane j with dump := rest } with dump := { s.dump with taken := s.dump.taken ++ [g.takenFrom j] } }

section

variable {s : State} {l : Nat}

theorem State.takeGrant_cases (s : State) (l : Nat) :
    (s.takeGrant l = s ∧ ∀ j, l ≤ j → j < 8 → (s.lane j).up = true → (s.lane j).dump = [])
      ∨ ∃ j g rest, l ≤ j ∧ j < 8 ∧ (s.lane j).up = true ∧ (s.lane j).dump = g :: rest
        ∧ (∀ h, l ≤ h → h < j → (s.lane h).up = true → (s.lane h).dump = []) ∧ s.takeGrant l = s.grantTaken j g rest := by
  have hempty : ∀ h, ((s.lane h).up && !(s.lane h).dump.isEmpty) = false → (s.lane h).up = true → (s.lane h).dump = [] := fun h hno hup => by
    simpa [hup] using hno
  unfold State.takeGrant
  cases hfirst : firstFrom (fun j => (s.lane j).up && !(s.lane j).dump.isEmpty) (Config.lanes - l) l with
  | none =>
    refine .inl ⟨rfl, fun j hl hj hup => hempty j ?_ hup⟩
    exact firstFrom_eq_none.1 hfirst j hl (by simp [Config.lanes]; omega)
  | some j =>
    obtain ⟨hl, hj, hsome, hbefore⟩ := firstFrom_eq_some.1 hfirst
    simp only [Bool.and_eq_true, Bool.not_eq_true', List.isEmpty_eq_false_iff] at hsome
    obtain ⟨g, rest, hdump⟩ := List.exists_cons_of_ne_nil hsome.2
    refine .inr ⟨j, g, rest, hl, by simp [Config.lanes] at hj; omega, hsome.1, hdump,
      fun h hlh hhj => hempty h (hbefore h hlh hhj), ?_⟩
    simp only [hdump]
    rfl

theorem State.takeGrant_of_first {j : Nat} {g : Grant} {rest : List Grant} (hl : l ≤ j) (hj : j < 8) (hup : (s.lane j).up = true)
    (hdump : (s.lane j).dump = g :: rest) (hbefore : ∀ h, l ≤ h → h < j → (s.lane h).up = true → (s.lane h).dump = []) :
    s.takeGrant l = s.grantTaken j g rest := by
  rcases s.takeGrant_cases l with ⟨-, hnone⟩ | ⟨j', g', rest', hl', hj', hup', hdump', hbefore', htake⟩
  · rw [hnone j hl hj hup] at hdump
    cases hdump
  · rcases Nat.lt_trichotomy j j' with hlt | rfl | hlt
    · rw [hbefore' j hl hlt hup] at hdump
      cases hdump
    · rw [hdump] at hdump'
      cases hdump'
      exact htake
    · rw [hbefore j' hl' hlt hup'] at hdump'
      cases hdump'

theorem State.grantTaken_lane (j : Nat) (g : Grant) (rest : List Grant) (i : Nat) :
    (s.grantTaken j g rest).lane i = if i = j then { s.lane j with dump := rest } else s.lane i :=
  s.lane_setLane j { s.lane j with dump := rest } i

theorem State.takeGrant_lane (s : State) (l i : Nat) :
    (s.takeGrant l).lane i = { s.lane i with dump := ((s.takeGrant l).lane i).dump } := by
  rcases s.takeGrant_cases l with ⟨htake, -⟩ | ⟨j, g, rest, -, -, -, -, -, htake⟩ <;> rw [htake]
  rw [State.grantTaken_lane]
  split
  · rename_i hi
    rw [hi]
  · rfl

theorem State.takeGrant_dump (s : State) (l : Nat) : (s.takeGrant l).dump = { s.dump with taken := (s.takeGrant l).dump.taken } := by
  rcases s.takeGrant_cases l with ⟨htake, -⟩ | ⟨j, g, rest, -, -, -, -, -, htake⟩ <;> rw [htake]
  rfl

theorem State.takeGrant_taken (s : State) (l : Nat) : ∃ more, (s.takeGrant l).dump.taken = s.dump.taken ++ more := by
  rcases s.takeGrant_cases l with ⟨htake, -⟩ | ⟨j, g, rest, -, -, -, -, -, htake⟩ <;> rw [htake]
  · exact ⟨[], (List.append_nil _).symm⟩
  · exact ⟨_, rfl⟩

theorem State.takeGrant_canon (s : State) (l : Nat) (h : Store.canon {} s.lanes = true) : Store.canon {} (s.takeGrant l).lanes = true := by
  rcases s.takeGrant_cases l with ⟨htake, -⟩ | ⟨j, g, rest, -, -, -, -, -, htake⟩ <;> rw [htake]
  · exact h
  · exact Store.canon_setD h j _

theorem State.takeGrant_inFlight (s : State) (l : Nat) (trailer : Bool) : (s.takeGrant l).dumpInFlight trailer = s.dumpInFlight trailer := by
  have hlane : ∀ j, ((s.takeGrant l).lane j).hasDump trailer = (s.lane j).hasDump trailer := fun j => by
    rw [State.takeGrant_lane]
    rfl
  simp only [State.dumpInFlight, hlane]

/-! ## The end of an event in DUMPING -/

theorem State.dumpCheck_lane (hs : Store.sorted s.lanes = true) (j : Nat) :
    s.dumpCheck.lane j = { s.lane j with waiting := (s.dumpCheck.lane j).waiting } := by
  have hended : ∀ result, (s.enterDumped result).lane j = { s.lane j with waiting := [] } := fun result =>
    Store.getD_mapD (d := ({} : Lane)) hs (fun x => { x with waiting := [] }) rfl j
  unfold State.dumpCheck
  split
  · split
    · split
      · rfl
      · rw [hended]
    · split <;> rfl
  · rfl

theorem State.dumpCheck_dump (s : State) : s.dumpCheck.dump = { s.dump with phase := s.dumpCheck.dump.phase } := by
  unfold State.dumpCheck
  split
  · split
    · split <;> rfl
    · split <;> rfl
  · rfl

theorem sorted_of_canon {α : Type} [DecidableEq α] {d : α} {m : Store α} (h : Store.canon d m = true) : Store.sorted m = true :=
  ((Store.canon_iff d m).1 h).1

end

/-! ## PFAIL (R151, R152, R154) -/

section

variable {s : State}

/-- The level of PFAIL is set. -/
def State.pfailAt (s : State) (level : Bool) : State := { s with lines := { s.lines with pfail := level } }

/-- The entry to DUMPING before the first grant is taken (R152, R154). -/
def State.dumpBegun (s : State) : State := (s.freeSlotList s.parser.landedSlots).beginDump

theorem State.dumpBegun_lanes : s.dumpBegun.lanes = s.lanes :=
  show (s.freeSlotList s.parser.landedSlots).lanes = s.lanes from agree (π := State.lanes) (s.freeSlotList_frame s.parser.landedSlots)

theorem State.dumpBegun_lane (j : Nat) : s.dumpBegun.lane j = s.lane j := by rw [State.lane, State.dumpBegun_lanes]; rfl

theorem State.dumpBegun_dump : s.dumpBegun.dump
    = { s.dump with phase := .filling, remaining := s.dumpCapacity, generation := s.params.dumpGeneration } := by
  have hframe := s.freeSlotList_frame s.parser.landedSlots
  have hdump : (s.freeSlotList s.parser.landedSlots).dump = s.dump := agree (π := State.dump) hframe
  have hparams : (s.freeSlotList s.parser.landedSlots).params = s.params := agree (π := State.params) hframe
  have hcapacity : (s.freeSlotList s.parser.landedSlots).dumpCapacity = s.dumpCapacity := agree (π := State.dumpCapacity) hframe
  unfold State.dumpBegun State.beginDump
  rw [hdump, hparams, hcapacity]

theorem State.dumpBegun_slot (k : Nat) : s.dumpBegun.slot k
    = if k ∈ s.parser.landedSlots then { s.slot k with state := .free, durable := none, mark := false } else s.slot k :=
  s.freeSlotList_slot s.parser.landedSlots k

theorem State.dumpBegun_dumpres : s.dumpBegun.dumpres = s.dumpres :=
  show (s.freeSlotList s.parser.landedSlots).dumpres = s.dumpres from
    agree (π := State.dumpres) (s.freeSlotList_frame s.parser.landedSlots)

theorem State.enterDumping_eq (s : State) : s.enterDumping = (s.dumpBegun.takeGrant 0).dumpCheck := rfl

end

/-- Settles O43: the entry takes the first grant, and R162 and R163 are met. -/
theorem pfailEntersDumpingOrSetsLevel : Obligations.PfailEntersDumpingOrSetsLevel := by
  unfold Obligations.PfailEntersDumpingOrSetsLevel
  refine ⟨fun s c hrun hlevel hcanon hnormal hc => ?enters, fun s level hno => ?level⟩
  case level =>
    refine exec_eq_next_iff.2 (if_neg ?_)
    rcases hno with h | h | h <;> simp [h]
  case enters =>
    have hexec : exec (.pfail true) s = .next (s.pfailAt true).enterDumping :=
      exec_eq_next_iff.2 (if_pos (by rw [hlevel, hrun]; rfl))
    generalize hp : s.pfailAt true = p at *
    have hpdump : p.dump = s.dump := by rw [← hp]; rfl
    have hpparams : p.params = s.params := by rw [← hp]; rfl
    have hcapacity : p.dumpCapacity = c := by rw [hc, ← hp]; rfl
    have hplane : ∀ j, p.lane j = s.lane j := fun j => by rw [← hp]; rfl
    have hpcanon : Store.canon {} p.lanes = true := by rw [← hp]; exact hcanon
    have hpslot : ∀ k, p.slot k = s.slot k := fun k => by rw [← hp]; rfl
    have hpparser : p.parser = s.parser := by rw [← hp]; rfl
    have hframe := p.enterDumping_frame
    rw [State.enterDumping_eq] at hexec hframe
    have hbcanon : Store.canon {} p.dumpBegun.lanes = true := by
      rw [State.dumpBegun_lanes]
      exact hpcanon
    generalize hb : p.dumpBegun = b at *
    have hblane : ∀ j, b.lane j = s.lane j := fun j => by rw [← hb, State.dumpBegun_lane, hplane]
    have hbdump : b.dump = { s.dump with phase := .filling, remaining := c, generation := s.params.dumpGeneration } := by
      rw [← hb, State.dumpBegun_dump, hcapacity, hpdump, hpparams]
    have hbpart : b.part = .dumping ∧ b.parser = .awaiting ∧ b.decayTimer = none ∧ b.lingerClock = none ∧ b.creditTimer = none := by
      rw [← hb]
      exact ⟨rfl, rfl, rfl, rfl, rfl⟩
    have hbslot : ∀ k, b.slot k = if k ∈ s.parser.landedSlots then { s.slot k with state := .free, durable := none, mark := false }
        else s.slot k := fun k => by rw [← hb, State.dumpBegun_slot, hpslot, hpparser]
    have htframe := b.takeGrant_frame 0
    have htlane := b.takeGrant_lane 0
    have htdump := b.takeGrant_dump 0
    have htcanon := b.takeGrant_canon 0 hbcanon
    have hflight := b.takeGrant_inFlight 0 true
    have hfirst := fun j d rest => b.takeGrant_of_first (l := 0) (j := j) (g := d) (rest := rest) (Nat.zero_le j)
    generalize b.takeGrant 0 = g at *
    have hgpart : g.part = .dumping := (agree (π := State.part) htframe).trans hbpart.1
    have hgphase : g.dump.phase = .filling := by rw [htdump, hbdump]
    have hgremaining : g.dump.remaining = c := by rw [htdump, hbdump]
    have hnoTrailer : g.dumpInFlight true = false := by
      rw [hflight, ← Bool.not_eq_true, State.dumpInFlight, List.any_eq_true]
      rintro ⟨l, hl, hany⟩
      obtain ⟨q, hq, hkind⟩ := List.any_eq_true.1 hany
      rw [hblane] at hq
      rw [hnormal l q (List.mem_range.1 hl) hq] at hkind
      cases hkind
    have hsettled := hgphase ▸ State.dumpCheck_settled hgpart (sorted_of_canon htcanon)
    have hzlane := g.dumpCheck_lane (sorted_of_canon htcanon)
    have hzdump := g.dumpCheck_dump
    have hzframe := g.dumpCheck_frame
    have hgoes := g.dumpCheck_goesOn
    have hended : c = 0 → g.dumpCheck.dumpInFlight true = false := fun hzero => by
      rw [State.dumpCheck, if_pos hgpart, if_pos (hgremaining.trans hzero), hnoTrailer]
      exact (State.enterDumped_dumpInFlight (sorted_of_canon htcanon) .failed true).trans hnoTrailer
    generalize g.dumpCheck = t at *
    have hslot : ∀ k, t.slot k = b.slot k := fun k =>
      (agree (π := (State.slot · k)) hzframe).trans (agree (π := (State.slot · k)) htframe)
    have hremaining : t.dump.remaining = c := by rw [hzdump]; exact hgremaining
    refine ⟨t, hexec, ?lines, ?parser, ?decay, ?linger, ?credit, ?returns, fun k hk => ?freed, fun k hk => ?unfreed, hremaining, ?generation,
      hsettled, fun hzero => hsettled.1 (hremaining.trans hzero) (hended hzero), fun hpos => ?dumping, fun l => ?lanes, ?frame⟩
    case lines => exact (agree (π := State.lines) hframe).trans (by rw [← hp]; rfl)
    case parser => exact (agree (π := State.parser) hzframe).trans ((agree (π := State.parser) htframe).trans hbpart.2.1)
    case decay => exact (agree (π := State.decayTimer) hzframe).trans ((agree (π := State.decayTimer) htframe).trans hbpart.2.2.1)
    case linger => exact (agree (π := State.lingerClock) hzframe).trans ((agree (π := State.lingerClock) htframe).trans hbpart.2.2.2.1)
    case credit => exact (agree (π := State.creditTimer) hzframe).trans ((agree (π := State.creditTimer) htframe).trans hbpart.2.2.2.2)
    case returns => exact (agree (π := State.returns) hframe).trans (by rw [← hp]; rfl)
    case freed => rw [hslot, hbslot, if_pos hk]
    case unfreed => rw [hslot, hbslot, if_neg hk]
    case generation => rw [hzdump, htdump, hbdump]
    case dumping =>
      have hgoesOn := (hgoes fun _ => .inl (by omega)).1
      have hpart : t.part = .dumping := ((congrArg State.part hgoesOn).trans rfl).trans hgpart
      refine ⟨hpart, by rw [State.dumpact, hpart]; rfl, ?_, fun l d ds hl hup hdump hbefore => ?_⟩
      · refine ((congrArg State.dumpres hgoesOn).trans rfl).trans ((agree (π := State.dumpres) htframe).trans ?_)
        rw [← hb, State.dumpBegun_dumpres, ← hp]
        rfl
      · have hg := hfirst l d ds hl (hblane l ▸ hup) (hblane l ▸ hdump) fun h _ hlt hhup => hblane h ▸ hbefore h hlt (hblane h ▸ hhup)
        refine ⟨?_, ?_⟩
        · rw [hzdump, hg]
          show b.dump.taken ++ _ = _
          rw [hbdump]
          rfl
        · rw [hzlane, hg, State.grantTaken_lane, if_pos rfl]
    case lanes =>
      rw [hzlane, htlane, hblane]
      exact ⟨rfl, rfl, rfl, rfl⟩
    case frame =>
      subst hp
      exact ⟨(agree (π := State.staging) hframe :),
        (agree (π := State.streams) hframe :),
        (agree (π := State.segments) hframe :),
        (agree (π := State.starved) hframe :),
        (agree (π := State.ranges) hframe :),
        (agree (π := State.credits) hframe :),
        (agree (π := State.sequence) hframe :),
        (agree (π := State.durables) hframe :),
        (agree (π := State.flushes) hframe :),
        (agree (π := State.params) hframe :)⟩

end Sys2Proof.Machine
end

section
/-! The sending of data units and of the trailer in DUMPING (R112, R155 to R157, R162). -/

namespace Sys2Proof.Machine

open Sys2Proof

/-! ## A DUMP unit goes on its lane -/

/-- The current grant with one more position assigned. -/
def TakenGrant.more (g : TakenGrant) : TakenGrant := { g with assigned := g.assigned + 1 }

theorem assignPosition_append (taken : List TakenGrant) (g : TakenGrant) : assignPosition (taken ++ [g]) = taken ++ [g.more] := by
  unfold assignPosition
  simp only [List.getLast?_append, List.getLast?_singleton, Option.some_or, List.dropLast_concat]
  rfl

/-- The record of a DUMP unit (R101). -/
def State.dumpRecord (s : State) (g : TakenGrant) (slots : List Nat) (fillers : Nat) (trailer : Bool) : InFlight where
  kind := .dump
  seg := none
  block := g.block
  unit := g.assigned
  slots := slots
  fillers := fillers
  trailer := trailer
  expiry := s.now + 1000 * s.params.programTimeout

/-- The record and the PROGRAM parcel are on the lane, before the next grant is taken (R112, R157). -/
def State.dumpSent (s : State) (g : TakenGrant) (slots : List Nat) (fillers : Nat) (trailer : Bool) (sectors : List (List Byte)) : State :=
  (s.setLane g.lane ((s.lane g.lane).carrying (s.dumpRecord g slots fillers trailer))).sendLane g.lane
    (.parcel (programBytes .dump g.block g.assigned fillers sectors))

theorem State.sendDump_eq (s : State) (g : TakenGrant) (slots : List Nat) (fillers : Nat) (trailer : Bool) (sectors : List (List Byte)) :
    s.sendDump g slots fillers trailer sectors = (s.dumpSent g slots fillers trailer sectors).nextGrantIfUsed := rfl

section

variable {s : State} {taken : List TakenGrant} {g : TakenGrant} {slots : List Nat} {fillers : Nat} {trailer : Bool}
  {sectors : List (List Byte)}

/-- What the sending of a DUMP unit leaves. -/
structure State.SendsDump (s t : State) (taken : List TakenGrant) (g : TakenGrant) (slots : List Nat) (fillers : Nat) (trailer : Bool)
    (sectors : List (List Byte)) : Prop where
  inflight : (t.lane g.lane).inflight = (s.lane g.lane).inflight ++ [s.dumpRecord g slots fillers trailer]
  unitsIssued : (t.lane g.lane).unitsIssued = (s.lane g.lane).unitsIssued + 1
  laneLink : t.laneLink g.lane = s.laneLink g.lane ++ [.parcel (programBytes .dump g.block g.assigned fillers sectors)]
  others : ∀ j, j ≠ g.lane → (t.lane j).inflight = (s.lane j).inflight ∧ t.laneLink j = s.laneLink j
  dump : t.dump = { s.dump with taken := t.dump.taken }
  takes : ∃ more, t.dump.taken = taken ++ g.more :: more
  stays : g.assigned + 1 < g.capacity → t.dump.taken = taken ++ [g.more] ∧ ∀ j, (t.lane j).dump = (s.lane j).dump
  next : g.capacity ≤ g.assigned + 1 → s.takesNext t g.lane
  frame : t.butSendDump = s.butSendDump

theorem State.dumpSent_lane (j : Nat) : (s.dumpSent g slots fillers trailer sectors).lane j
    = if j = g.lane then (s.lane g.lane).carrying (s.dumpRecord g slots fillers trailer) else s.lane j := by
  rw [State.dumpSent, State.sendLane_lane]
  exact s.lane_setLane _ _ j

theorem State.dumpSent_laneLink (j : Nat) : (s.dumpSent g slots fillers trailer sectors).laneLink j
    = if j = g.lane then s.laneLink g.lane ++ [.parcel (programBytes .dump g.block g.assigned fillers sectors)] else s.laneLink j := by
  rw [State.dumpSent, State.laneLink_sendLane]
  rfl

theorem State.takesNext_congr {v t : State} {l : Nat} (hlanes : ∀ j, (v.lane j).up = (s.lane j).up ∧ (v.lane j).dump = (s.lane j).dump)
    (htaken : v.dump.taken.length = s.dump.taken.length) (h : v.takesNext t l) : s.takesNext t l := by
  unfold State.takesNext at *
  simpa only [hlanes, htaken] using h

theorem State.sendsDump (htaken : s.dump.taken = taken ++ [g.more]) :
    s.SendsDump (s.sendDump g slots fillers trailer sectors) taken g slots fillers trailer sectors := by
  have hlane := State.dumpSent_lane (s := s) (g := g) (slots := slots) (fillers := fillers) (trailer := trailer) (sectors := sectors)
  have hlink := State.dumpSent_laneLink (s := s) (g := g) (slots := slots) (fillers := fillers) (trailer := trailer) (sectors := sectors)
  have hdump : (s.dumpSent g slots fillers trailer sectors).dump = s.dump := rfl
  have hlinks : (s.dumpSent g slots fillers trailer sectors).butSendDump = s.butSendDump := rfl
  rw [State.sendDump_eq]
  generalize s.dumpSent g slots fillers trailer sectors = v at *
  have hcurrent : v.dump.current = some g.more := by
    rw [hdump, Dump.current, htaken, List.getLast?_append, List.getLast?_singleton]
    rfl
  have hstores : ∀ j, (v.lane j).up = (s.lane j).up ∧ (v.lane j).dump = (s.lane j).dump := fun j => by
    rw [hlane]
    split
    · rename_i hj
      subst hj
      exact ⟨rfl, rfl⟩
    · exact ⟨rfl, rfl⟩
  have hnext : v.nextGrantIfUsed = if g.capacity ≤ g.assigned + 1 then v.takeGrant g.lane else v := by
    rw [State.nextGrantIfUsed, hcurrent]
    exact if_congr (by rw [TakenGrant.used, decide_eq_true_iff]; rfl) rfl rfl
  have hkept : ∀ j, v.nextGrantIfUsed.lane j = { v.lane j with dump := (v.nextGrantIfUsed.lane j).dump } := fun j => by
    rw [hnext]
    split
    · exact v.takeGrant_lane g.lane j
    · rfl
  have hdump' : v.nextGrantIfUsed.dump = { v.dump with taken := v.nextGrantIfUsed.dump.taken } := by
    rw [hnext]
    split
    · exact v.takeGrant_dump g.lane
    · rfl
  have hmore : ∃ more, v.nextGrantIfUsed.dump.taken = v.dump.taken ++ more := by
    rw [hnext]
    split
    · exact v.takeGrant_taken g.lane
    · exact ⟨[], (List.append_nil _).symm⟩
  have hframe := v.nextGrantIfUsed_frame
  have hlinks' : ∀ j, v.nextGrantIfUsed.laneLink j = v.laneLink j := fun j => agree (π := (State.laneLink · j)) hframe
  refine {
    inflight := by rw [hkept, hlane, if_pos rfl]; rfl
    unitsIssued := by rw [hkept, hlane, if_pos rfl]; rfl
    laneLink := by rw [hlinks', hlink, if_pos rfl]
    others := fun j hj => ⟨by rw [hkept, hlane, if_neg hj], by rw [hlinks', hlink, if_neg hj]⟩
    dump := hdump'.trans (by rw [hdump])
    takes := ?_, stays := fun hless => ?_, next := fun hused => ?_
    frame := (agree (π := State.butSendDump) hframe).trans hlinks }
  · obtain ⟨more, hmore⟩ := hmore
    exact ⟨more, by rw [hmore, hdump, htaken, List.append_assoc]; rfl⟩
  · rw [hnext, if_neg (by omega)]
    exact ⟨(congrArg Dump.taken hdump).trans htaken, fun j => (hstores j).2⟩
  · rw [hnext, if_pos hused]
    exact State.takesNext_congr hstores (congrArg (fun d : Dump => d.taken.length) hdump) (v.takeGrant_takesNext g.lane)

end

/-! ## The slots of a data unit (R156) -/

section

variable {s : State}

/-- The in-use slots above the cursor, in ascending sequence. -/
def State.dumpAbove (s : State) : List Nat := s.mergeBySeq (s.slotsWhere s.dump.aboveCursor) []

/-- The slots of the next data unit. -/
def State.dumpUnitSlots (s : State) : List Nat := s.dumpSlots.1 ++ s.dumpSlots.2

theorem State.dumpSlots_fst : s.dumpSlots.1 = s.redoInUse.take 16 := rfl

theorem State.dumpSlots_snd : s.dumpSlots.2 = s.dumpAbove.take (16 - min 16 s.redoInUse.length) := by
  rw [← List.length_take]
  rfl

theorem State.dumpAbove_perm : s.dumpAbove.Perm (s.slotsWhere s.dump.aboveCursor) := s.mergeBySeq_perm _ []

theorem State.dumpAbove_sorted : (s.dumpAbove.map fun k => (s.slot k).seq).Pairwise (· ≤ ·) := s.mergeBySeq_sorted _ List.Pairwise.nil

theorem State.length_dumpUnitSlots : s.dumpUnitSlots.length = min 16 s.undumped := by
  rw [State.dumpUnitSlots, List.length_append, State.dumpSlots_fst, State.dumpSlots_snd, List.length_take, List.length_take,
    State.dumpAbove_perm.length_eq, State.undumped]
  omega

theorem State.dumpUnitSlots_drop : s.dumpUnitSlots.drop (min 16 s.redoInUse.length) = s.dumpSlots.2 := by
  rw [State.dumpUnitSlots, State.dumpSlots_fst, ← List.length_take]
  exact List.drop_left

theorem State.mem_dumpAbove (hsorted : Store.sorted s.slots = true) (k : Nat) :
    k ∈ s.dumpAbove ↔ s.dump.aboveCursor (s.slot k) = true :=
  State.dumpAbove_perm.mem_iff.trans (State.mem_slotsWhere hsorted rfl k)

theorem State.dumpSlots_above (hsorted : Store.sorted s.slots = true) {k : Nat} (hk : k ∈ s.dumpSlots.2) :
    s.dump.aboveCursor (s.slot k) = true := by
  rw [State.dumpSlots_snd] at hk
  exact (State.mem_dumpAbove hsorted k).1 (List.mem_of_mem_take hk)

theorem State.dumpSlots_sorted : (s.dumpSlots.2.map fun k => (s.slot k).seq).Pairwise (· ≤ ·) := by
  rw [State.dumpSlots_snd, List.map_take]
  exact State.dumpAbove_sorted.sublist (List.take_sublist _ _)

theorem State.dumpSlots_lowest (hsorted : Store.sorted s.slots = true) {j k : Nat} (hj : s.dump.aboveCursor (s.slot j) = true)
    (hnot : j ∉ s.dumpSlots.2) (hk : k ∈ s.dumpSlots.2) : (s.slot k).seq ≤ (s.slot j).seq := by
  have hmem := (State.mem_dumpAbove hsorted j).2 hj
  have horder := s.dumpAbove_sorted
  rw [State.dumpSlots_snd] at hnot hk
  rw [← List.take_append_drop (16 - min 16 s.redoInUse.length) s.dumpAbove] at hmem horder
  rw [List.map_append, List.pairwise_append] at horder
  exact horder.2.2 _ (List.mem_map_of_mem hk) _ (List.mem_map_of_mem ((List.mem_append.1 hmem).resolve_left hnot))

theorem State.dumpLaneReady_of_current {g : TakenGrant} (hcurrent : s.dump.current = some g) (hup : (s.lane g.lane).up = true)
    (hroom : (s.lane g.lane).inflight.length < (s.lane g.lane).window) : s.dumpLaneReady = true := by
  simpa [State.dumpLaneReady, hcurrent, hup, Lane.roomFor] using hroom

/-- The state with another account of the dump. -/
def State.withDump (s : State) (d : Dump) : State := { s with dump := d }

/-- The account after a data unit is composed (R156, R157). -/
def Dump.composed (d : Dump) (s : State) : Dump :=
  { d with
    redo := s.redoInUse.drop s.dumpSlots.1.length
    cursor := match s.dumpSlots.2.getLast? with
      | none => d.cursor
      | some k => some (s.slot k).seq
    taken := assignPosition d.taken
    remaining := d.remaining - 1 }

theorem State.dumpUnit_eq {g : TakenGrant} (hcurrent : s.dump.current = some g) : s.dumpUnit
    = (s.withDump (s.dump.composed s)).sendDump g s.dumpUnitSlots (16 - s.dumpUnitSlots.length) false
        (s.dumpUnitSlots.map s.sectorBytes) := by
  rw [State.dumpUnit, hcurrent]
  have hsectors : (s.withDump (s.dump.composed s)).sectorBytes = s.sectorBytes := rfl
  rw [← hsectors]
  rfl

/-- The trailer's content when the current grant is `g`, the last taken one (R162). -/
def State.sentTrailer (s : State) (taken : List TakenGrant) (g : TakenGrant) : Trailer where
  generation := s.dump.generation
  first := s.dump.first.getD 0
  last := s.dump.last.getD 0
  dumped := s.dump.sectors
  notDumped := s.undumped
  units := s.dump.units
  blocks := (taken ++ [g.more]).filter fun b => 1 ≤ b.assigned

/-- The account after the trailer is composed (R162). -/
def State.trailerAccount (s : State) (taken : List TakenGrant) (g : TakenGrant) : Dump :=
  { s.dump with taken := taken ++ [g.more], remaining := s.dump.remaining - 1, trailer := some (s.sentTrailer taken g) }

theorem current_append {taken : List TakenGrant} {g : TakenGrant} (htaken : s.dump.taken = taken ++ [g]) : s.dump.current = some g := by
  rw [Dump.current, htaken, List.getLast?_append, List.getLast?_singleton]
  rfl

theorem State.trailerUnit_eq {taken : List TakenGrant} {g : TakenGrant} (htaken : s.dump.taken = taken ++ [g]) : s.trailerUnit
    = ((s.withDump (s.trailerAccount taken g)).sendDump g [] 15 true [(s.sentTrailer taken g).sector]).dumpCheck := by
  rw [State.trailerUnit, current_append htaken]
  simp only [htaken, assignPosition_append]
  rfl

/-- While it is TRAILING, the end of an event changes nothing as long as the trailer is in flight (R162, R163). -/
theorem State.dumpCheck_trailing (hphase : s.dump.phase = .trailing) (hflight : s.dumpInFlight true = true) : s.dumpCheck = s := by
  unfold State.dumpCheck
  rw [hflight, hphase]
  split
  · split
    · rfl
    · rfl
  · rfl

end

/-- Settles O44: the unit and the trailer are composed, and go on the current grant's lane. -/
theorem dumpSendsCarrySectorsAndAccount : Obligations.DumpSendsCarrySectorsAndAccount := by
  unfold Obligations.DumpSendsCarrySectorsAndAccount
  refine ⟨fun s taken g n hlive hpart hcanon hphase hsome hroom htaken hup hwindow hn => ?unit,
    fun s taken g c hlive hpart hphase hnone hroom htaken hl hup hwindow hc => ?trailer⟩
  case unit =>
    have hcurrent := current_append htaken
    have hlength : s.dumpUnitSlots.length = n := State.length_dumpUnitSlots.trans hn.symm
    have hready : s.mayDumpUnit = true := by
      rw [State.mayDumpUnit, hlive, hpart, hphase, State.dumpLaneReady_of_current hcurrent hup hwindow, decide_eq_true hsome,
        decide_eq_true hroom]
      rfl
    have hexec : exec .dumpUnitSend s = .next s.dumpUnit := exec_eq_next_iff.2 (if_pos hready)
    have hsends := State.sendsDump (s := s.withDump (s.dump.composed s)) (taken := taken) (g := g) (slots := s.dumpUnitSlots)
      (fillers := 16 - n) (trailer := false) (sectors := s.dumpUnitSlots.map s.sectorBytes)
      (by rw [← assignPosition_append, ← htaken]; rfl)
    rw [State.dumpUnit_eq hcurrent, hlength] at hexec
    generalize State.sendDump _ g s.dumpUnitSlots _ _ _ = t at *
    have hdump := hsends.dump
    refine ⟨t, s.dumpUnitSlots, hexec, hlength, ?redoFirst, fun k hk => ?above, ?sorted, fun j hj hnot k hk => ?lowest, hsends.inflight,
      hsends.unitsIssued, hsends.laneLink, ?cursor, ?first, ?last, ?sectors, ?units, ?phase, ?part, ?remaining, ?redo, hsends.takes,
      fun hless => hsends.stays hless, fun hused => ?next, hsends.others, ?frame⟩
    case redoFirst => exact List.prefix_append _ _
    case above =>
      rw [State.dumpUnitSlots_drop] at hk
      exact State.dumpSlots_above (sorted_of_canon hcanon) hk
    case sorted =>
      rw [State.dumpUnitSlots_drop]
      exact State.dumpSlots_sorted
    case lowest =>
      rw [State.dumpUnitSlots_drop] at hk hnot
      exact State.dumpSlots_lowest (sorted_of_canon hcanon) hj hnot hk
    case cursor =>
      rw [State.dumpUnitSlots_drop, hdump]
      rfl
    case first => rw [hdump]; rfl
    case last => rw [hdump]; rfl
    case sectors => rw [hdump]; rfl
    case units => rw [hdump]; rfl
    case phase => rw [hdump]; exact hphase
    case part => exact (agree (π := State.part) hsends.frame :).trans hpart
    case remaining => rw [hdump]; rfl
    case redo =>
      have hredo : t.dump.redo = s.redoInUse.drop (s.redoInUse.take 16).length := by rw [hdump]; rfl
      rw [hredo, List.length_take]
      rcases Nat.le_total 16 s.redoInUse.length with h | h
      · rw [Nat.min_eq_left h]
      · rw [Nat.min_eq_right h, List.drop_length, List.drop_eq_nil_of_le h]
    case next =>
      refine State.takesNext_congr (v := s.withDump (s.dump.composed s)) (fun _ => ⟨rfl, rfl⟩) ?_ (hsends.next hused)
      show (assignPosition s.dump.taken).length = _
      rw [htaken, assignPosition_append, List.length_append, List.length_append]
      rfl
    case frame =>
      have hframe := hsends.frame
      exact ⟨(agree (π := State.slots) hframe :), (agree (π := State.staging) hframe :), (agree (π := State.returns) hframe :),
        (agree (π := State.streams) hframe :), (agree (π := State.segments) hframe :), (agree (π := State.tenants) hframe :),
        (agree (π := State.index) hframe :), (agree (π := State.durables) hframe :), (agree (π := State.flushes) hframe :),
        (agree (π := State.params) hframe :)⟩
  case trailer =>
    obtain rfl : c = s.sentTrailer taken g := hc
    have hready : s.mayTrailer = true := by
      rw [State.mayTrailer, hlive, hpart, hphase, hnone, State.dumpLaneReady_of_current (current_append htaken) hup hwindow,
        decide_eq_true hroom]
      rfl
    have hexec : exec .trailerSend s = .next s.trailerUnit := exec_eq_next_iff.2 (if_pos hready)
    have hsends := State.sendsDump (s := s.withDump (s.trailerAccount taken g)) (taken := taken) (g := g) (slots := [])
      (fillers := 15) (trailer := true) (sectors := [(s.sentTrailer taken g).sector]) rfl
    rw [State.trailerUnit_eq htaken] at hexec
    generalize State.sendDump _ g [] 15 true _ = t at *
    have hdump := hsends.dump
    have hflight : t.dumpInFlight true = true :=
      List.any_eq_true.2 ⟨g.lane, List.mem_range.2 hl, List.any_eq_true.2 ⟨_, by rw [hsends.inflight]; exact List.mem_append_right _ List.mem_cons_self, rfl⟩⟩
    rw [State.dumpCheck_trailing (by rw [hdump]; exact hphase) hflight] at hexec
    have hframe := hsends.frame
    refine ⟨t, hexec, by rw [hdump]; rfl, (agree (π := State.part) hframe :).trans hpart, by rw [hdump]; exact hphase, by rw [hdump]; rfl,
      hsends.inflight, hsends.laneLink, hsends.takes, fun hless => hsends.stays hless, fun hused => ?_,
      (agree (π := State.slots) hframe :), (agree (π := State.staging) hframe :), (agree (π := State.returns) hframe :),
      (agree (π := State.streams) hframe :), (agree (π := State.params) hframe :)⟩
    refine State.takesNext_congr (v := s.withDump (s.trailerAccount taken g)) (fun _ => ⟨rfl, rfl⟩) ?_ (hsends.next hused)
    show (taken ++ [g.more]).length = _
    rw [htaken, List.length_append, List.length_append]
    rfl

end Sys2Proof.Machine
end

section
/-! ANSWERs for DUMP records: the account of the dump and its end (R159, R160, R162, R163). -/

namespace Sys2Proof.Machine

open Sys2Proof

section

variable {s : State} {l i : Nat} {w : Waiting} {r : InFlight}

/-! ## A matched ANSWER -/

/-- A taken ANSWER that matches a record (R117). -/
theorem State.takeAnswer_matched {o : Outcome} (htake : s.takeable l = some w) (hanswer : isAnswer w.head = true)
    (houtcome : answerOutcome w.head = o) (hknown : o ≠ .unknown) (hmatch : (s.lane l).matching w.head = some i)
    (hr : (s.lane l).inflight[i]? = some r) : s.takeAnswer l = (s.popWaiting l).answerMatched l i r o := by
  have hinflight : ((s.popWaiting l).lane l).inflight = (s.lane l).inflight := by
    rw [State.popWaiting, State.lane_updLane, if_pos rfl]
  have hmatching : ((s.popWaiting l).lane l).matching w.head = some i := by rw [Lane.matching, hinflight]; exact hmatch
  rw [State.takeAnswer_of_takeable htake hanswer, State.answerTaken]
  rw [houtcome]
  cases o with
  | unknown => exact absurd rfl hknown
  | done => simp only [hmatching, hinflight, hr]
  | fail reason => simp only [hmatching, hinflight, hr]

theorem State.answerMatched_done : (s.popWaiting l).answerMatched l i r .done = ((s.answering l i).recordDone l r).dumpCheck := rfl

theorem State.answerMatched_fail {reason : FailReason} :
    (s.popWaiting l).answerMatched l i r (.fail reason) = ((s.answering l i).recordFailed l reason r).endFailure := rfl

theorem answerOutcome_done {h : Unit16} (hcode : field h 14 1 = 1) : answerOutcome h = .done := if_pos hcode

theorem answerOutcome_fail {h : Unit16} (hcode : field h 14 1 = 2) : ∃ reason, answerOutcome h = .fail reason :=
  ⟨_, (if_neg (by omega)).trans (if_pos hcode)⟩

/-! ## The end of a failure in DUMPING -/

/-- In DUMPING no stream requests a segment at the end of a failure (R153). -/
theorem State.endFailure_dumping (hpart : s.part = .dumping) (hdue : s.due = []) : s.endFailure = s.durablePads.dumpCheck := by
  have hframe := s.durablePads_frame
  have hpads : s.durablePads.part = .dumping := (agree (π := State.part) hframe).trans hpart
  have hnone : s.durablePads.due = [] := (agree (π := State.due) hframe).trans hdue
  rw [State.endFailure, State.endRequests, State.segmentRequests_stay (by rw [hpads]; decide), State.poolLowNotices_nil hnone]

theorem State.enterDumped_lane (hs : Store.sorted s.lanes = true) (result : DumpResult) (j : Nat) :
    (s.enterDumped result).lane j = { s.lane j with waiting := [] } :=
  Store.getD_mapD (d := ({} : Lane)) hs (fun x => { x with waiting := [] }) rfl j

/-! ## The sequences of the account (R159) -/

theorem lowerSeq_le (o : Option Nat) (q : Nat) : lowerSeq o q ≤ q ∧ (∀ p, o = some p → lowerSeq o q ≤ p)
    ∧ (lowerSeq o q = q ∨ o = some (lowerSeq o q)) := by
  cases o with
  | none => exact ⟨Nat.le_refl q, fun _ h => (nomatch h), .inl rfl⟩
  | some p =>
    refine ⟨Nat.min_le_right p q, fun p' h => Option.some.inj h ▸ Nat.min_le_left p q, ?_⟩
    rcases Nat.le_total p q with h | h
    · exact .inr (congrArg some (Nat.min_eq_left h).symm)
    · exact .inl (Nat.min_eq_right h)

theorem le_higherSeq (o : Option Nat) (q : Nat) : q ≤ higherSeq o q ∧ (∀ p, o = some p → p ≤ higherSeq o q)
    ∧ (higherSeq o q = q ∨ o = some (higherSeq o q)) := by
  cases o with
  | none => exact ⟨Nat.le_refl q, fun _ h => (nomatch h), .inl rfl⟩
  | some p =>
    refine ⟨Nat.le_max_right p q, fun p' h => Option.some.inj h ▸ Nat.le_max_left p q, ?_⟩
    rcases Nat.le_total p q with h | h
    · exact .inl (Nat.max_eq_right h)
    · exact .inr (congrArg some (Nat.max_eq_left h).symm)

/-- A value folded over sequences is within its bounds, by the order given, and one of those seen. -/
theorem foldl_some_bound {f : Option Nat → Nat → Nat} {le : Nat → Nat → Prop} (hrefl : ∀ q, le q q) (htrans : ∀ {a b c}, le a b → le b c → le a c)
    (hf : ∀ o q, le (f o q) q ∧ (∀ p, o = some p → le (f o q) p) ∧ (f o q = q ∨ o = some (f o q))) :
    ∀ (qs : List Nat) (o : Option Nat), (qs ≠ [] ∨ o ≠ none) → ∃ b, qs.foldl (fun o q => some (f o q)) o = some b
      ∧ (∀ q ∈ qs, le b q) ∧ (∀ q, o = some q → le b q) ∧ (o = some b ∨ b ∈ qs)
  | [], o, h => by
    obtain ⟨b, rfl⟩ := Option.ne_none_iff_exists'.1 (h.resolve_left fun h => h rfl)
    exact ⟨b, rfl, fun _ hq => (nomatch hq), fun q hq => Option.some.inj hq ▸ hrefl b, .inl rfl⟩
  | q :: qs, o, _ => by
    obtain ⟨b, hb, hall, hfirst, hfrom⟩ := foldl_some_bound hrefl htrans hf qs (some (f o q)) (.inr (by simp))
    obtain ⟨hq, ho, hsame⟩ := hf o q
    have hbf := hfirst _ rfl
    refine ⟨b, hb, fun p hp => ?_, fun p hp => htrans hbf (ho p hp), ?_⟩
    · rcases List.mem_cons.1 hp with rfl | hp
      · exact htrans hbf hq
      · exact hall p hp
    · rcases hfrom with hfrom | hfrom
      · obtain rfl := Option.some.inj hfrom
        rcases hsame with hsame | hsame
        · exact .inr (List.mem_cons.2 (.inl hsame))
        · exact .inl hsame
      · exact .inr (List.mem_cons_of_mem _ hfrom)

/-! ## The states that the outcomes of DUMP records leave -/

/-- The record has left its lane's list, and this counter of the lane has moved (R117). -/
def State.answeringWith (s : State) (l i : Nat) (f : Lane → Lane) : State := (s.answering l i).updLane l f

theorem State.answeringWith_lane (f : Lane → Lane) : (s.answeringWith l i f).lane l
    = f { s.lane l with waiting := (s.lane l).waiting.tail, inflight := (s.lane l).inflight.eraseIdx i, consecutive := 0 } := by
  rw [State.answeringWith, State.lane_updLane, if_pos rfl, State.answering_lane, if_pos rfl]

theorem State.answeringWith_eq (f : Lane → Lane) : s.answeringWith l i f = { s with lanes := (s.answeringWith l i f).lanes } := rfl

theorem State.answeringWith_sorted (f : Lane → Lane) (hcanon : Store.canon {} s.lanes = true) :
    Store.sorted (s.answeringWith l i f).lanes = true :=
  sorted_of_canon (Store.canon_setD (Store.canon_setD (Store.canon_setD hcanon _ _) _ _) _ _)

theorem State.recordDone_dump (hkind : r.kind = .dump) : (s.answering l i).recordDone l r
    = if r.trailer then (s.answeringWith l i fun x => { x with done := x.done + 1 }).trailerDone
      else (s.answeringWith l i fun x => { x with done := x.done + 1 }).dumpDone r := by
  rw [State.recordDone, hkind]
  rfl

theorem State.recordFailed_dump {reason : FailReason} (hkind : r.kind = .dump) :
    s.recordFailed l reason r = (s.updLane l fun x => { x with failed := x.failed + 1 }).dumpFailed r := by
  rw [State.recordFailed, hkind]

theorem State.insertBySeq_congr {v : State} (h : ∀ k, (v.slot k).seq = (s.slot k).seq) (k : Nat) :
    ∀ ks : List Nat, v.insertBySeq k ks = s.insertBySeq k ks
  | [] => rfl
  | j :: ks => by rw [State.insertBySeq, State.insertBySeq, h k, h j, State.insertBySeq_congr h k ks]

theorem State.mergeBySeq_congr {v : State} (h : ∀ k, (v.slot k).seq = (s.slot k).seq) (ks queue : List Nat) :
    v.mergeBySeq ks queue = s.mergeBySeq ks queue := by
  unfold State.mergeBySeq
  simp only [State.insertBySeq_congr h]

/-- The redo list after the failure of a DUMP record (R160, R163). -/
def State.redoAfter (s : State) (r : InFlight) : List Nat :=
  if r.trailer then s.dump.redo
  else s.mergeBySeq ((r.slots.filter fun k => (s.slot k).inUse).filter fun k => !s.dump.redo.contains k) s.dump.redo

theorem State.dumpFailed_eq (r : InFlight) : s.dumpFailed r = s.withDump { s.dump with redo := s.redoAfter r } := by
  unfold State.dumpFailed State.redoAfter
  split <;> rfl

theorem State.redoAfter_congr {v : State} (hslots : v.slot = s.slot) (hdump : v.dump = s.dump) : v.redoAfter r = s.redoAfter r := by
  unfold State.redoAfter
  simp only [hslots, hdump, State.mergeBySeq_congr fun k => congrArg Slot.seq (congrFun hslots k)]

theorem State.redoAfter_data (htrailer : r.trailer = false) :
    (s.redoAfter r).Perm (s.dump.redo ++ r.slots.filter fun k => (s.slot k).inUse && !s.dump.redo.contains k) := by
  rw [State.redoAfter, if_neg (by rw [htrailer]; decide), List.filter_filter]
  refine (s.mergeBySeq_perm _ _).trans ?_
  simp only [Bool.and_comm]
  exact List.Perm.refl _

theorem State.redoAfter_trailer (htrailer : r.trailer = true) : s.redoAfter r = s.dump.redo := if_pos htrailer

end

/-- Settles O45: the account or the redo list moves, and then R162 and R163 are met. -/
theorem dumpAnswersCountReturnOrEnd : Obligations.DumpAnswersCountReturnOrEnd := by
  unfold Obligations.DumpAnswersCountReturnOrEnd
  refine ⟨fun s lane l i w r hl htake hpart hkind hbody hcode hr hblock hunit hbefore hdump hcanon => ?done,
    fun s lane l i w r hl htake hpart hdue hkind hbody hcode hr hblock hunit hbefore hdump hcanon => ?fail⟩
  case done =>
    have htaken := State.takeAnswer_matched htake ((isAnswer_iff w.head).2 ⟨hkind, hbody⟩) (answerOutcome_done hcode) (by decide)
      (Lane.matching_eq_some hr hblock hunit hbefore) hr
    rw [State.answerMatched_done, State.recordDone_dump hdump] at htaken
    have hlane := State.answeringWith_lane (s := s) (l := l) (i := i) fun x => { x with done := x.done + 1 }
    have hsorted := State.answeringWith_sorted (l := l) (i := i) (fun x => { x with done := x.done + 1 }) hcanon
    subst hl
    generalize hv : s.answeringWith lane.val i (fun x => { x with done := x.done + 1 }) = v at *
    have hvpart : v.part = .dumping := hv ▸ hpart
    have hvdump : v.dump = s.dump := hv ▸ rfl
    have hvreturns : v.returns = s.returns := hv ▸ rfl
    have hvslots : v.slots = s.slots := hv ▸ rfl
    have hvslot : v.slot = s.slot := hv ▸ rfl
    cases htrailer : r.trailer with
    | true =>
      rw [htrailer, if_pos rfl] at htaken
      have hended : v.trailerDone.dumpCheck = v.trailerDone := if_neg fun h : PartState.dumped = .dumping => nomatch h
      rw [hended] at htaken
      have htlane := State.enterDumped_lane hsorted (if (v.dump.trailer.map Trailer.truncated).getD false then .truncated else .complete) lane.val
      refine ⟨v.trailerDone, exec_eq_next_iff.2 htaken, hvreturns, hvslots, ?_, ?_, ?_, fun h => (nomatch h),
        fun _ => ⟨rfl, rfl, rfl, fun c hc => ?_⟩⟩
      · exact (congrArg Lane.inflight htlane).trans (congrArg Lane.inflight hlane)
      · exact (congrArg Lane.consecutive htlane).trans (congrArg Lane.consecutive hlane)
      · exact (congrArg Lane.done htlane).trans (congrArg Lane.done hlane)
      · show (if (v.dump.trailer.map Trailer.truncated).getD false then DumpResult.truncated else .complete) = _
        rw [hvdump, hc]
        simp [Trailer.truncated]
    | false =>
      rw [htrailer, if_neg (by decide)] at htaken
      have hpart' : (v.dumpDone r).part = .dumping := hvpart
      have hsettled := State.dumpCheck_settled hpart' hsorted
      have htlane := State.dumpCheck_lane (s := v.dumpDone r) hsorted lane.val
      have htdump := (v.dumpDone r).dumpCheck_dump
      have hframe := (v.dumpDone r).dumpCheck_frame
      have hphase : (v.dumpDone r).dump.phase = s.dump.phase := by rw [← hvdump]; rfl
      rw [hphase] at hsettled
      generalize (v.dumpDone r).dumpCheck = t at *
      refine ⟨t, exec_eq_next_iff.2 htaken, (agree (π := State.returns) hframe :).trans hvreturns, (agree (π := State.slots) hframe :).trans hvslots,
        ?_, ?_, ?_, fun _ => ⟨?_, ?_, ?_, ?_, ?_, ?_, hsettled, fun hslots => ?_⟩, fun h => nomatch h⟩
      · exact (congrArg Lane.inflight htlane).trans (congrArg Lane.inflight hlane)
      · exact (congrArg Lane.consecutive htlane).trans (congrArg Lane.consecutive hlane)
      · exact (congrArg Lane.done htlane).trans (congrArg Lane.done hlane)
      · rw [htdump, ← hvdump]; rfl
      · rw [htdump, ← hvdump]; rfl
      · rw [htdump, ← hvdump]; rfl
      · rw [htdump, ← hvdump]; rfl
      · rw [htdump, ← hvdump]; rfl
      · rw [htdump, ← hvdump]; rfl
      · have hne : (r.slots.map fun k => (s.slot k).seq) ≠ [] := by simpa using hslots
        obtain ⟨low, hlow, hlowAll, hlowFirst, hlowFrom⟩ := foldl_some_bound (f := lowerSeq) (le := (· ≤ ·)) Nat.le_refl Nat.le_trans lowerSeq_le
          (r.slots.map fun k => (s.slot k).seq) s.dump.first (.inl hne)
        obtain ⟨high, hhigh, hhighAll, hhighFirst, hhighFrom⟩ := foldl_some_bound (f := higherSeq) (le := (· ≥ ·)) Nat.le_refl
          (fun h h' => Nat.le_trans h' h) le_higherSeq (r.slots.map fun k => (s.slot k).seq) s.dump.last (.inl hne)
        refine ⟨low, high, ?_, ?_, fun k hk => ⟨hlowAll _ (List.mem_map_of_mem hk), hhighAll _ (List.mem_map_of_mem hk)⟩, hlowFirst, hhighFirst,
          hlowFrom.imp_right List.mem_map.1, hhighFrom.imp_right List.mem_map.1⟩
        · rw [htdump, ← hlow, ← hvdump, ← hvslot]; rfl
        · rw [htdump, ← hhigh, ← hvdump, ← hvslot]; rfl
  case fail =>
    obtain ⟨reason, houtcome⟩ := answerOutcome_fail hcode
    have htaken : exec (.answer lane) s = .next (((s.answeringWith l i fun x => { x with failed := x.failed + 1 }).dumpFailed r).endFailure) := by
      have hresult := State.takeAnswer_matched htake ((isAnswer_iff w.head).2 ⟨hkind, hbody⟩) houtcome (fun h => nomatch h)
        (Lane.matching_eq_some hr hblock hunit hbefore) hr
      rw [State.answerMatched_fail, State.recordFailed_dump hdump] at hresult
      subst hl
      exact exec_eq_next_iff.2 hresult
    have hlane := State.answeringWith_lane (s := s) (l := l) (i := i) fun x => { x with failed := x.failed + 1 }
    have hsorted := State.answeringWith_sorted (l := l) (i := i) (fun x => { x with failed := x.failed + 1 }) hcanon
    generalize hv : s.answeringWith l i (fun x => { x with failed := x.failed + 1 }) = v at *
    have hvframe := State.answeringWith_eq (s := s) (l := l) (i := i) fun x => { x with failed := x.failed + 1 }
    rw [hv] at hvframe
    have hvpart : v.part = .dumping := (congrArg State.part hvframe).trans hpart
    have hvdue : v.due = [] := (congrArg State.due hvframe).trans hdue
    have hvdump : v.dump = s.dump := (congrArg State.dump hvframe :)
    have hvreturns : v.returns = s.returns := (congrArg State.returns hvframe :)
    have hvslots : v.slots = s.slots := (congrArg State.slots hvframe :)
    have hvredo : v.redoAfter r = s.redoAfter r := State.redoAfter_congr (funext fun k => by rw [State.slot, hvslots]; rfl) hvdump
    have hfailed : v.dumpFailed r = v.withDump { v.dump with redo := v.redoAfter r } := v.dumpFailed_eq r
    rw [hfailed, hvredo, hvdump] at htaken
    generalize hx : v.withDump { s.dump with redo := s.redoAfter r } = x at *
    have hxpart : x.part = .dumping := hx ▸ hvpart
    rw [State.endFailure_dumping hxpart (hx ▸ hvdue)] at htaken
    have hxdump : x.dump = { s.dump with redo := s.redoAfter r } := hx ▸ rfl
    have hxlanes : x.lanes = v.lanes := hx ▸ rfl
    have hxreturns : x.returns = s.returns := hx ▸ hvreturns
    have hxslots : x.slots = s.slots := hx ▸ hvslots
    have hpads := x.durablePads_frame
    generalize x.durablePads = y at *
    have hylanes : y.lanes = v.lanes := (agree (π := State.lanes) hpads).trans hxlanes
    have hydump : y.dump = { s.dump with redo := s.redoAfter r } := (agree (π := State.dump) hpads).trans hxdump
    have hsettled := State.dumpCheck_settled ((agree (π := State.part) hpads).trans hxpart) (hylanes ▸ hsorted)
    have htlane := State.dumpCheck_lane (s := y) (hylanes ▸ hsorted) l
    have hvlane : y.lane l = v.lane l := by rw [State.lane, hylanes]; rfl
    rw [hvlane, hlane] at htlane
    have htdump := y.dumpCheck_dump
    have hframe := y.dumpCheck_frame
    rw [hydump] at hsettled htdump
    generalize y.dumpCheck = t at *
    refine ⟨t, htaken, (agree (π := State.returns) hframe).trans ((agree (π := State.returns) hpads).trans hxreturns),
      (agree (π := State.slots) hframe).trans ((agree (π := State.slots) hpads).trans hxslots), congrArg Lane.inflight htlane,
      congrArg Lane.consecutive htlane, congrArg Lane.failed htlane, fun htrailer => ?_, fun htrailer => ?_, hsettled,
      (congrArg Dump.cursor htdump :), (congrArg Dump.first htdump :), (congrArg Dump.last htdump :), (congrArg Dump.taken htdump :),
      (congrArg Dump.remaining htdump :), (congrArg Dump.sectors htdump :), (congrArg Dump.units htdump :)⟩
    · rw [htdump]
      exact State.redoAfter_data htrailer
    · rw [htdump]
      exact State.redoAfter_trailer htrailer

end Sys2Proof.Machine
end

section
/-! The laws of the range entries and of the windows: every step keeps them (R4, R6, R7, R11). -/

namespace Sys2Proof.Machine

open Sys2Proof

/-! ## RESET_N and a law of the part -/

/-- Neither RESET_ASSERT nor RESET_RELEASE does anything, or the part is empty after it (R177, R178). -/
theorem State.after_reset_bare (s : State) {c : Instr} (hc : c = .resetRelease ∨ ∃ r l, c = .resetAssert r l) :
    s.after c = s ∨ (s.after c).Bare := by
  rcases hc with rfl | ⟨r, l, rfl⟩
  · by_cases hreset : s.lines.reset = true
    · exact .inr (State.bare_releaseReset hreset)
    · exact .inl (show s.releaseReset = s from if_neg hreset)
  · by_cases hreset : s.lines.reset = true
    · exact .inl (show s.assertReset r l = s from if_pos hreset)
    · exact .inr (State.bare_assertReset (Bool.eq_false_iff.2 hreset) r l)

/-- A law that is closed under the writes of records, that the sending of a parcel keeps and that an empty part obeys is kept by every step. -/
theorem Closed.step {P : State → Prop} (hclosed : Closed P) (hsent : ∀ s, P s → P (s.after .parcelSent)) (hbare : ∀ s, s.Bare → P s)
    (s t : State) (hs : P s) (hstep : step s = .next t) : P t := by
  refine step_keeps (fun s n hs => hclosed.other hs rfl) (fun s q hs => hclosed.other hs rfl) (fun c s hs => ?_) s t hs hstep
  by_cases hsend : c = .parcelSent
  · exact hsend ▸ hsent s hs
  by_cases hreset : c = .resetRelease ∨ ∃ r l, c = .resetAssert r l
  · rcases s.after_reset_bare hreset with hsame | hempty
    · rw [hsame]
      exact hs
    · exact hbare _ hempty
  · exact hclosed.after c hsend (fun h => hreset (.inl h)) (fun r l h => hreset (.inr ⟨r, l, h⟩)) hs

/-! ## Range entries (R4) -/

section

variable {s : State} {a : Arriving}

theorem Range.lawful_decayed {r : Range} (h : r.lawful) : r.decayed.lawful := by
  obtain ⟨hns, hbase, hlimit, hcold, hstream, hlow, hhigh, hheat, hhot⟩ := h
  refine ⟨hns, hbase, hlimit, hcold, hstream, hlow, hhigh, ?_, fun hd => hhot (Bool.and_eq_true_iff.1 hd).1⟩
  show 7 * r.heat / 8 ≤ 65535
  omega

theorem Range.sameRun_decayed (r : Range) : r.decayed.sameRun r := ⟨rfl, rfl, rfl⟩

theorem lawful_rangeOfUnit {u : Unit16} (hns : field u 0 1 ≤ 7) : (rangeOfUnit u).lawful := by
  have hcold : field u 1 1 < 256 := field_lt u 1 1
  have hhot : field u 2 1 < 256 := field_lt u 2 1
  have hthreshold : field u 4 2 < 65536 := field_lt u 4 2
  have hbase : field u 6 5 < 2 ^ 40 := field_lt u 6 5
  have hlimit : field u 11 5 < 2 ^ 40 := field_lt u 11 5
  refine ⟨hns, hbase, hlimit, Nat.le_of_lt_succ hcold, fun k hk => ?_, Nat.le_max_left 1 _, ?_, Nat.zero_le _, fun h => nomatch h⟩
  · by_cases hnamed : bitAt u 3 0 = true
    · rw [rangeOfUnit, if_pos hnamed] at hk
      exact Option.some.inj hk ▸ Nat.le_of_lt_succ hhot
    · rw [rangeOfUnit, if_neg hnamed] at hk
      cases hk
  · show max 1 (field u 4 2) ≤ 65535
    omega

theorem State.putRanges_cases (s : State) (a : Arriving) : (∃ status body, s.putRanges a = s.reply a status body)
    ∨ (∀ i, i < a.entryCount → field (a.bodyUnit i) 0 1 ≤ 7) ∧ s.windowOwner (fun _ => true) a.start a.entryCount = none
      ∧ s.putRanges a = (s.putEntries a.carriedRanges).reply a .ok := by
  by_cases hrun : a.badRun = true
  · exact .inl ⟨_, _, State.putRanges_badField (.inl hrun)⟩
  by_cases hns : ∃ i, i < a.entryCount ∧ 7 < field (a.bodyUnit i) 0 1
  · exact .inl ⟨_, _, State.putRanges_badField (.inr hns)⟩
  have hlow : ∀ i, i < a.entryCount → field (a.bodyUnit i) 0 1 ≤ 7 := fun i hi => Nat.le_of_not_lt fun h => hns ⟨i, hi, h⟩
  have hgood := State.putRanges_good (s := s) hrun hlow
  cases howner : s.windowOwner (fun _ => true) a.start a.entryCount with
  | some u => exact .inl ⟨_, _, by rw [hgood, howner]⟩
  | none => exact .inr ⟨hlow, rfl, by rw [hgood, howner]⟩

theorem State.range_putEntries (s : State) (a : Arriving) (x : Nat) : (s.putEntries a.carriedRanges).range x
    = if a.start ≤ x ∧ x < a.start + a.entryCount then rangeOfUnit (a.bodyUnit (x - a.start)) else s.range x :=
  s.range_putEntries_run (fun i => rangeOfUnit (a.bodyUnit i)) a.start a.entryCount x

/-- The canonical form of the range table, with R4. -/
def State.rangesKept (s : State) : Prop := Store.canon {} s.ranges = true ∧ s.rangesLawful

theorem closed_rangesKept : Closed State.rangesKept where
  other h e := by
    have hranges := congrArg State.ranges e
    have hrange := congrArg State.range e
    exact ⟨(show _ = _ from hranges) ▸ h.1, fun i => (show _ = _ from congrFun hrange i) ▸ h.2 i⟩
  tenant _ _ _ h := h
  range i r _ hr h := ⟨Store.canon_setD h.1 i r, fun j => by
    rw [State.range_setRange]
    split
    · exact hr (h.2 i)
    · exact h.2 j⟩
  putTenant := State.putTenant_keeps (fun _ _ _ h => h) fun _ _ h => h
  dropTenant := State.dropTenant_keeps (fun _ _ _ h => h) fun _ _ h => h
  putRanges {s} a h := by
    refine ⟨State.putRanges_keeps (P := fun s => Store.canon {} s.ranges = true) (fun _ _ _ h => h)
      (fun i r h => Store.canon_setD h i r) a h.1, fun i => ?_⟩
    rcases s.putRanges_cases a with ⟨status, body, hrefused⟩ | ⟨hlow, -, hwritten⟩
    · rw [hrefused]
      exact h.2 i
    · rw [hwritten]
      show ((s.putEntries a.carriedRanges).range i).lawful
      rw [State.range_putEntries]
      split
      · exact lawful_rangeOfUnit (hlow _ (by omega))
      · exact h.2 i
  slot _ _ h := h
  stream _ _ _ h := h
  lane _ _ h := h
  segment _ _ h := h
  dropSegment _ h := h
  index _ _ h := h
  dropIndex _ h := h
  durable _ _ h := h
  dropDurable _ h := h
  flush _ _ h := h
  dropFlush _ h := h
  enqueue _ _ h := h
  sendLane _ _ h := h
  bytes _ _ h := h
  decay {s} h := ⟨Store.canon_mapD h.1 _, fun i => by
    have hrange : ({ s with ranges := Store.mapD {} Range.decayed s.ranges } : State).range i = (s.range i).decayed :=
      Store.getD_mapD (d := ({} : Range)) (sorted_of_canon h.1) Range.decayed rfl i
    rw [hrange]
    exact Range.lawful_decayed (h.2 i)⟩
  hushed h := h
  cleared _ := ⟨rfl, fun _ => by simp [State.range, Range.lawful]⟩

/-! ## Windows (R6, R7, R11) -/

theorem State.windowsLawful_congr {t : State} (htenant : ∀ u, (t.tenant u).sameWindow (s.tenant u))
    (hrange : ∀ u i, t.validTenant u = true → (t.tenant u).holds i = true → (t.range i).sameRun (s.range i)) (hs : s.windowsLawful) :
    t.windowsLawful := by
  have hholds : ∀ u i, (t.tenant u).holds i = (s.tenant u).holds i := fun u i => by
    obtain ⟨-, hfirst, hcount⟩ := htenant u
    rw [Tenant.holds, Tenant.holds, hfirst, hcount]
  have hvalid : ∀ u, t.validTenant u = s.validTenant u := fun u => by
    rw [State.validTenant, State.validTenant, (htenant u).1]
  refine ⟨fun u hu i hi => ?_, fun u v i hu hv hui hvi => ?_⟩
  · have hsorted := hs.1 u (hvalid u ▸ hu) i (hholds u i ▸ hi)
    obtain ⟨-, hfirst, -⟩ := htenant u
    obtain ⟨hns, hbase, hlimit⟩ := hrange u i hu hi
    rw [← Bool.not_eq_true, State.entryFault_iff] at hsorted ⊢
    rw [hfirst, hns, hbase, hlimit]
    rintro (hfault | ⟨hlt, hfault⟩)
    · exact hsorted (.inl hfault)
    · rw [← hfirst] at hlt
      have hbefore : (t.tenant u).holds (i - 1) = true := by
        rw [Tenant.holds_iff] at hi ⊢
        omega
      obtain ⟨hns', -, hlimit'⟩ := hrange u (i - 1) hu hbefore
      rw [hns', hlimit'] at hfault
      exact hsorted (.inr ⟨hfirst ▸ hlt, hfault⟩)
  · exact hs.2 u v i (hvalid u ▸ hu) (hvalid v ▸ hv) (hholds u i ▸ hui) (hholds v i ▸ hvi)

theorem State.putTenant_cases (s : State) (a : Arriving) : (∃ status body, s.putTenant a = s.reply a status body)
    ∨ (a.tenantFields.valid = true → s.windowFault a.tenantFields.windowFirst a.tenantFields.windowCount = none
        ∧ s.windowOwner (· != a.fn) a.tenantFields.windowFirst a.tenantFields.windowCount = none)
      ∧ s.putTenant a = (s.setTenant a.fn ((s.tenant a.fn).rewritten a.tenantFields)).reply a .ok := by
  unfold State.putTenant
  dsimp only
  split
  · exact .inl ⟨_, _, rfl⟩
  · split
    · exact .inl ⟨_, _, rfl⟩
    · rename_i hfault
      split
      · exact .inl ⟨_, _, rfl⟩
      · rename_i howner
        split
        · exact .inl ⟨_, _, rfl⟩
        · exact .inr ⟨fun hvalid => ⟨by rwa [if_pos hvalid] at hfault, by rwa [if_pos hvalid] at howner⟩, rfl⟩

/-- A tenant whose new window passes R6 and R7 joins the others (R5 to R8). -/
theorem State.windowsLawful_setTenant (hs : s.windowsLawful) (fn : Nat) (r : Tenant)
    (hfault : r.valid = true → s.windowFault r.windowFirst r.windowCount = none)
    (howner : r.valid = true → s.windowOwner (· != fn) r.windowFirst r.windowCount = none) : (s.setTenant fn r).windowsLawful := by
  have hself : (s.setTenant fn r).tenant fn = r := s.tenant_setTenant_self fn r
  have hother : ∀ {u}, u ≠ fn → (s.setTenant fn r).tenant u = s.tenant u := fun hu => s.tenant_setTenant_ne fn r hu
  have hvalid : ∀ {u}, (s.setTenant fn r).validTenant u = true → if u = fn then r.valid = true else s.validTenant u = true := fun {u} hu => by
    split
    · rename_i heq
      subst heq
      rw [State.validTenant, hself] at hu
      exact (Bool.and_eq_true_iff.1 hu).2
    · rename_i hne
      rwa [State.validTenant, hother hne] at hu
  have hcross : ∀ {u i}, u ≠ fn → r.valid = true → s.validTenant u = true → r.holds i = true → ¬ (s.tenant u).holds i = true :=
    fun {u i} hne hr hu hri hui => by
      rw [Tenant.holds_iff] at hri
      exact State.windowOwner_eq_none_iff.1 (howner hr) u ⟨by simpa using hne, hu, i, hui, hri.1, hri.2⟩
  refine ⟨fun u hu i hi => ?_, fun u v i hu hv hui hvi => ?_⟩
  · have hu' := hvalid hu
    show s.entryFault _ i = false
    by_cases heq : u = fn
    · subst heq
      rw [if_pos rfl] at hu'
      rw [hself] at hi ⊢
      rw [Tenant.holds_iff] at hi
      exact State.windowFault_eq_none_iff.1 (hfault hu') i hi.1 hi.2
    · rw [if_neg heq] at hu'
      rw [hother heq] at hi ⊢
      exact hs.1 u hu' i hi
  · have hu' := hvalid hu
    have hv' := hvalid hv
    by_cases hufn : u = fn <;> by_cases hvfn : v = fn
    · rw [hufn, hvfn]
    · subst hufn
      rw [if_pos rfl] at hu'
      rw [if_neg hvfn] at hv'
      rw [hself] at hui
      rw [hother hvfn] at hvi
      exact absurd hvi (hcross hvfn hu' hv' hui)
    · subst hvfn
      rw [if_neg hufn] at hu'
      rw [if_pos rfl] at hv'
      rw [hother hufn] at hui
      rw [hself] at hvi
      exact absurd hui (hcross hufn hv' hu' hvi)
    · rw [if_neg hufn] at hu'
      rw [if_neg hvfn] at hv'
      rw [hother hufn] at hui
      rw [hother hvfn] at hvi
      exact hs.2 u v i hu' hv' hui hvi

/-- The canonical form of the range table, with R6 and R7. -/
def State.windowsKept (s : State) : Prop := Store.canon {} s.ranges = true ∧ s.windowsLawful

theorem closed_windowsKept : Closed State.windowsKept where
  other h e := by
    have hranges := congrArg State.ranges e
    have hrange := congrFun (congrArg State.range e)
    have htenant := congrFun (congrArg State.tenant e)
    refine ⟨(show _ = _ from hranges) ▸ h.1, State.windowsLawful_congr (fun u => ?_) (fun _ i _ _ => ?_) h.2⟩
    · exact (show _ = _ from htenant u) ▸ ⟨rfl, rfl, rfl⟩
    · exact (show _ = _ from hrange i) ▸ ⟨rfl, rfl, rfl⟩
  tenant {s} u r hr h := ⟨h.1, State.windowsLawful_congr (s := s) (fun v => by
    rw [State.tenant_setTenant]
    split
    · rename_i hv
      exact hv ▸ hr
    · exact ⟨rfl, rfl, rfl⟩) (fun _ _ _ _ => ⟨rfl, rfl, rfl⟩) h.2⟩
  range {s} i r hr _ h := ⟨Store.canon_setD h.1 i r, State.windowsLawful_congr (s := s) (fun _ => ⟨rfl, rfl, rfl⟩) (fun _ j _ _ => by
    rw [State.range_setRange]
    split
    · rename_i hj
      exact hj ▸ hr
    · exact ⟨rfl, rfl, rfl⟩) h.2⟩
  putTenant {s} a h := by
    rcases s.putTenant_cases a with ⟨status, body, hrefused⟩ | ⟨hchecked, hwritten⟩
    · rw [hrefused]
      exact h
    · rw [hwritten]
      exact ⟨h.1, State.windowsLawful_setTenant h.2 a.fn _ (fun hv => (hchecked hv).1) (fun hv => (hchecked hv).2)⟩
  dropTenant {s} a h := by
    unfold State.dropTenant
    repeat' split
    · exact h
    · exact h
    · exact ⟨h.1, State.windowsLawful_setTenant h.2 a.fn {} (fun hv => nomatch hv) (fun hv => nomatch hv)⟩
  putRanges {s} a h := by
    refine ⟨State.putRanges_keeps (P := fun s => Store.canon {} s.ranges = true) (fun _ _ _ h => h)
      (fun i r h => Store.canon_setD h i r) a h.1, ?_⟩
    rcases s.putRanges_cases a with ⟨status, body, hrefused⟩ | ⟨-, howner, hwritten⟩
    · rw [hrefused]
      exact h.2
    · rw [hwritten]
      have hframe := s.butRanges_putEntries a.carriedRanges
      have htenant : ∀ u, ((s.putEntries a.carriedRanges).reply a .ok).tenant u = s.tenant u := fun u =>
        (congrArg (State.tenant · u) hframe :)
      refine State.windowsLawful_congr (fun u => htenant u ▸ ⟨rfl, rfl, rfl⟩) (fun u i hu hi => ?_) h.2
      rw [htenant] at hi
      rw [State.validTenant, htenant] at hu
      have hout : ¬ (a.start ≤ i ∧ i < a.start + a.entryCount) := fun hin =>
        State.windowOwner_eq_none_iff.1 howner u ⟨rfl, hu, i, hi, hin.1, hin.2⟩
      have hrange : ((s.putEntries a.carriedRanges).reply a .ok).range i = s.range i := by
        show (s.putEntries a.carriedRanges).range i = _
        rw [State.range_putEntries, if_neg hout]
      exact hrange ▸ ⟨rfl, rfl, rfl⟩
  slot _ _ h := h
  stream _ _ _ h := h
  lane _ _ h := h
  segment _ _ h := h
  dropSegment _ h := h
  index _ _ h := h
  dropIndex _ h := h
  durable _ _ h := h
  dropDurable _ h := h
  flush _ _ h := h
  dropFlush _ h := h
  enqueue _ _ h := h
  sendLane _ _ h := h
  bytes _ _ h := h
  decay {s} h := ⟨Store.canon_mapD h.1 _, State.windowsLawful_congr (s := s) (fun _ => ⟨rfl, rfl, rfl⟩) (fun _ i _ _ => by
    have hrange : ({ s with ranges := Store.mapD {} Range.decayed s.ranges } : State).range i = (s.range i).decayed :=
      Store.getD_mapD (d := ({} : Range)) (sorted_of_canon h.1) Range.decayed rfl i
    rw [hrange]
    exact Range.sameRun_decayed _) h.2⟩
  hushed h := h
  cleared _ := ⟨rfl, by simp [State.windowsLawful, State.validTenant, State.tenant]⟩

end

/-- Settles O53: R4, and R6 with R7, are closed under the writes of records, PUT-TENANT, DROP-TENANT and PUT-RANGES included. -/
theorem stepKeepsRangeAndWindowLaws : Obligations.StepKeepsRangeAndWindowLaws := by
  unfold Obligations.StepKeepsRangeAndWindowLaws
  refine ⟨fun s t hcanon hs hstep => ?ranges, fun s t hcanon hs hstep => ?windows⟩
  case ranges =>
    refine (closed_rangesKept.step (fun s hs => ?_) (fun s hbare => ?_) s t ⟨(s.canonical_iff.1 hcanon).ranges, hs⟩ hstep).2
    · have hranges : (s.after .parcelSent).ranges = s.ranges := s.after_agree .parcelSent
      have hrange : (s.after .parcelSent).range = s.range := s.after_agree .parcelSent
      exact ⟨hranges ▸ hs.1, fun i => hrange ▸ hs.2 i⟩
    · exact ⟨hbare.ranges ▸ rfl, hbare.rangesLawful⟩
  case windows =>
    refine (closed_windowsKept.step (fun s hs => ?_) (fun s hbare => ?_) s t ⟨(s.canonical_iff.1 hcanon).ranges, hs⟩ hstep).2
    · have hranges : (s.after .parcelSent).ranges = s.ranges := s.after_agree .parcelSent
      have hrange : (s.after .parcelSent).range = s.range := s.after_agree .parcelSent
      have htenant : (s.after .parcelSent).tenant = s.tenant := s.after_agree .parcelSent
      exact ⟨hranges ▸ hs.1, State.windowsLawful_congr (fun u => htenant ▸ ⟨rfl, rfl, rfl⟩) (fun _ i _ _ => hrange ▸ ⟨rfl, rfl, rfl⟩) hs.2⟩
    · exact ⟨hbare.ranges ▸ rfl, hbare.windowsLawful⟩

end Sys2Proof.Machine
end

section
/-! The staging of one sector: the slot, the landing index, the queues and the counters, and the older copy (R42 to R49, R66 to R68). -/

namespace Sys2Proof.Machine

open Sys2Proof

/-! ## The stream contexts -/

/-- A slot has joined the tail of the stream's queue (R66, R67). -/
def Stream.appended (t : Stream) (k : Nat) : Stream := { ({ t with queue := t.queue ++ [k] }).settle with staged := t.staged + 1 }

/-- A superseded slot has left the stream's queue (R49, R68). -/
def Stream.without (t : Stream) (o : Nat) : Stream :=
  { ({ t with queue := t.queue.filter (· != o) }).settle with superseded := t.superseded + 1 }

theorem Stream.appended_eq (t : Stream) (k : Nat) : t.appended k = { t with
    queue := t.queue ++ [k]
    pad := t.pad && decide ((t.queue.length + 1) % 16 ≠ 0)
    linger := if (t.queue.length + 1) % 16 = 0 then 0 else t.linger
    staged := t.staged + 1 } := by
  rw [Stream.appended, Stream.settle_cases]
  simp [Stream.tailSize]

theorem Stream.without_eq (t : Stream) (o : Nat) : t.without o = { t with
    queue := t.queue.filter (· != o)
    pad := t.pad && decide ((t.queue.filter (· != o)).length % 16 ≠ 0)
    linger := if (t.queue.filter (· != o)).length % 16 = 0 then 0 else t.linger
    superseded := t.superseded + 1 } := by
  rw [Stream.without, Stream.settle_cases]
  rfl

section

variable {s : State} {a : Arriving} {lba k : Nat}

/-! ## The three parts of a staging -/

/-- The sector has been routed, its slot has joined the queue of its stream, and the landing index names it (R14, R42, R43, R46). -/
def State.sectorIndexed (s : State) (a : Arriving) (lba k : Nat) : State :=
  ((s.route a lba).1.appendStaged k (s.route a lba).2).setIndex (identityKey a.fn a.ns lba) k

theorem State.sectorIndexed_eq (s : State) (a : Arriving) (lba k : Nat) : s.sectorIndexed a lba k = { s with
    ranges := (s.route a lba).1.ranges
    slots := Store.setD {} s.slots k { s.slot k with state := .staged, seq := s.sequence, stream := (s.route a lba).2 }
    sequence := s.sequence + 1
    streams := Store.setD {} s.streams (s.route a lba).2 ((s.stream (s.route a lba).2).appended k)
    index := Store.insert s.index (identityKey a.fn a.ns lba) k } := by
  have hroute := s.route_frame a lba
  unfold State.sectorIndexed State.appendStaged
  generalize (s.route a lba).1 = r at *
  exact congrArg (fun u : State => { u with
    ranges := r.ranges
    slots := Store.setD {} u.slots k { u.slot k with state := .staged, seq := u.sequence, stream := (s.route a lba).2 }
    sequence := u.sequence + 1
    streams := Store.setD {} u.streams (s.route a lba).2 ((u.stream (s.route a lba).2).appended k)
    index := Store.insert u.index (identityKey a.fn a.ns lba) k }) hroute

theorem State.sectorIndexed_slot (j : Nat) : (s.sectorIndexed a lba k).slot j
    = if j = k then { s.slot k with state := .staged, seq := s.sequence, stream := (s.route a lba).2 } else s.slot j := by
  rw [State.sectorIndexed_eq]
  exact s.slot_setSlot k _ j

theorem State.sectorIndexed_stream (i : Nat) : (s.sectorIndexed a lba k).stream i
    = if i = (s.route a lba).2 then (s.stream i).appended k else s.stream i := by
  rw [State.sectorIndexed_eq]
  refine (s.stream_setStream _ _ i).trans ?_
  split
  · rename_i hi
    rw [hi]
  · rfl

theorem State.sectorIndexed_find (key : Nat) : Store.find? (s.sectorIndexed a lba k).index key
    = if key = identityKey a.fn a.ns lba then some k else Store.find? s.index key := by
  rw [State.sectorIndexed_eq]
  exact Store.find?_insert ..

/-- The tenant's counts and the stream's linger counter have followed (R3, R21, R67). -/
def State.sectorCounted (u : State) (fn c : Nat) : State := (u.countLanded fn).resetLinger c

theorem State.sectorCounted_eq (u : State) (fn c : Nat) : u.sectorCounted fn c = { u with
    tenants := Store.setD {} u.tenants fn { u.tenant fn with stagedCount := (u.tenant fn).stagedCount + 1, landed := (u.tenant fn).landed + 1 }
    streams := Store.setD {} u.streams c { u.stream c with linger := 0 } } := rfl

theorem State.sectorCounted_tenant (u : State) (fn c i : Nat) : (u.sectorCounted fn c).tenant i
    = if i = fn then { u.tenant fn with stagedCount := (u.tenant fn).stagedCount + 1, landed := (u.tenant fn).landed + 1 } else u.tenant i :=
  u.tenant_setTenant fn _ i

theorem State.sectorCounted_stream (u : State) (fn c i : Nat) : (u.sectorCounted fn c).stream i
    = { u.stream i with linger := if i = c then 0 else (u.stream i).linger } := by
  refine (u.stream_setStream c { u.stream c with linger := 0 } i).trans ?_
  split
  · rename_i hi
    rw [hi]
  · rfl

theorem State.sectorCounted_slot (u : State) (fn c j : Nat) : (u.sectorCounted fn c).slot j = u.slot j := rfl

theorem State.sectorCounted_index (u : State) (fn c : Nat) : (u.sectorCounted fn c).index = u.index := rfl

/-- The staging of a sector, by whether it finds an older copy that may be superseded (R46, R48). -/
theorem State.stageSector_eq (s : State) (a : Arriving) (lba k : Nat) : s.stageSector a (lba, k)
    = match s.indexed a.fn a.ns lba with
      | none => (s.sectorIndexed a lba k).sectorCounted a.fn (s.route a lba).2
      | some o =>
        if supersedable (s.tenant a.fn) ((s.sectorIndexed a lba k).slot o)
        then ((s.sectorIndexed a lba k).supersede a.fn o).sectorCounted a.fn (s.route a lba).2
        else (s.sectorIndexed a lba k).sectorCounted a.fn (s.route a lba).2 := by
  have hframe := s.route_frame a lba
  have hindexed : ((s.route a lba).1.appendStaged k (s.route a lba).2).indexed a.fn a.ns lba = s.indexed a.fn a.ns lba :=
    (agree (π := fun u : State => u.indexed a.fn a.ns lba) hframe :)
  have htenant : (s.sectorIndexed a lba k).tenant a.fn = s.tenant a.fn := (agree (π := fun u : State => u.tenant a.fn) hframe :)
  unfold State.stageSector
  dsimp only
  rw [State.indexStaged]
  rw [hindexed]
  cases s.indexed a.fn a.ns lba with
  | none => rfl
  | some o =>
    show State.resetLinger (State.countLanded (if supersedable ((s.sectorIndexed a lba k).tenant a.fn) ((s.sectorIndexed a lba k).slot o) = true
      then (s.sectorIndexed a lba k).supersede a.fn o else s.sectorIndexed a lba k) a.fn) (s.route a lba).2 = _
    rw [htenant]
    dsimp only
    split
    · rfl
    · rfl

/-! ## The supersede (R49, R68) -/

theorem State.supersede_eq (u : State) (fn o : Nat) : u.supersede fn o
    = (((u.setStream (u.slot o).stream ((u.stream (u.slot o).stream).without o)).freeSlot o).setTenant fn
      { ((u.setStream (u.slot o).stream ((u.stream (u.slot o).stream).without o)).freeSlot o).tenant fn with
        superseded := (((u.setStream (u.slot o).stream ((u.stream (u.slot o).stream).without o)).freeSlot o).tenant fn).superseded + 1 }) := rfl

theorem State.supersede_slot (u : State) (fn o j : Nat) : (u.supersede fn o).slot j
    = if j = o then { u.slot o with state := .free, durable := none, mark := false } else u.slot j :=
  (u.setStream _ _).freeSlot_slot o j

theorem State.supersede_stream (u : State) (fn o i : Nat) : (u.supersede fn o).stream i
    = if i = (u.slot o).stream then (u.stream i).without o else u.stream i := by
  have hframe := (u.setStream (u.slot o).stream ((u.stream (u.slot o).stream).without o)).freeSlot_frame o
  refine (show (u.supersede fn o).stream i = _ from (agree (π := (State.stream · i)) hframe :)).trans ?_
  rw [State.stream_setStream]
  split
  · rename_i hi
    rw [hi]
  · rfl

theorem State.supersede_index (u : State) (fn o : Nat) : (u.supersede fn o).index
    = if u.indexed (u.slot o).fn (u.slot o).ns (u.slot o).lba = some o
      then Store.erase u.index (identityKey (u.slot o).fn (u.slot o).ns (u.slot o).lba) else u.index :=
  (u.setStream _ _).freeSlot_index o

theorem State.supersede_tenant (u : State) {fn o : Nat} (huse : (u.slot o).inUse = true) (hfn : (u.slot o).fn = fn) (i : Nat) :
    (u.supersede fn o).tenant i = if i = fn
      then { u.tenant fn with stagedCount := (u.tenant fn).stagedCount - 1, superseded := (u.tenant fn).superseded + 1 } else u.tenant i := by
  have hfreed : ∀ i, ((u.setStream (u.slot o).stream ((u.stream (u.slot o).stream).without o)).freeSlot o).tenant i
      = if i = fn then { u.tenant fn with stagedCount := (u.tenant fn).stagedCount - 1 } else u.tenant i := fun i => by
    refine ((u.setStream _ _).freeSlot_tenant o i).trans ?_
    by_cases hi : i = fn
    · rw [if_pos hi, hi]
      exact if_pos ⟨hfn.symm, huse⟩
    · rw [if_neg hi]
      exact if_neg fun h => hi (h.1.trans hfn)
  rw [State.supersede_eq, State.tenant_setTenant, hfreed fn, hfreed i, if_pos rfl]
  by_cases hi : i = fn
  · rw [if_pos hi, if_pos hi]
  · rw [if_neg hi, if_neg hi, if_neg hi]

/-- The state outside what a supersede may change. -/
def State.butSuperseded (s : State) : State := { s with tenants := [], slots := [], index := [], streams := [] }

theorem State.supersede_but (u : State) (fn o : Nat) : (u.supersede fn o).butSuperseded = u.butSuperseded :=
  (agree (π := State.butSuperseded) ((u.setStream (u.slot o).stream ((u.stream (u.slot o).stream).without o)).freeSlot_frame o) :)

theorem supersedable_iff (t : Tenant) (old : Slot) :
    supersedable t old = true ↔ t.coalescing = true ∧ old.state = .staged ∧ old.durable = none ∧ old.mark = false := by
  simp [supersedable, and_assoc]

end

end Sys2Proof.Machine
end

section
/-! The staging of one sector, as the claims state it: with no older copy, with one that is kept, and with one that is superseded. -/

namespace Sys2Proof.Machine

open Sys2Proof

section

variable {s : State} {a : Arriving} {lba k o : Nat}

/-! ## A staging that supersedes nothing -/

/-- The sector is staged, and no older copy is superseded (R21, R42 to R48). -/
def State.sectorKept (s : State) (a : Arriving) (lba k : Nat) : State := (s.sectorIndexed a lba k).sectorCounted a.fn (s.route a lba).2

theorem State.sectorKept_stream (i : Nat) : (s.sectorKept a lba k).stream i = { s.stream i with
    queue := (s.stream i).queue ++ if i = (s.route a lba).2 then [k] else []
    pad := (s.stream i).pad && decide (i = (s.route a lba).2 → ((s.stream i).queue.length + 1) % 16 ≠ 0)
    linger := if i = (s.route a lba).2 then 0 else (s.stream i).linger
    staged := (s.stream i).staged + if i = (s.route a lba).2 then 1 else 0 } := by
  rw [State.sectorKept, State.sectorCounted_stream, State.sectorIndexed_stream]
  by_cases hi : i = (s.route a lba).2
  · simp [hi, Stream.appended_eq]
  · simp [hi]

theorem State.sectorKept_tenant (u : Nat) : (s.sectorKept a lba k).tenant u = if u = a.fn
    then { s.tenant a.fn with stagedCount := (s.tenant a.fn).stagedCount + 1, landed := (s.tenant a.fn).landed + 1 } else s.tenant u := by
  have htenant : ∀ v, (s.sectorIndexed a lba k).tenant v = s.tenant v := fun v => by
    rw [State.sectorIndexed_eq]
    rfl
  rw [State.sectorKept, State.sectorCounted_tenant, htenant, htenant]

theorem State.sectorKept_eq (s : State) (a : Arriving) (lba k : Nat) : s.sectorKept a lba k = { s with
    index := Store.insert s.index (identityKey a.fn a.ns lba) k
    slots := Store.setD {} s.slots k { s.slot k with state := .staged, seq := s.sequence, stream := (s.route a lba).2 }
    sequence := s.sequence + 1
    ranges := (s.route a lba).1.ranges
    streams := (s.sectorKept a lba k).streams
    tenants := (s.sectorKept a lba k).tenants } := by
  conv_lhs => rw [State.sectorKept, State.sectorCounted_eq]
  rw [State.sectorKept, State.sectorCounted_eq, State.sectorIndexed_eq]

theorem State.sectorKept_slot (j : Nat) : (s.sectorKept a lba k).slot j
    = if j = k then { s.slot k with state := .staged, seq := s.sequence, stream := (s.route a lba).2 } else s.slot j := by
  rw [State.sectorKept_eq]
  exact s.slot_setSlot k _ j

theorem State.sectorKept_find (key : Nat) : Store.find? (s.sectorKept a lba k).index key
    = if key = identityKey a.fn a.ns lba then some k else Store.find? s.index key := by
  rw [State.sectorKept_eq]
  exact Store.find?_insert ..

theorem State.sectorKept_frame : s.StagedFrame (s.sectorKept a lba k) a lba := by
  refine ⟨fun u hu => by rw [State.sectorKept_tenant, if_neg hu], by rw [State.sectorKept_tenant, if_pos rfl], fun i => ?_, ?_⟩
  · rw [State.sectorKept_stream]
  · conv_lhs => rw [State.sectorKept_eq]
    rw [State.sectorKept_eq]

/-! ## A staging that supersedes the older copy -/

/-- The sector is staged, and the older copy is superseded (R49). -/
def State.sectorOver (s : State) (a : Arriving) (lba k o : Nat) : State :=
  ((s.sectorIndexed a lba k).supersede a.fn o).sectorCounted a.fn (s.route a lba).2

theorem State.sectorOver_slot (hne : o ≠ k) (j : Nat) : (s.sectorOver a lba k o).slot j
    = if j = o then { s.slot o with state := .free, durable := none, mark := false }
      else if j = k then { s.slot k with state := .staged, seq := s.sequence, stream := (s.route a lba).2 } else s.slot j := by
  rw [State.sectorOver, State.sectorCounted_slot, State.supersede_slot, State.sectorIndexed_slot o, if_neg hne, State.sectorIndexed_slot j]

/-- The stream's queue after the staging (R49, R66). -/
def State.queueOver (s : State) (k o c i : Nat) : List Nat :=
  (if i = (s.slot o).stream then (s.stream i).queue.filter (· != o) else (s.stream i).queue) ++ if i = c then [k] else []

theorem State.sectorOver_stream (hne : o ≠ k) (i : Nat) : (s.sectorOver a lba k o).stream i = { s.stream i with
    queue := s.queueOver k o (s.route a lba).2 i
    pad := (s.stream i).pad && decide (i = (s.route a lba).2 → ((s.stream i).queue.length + 1) % 16 ≠ 0)
      && decide (i = (s.slot o).stream → (s.queueOver k o (s.route a lba).2 i).length % 16 ≠ 0)
    linger := if i = (s.route a lba).2 ∨ i = (s.slot o).stream ∧ (s.queueOver k o (s.route a lba).2 i).length % 16 = 0 then 0
      else (s.stream i).linger
    staged := (s.stream i).staged + if i = (s.route a lba).2 then 1 else 0
    superseded := (s.stream i).superseded + if i = (s.slot o).stream then 1 else 0 } := by
  have hslot : (s.sectorIndexed a lba k).slot o = s.slot o := by rw [State.sectorIndexed_slot, if_neg hne]
  have hsame : (k != o) = true := by simpa using hne.symm
  rw [State.sectorOver, State.sectorCounted_stream, State.supersede_stream, hslot, State.sectorIndexed_stream, State.queueOver]
  generalize (s.route a lba).2 = c
  generalize (s.slot o).stream = j
  by_cases hi : i = c
  · by_cases hj : i = j
    · rw [if_pos hj, if_pos hi, Stream.without_eq, Stream.appended_eq]
      simp [hi, hi.symm.trans hj, hsame, List.filter_append]
    · rw [if_neg hj, if_pos hi, Stream.appended_eq]
      simp [hi, hi ▸ hj]
  · by_cases hj : i = j
    · rw [if_pos hj, if_neg hi, Stream.without_eq]
      simp [hj, hj ▸ hi]
    · simp [hi, hj]

theorem State.sectorOver_tenant (hne : o ≠ k) (huse : (s.slot o).inUse = true) (hfn : (s.slot o).fn = a.fn) (u : Nat) :
    (s.sectorOver a lba k o).tenant u = if u = a.fn then { s.tenant a.fn with
      stagedCount := (s.tenant a.fn).stagedCount - 1 + 1, landed := (s.tenant a.fn).landed + 1,
      superseded := (s.tenant a.fn).superseded + 1 } else s.tenant u := by
  have hslot : (s.sectorIndexed a lba k).slot o = s.slot o := by rw [State.sectorIndexed_slot, if_neg hne]
  have htenant : ∀ v, (s.sectorIndexed a lba k).tenant v = s.tenant v := fun v => by
    rw [State.sectorIndexed_eq]
    rfl
  rw [State.sectorOver, State.sectorCounted_tenant, State.supersede_tenant _ (hslot.symm ▸ huse) (hslot.symm ▸ hfn),
    State.supersede_tenant _ (hslot.symm ▸ huse) (hslot.symm ▸ hfn), htenant, htenant]
  by_cases hu : u = a.fn
  · rw [if_pos hu, if_pos rfl, if_pos hu]
  · rw [if_neg hu, if_neg hu, if_neg hu]

/-- Under the sector's own key the landing index names the new slot; the older copy's entry goes only where it names that copy (R46,
R47). -/
theorem State.sectorOver_find (hne : o ≠ k) (key : Nat) : Store.find? (s.sectorOver a lba k o).index key
    = if key = identityKey a.fn a.ns lba then some k
      else if key = identityKey (s.slot o).fn (s.slot o).ns (s.slot o).lba ∧ Store.find? s.index key = some o then none
      else Store.find? s.index key := by
  have hslot : (s.sectorIndexed a lba k).slot o = s.slot o := by rw [State.sectorIndexed_slot, if_neg hne]
  have hfind := State.sectorIndexed_find (s := s) (a := a) (lba := lba) (k := k)
  rw [State.sectorOver, State.sectorCounted_index, State.supersede_index, hslot, State.indexed, hfind]
  by_cases hsame : identityKey (s.slot o).fn (s.slot o).ns (s.slot o).lba = identityKey a.fn a.ns lba
  · rw [if_pos hsame, if_neg fun h => hne (Option.some.inj h).symm, hfind, hsame]
    by_cases hkey : key = identityKey a.fn a.ns lba
    · rw [if_pos hkey, if_pos hkey]
    · rw [if_neg hkey, if_neg hkey, if_neg fun h : _ ∧ _ => hkey h.1]
  · rw [if_neg hsame]
    by_cases hnames : Store.find? s.index (identityKey (s.slot o).fn (s.slot o).ns (s.slot o).lba) = some o
    · rw [if_pos hnames, Store.find?_erase, hfind]
      by_cases hkey : key = identityKey a.fn a.ns lba
      · rw [if_pos hkey, if_pos hkey, if_neg fun h => hsame (Eq.trans (Eq.symm h) hkey)]
      · rw [if_neg hkey, if_neg hkey]
        exact if_congr ⟨fun h => ⟨h, h ▸ hnames⟩, fun h => h.1⟩ rfl rfl
    · rw [if_neg hnames, hfind]
      by_cases hkey : key = identityKey a.fn a.ns lba
      · rw [if_pos hkey, if_pos hkey]
      · rw [if_neg hkey, if_neg hkey, if_neg]
        rintro ⟨hown, hnamed⟩
        exact hnames (hown ▸ hnamed)

theorem State.sectorOver_eq (s : State) (a : Arriving) (lba k o : Nat) : s.sectorOver a lba k o = { s with
    index := (s.sectorOver a lba k o).index
    slots := (s.sectorOver a lba k o).slots
    sequence := s.sequence + 1
    ranges := (s.route a lba).1.ranges
    streams := (s.sectorOver a lba k o).streams
    tenants := (s.sectorOver a lba k o).tenants } := by
  have hframe := State.supersede_but (s.sectorIndexed a lba k) a.fn o
  generalize hu : (s.sectorIndexed a lba k).supersede a.fn o = u at *
  have hover : s.sectorOver a lba k o = u.sectorCounted a.fn (s.route a lba).2 := by rw [State.sectorOver, hu]
  rw [hover]
  generalize hc : (s.route a lba).2 = c
  rw [State.sectorIndexed_eq] at hframe
  exact congrArg (fun v : State => { v with
    index := u.index, slots := u.slots, streams := (u.sectorCounted a.fn c).streams, tenants := (u.sectorCounted a.fn c).tenants }) hframe

theorem State.sectorOver_frame (hne : o ≠ k) (huse : (s.slot o).inUse = true) (hfn : (s.slot o).fn = a.fn) :
    s.StagedFrame (s.sectorOver a lba k o) a lba := by
  refine ⟨fun u hu => by rw [State.sectorOver_tenant hne huse hfn, if_neg hu],
    by rw [State.sectorOver_tenant hne huse hfn, if_pos rfl], fun i => ?_, ?_⟩
  · rw [State.sectorOver_stream hne]
  · conv_lhs => rw [State.sectorOver_eq]
    rw [State.sectorOver_eq]

theorem State.stageSector_fresh (h : s.indexed a.fn a.ns lba = none) : s.stageSector a (lba, k) = s.sectorKept a lba k := by
  rw [State.stageSector_eq, h]
  rfl

/-- The staging of a sector with an older copy (R48). -/
theorem State.stageSector_older (h : s.indexed a.fn a.ns lba = some o) (hne : o ≠ k) : s.stageSector a (lba, k)
    = if supersedable (s.tenant a.fn) (s.slot o) then s.sectorOver a lba k o else s.sectorKept a lba k := by
  have hslot : (s.sectorIndexed a lba k).slot o = s.slot o := by rw [State.sectorIndexed_slot, if_neg hne]
  rw [State.stageSector_eq, h, ← hslot]
  rfl

end

/-- Settles O9: the older copy is superseded, or kept, or there is none; and what the freeing of a slot changes. -/
theorem sectorStagingIndexesAndSupersedes : Obligations.SectorStagingIndexesAndSupersedes := by
  unfold Obligations.SectorStagingIndexesAndSupersedes
  refine ⟨fun s t a lba k o j c ht hindexed hne hfn hj hc => ?older, fun s t a lba k c ht hindexed hc => ?fresh,
    fun s k fn ns lba hfn hns hlba => ?freed⟩
  case older =>
    subst hj hc
    have hstaged := ht.trans (State.stageSector_older hindexed hne)
    by_cases hover : supersedable (s.tenant a.fn) (s.slot o) = true
    · rw [if_pos hover] at hstaged
      subst hstaged
      have hwhy := (supersedable_iff _ _).1 hover
      obtain ⟨-, hstate, hdurable, hmark⟩ := hwhy
      have huse : (s.slot o).inUse = true := by rw [Slot.inUse, hstate]; rfl
      have hfind := State.sectorOver_find (s := s) (a := a) (lba := lba) hne
      refine ⟨(hfind _).trans (if_pos rfl), fun hns hlba key hkey => ?_, ?_, ?_, ?_, fun i => ?_, fun _ => ⟨?_, fun i => ?_, fun i => ?_,
        fun i => ?_, fun i => ?_, ?_, fun hpos => ?_⟩, fun hnot => absurd ((supersedable_iff _ _).1 hover) hnot, fun i hik hio => ?_,
        State.sectorOver_frame hne huse hfn⟩
      · rw [hfind, if_neg hkey, if_neg fun h => hkey (by rw [h.1, hfn, hns, hlba])]
      · rw [State.sectorOver_slot hne, if_neg hne.symm, if_pos rfl]
      · rw [State.sectorOver_eq]
      · rw [State.sectorOver_tenant hne huse hfn, if_pos rfl]
      · rw [State.sectorOver_stream hne]
      · rw [State.sectorOver_slot hne, if_pos rfl, hdurable.symm, hmark.symm]
      · rw [State.sectorOver_stream hne]
        rfl
      · rw [State.sectorOver_stream hne]
      · rw [State.sectorOver_stream hne]
      · rw [State.sectorOver_stream hne]
      · rw [State.sectorOver_tenant hne huse hfn, if_pos rfl]
      · rw [State.sectorOver_tenant hne huse hfn, if_pos rfl]
        exact Nat.sub_add_cancel hpos
      · rw [State.sectorOver_slot hne, if_neg hio, if_neg hik]
    · rw [if_neg hover] at hstaged
      subst hstaged
      refine ⟨State.sectorKept_find _ |>.trans (if_pos rfl), fun _ _ key hkey => ?_, ?_, ?_, ?_, fun i => ?_,
        fun hwhy => absurd ((supersedable_iff _ _).2 hwhy) hover, fun _ => ⟨?_, fun i => ?_, fun i => ?_, fun i => ?_, fun i => ?_, ?_, ?_⟩,
        fun i hik _ => ?_, State.sectorKept_frame⟩
      · rw [State.sectorKept_find, if_neg hkey]
      · rw [State.sectorKept_slot, if_pos rfl]
      · rw [State.sectorKept_eq]
      · rw [State.sectorKept_tenant, if_pos rfl]
      · rw [State.sectorKept_stream]
      · rw [State.sectorKept_slot, if_neg hne]
      · rw [State.sectorKept_stream]
      · rw [State.sectorKept_stream]
      · rw [State.sectorKept_stream]
      · rw [State.sectorKept_stream]
      · rw [State.sectorKept_tenant, if_pos rfl]
      · rw [State.sectorKept_tenant, if_pos rfl]
      · rw [State.sectorKept_slot, if_neg hik]
  case fresh =>
    subst hc
    obtain rfl := ht.trans (State.stageSector_fresh hindexed)
    refine ⟨State.sectorKept_find _ |>.trans (if_pos rfl), fun key hkey => ?_, ?_, fun i hik => ?_, fun i => ?_, fun i => ?_, fun i => ?_,
      fun i => ?_, fun i => ?_, ?_, ?_, ?_, ?_, State.sectorKept_frame⟩
    · rw [State.sectorKept_find, if_neg hkey]
    · rw [State.sectorKept_slot, if_pos rfl]
    · rw [State.sectorKept_slot, if_neg hik]
    · rw [State.sectorKept_stream]
    · rw [State.sectorKept_stream]
    · rw [State.sectorKept_stream]
    · rw [State.sectorKept_stream]
    · rw [State.sectorKept_stream]
    · rw [State.sectorKept_tenant, if_pos rfl]
    · rw [State.sectorKept_eq]
    · rw [State.sectorKept_tenant, if_pos rfl]
    · rw [State.sectorKept_tenant, if_pos rfl]
  case freed =>
    subst hfn hns hlba
    have hindex := s.freeSlot_index k
    refine ⟨fun hnames => ?_, fun hnot => hindex.trans (if_neg hnot), s.freeSlot_slot k, s.freeSlot_tenant k, ?_⟩
    · rw [if_pos hnames] at hindex
      refine ⟨?_, fun key hkey => ?_⟩
      · rw [State.indexed, hindex, Store.find?_erase_self]
      · rw [hindex, Store.find?_erase_ne _ hkey]
    · conv_lhs => rw [State.freeSlot_eq]
      rw [State.freeSlot_eq]

end Sys2Proof.Machine
end

section
/-! The acceptance of a WRITE as its acts follow one another, and the landing law (R37, R42, R43, R184). -/

namespace Sys2Proof.Machine

open Sys2Proof

/-! ## The staging of a sector in any state -/

/-- What the staging of a sector leaves of a stream context: its state, its segment, its lanes and its request fields. -/
def Stream.standing (t : Stream) : Stream := { t with queue := [], pad := false, linger := 0, staged := 0, superseded := 0 }

theorem Stream.standing_linger (t : Stream) (n : Nat) : ({ t with linger := n } : Stream).standing = t.standing := rfl

theorem Stream.standing_appended (t : Stream) (k : Nat) : (t.appended k).standing = t.standing := by rw [Stream.appended_eq]; rfl

theorem Stream.standing_without (t : Stream) (o : Nat) : (t.without o).standing = t.standing := by rw [Stream.without_eq]; rfl

section

variable {s : State} {a : Arriving}

/-- A staging either supersedes or does not (R48). -/
theorem State.stageSector_either (s : State) (a : Arriving) (lba k : Nat) :
    s.stageSector a (lba, k) = s.sectorKept a lba k ∨ ∃ o, s.stageSector a (lba, k) = s.sectorOver a lba k o := by
  rw [State.stageSector_eq]
  split
  · exact .inl rfl
  · split
    · exact .inr ⟨_, rfl⟩
    · exact .inl rfl

theorem State.standing_sectorIndexed (lba k i : Nat) : ((s.sectorIndexed a lba k).stream i).standing = (s.stream i).standing := by
  rw [State.sectorIndexed_stream]
  split
  · exact Stream.standing_appended _ _
  · rfl

theorem State.standing_stageSector (x : Nat × Nat) (i : Nat) : ((s.stageSector a x).stream i).standing = (s.stream i).standing := by
  obtain ⟨lba, k⟩ := x
  rcases s.stageSector_either a lba k with h | ⟨o, h⟩ <;> rw [h]
  · rw [State.sectorKept, State.sectorCounted_stream, Stream.standing_linger]
    exact State.standing_sectorIndexed lba k i
  · rw [State.sectorOver, State.sectorCounted_stream, Stream.standing_linger, State.supersede_stream]
    refine Eq.trans ?_ (State.standing_sectorIndexed (s := s) (a := a) lba k i)
    split
    · exact Stream.standing_without _ _
    · rfl

theorem State.stageSector_sequence (x : Nat × Nat) : (s.stageSector a x).sequence = s.sequence + 1 := by
  obtain ⟨lba, k⟩ := x
  rcases s.stageSector_either a lba k with h | ⟨o, h⟩ <;> rw [h]
  · rw [State.sectorKept_eq]
  · rw [State.sectorOver_eq]

theorem State.supersede_landed (u : State) (fn o : Nat) : ((u.supersede fn o).tenant fn).landed = (u.tenant fn).landed := by
  have hfreed : ∀ v : State, ((v.freeSlot o).tenant fn).landed = (v.tenant fn).landed := fun v => by
    rw [State.freeSlot_tenant]
    split
    · rfl
    · rfl
  rw [State.supersede_eq, State.tenant_setTenant_self]
  exact hfreed _

theorem State.stageSector_landed (x : Nat × Nat) : ((s.stageSector a x).tenant a.fn).landed = (s.tenant a.fn).landed + 1 := by
  obtain ⟨lba, k⟩ := x
  have hindexed : (s.sectorIndexed a lba k).tenant a.fn = s.tenant a.fn := by
    rw [State.sectorIndexed_eq]
    rfl
  rcases s.stageSector_either a lba k with h | ⟨o, h⟩ <;> rw [h]
  · rw [State.sectorKept_tenant, if_pos rfl]
  · rw [State.sectorOver, State.sectorCounted_tenant, if_pos rfl, ← hindexed]
    exact congrArg (· + 1) (State.supersede_landed _ _ _)

/-! ## The staging of all sectors -/

theorem Arriving.length_sectors (a : Arriving) : a.sectors.length = a.landed.length := by
  simp [Arriving.sectors]

theorem State.beforeSector_all (s : State) (a : Arriving) : s.beforeSector a a.landed.length = s.freed.stageAll a := by
  rw [State.beforeSector, List.take_of_length_le (by rw [a.length_sectors])]
  rfl

theorem Arriving.sectors_getElem? {a : Arriving} {i k : Nat} (h : a.landed[i]? = some k) : a.sectors[i]? = some (a.lba + i, k) := by
  obtain ⟨hi, hget⟩ := List.getElem?_eq_some_iff.1 h
  refine List.getElem?_eq_some_iff.2 ⟨a.length_sectors.symm ▸ hi, ?_⟩
  simp [Arriving.sectors, hget]

theorem State.beforeSector_succ {i k : Nat} (h : a.landed[i]? = some k) :
    s.beforeSector a (i + 1) = (s.beforeSector a i).stageSector a (a.lba + i, k) := by
  rw [State.beforeSector, State.beforeSector, List.take_add_one, Arriving.sectors_getElem? h, Option.toList_some, List.foldl_append]
  rfl

/-- What every staging keeps holds after all of them. -/
theorem State.beforeSector_induction {P : Nat → State → Prop} (hzero : P 0 s.freed)
    (hnext : ∀ i k, a.landed[i]? = some k → P i (s.beforeSector a i) → P (i + 1) ((s.beforeSector a i).stageSector a (a.lba + i, k)))
    (n : Nat) (hn : n ≤ a.landed.length) : P n (s.beforeSector a n) := by
  induction n with
  | zero => exact hzero
  | succ n ih =>
    obtain ⟨k, hk⟩ : ∃ k, a.landed[n]? = some k := ⟨_, List.getElem?_eq_getElem (by omega)⟩
    rw [State.beforeSector_succ hk]
    exact hnext n k hk (ih (by omega))

theorem State.beforeSector_sequence {n : Nat} (hn : n ≤ a.landed.length) : (s.beforeSector a n).sequence = s.sequence + n :=
  State.beforeSector_induction (P := fun n u => u.sequence = s.sequence + n) rfl
    (fun _ _ _ h => by rw [State.stageSector_sequence, h]; rfl) n hn

theorem State.beforeSector_landed {n : Nat} (hn : n ≤ a.landed.length) :
    ((s.beforeSector a n).tenant a.fn).landed = (s.tenant a.fn).landed + BitVec.ofNat 48 n :=
  State.beforeSector_induction (P := fun n u => (u.tenant a.fn).landed = (s.tenant a.fn).landed + BitVec.ofNat 48 n)
    (by simp [State.freed_tenant])
    (fun _ _ _ h => by rw [State.stageSector_landed, h, BitVec.ofNat_add, BitVec.add_assoc]; rfl) n hn

theorem State.beforeSector_standing {n : Nat} (hn : n ≤ a.landed.length) (j : Nat) :
    ((s.beforeSector a n).stream j).standing = (s.stream j).standing :=
  State.beforeSector_induction (P := fun _ u => (u.stream j).standing = (s.stream j).standing) rfl
    (fun _ _ _ h => (State.standing_stageSector _ j).trans h) n hn

theorem State.beforeSector_frame (s : State) (a : Arriving) (n : Nat) :
    (s.beforeSector a n).butStageSector = s.freed.butStageSector :=
  foldl_frame State.butStageSector _ (fun s x => State.stageSector_frame s a x) _ s.freed

/-! ## The acts of an acceptance (R42) -/

/-- The sectors are staged, and LANDED OK or the durable write record follows. -/
def State.writeRecorded (s : State) (a : Arriving) : State :=
  if s.isDurable a then (s.stageAll a).createDurable a s.sequence
  else (s.stageAll a).enqueue (.landed a.tag a.fn .ok a.count s.sequence)

/-- The pads are made, and the credit engine evaluates when a slot was freed (R30, R49, R73, R74). -/
def State.writeCredited (s : State) (a : Arriving) : State :=
  if s.freeSlots < (s.writeRecorded a).durablePads.pressure.freeSlots then (s.writeRecorded a).durablePads.pressure.evalCredit
  else (s.writeRecorded a).durablePads.pressure

theorem State.acceptWrite_eq (s : State) (a : Arriving) : s.acceptWrite a = (s.writeCredited a).endRequests := rfl

theorem State.acceptWrite_sequence (s : State) (a : Arriving) : (s.acceptWrite a).sequence = s.sequence + a.landed.length := by
  have hall : (s.stageAll a).sequence = s.sequence + a.landed.length := by
    have hgen : ∀ (xs : List (Nat × Nat)) (u : State), (xs.foldl (State.stageSector a) u).sequence = u.sequence + xs.length := by
      intro xs
      induction xs with
      | nil => exact fun u => rfl
      | cons x xs ih =>
        intro u
        rw [List.foldl_cons, ih, State.stageSector_sequence, List.length_cons]
        omega
    rw [State.stageAll, hgen, a.length_sectors]
  have hrecorded : (s.writeRecorded a).sequence = (s.stageAll a).sequence := by
    unfold State.writeRecorded
    split
    · exact agree (State.createDurable_frame _ _ _)
    · rfl
  have hpadded : (s.writeRecorded a).durablePads.pressure.sequence = (s.writeRecorded a).sequence :=
    (agree (State.pressure_frame _)).trans (agree (State.durablePads_frame _))
  have hcredited : (s.writeCredited a).sequence = (s.writeRecorded a).durablePads.pressure.sequence := by
    unfold State.writeCredited
    split
    · exact agree (State.evalCredit_frame _)
    · rfl
  rw [State.acceptWrite_eq, show (s.writeCredited a).endRequests.sequence = (s.writeCredited a).sequence from agree (State.endRequests_frame _),
    hcredited, hpadded, hrecorded, hall]

/-! ## What the taking of a WRITE leaves of the parser and the sequence counter -/

theorem State.decideWrite_cases (s : State) (a : Arriving) : (∃ status, s.writeRefusal a = some status ∧ s.decideWrite a = s.refuseWrite a status)
    ∨ s.writeRefusal a = none ∧ (s.mustHold a = true ∧ s.decideWrite a = { s with parser := .holding a }
      ∨ s.mustHold a = false ∧ s.decideWrite a = s.acceptWrite a) := by
  unfold State.decideWrite
  cases s.writeRefusal a with
  | some status => exact .inl ⟨status, rfl, rfl⟩
  | none =>
    cases hhold : s.mustHold a with
    | true => exact .inr ⟨rfl, .inl ⟨rfl, if_pos rfl⟩⟩
    | false => exact .inr ⟨rfl, .inr ⟨rfl, if_neg Bool.false_ne_true⟩⟩

theorem State.takeWrite_cases (s : State) (a : Arriving) : (∃ status, s.takeWrite a = s.refuseWrite a status)
    ∨ a.overrun = false ∧ s.framingFault a = false ∧ s.takeWrite a = s.decideWrite a := by
  unfold State.takeWrite
  cases a.overrun with
  | true => exact .inl ⟨_, rfl⟩
  | false =>
    cases s.framingFault a with
    | true => exact .inl ⟨_, rfl⟩
    | false => exact .inr ⟨rfl, rfl, rfl⟩

end

end Sys2Proof.Machine
end

section
/-! The landing law: every step keeps it, and the sequence counter falls only where it is set (R37, R43, R184). -/

namespace Sys2Proof.Machine

open Sys2Proof

/-! ## The commands that take a parcel -/

theorem Arriving.kind_of_isCode {a : Arriving} {code : Nat} (h : a.isCode code = true) : a.kind = kindMgmt := by
  simp only [Arriving.isCode, Arriving.isRequest, Bool.and_eq_true, beq_iff_eq] at h
  exact h.1.1.1

theorem Arriving.kind_of_setsParam {a : Arriving} {p : Param} (h : a.setsParam p = true) : a.kind = kindMgmt :=
  Arriving.kind_of_isCode (Bool.and_eq_true_iff.1 h).1

theorem Arriving.kind_of_setsPlainParam {a : Arriving} (h : a.setsPlainParam = true) : a.kind = kindMgmt :=
  Arriving.kind_of_isCode (Bool.and_eq_true_iff.1 h).1

/-- The act of a command that takes a parcel and is no WRITE leaves the parser as it finds it, and takes no WRITE. -/
def ParserStays (want : Arriving → Bool) (act : State → Arriving → State) : Prop :=
  ∀ (s : State) (a : Arriving), want a = true → a.kind ≠ kindWrite ∧ (act s a).parser = s.parser

theorem parserStays_request {code : Nat} {act : State → Arriving → State} (hact : ∀ (s : State) a, (act s a).parser = s.parser) :
    ParserStays (·.isCode code) act := fun s a h => ⟨by rw [Arriving.kind_of_isCode h]; decide, hact s a⟩

theorem parserStays_setParam {p : Param} {act : Arriving → State → State} (hact : ∀ (s : State) a, (act a s).parser = s.parser) :
    ParserStays (·.setsParam p) fun s a => s.setParam a (act a) := fun s a h =>
  ⟨by rw [Arriving.kind_of_setsParam h]; decide,
    State.setParam_frame (m := State.parser) s a (fun _ _ => rfl) (fun s => hact s a) fun s p _ _ _ => by cases p <;> rfl⟩

theorem State.parser_untabled (s : State) : s.untabled.parser = s.parser := rfl

theorem State.parser_emptied (s : State) : s.emptied.parser = s.parser := by
  have hback : s.givenBack.parser = s.parser := agree s.givenBack_frame
  have hcleared : s.emptied.parser = s.givenBack.untabled.parser := agree s.emptied_frame
  rw [hcleared, State.parser_untabled, hback]

theorem State.parser_checkAllLinger (s : State) : s.checkAllLinger.parser = s.parser := agree s.checkAllLinger_frame

theorem exec_takesParcel_stays {c : Instr} (htakes : takesParcel c = true) (hwrite : c ≠ .write) :
    ∃ want act, ParserStays want act ∧ ∀ s : State, exec c s = .next (s.take want act) := by
  cases c
  case write => exact absurd rfl hwrite
  case peek =>
    refine ⟨_, _, ?_, fun _ => rfl⟩
    exact fun s a h => ⟨by rw [beq_iff_eq.1 h]; decide, rfl⟩
  case flush =>
    refine ⟨_, _, ?_, fun _ => rfl⟩
    exact fun s a h => ⟨by rw [beq_iff_eq.1 h]; decide, agree (s.takeFlush_frame a)⟩
  case badRequest =>
    refine ⟨_, _, ?_, fun _ => rfl⟩
    exact fun s a h => ⟨by rw [beq_iff_eq.1 (Bool.and_eq_true_iff.1 h).1]; decide, rfl⟩
  case identify =>
    refine ⟨_, _, ?_, fun _ => rfl⟩
    exact parserStays_request fun _ _ => rfl
  case setParam =>
    refine ⟨_, _, ?_, fun _ => rfl⟩
    exact fun s a h => ⟨by rw [Arriving.kind_of_setsPlainParam h]; decide,
      State.setParam_frame (m := State.parser) s a (fun _ _ => rfl) (fun _ => rfl) fun s p _ _ _ => by cases p <;> rfl⟩
  case setDecayInterval =>
    refine ⟨_, _, ?_, fun _ => rfl⟩
    exact parserStays_setParam (act := fun _ => State.restartDecay) fun _ _ => rfl
  case setDurableLinger =>
    refine ⟨_, _, ?_, fun _ => rfl⟩
    exact fun s a h => ⟨by rw [Arriving.kind_of_setsParam h]; decide,
      State.setParam_frame (m := State.parser) (act := State.checkAllLinger) s a (fun _ _ => rfl) State.parser_checkAllLinger
        fun s p _ _ _ => by cases p <;> rfl⟩
  case setCreditBatch =>
    refine ⟨_, _, ?_, fun _ => rfl⟩
    exact parserStays_setParam (act := fun _ => State.evalCredit) fun s _ => agree s.evalCredit_frame
  case setSequenceBase =>
    refine ⟨_, _, ?_, fun _ => rfl⟩
    exact parserStays_setParam (act := fun _ => id) fun _ _ => rfl
  case setPoolLowMark =>
    refine ⟨_, _, ?_, fun _ => rfl⟩
    exact parserStays_setParam (act := fun a => State.rearm a.paramLane) fun _ _ => rfl
  case getParam =>
    refine ⟨_, _, ?_, fun _ => rfl⟩
    exact parserStays_request fun s a => by unfold State.getParam; split <;> rfl
  case putTenant =>
    refine ⟨_, _, ?_, fun _ => rfl⟩
    exact parserStays_request fun s a => by rcases s.putTenant_cases a with ⟨_, _, h⟩ | ⟨-, h⟩ <;> rw [h] <;> rfl
  case getTenant =>
    refine ⟨_, _, ?_, fun _ => rfl⟩
    exact parserStays_request fun s a => by unfold State.getTenant; split <;> rfl
  case dropTenant =>
    refine ⟨_, _, ?_, fun _ => rfl⟩
    exact parserStays_request fun s a => by unfold State.dropTenant; split <;> [rfl; (split <;> rfl)]
  case putRanges =>
    refine ⟨_, _, ?_, fun _ => rfl⟩
    refine parserStays_request fun s a => ?_
    rcases s.putRanges_cases a with ⟨_, _, h⟩ | ⟨-, -, h⟩
    · rw [h]
      rfl
    · rw [h]
      exact (congrArg State.parser (s.butRanges_putEntries a.carriedRanges) :)
  case getRanges =>
    refine ⟨_, _, ?_, fun _ => rfl⟩
    exact parserStays_request fun s a => by unfold State.getRanges; split <;> rfl
  case putStream =>
    refine ⟨_, _, ?_, fun _ => rfl⟩
    refine parserStays_request fun s a => ?_
    unfold State.putStream
    dsimp only
    repeat' split
    · rfl
    · rfl
    · exact (agree (π := State.parser) (State.rotate_frame _ _)).trans rfl
    all_goals rfl
  case getStream =>
    refine ⟨_, _, ?_, fun _ => rfl⟩
    exact parserStays_request fun _ _ => rfl
  case holdStream =>
    refine ⟨_, _, ?_, fun _ => rfl⟩
    exact parserStays_request fun s a => by unfold State.holdStream; dsimp only; split <;> rfl
  case releaseStream =>
    refine ⟨_, _, ?_, fun _ => rfl⟩
    exact parserStays_request fun s a => agree (s.releaseStream_frame a)
  case flushStream =>
    refine ⟨_, _, ?_, fun _ => rfl⟩
    exact parserStays_request fun s a => agree (s.flushStream_frame a)
  case rotateStream =>
    refine ⟨_, _, ?_, fun _ => rfl⟩
    exact parserStays_request fun s a => agree (s.rotateStream_frame a)
  case unbindStream =>
    refine ⟨_, _, ?_, fun _ => rfl⟩
    refine parserStays_request fun s a => ?_
    unfold State.unbindStream
    dsimp only
    repeat' split
    · rfl
    · rfl
    · rfl
    · exact (agree (π := State.parser) (m := State.butDrainAndClose) (State.rotate_frame _ _)).trans rfl
  case grantBlocks =>
    refine ⟨_, _, ?_, fun _ => rfl⟩
    exact parserStays_request fun s a => agree (s.grantBlocks_frame a)
  case getLane =>
    refine ⟨_, _, ?_, fun _ => rfl⟩
    exact parserStays_request fun s a => by unfold State.getLane; split <;> rfl
  case restartLane =>
    refine ⟨_, _, ?_, fun _ => rfl⟩
    refine parserStays_request fun s a => ?_
    unfold State.restartLane
    dsimp only
    repeat' split
    all_goals rfl
  case clearPart =>
    refine ⟨_, _, ?_, fun _ => rfl⟩
    refine parserStays_request fun s a => ?_
    cases hquiet : s.quiet with
    | true =>
      rw [State.clearPart_quiet hquiet]
      exact State.parser_emptied _
    | false =>
      rw [State.clearPart_notQuiet hquiet]
      rfl
  all_goals cases htakes

/-- A command that takes a parcel, but for WRITE, does nothing, leaves the parcel GATED, or empties the parser. -/
theorem State.parser_after_takes (s : State) {c : Instr} (htakes : takesParcel c = true) (hwrite : c ≠ .write) :
    s.after c = s ∨ (∃ a, s.wholeParcel = some a ∧ s.after c = { s with parser := .gated a })
      ∨ ∃ a, s.offers a ∧ a.kind ≠ kindWrite ∧ (s.after c).parser = .awaiting := by
  obtain ⟨want, act, hstays, hexec⟩ := exec_takesParcel_stays htakes hwrite
  rw [exec_eq_next_iff.1 (hexec s)]
  rcases s.take_cases want act with h | ⟨a, hwhole, -, -, h⟩ | ⟨a, hoffers, hwant, h⟩
  · exact .inl h
  · exact .inr (.inl ⟨a, hwhole, h⟩)
  · refine .inr (.inr ⟨a, hoffers, (hstays s a hwant).1, ?_⟩)
    rw [h, (hstays _ a hwant).2]

/-! ## The landing law -/

section

variable {s t : State} {a : Arriving}

/-- What the landing law asks of the parser, at this value of the sequence counter. -/
def State.landsLawfully (s : State) : Parser → Prop
  | .awaiting => True
  | .receiving a => a.aborted = false ∧ (a.overrun = true → a.landed = []) ∧ (a.landed = [] ∨ a.landed.length < creditNeed a.bodyUnits)
  | .gated a => a.aborted = false → if a.overrun then a.landed = [] else a.kind = kindWrite → a.landed.length = creditNeed a.bodyUnits
  | .holding a => s.framingFault a = false ∧ a.landed.length = a.count

theorem State.landingLawful_iff : s.landingLawful ↔ s.sequence ≤ 2 ^ 48 - 1 ∧ s.landsLawfully s.parser := by
  unfold State.landingLawful State.landsLawfully
  cases s.parser <;> rfl

theorem State.framingFault_congr (h : t.sequence = s.sequence) (a : Arriving) : t.framingFault a = s.framingFault a := by
  rw [State.framingFault, State.framingFault, h]

theorem State.landingLawful_congr (hparser : t.parser = s.parser) (hsequence : t.sequence = s.sequence) (hs : s.landingLawful) :
    t.landingLawful := by
  rw [State.landingLawful_iff] at hs ⊢
  rw [hsequence, hparser]
  refine ⟨hs.1, ?_⟩
  have h := hs.2
  cases hp : s.parser with
  | holding a =>
    rw [hp] at h
    exact ⟨(State.framingFault_congr hsequence a).trans h.1, h.2⟩
  | awaiting | receiving a | gated a =>
    rw [hp] at h
    exact h

theorem State.landingLawful_of_awaiting (hparser : t.parser = .awaiting) (hsequence : t.sequence ≤ 2 ^ 48 - 1) : t.landingLawful := by
  rw [State.landingLawful_iff, hparser]
  exact ⟨hsequence, trivial⟩

/-- A parcel that is whole is one that the law allows in GATED. -/
theorem State.landsLawfully_gated (hs : s.landingLawful) (hwhole : s.wholeParcel = some a) : s.landsLawfully (.gated a) := by
  obtain ⟨-, hlands⟩ := State.landingLawful_iff.1 hs
  obtain ⟨-, ⟨hparser, -⟩ | ⟨hparser, hkind⟩⟩ := State.wholeParcel_some hwhole
  · rwa [hparser] at hlands
  · rw [hparser] at hlands
    obtain ⟨-, hover, -⟩ := hlands
    intro _
    cases hoverrun : a.overrun with
    | true => exact hover hoverrun
    | false =>
      intro hwrite
      exact absurd ((hkind hwrite).symm.trans hoverrun) (by decide)

/-- A correctly framed WRITE has landed one block for each of its sectors (R37). -/
theorem State.landed_of_framed (hs : s.landingLawful) (hwhole : s.wholeParcel = some a) (hkind : a.kind = kindWrite)
    (hover : a.overrun = false) (hframed : s.framingFault a = false) : a.landed.length = a.count := by
  obtain ⟨-, hgated⟩ := State.wholeParcel_some hwhole
  have hlands := State.landsLawfully_gated hs hwhole
  have haborted : a.aborted = false := by
    rcases hgated with ⟨-, haborted⟩ | ⟨hparser, -⟩
    · exact haborted
    · have hreceiving := (State.landingLawful_iff.1 hs).2
      rw [hparser] at hreceiving
      exact hreceiving.1
  have hneed := hlands haborted
  rw [hover, if_neg Bool.false_ne_true] at hneed
  rw [← Bool.not_eq_true, State.framingFault_iff] at hframed
  have hunits : a.bodyUnits = a.count * 256 := by tauto
  rw [hneed hkind, creditNeed, hunits]
  omega

/-- The checks 3 to 6 of a correctly framed WRITE keep the law. -/
theorem State.landingLawful_decideWrite (hsequence : s.sequence ≤ 2 ^ 48 - 1) (hparser : s.parser = .awaiting)
    (hframed : s.framingFault a = false) (hlanded : a.landed.length = a.count) : (s.decideWrite a).landingLawful := by
  rcases s.decideWrite_cases a with ⟨status, -, h⟩ | ⟨-, ⟨-, h⟩ | ⟨-, h⟩⟩ <;> rw [h]
  · have hframe := s.refuseWrite_frame a status
    exact State.landingLawful_of_awaiting ((agree hframe).trans hparser) (Eq.trans_le (agree hframe) hsequence)
  · exact State.landingLawful_iff.2 ⟨hsequence, hframed, hlanded⟩
  · refine State.landingLawful_of_awaiting ((agree (s.acceptWrite_frame a)).trans hparser) ?_
    rw [← Bool.not_eq_true, State.framingFault_iff] at hframed
    rw [State.acceptWrite_sequence]
    omega

theorem State.landingLawful_landBlock (hs : s.landingLawful) (block : List Unit16) : (s.landBlock block).landingLawful := by
  cases htarget : s.landingTarget block with
  | none => rwa [State.landBlock_of_none htarget]
  | some p =>
    obtain ⟨a, k⟩ := p
    obtain ⟨hparser, -, hkind, hover, hlength, hfits, -⟩ := (s.landingTarget_eq_some_iff ..).1 htarget
    obtain ⟨hsequence, hlands⟩ := State.landingLawful_iff.1 hs
    rw [hparser] at hlands
    obtain ⟨haborted, -, hroom⟩ := hlands
    rw [blockFits_iff, hlength, blockUnits] at hfits
    rw [State.landBlock_of_target htarget, State.landingLawful_iff]
    refine ⟨hsequence, ?_⟩
    have hneed : a.landed.length + 1 ≤ creditNeed a.bodyUnits := by
      unfold creditNeed
      omega
    dsimp only
    split
    · rename_i hdone
      intro _
      rw [if_neg (by rw [hover]; decide)]
      intro _
      show (a.landed ++ [k]).length = _
      rw [List.length_append, List.length_singleton]
      exact Nat.le_antisymm hneed hdone
    · rename_i hmore
      refine ⟨haborted, fun h => absurd (hover.symm.trans h) (by decide), .inr ?_⟩
      show (a.landed ++ [k]).length < _
      rw [List.length_append, List.length_singleton]
      exact Nat.lt_of_not_le hmore

theorem State.setParam_sequence (hsequence : s.sequence ≤ 2 ^ 48 - 1) : (s.setParam a id).sequence ≤ 2 ^ 48 - 1 := by
  unfold State.setParam
  split
  · exact hsequence
  · split
    · exact hsequence
    · rename_i p _ _
      have hstored : (s.storeParam p a.paramLane (clampInto (paramRange p) a.paramValue)).sequence
          = if p = .sequenceBase then clampInto (paramRange p) a.paramValue else s.sequence := by cases p <;> rfl
      refine Eq.trans_le hstored ?_
      split
      · rename_i hp
        rw [hp]
        exact max_le (Nat.zero_le _) (Nat.min_le_left _ _)
      · exact hsequence

theorem State.landingLawful_write (hs : s.landingLawful) : (s.after .write).landingLawful := by
  have hsequence := (State.landingLawful_iff.1 hs).1
  have hafter : s.after .write = s.take (fun a => a.kind == kindWrite) State.takeWrite := rfl
  rw [hafter]
  rcases s.take_cases (fun a => a.kind == kindWrite) State.takeWrite with h | ⟨a, hwhole, -, -, h⟩ | ⟨a, hoffers, hkind, h⟩ <;> rw [h]
  · exact hs
  · exact State.landingLawful_iff.2 ⟨hsequence, (State.landsLawfully_gated hs hwhole :)⟩
  · rcases s.freed.takeWrite_cases a with ⟨status, hrefused⟩ | ⟨hover, hframed, hdecided⟩
    · rw [show ({ s with parser := .awaiting } : State).takeWrite a = _ from hrefused]
      have hframe := s.freed.refuseWrite_frame a status
      exact State.landingLawful_of_awaiting (agree hframe) (Eq.trans_le (agree hframe) hsequence)
    · rw [show ({ s with parser := .awaiting } : State).takeWrite a = _ from hdecided]
      exact State.landingLawful_decideWrite hsequence rfl hframed (State.landed_of_framed hs hoffers.1 (beq_iff_eq.1 hkind) hover hframed)

theorem State.landingLawful_retake (hs : s.landingLawful) : s.retake.landingLawful := by
  obtain ⟨hsequence, hlands⟩ := State.landingLawful_iff.1 hs
  unfold State.retake
  split
  · rename_i a hparser
    split
    · rw [hparser] at hlands
      exact State.landingLawful_decideWrite hsequence rfl hlands.1 hlands.2
    · exact hs
  · exact hs

theorem State.landingLawful_abortParcel (hs : s.landingLawful) : s.abortParcel.landingLawful := by
  have hsequence := (State.landingLawful_iff.1 hs).1
  unfold State.abortParcel
  repeat' split
  · exact State.landingLawful_of_awaiting rfl hsequence
  · exact State.landingLawful_iff.2 ⟨hsequence, fun h => nomatch h⟩
  · exact hs
  · exact hs

theorem State.landingLawful_releaseAborted (hs : s.landingLawful) : s.releaseAborted.landingLawful := by
  have hsequence := (State.landingLawful_iff.1 hs).1
  unfold State.releaseAborted
  repeat' split
  · rename_i a _ _
    have hcredit := (s.freed.freeSlotList a.landed).evalCredit_frame
    have hfreed := s.freed.freeSlotList_frame a.landed
    exact State.landingLawful_of_awaiting ((agree hcredit).trans (agree hfreed))
      (Eq.trans_le ((agree hcredit).trans (agree hfreed)) hsequence)
  · exact hs
  · exact hs

theorem State.landingLawful_headArrives (hs : s.landingLawful) (head : Unit16) (body : List Unit16) : (s.headArrives head body).landingLawful := by
  have hsequence := (State.landingLawful_iff.1 hs).1
  unfold State.headArrives
  dsimp only
  repeat' split
  · rename_i hnone
    refine State.landingLawful_iff.2 ⟨hsequence, fun _ => ?_⟩
    split
    · rfl
    · intro _
      rw [hnone]
      rfl
  · exact State.landingLawful_iff.2 ⟨hsequence, rfl, fun _ => rfl, .inl rfl⟩
  · exact hs

theorem State.enterDumping_parser (s : State) : s.enterDumping.parser = .awaiting := by
  have hcheck := (s.dumpBegun.takeGrant 0).dumpCheck_frame
  have htaken := s.dumpBegun.takeGrant_frame 0
  have hbegun : s.dumpBegun.parser = .awaiting := rfl
  rw [State.enterDumping_eq]
  exact (agree hcheck).trans ((agree htaken).trans hbegun)

theorem State.landingLawful_pfailTo (hs : s.landingLawful) (level : Bool) : (s.pfailTo level).landingLawful := by
  have hsequence : (s.pfailTo level).sequence = s.sequence := s.after_agree (.pfail level)
  unfold State.pfailTo at hsequence ⊢
  dsimp only at hsequence ⊢
  split
  · rename_i henters
    rw [if_pos henters] at hsequence
    exact State.landingLawful_of_awaiting (State.enterDumping_parser _) (hsequence.trans_le (State.landingLawful_iff.1 hs).1)
  · exact State.landingLawful_congr rfl rfl hs

theorem State.landingLawful_after_reset (hs : s.landingLawful) {c : Instr} (hc : c = .resetRelease ∨ ∃ r l, c = .resetAssert r l) :
    (s.after c).landingLawful := by
  rcases s.after_reset_bare hc with h | h
  · rwa [h]
  · exact State.landingLawful_of_awaiting h.parser (h.sequence ▸ Nat.zero_le _)

theorem State.landingLawful_after (hs : s.landingLawful) (c : Instr) : (s.after c).landingLawful := by
  have hsequence := (State.landingLawful_iff.1 hs).1
  cases htakes : takesParcel c with
  | true =>
    by_cases hwrite : c = .write
    · exact hwrite ▸ State.landingLawful_write hs
    · rcases s.parser_after_takes htakes hwrite with h | ⟨a, hwhole, h⟩ | ⟨a, hoffers, -, hparser⟩
      · rwa [h]
      · rw [h]
        exact State.landingLawful_iff.2 ⟨hsequence, (State.landsLawfully_gated hs hwhole :)⟩
      · refine State.landingLawful_of_awaiting hparser ?_
        by_cases hset : c = .setSequenceBase
        · subst hset
          exact State.take_keeps (P := fun u => u.sequence ≤ 2 ^ 48 - 1) (act := fun s a => s.setParam a id) (fun _ _ h => h)
            (fun _ _ _ h => State.setParam_sequence h) hsequence
        · refine Eq.trans_le ?_ hsequence
          cases c
          case write => exact absurd rfl hwrite
          case setSequenceBase => exact absurd rfl hset
          all_goals first | exact s.after_agree _ | cases htakes
  | false =>
    cases c
    case landing block => exact State.landingLawful_landBlock hs block
    case heldWriteRetaking => exact State.landingLawful_retake hs
    case abortMark => exact State.landingLawful_abortParcel hs
    case abortedWriteRelease => exact State.landingLawful_releaseAborted hs
    case parcelDiscarded =>
      show s.discardParcel.landingLawful
      unfold State.discardParcel
      repeat' split
      · exact hs
      · exact State.landingLawful_of_awaiting rfl hsequence
      · exact hs
    case parcelHeadArrival head body => exact State.landingLawful_headArrives hs head body
    case pfail level => exact State.landingLawful_pfailTo hs level
    case resetAssert r l => exact State.landingLawful_after_reset hs (.inr ⟨r, l, rfl⟩)
    case resetRelease => exact State.landingLawful_after_reset hs (.inl rfl)
    all_goals first | cases htakes; done | exact State.landingLawful_congr (s.after_agree _) (s.after_agree _) hs

/-- Every command but SET-PARAM of SEQUENCE-BASE and RESET_N leaves the sequence counter or raises it (R43). -/
theorem State.sequence_le_after (s : State) (c : Instr) (hset : c ≠ .setSequenceBase) (hrelease : c ≠ .resetRelease)
    (hassert : ∀ r l, c ≠ .resetAssert r l) : s.sequence ≤ (s.after c).sequence := by
  have hdecide : ∀ (u : State) (a : Arriving), u.sequence ≤ (u.decideWrite a).sequence := fun u a => by
    rcases u.decideWrite_cases a with ⟨status, -, h⟩ | ⟨-, ⟨-, h⟩ | ⟨-, h⟩⟩ <;> rw [h]
    · exact Nat.le_of_eq (agree (u.refuseWrite_frame a status)).symm
    · rw [State.acceptWrite_sequence]
      exact Nat.le_add_right _ _
  have htake : ∀ (u : State) (a : Arriving), u.sequence ≤ (u.takeWrite a).sequence := fun u a => by
    rcases u.takeWrite_cases a with ⟨status, h⟩ | ⟨-, -, h⟩ <;> rw [h]
    · exact Nat.le_of_eq (agree (u.refuseWrite_frame a status)).symm
    · exact hdecide u a
  cases c
  case setSequenceBase => exact absurd rfl hset
  case resetRelease => exact absurd rfl hrelease
  case resetAssert r l => exact absurd rfl (hassert r l)
  case write =>
    exact State.take_keeps (P := fun u => s.sequence ≤ u.sequence) (act := State.takeWrite) (fun _ _ h => h)
      (fun u a _ h => h.trans (htake u a)) (Nat.le_refl _)
  case heldWriteRetaking =>
    show s.sequence ≤ s.retake.sequence
    unfold State.retake
    repeat' split
    · exact (hdecide { s with parser := .awaiting } _ :)
    · exact Nat.le_refl _
    · exact Nat.le_refl _
  all_goals exact Nat.le_of_eq (s.after_agree _).symm

end

/-- Settles O56: the parser's states and the framing of a WRITE, command by command. -/
theorem stepKeepsLandingLaw : Obligations.StepKeepsLandingLaw := by
  unfold Obligations.StepKeepsLandingLaw
  refine ⟨fun s t hs hstep => ?law, fun s c t hexec hset hrelease hassert => ?monotone⟩
  case law =>
    exact step_keeps (P := State.landingLawful) (fun s n hs => State.landingLawful_congr (s := s) rfl rfl hs)
      (fun s q hs => State.landingLawful_congr (s := s) rfl rfl hs) (fun c s hs => State.landingLawful_after hs c) s t hs hstep
  case monotone =>
    obtain rfl := exec_eq_next_iff.1 hexec
    exact s.sequence_le_after c hset hrelease hassert

end Sys2Proof.Machine
end

section
/-! The failure of one record (R124): its slots, its stream, its segment, its lane and its parcels. -/

namespace Sys2Proof.Machine

open Sys2Proof

/-! ## Tables of segments -/

/-- A table whose keys are keys of another is no longer than that. -/
theorem Store.length_le_of_keys {α β : Type} {m : Store α} {n : Store β} (hm : Store.sorted m = true)
    (h : ∀ key, (Store.find? m key).isSome = true → (Store.find? n key).isSome = true) : m.length ≤ n.length := by
  have hsubset : m.map Prod.fst ⊆ n.map Prod.fst := fun key hkey => by
    obtain ⟨e, he, rfl⟩ := List.mem_map.1 hkey
    obtain ⟨v, hv⟩ := Option.isSome_iff_exists.1 (h e.1 (by rw [Store.find?_of_mem hm he]; rfl))
    exact List.mem_map.2 ⟨_, Store.mem_of_find? hv, rfl⟩
  have hlength := ((Store.keys_nodup hm).subperm hsubset).length_le
  simpa [Store.keys] using hlength

section

variable {s : State} {l k id : Nat} {why : FailReason} {r : InFlight} {g : Segment}

/-! ## The stream of a failed unit -/

/-- The stream context after a merge of these slots into its queue (R69). -/
def State.merged (s : State) (slots : List Nat) (fillers : Nat) (t : Stream) : Stream :=
  { t with
    queue := s.mergeBySeq slots t.queue
    pad := decide (0 < (t.queue.length + slots.length) % 16) && (t.pad || decide (0 < fillers))
    linger := if (t.queue.length + slots.length) % 16 = 0 then 0 else t.linger }

theorem State.stream_requeue_merged (slots : List Nat) (fillers j : Nat) : (s.requeue k slots fillers).stream j
    = if j = k then s.merged slots fillers (s.stream j) else s.stream j := by
  rw [State.stream_requeue]
  by_cases hj : j = k
  · rw [if_pos hj, if_pos hj, hj]
    rfl
  · rw [if_neg hj, if_neg hj]

theorem State.merged_congr {v : State} (h : ∀ k, (v.slot k).seq = (s.slot k).seq) (slots : List Nat) (fillers : Nat) (t : Stream) :
    v.merged slots fillers t = s.merged slots fillers t := by
  unfold State.merged
  rw [State.mergeBySeq_congr h]

/-- A failed unit has been merged back into its stream, whose counts have moved, when it has one (R124). -/
def State.unitReturned (s : State) (r : InFlight) : Option Nat → State
  | none => s
  | some k => ((s.updStream k fun t => { t with failed := t.failed + 1 }).requeue k r.slots r.fillers).updStream k Stream.landedUnit

theorem State.unitReturned_frame (o : Option Nat) : (s.unitReturned r o).butSetStream = s.butSetStream := by
  cases o with
  | none => rfl
  | some k =>
    exact (agree (π := State.butSetStream) ((s.updStream k fun t => { t with failed := t.failed + 1 }).requeue_frame k r.slots r.fillers) :)

theorem State.unitReturned_stream (o : Option Nat) (j : Nat) : (s.unitReturned r o).stream j = if o = some j
    then { s.merged r.slots r.fillers (s.stream j) with failed := (s.stream j).failed + 1, inflight := (s.stream j).inflight - 1 }
    else s.stream j := by
  cases o with
  | none => exact (if_neg (by simp)).symm
  | some k =>
    have hlast := State.stream_setStream ((s.updStream k fun t => { t with failed := t.failed + 1 }).requeue k r.slots r.fillers) k
      (((s.updStream k fun t => { t with failed := t.failed + 1 }).requeue k r.slots r.fillers).stream k).landedUnit j
    have hfirst : ∀ i, (s.updStream k fun t => { t with failed := t.failed + 1 }).stream i
        = if i = k then { s.stream k with failed := (s.stream k).failed + 1 } else s.stream i :=
      s.stream_setStream k { s.stream k with failed := (s.stream k).failed + 1 }
    have hslot : ∀ i, ((s.updStream k fun t => { t with failed := t.failed + 1 }).slot i).seq = (s.slot i).seq := fun _ => rfl
    refine hlast.trans ?_
    rw [State.stream_requeue_merged, if_pos rfl, State.stream_requeue_merged, hfirst, hfirst, if_pos rfl, State.merged_congr hslot]
    by_cases hj : j = k
    · subst hj
      rw [if_pos rfl, if_pos rfl]
      rfl
    · rw [if_neg hj, if_neg hj, if_neg hj, if_neg fun h => hj (Option.some.inj h).symm]

/-! ## The segment of a failed unit -/

/-- The segment after one of its units has failed (R90, R124 act 2). -/
def Segment.unitFailed (g : Segment) : Segment := { g with failed := g.failed + 1, endCause := some (g.endCause.getD .broken) }

/-- The segment in which one more unit is counted as failed (R124 act 2). -/
def Segment.counted (g : Segment) : Segment := { g with failed := g.failed + 1 }

theorem State.countFailed_eq (hfind : Store.find? s.segments id = some g) : s.countFailed id = (s.setSegment id g.counted).drain id .broken := by
  unfold State.countFailed
  rw [hfind]
  rfl

theorem State.countFailed_segments (hfind : Store.find? s.segments id = some g) (i : Nat) :
    Store.find? (s.countFailed id).segments i = if i = id then some g.unitFailed else Store.find? s.segments i := by
  rw [State.countFailed_eq hfind]
  have hself : Store.find? (s.setSegment id g.counted).segments id = some g.counted := Store.find?_insert_self ..
  have hothers : ∀ {i}, i ≠ id → Store.find? (s.setSegment id g.counted).segments i = Store.find? s.segments i := fun hi =>
    Store.find?_insert_ne _ _ hi
  by_cases hcause : g.endCause = none
  · rw [State.drain_of_open hself hcause]
    refine (Store.find?_insert _ _ _ _).trans ?_
    by_cases hi : i = id
    · rw [if_pos hi, if_pos hi, Segment.unitFailed, hcause]
      rfl
    · rw [if_neg hi, if_neg hi]
      exact hothers hi
  · rw [State.drain_of_draining hself hcause]
    by_cases hi : i = id
    · rw [if_pos hi, hi, hself]
      obtain ⟨cause, hsome⟩ := Option.ne_none_iff_exists'.1 hcause
      rw [Segment.unitFailed, Segment.counted, hsome]
      rfl
    · rw [if_neg hi]
      exact hothers hi

theorem State.countFailed_stream (hfind : Store.find? s.segments id = some g) (j : Nat) : (s.countFailed id).stream j
    = if g.endCause = none ∧ j = g.stream then (s.stream j).released else s.stream j := by
  rw [State.countFailed_eq hfind]
  have hself : Store.find? (s.setSegment id g.counted).segments id = some g.counted := Store.find?_insert_self ..
  by_cases hcause : g.endCause = none
  · rw [State.drain_of_open hself hcause, State.stream_setStream]
    by_cases hj : j = g.stream
    · refine (if_pos (show j = g.counted.stream from hj)).trans ?_
      rw [if_pos ⟨hcause, hj⟩, hj]
      rfl
    · refine (if_neg (show ¬ j = g.counted.stream from hj)).trans ?_
      rw [if_neg fun h => hj h.2]
      rfl
  · rw [State.drain_of_draining hself hcause, if_neg fun h => hcause h.1]
    rfl

/-- A DRAINING segment with no unit outstanding is to close (R92). -/
abbrev Segment.gone (g : Segment) : Prop := g.endCause ≠ none ∧ g.done + g.failed = g.issued

theorem State.closeIfSettled_of_gone (hfind : Store.find? s.segments id = some g) (hgone : g.gone) :
    s.closeIfSettled id = (s.enqueue (.segmentClosed id g)).dropSegment id := by
  unfold State.closeIfSettled
  rw [hfind]
  obtain ⟨hcause, hsettled⟩ := hgone
  refine if_pos ?_
  simp only [Segment.isOpen, Segment.settled, Bool.and_eq_true, Bool.not_eq_true', beq_iff_eq, hsettled, and_true]
  cases hnone : g.endCause with
  | none => exact absurd hnone hcause
  | some cause => rfl

theorem State.closeIfSettled_of_staying (h : ∀ g, Store.find? s.segments id = some g → ¬ g.gone) : s.closeIfSettled id = s := by
  unfold State.closeIfSettled
  cases hfind : Store.find? s.segments id with
  | none => rfl
  | some g =>
    refine if_neg fun hcond => h g hfind ?_
    simp only [Segment.isOpen, Segment.settled, Bool.and_eq_true, Bool.not_eq_true', beq_iff_eq] at hcond
    refine ⟨fun hnone => ?_, hcond.2⟩
    rw [hnone] at hcond
    exact Bool.noConfusion hcond.1

/-! ## The acts of R124 -/

/-- The PROGRAM-FAILED of a record (R125). -/
def InFlight.failedParcel (r : InFlight) (l : Nat) (why : FailReason) : ReturnParcel := .programFailed l why (r.seg.getD 0) r.unit r.block

/-- Acts 1 to 3 of R124. -/
def State.unitFailing (s : State) (l : Nat) (why : FailReason) (r : InFlight) : State :=
  (((s.enqueue (r.failedParcel l why)).countFailed (r.seg.getD 0)).updLane l fun x => { x with failed := x.failed + 1 }).setSlotStates
    r.slots .staged

theorem State.normalFailed_eq (s : State) (l : Nat) (why : FailReason) (r : InFlight) : s.normalFailed l why r
    = ((s.unitFailing l why r).unitReturned r (s.streamOf (r.seg.getD 0))).closeIfSettled (r.seg.getD 0) := by
  unfold State.normalFailed
  cases howner : s.streamOf (r.seg.getD 0) with
  | none =>
    simp only [howner]
    rfl
  | some k =>
    simp only [howner]
    rfl

/-- The state outside the streams, the segments and the return queue. -/
def State.butStreamsClosed (s : State) : State := { s with streams := [], segments := [], returns := [] }

theorem State.closing_frame (o : Option Nat) (id : Nat) :
    ((s.unitReturned r o).closeIfSettled id).butStreamsClosed = s.butStreamsClosed :=
  (agree (π := State.butStreamsClosed) ((s.unitReturned r o).closeIfSettled_frame id)).trans
    (agree (π := State.butStreamsClosed) (State.unitReturned_frame o))

theorem State.unitFailing_slot (j : Nat) : (s.unitFailing l why r).slot j = if j ∈ r.slots then { s.slot j with state := .staged } else s.slot j := by
  have hcount := (s.enqueue (r.failedParcel l why)).countFailed_frame (r.seg.getD 0)
  have hslot : ((s.enqueue (r.failedParcel l why)).countFailed (r.seg.getD 0)).slot j = s.slot j := (agree (π := (State.slot · j)) hcount :)
  rw [State.unitFailing, State.setSlotStates_slot]
  exact if_congr Iff.rfl (congrArg (fun x : Slot => { x with state := .staged }) hslot) hslot

theorem State.unitFailing_lane (j : Nat) : (s.unitFailing l why r).lane j
    = if j = l then { s.lane l with failed := (s.lane l).failed + 1 } else s.lane j := by
  have hcount := (s.enqueue (r.failedParcel l why)).countFailed_frame (r.seg.getD 0)
  have hlane : ∀ j, ((s.enqueue (r.failedParcel l why)).countFailed (r.seg.getD 0)).lane j = s.lane j := fun j =>
    (agree (π := (State.lane · j)) hcount :)
  have hslots := (((s.enqueue (r.failedParcel l why)).countFailed (r.seg.getD 0)).updLane l fun x => { x with failed := x.failed + 1 }).setSlotStates_frame
    r.slots .staged
  rw [State.unitFailing]
  refine (agree (π := (State.lane · j)) hslots).trans ?_
  rw [State.lane_updLane, hlane, hlane]

theorem State.unitFailing_rest : (s.unitFailing l why r).returns = s.returns ++ [r.failedParcel l why]
    ∧ (∀ j, (s.unitFailing l why r).stream j = ((s.enqueue (r.failedParcel l why)).countFailed (r.seg.getD 0)).stream j)
    ∧ (s.unitFailing l why r).segments = ((s.enqueue (r.failedParcel l why)).countFailed (r.seg.getD 0)).segments := by
  have hcount := (s.enqueue (r.failedParcel l why)).countFailed_frame (r.seg.getD 0)
  have hslots := (((s.enqueue (r.failedParcel l why)).countFailed (r.seg.getD 0)).updLane l fun x => { x with failed := x.failed + 1 }).setSlotStates_frame
    r.slots .staged
  exact ⟨((agree (π := State.returns) hslots :).trans (agree (π := State.returns) hcount :)), fun j => (agree (π := (State.stream · j)) hslots :),
    (agree (π := State.segments) hslots :)⟩

theorem State.normalFailed_slot (j : Nat) : (s.normalFailed l why r).slot j
    = if j ∈ r.slots then { s.slot j with state := .staged } else s.slot j := by
  rw [State.normalFailed_eq]
  exact (agree (π := (State.slot · j)) (State.closing_frame _ _)).trans (State.unitFailing_slot j)

theorem State.normalFailed_lane (j : Nat) : (s.normalFailed l why r).lane j
    = if j = l then { s.lane l with failed := (s.lane l).failed + 1 } else s.lane j := by
  rw [State.normalFailed_eq]
  exact (agree (π := (State.lane · j)) (State.closing_frame _ _)).trans (State.unitFailing_lane j)

theorem State.normalFailed_returns (s : State) (l : Nat) (why : FailReason) (r : InFlight) : ∃ closed,
    (s.normalFailed l why r).returns = s.returns ++ r.failedParcel l why :: closed ∧ ∀ p ∈ closed, ∃ i g, p = .segmentClosed i g := by
  rw [State.normalFailed_eq]
  obtain ⟨closed, hreturns, hkinds⟩ := ((s.unitFailing l why r).unitReturned r (s.streamOf (r.seg.getD 0))).closeIfSettled_returns (r.seg.getD 0)
  refine ⟨closed, ?_, hkinds⟩
  have hreturned : ((s.unitFailing l why r).unitReturned r (s.streamOf (r.seg.getD 0))).returns = (s.unitFailing l why r).returns :=
    agree (π := State.returns) (State.unitReturned_frame _)
  rw [hreturns, hreturned, State.unitFailing_rest.1, List.append_assoc]
  rfl

/-- The segment and the stream of a failed unit, where its record names a segment in use (R90, R92, R124). -/
theorem State.normalFailed_tables (hseg : r.seg = some id) (hfind : Store.find? s.segments id = some g) :
    (∀ i, Store.find? (s.normalFailed l why r).segments i
      = if i = id then (if g.unitFailed.gone then none else some g.unitFailed) else Store.find? s.segments i)
    ∧ (∀ j, (s.normalFailed l why r).stream j = if j = g.stream
      then { s.merged r.slots r.fillers (if g.endCause = none then (s.stream j).released else s.stream j) with
        failed := (s.stream j).failed + 1, inflight := (s.stream j).inflight - 1 }
      else s.stream j)
    ∧ (s.normalFailed l why r).returns
      = s.returns ++ r.failedParcel l why :: if g.unitFailed.gone then [.segmentClosed id g.unitFailed] else [] := by
  have hid : r.seg.getD 0 = id := by rw [hseg]; rfl
  have howner : s.streamOf id = some g.stream := by rw [State.streamOf, hfind]; rfl
  obtain ⟨hreturns, hstreams, hsegments⟩ := State.unitFailing_rest (s := s) (l := l) (why := why) (r := r)
  have hfind' : Store.find? (s.enqueue (r.failedParcel l why)).segments id = some g := hfind
  have hcounted := State.countFailed_segments hfind'
  have hreleased := State.countFailed_stream hfind'
  have hslot : ∀ j, ((s.unitFailing l why r).slot j).seq = (s.slot j).seq := fun j => by
    rw [State.unitFailing_slot]
    split <;> rfl
  rw [hid] at hstreams hsegments
  rw [State.normalFailed_eq, hid, howner]
  have hstream := State.unitReturned_stream (s := s.unitFailing l why r) (r := r) (some g.stream)
  have hreturned := State.unitReturned_frame (s := s.unitFailing l why r) (r := r) (some g.stream)
  generalize (s.unitFailing l why r).unitReturned r (some g.stream) = v at *
  have hvsegments : ∀ i, Store.find? v.segments i = if i = id then some g.unitFailed else Store.find? s.segments i := fun i => by
    rw [show v.segments = (s.unitFailing l why r).segments from agree (π := State.segments) hreturned, hsegments]
    exact hcounted i
  have hvreturns : v.returns = s.returns ++ [r.failedParcel l why] := (agree (π := State.returns) hreturned).trans hreturns
  have hvstream : ∀ j, v.stream j = if j = g.stream
      then { s.merged r.slots r.fillers (if g.endCause = none then (s.stream j).released else s.stream j) with
        failed := (s.stream j).failed + 1, inflight := (s.stream j).inflight - 1 }
      else s.stream j := fun j => by
    rw [hstream, hstreams, hreleased, State.merged_congr hslot]
    by_cases hj : j = g.stream
    · rw [if_pos (congrArg some hj.symm), if_pos hj]
      by_cases hcause : g.endCause = none
      · rw [if_pos ⟨hcause, hj⟩, if_pos hcause]
        rfl
      · rw [if_neg fun h => hcause h.1, if_neg hcause]
        rfl
    · rw [if_neg fun h => hj (Option.some.inj h).symm, if_neg hj, if_neg fun h => hj h.2]
      rfl
  have hself : Store.find? v.segments id = some g.unitFailed := by rw [hvsegments, if_pos rfl]
  by_cases hgone : g.unitFailed.gone
  · rw [State.closeIfSettled_of_gone hself hgone]
    refine ⟨fun i => ?_, hvstream, ?_⟩
    · refine (Store.find?_erase _ _ _).trans ?_
      by_cases hi : i = id
      · rw [if_pos hi, if_pos hi, if_pos hgone]
      · rw [if_neg hi, if_neg hi]
        exact (hvsegments i).trans (if_neg hi)
    · rw [if_pos hgone]
      show v.returns ++ [_] = _
      rw [hvreturns, List.append_assoc]
      rfl
  · rw [State.closeIfSettled_of_staying fun g' hg' => Option.some.inj (hself.symm.trans hg') ▸ hgone]
    refine ⟨fun i => ?_, hvstream, ?_⟩
    · rw [hvsegments, if_neg hgone]
    · rw [hvreturns, if_neg hgone]

end

end Sys2Proof.Machine
end

section
/-! The failures of an event, one record after another (R69, R90, R92, R124, R132). -/

namespace Sys2Proof.Machine

open Sys2Proof

/-! ## Units of a segment -/

/-- How many of these records are units of the segment. -/
def unitsNamed (id : Nat) (rs : List InFlight) : Nat := (rs.filter fun r => r.seg == some id).length

theorem unitsNamed_append (id : Nat) (rs qs : List InFlight) : unitsNamed id (rs ++ qs) = unitsNamed id rs + unitsNamed id qs := by
  simp [unitsNamed]

theorem unitsNamed_cons_self {id : Nat} {r : InFlight} (h : r.seg = some id) (rs : List InFlight) :
    unitsNamed id (r :: rs) = unitsNamed id rs + 1 := by
  simp [unitsNamed, h]

theorem unitsNamed_cons_other {id : Nat} {r : InFlight} (h : r.seg ≠ some id) (rs : List InFlight) :
    unitsNamed id (r :: rs) = unitsNamed id rs := by
  simp [unitsNamed, h]

theorem any_named (id : Nat) (rs : List InFlight) : (rs.any fun r => r.seg == some id) = decide (0 < unitsNamed id rs) := by
  rw [Bool.eq_iff_iff, decide_eq_true_eq, unitsNamed, List.length_pos_iff_exists_mem]
  simp

theorem unitsNamed_perm {rs qs : List InFlight} (h : rs.Perm qs) (id : Nat) : unitsNamed id rs = unitsNamed id qs :=
  (h.filter _).length_eq

section

variable {s u : State} {l n id : Nat} {why : FailReason} {r : InFlight} {g : Segment} {rs rest : List InFlight}
  {fails : List (FailReason × InFlight)}

theorem State.Ledger.named_here (hs : s.Ledger) (hfind : Store.find? s.segments id = some g) :
    g.done + g.failed + unitsNamed id (s.lane g.lane).inflight = g.issued := (hs.segments.1 id g hfind).2.2.1

theorem State.Ledger.named_elsewhere (hs : s.Ledger) (hfind : Store.find? s.segments id = some g) (hlane : g.lane ≠ l) :
    unitsNamed id (s.lane l).inflight = 0 := by
  obtain ⟨-, hnormal, hdump⟩ := hs.segments
  refine List.length_eq_zero_iff.2 (List.filter_eq_nil_iff.2 fun r hr hseg => ?_)
  have hseg : r.seg = some id := by simpa using hseg
  cases hkind : r.kind with
  | normal =>
    obtain ⟨id', g', hseg', hfind', hlane', -⟩ := hnormal l r hr hkind
    rw [hseg] at hseg'
    cases hseg'
    rw [hfind] at hfind'
    cases hfind'
    exact hlane hlane'
  | dump =>
    rw [hdump l r hr hkind] at hseg
    cases hseg

theorem State.Ledger.not_gone (hs : s.Ledger) (hfind : Store.find? s.segments id = some g) : ¬ g.gone := fun ⟨hcause, hsettled⟩ =>
  absurd hsettled ((hs.segments.1 id g hfind).2.2.2.2 hcause).ne

/-! ## A segment of which units have failed -/

/-- The segment once these records have failed, and, with `lost`, its lane is lost (R90, R93). -/
def Segment.failing (g : Segment) (id : Nat) (rs : List InFlight) (lost : Bool) : Segment :=
  { g with
    failed := g.failed + unitsNamed id rs
    endCause := if 0 < unitsNamed id rs ∨ lost = true then some (g.endCause.getD .broken) else g.endCause }

/-- What is in the table for the segment: nothing once it has closed (R92). -/
def Segment.staying (g : Segment) : Option Segment := if g.gone then none else some g

theorem Segment.failing_of_none (h : unitsNamed id rs = 0) : g.failing id rs false = g := by
  simp [Segment.failing, h]

theorem Segment.unitFailed_failing (hseg : r.seg = some id) (lost : Bool) :
    (g.failing id rs lost).unitFailed = g.failing id (rs ++ [r]) lost := by
  rw [Segment.failing, Segment.failing, unitsNamed_append, unitsNamed_cons_self hseg, Segment.unitFailed, Segment.mk.injEq]
  refine ⟨rfl, rfl, rfl, rfl, rfl, rfl, rfl, ?_⟩
  have hafter : 0 < unitsNamed id rs + (unitsNamed id [] + 1) ∨ lost = true := .inl (Nat.succ_pos _)
  rw [if_pos hafter]
  by_cases hbefore : 0 < unitsNamed id rs ∨ lost = true
  · rw [if_pos hbefore]
    rfl
  · rw [if_neg hbefore]

theorem Segment.failing_other (hseg : r.seg ≠ some id) (lost : Bool) : g.failing id (rs ++ [r]) lost = g.failing id rs lost := by
  have h : unitsNamed id (rs ++ [r]) = unitsNamed id rs := by
    rw [unitsNamed_append, unitsNamed_cons_other hseg]
    rfl
  rw [Segment.failing, Segment.failing, h]

/-- A failing segment is to close once no unit of it is left in flight and it is DRAINING. -/
theorem State.Ledger.failing_gone (hs : s.Ledger) (hfind : Store.find? s.segments id = some g) (hlane : g.lane = l)
    (hcover : (rs ++ rest).Perm (s.lane l).inflight) (lost : Bool) :
    (g.failing id rs lost).gone ↔ (g.failing id rs lost).endCause ≠ none ∧ unitsNamed id rest = 0 := by
  have hhere := hs.named_here hfind
  rw [hlane, ← unitsNamed_perm hcover, unitsNamed_append] at hhere
  refine and_congr Iff.rfl ?_
  show g.done + (g.failed + unitsNamed id rs) = g.issued ↔ _
  omega

/-- A failing segment that closes is the one that R92 reports. -/
theorem State.Ledger.failing_lost (hs : s.Ledger) (hfind : Store.find? s.segments id = some g) (hlane : g.lane = l)
    (hcover : (rs ++ rest).Perm (s.lane l).inflight) {lost : Bool} (hgone : (g.failing id rs lost).gone) : g.failing id rs lost = g.lost := by
  have hhere := hs.named_here hfind
  rw [hlane, ← unitsNamed_perm hcover, unitsNamed_append] at hhere
  have hrest := ((hs.failing_gone hfind hlane hcover lost).1 hgone).2
  have hcause := hgone.1
  rw [Segment.failing, Segment.lost, Segment.mk.injEq]
  refine ⟨rfl, rfl, rfl, rfl, rfl, rfl, by omega, ?_⟩
  split
  · rfl
  · rename_i hno
    rw [Segment.failing] at hcause
    simp only [if_neg hno] at hcause
    obtain ⟨cause, hsome⟩ := Option.ne_none_iff_exists'.1 hcause
    rw [hsome]
    rfl

/-! ## The streams of failed units -/

/-- The stream context once this many of its units have failed, and, with `loses`, its open segment is lost (R57, R124). -/
def Stream.failing (t : Stream) (units : Nat) (loses : Bool) : Stream :=
  { t with
    openSeg := if loses = true then none else t.openSeg
    state := if loses = true ∧ t.state = .opened then .idle else t.state
    inflight := t.inflight - units
    failed := t.failed + BitVec.ofNat 32 units }

theorem Stream.released_failing (t : Stream) (units : Nat) (loses : Bool) : (t.failing units loses).released = t.failing units true := by
  unfold Stream.failing Stream.released
  cases loses with
  | false => simp
  | true =>
    by_cases hopened : t.state = .opened <;> simp [hopened]

theorem State.merged_failing (slots : List Nat) (fillers : Nat) (t : Stream) (units : Nat) (loses : Bool) :
    { s.merged slots fillers (t.failing units loses) with
      failed := (t.failing units loses).failed + 1, inflight := (t.failing units loses).inflight - 1 }
    = (s.merged slots fillers t).failing (units + 1) loses := by
  have hcount : t.failed + BitVec.ofNat 32 units + 1 = t.failed + BitVec.ofNat 32 (units + 1) := by
    rw [BitVec.ofNat_add, BitVec.add_assoc]
    rfl
  have hleft : t.inflight - units - 1 = t.inflight - (units + 1) := by omega
  unfold State.merged Stream.failing
  simp only [hcount, hleft]

/-- The stream's open segment is lost: a unit of it has failed, or it lies on the lane that is lost and the stream is below `n`. -/
def State.losesBelow (s : State) (l n : Nat) (rs : List InFlight) (k : Nat) : Bool :=
  match s.openSegment (s.stream k) with
  | none => false
  | some (id, g) => rs.any (fun r => r.seg == some id) || (g.lane == l && decide (k < n))

theorem State.openSegment_iff {t : Stream} : s.openSegment t = some (id, g) ↔ t.openSeg = some id ∧ Store.find? s.segments id = some g := by
  unfold State.openSegment
  cases t.openSeg with
  | none => simp
  | some id' =>
    cases hfind : Store.find? s.segments id' with
    | none =>
      simp only [hfind, Option.map_none, Option.some.injEq, reduceCtorEq, false_iff, not_and]
      rintro rfl h
      rw [hfind] at h
      cases h
    | some g' =>
      simp only [hfind, Option.map_some, Option.some.injEq, Prod.mk.injEq]
      constructor
      · rintro ⟨rfl, rfl⟩
        exact ⟨rfl, hfind⟩
      · rintro ⟨rfl, h⟩
        exact ⟨rfl, Option.some.inj (hfind.symm.trans h)⟩

/-- The open segment of a stream is its own and OPEN. -/
theorem State.Ledger.openSegment_own (hs : s.Ledger) {k : Nat} (h : s.openSegment (s.stream k) = some (id, g)) :
    g.stream = k ∧ g.endCause = none := by
  obtain ⟨hopen, hfind⟩ := State.openSegment_iff.1 h
  obtain ⟨g', hfind', hown, hcause, -⟩ := hs.openSegments.1 k id hopen
  rw [hfind] at hfind'
  cases hfind'
  exact ⟨hown, hcause⟩

theorem State.Ledger.openSegment_of_open (hs : s.Ledger) (hfind : Store.find? s.segments id = some g) (hcause : g.endCause = none) :
    s.openSegment (s.stream g.stream) = some (id, g) :=
  State.openSegment_iff.2 ⟨hs.openSegments.2.1 id g hfind hcause, hfind⟩

theorem State.unitStream_normal (hkind : r.kind = .normal) (hseg : r.seg = some id) (hfind : Store.find? s.segments id = some g) :
    s.unitStream r = some g.stream := by
  rw [State.unitStream, hkind, hseg]
  simp [State.streamOf, hfind]

theorem State.unitStream_dump (hkind : r.kind = .dump) : s.unitStream r = none := by rw [State.unitStream, hkind]

theorem State.unitsOf_append (k : Nat) : s.unitsOf (rs ++ [r]) k = s.unitsOf rs k + if s.unitStream r = some k then 1 else 0 := by
  unfold State.unitsOf
  rw [List.filter_append, List.length_append]
  by_cases h : s.unitStream r = some k <;> simp [h]

theorem State.requeueUnits_append : s.requeueUnits (rs ++ [r]) = match s.unitStream r with
    | none => s.requeueUnits rs
    | some k => (s.requeueUnits rs).requeue k r.slots r.fillers := by
  unfold State.requeueUnits
  rw [List.foldl_append]
  rfl

theorem State.requeueUnits_frame (s : State) (rs : List InFlight) : (s.requeueUnits rs).butSetStream = s.butSetStream := by
  induction rs using List.reverseRecOn with
  | nil => rfl
  | append_singleton rs r ih =>
    rw [State.requeueUnits_append]
    cases s.unitStream r with
    | none => exact ih
    | some k => exact ((s.requeueUnits rs).requeue_frame k r.slots r.fillers).trans ih

theorem State.requeueUnits_seq (s : State) (rs : List InFlight) (k : Nat) : ((s.requeueUnits rs).slot k).seq = (s.slot k).seq :=
  congrArg Slot.seq (agree (π := (State.slot · k)) (s.requeueUnits_frame rs) :)

/-- The stream context once a further unit has been merged back. -/
theorem State.stream_requeueUnits_append (k : Nat) : (s.requeueUnits (rs ++ [r])).stream k
    = if s.unitStream r = some k then s.merged r.slots r.fillers ((s.requeueUnits rs).stream k) else (s.requeueUnits rs).stream k := by
  rw [State.requeueUnits_append]
  cases s.unitStream r with
  | none => exact (if_neg (by simp)).symm
  | some j =>
    show ((s.requeueUnits rs).requeue j r.slots r.fillers).stream k = _
    rw [State.stream_requeue_merged, State.merged_congr (s.requeueUnits_seq rs)]
    exact if_congr (by rw [Option.some.injEq, eq_comm]) rfl rfl

end

/-! ## What the failures of an event leave -/

/-- The SEGMENT-CLOSED of the stream's open segment, when it lies on the lane and no unit of it is in flight (R93, R132 action 3). -/
def State.brokenOf (s : State) (l k : Nat) : Option ReturnParcel :=
  match s.openSegment (s.stream k) with
  | none => none
  | some (id, g) =>
    if g.lane = l ∧ ((s.lane l).inflight.any fun r => r.seg == some id) = false then some (.segmentClosed id g.lost) else none

/-- What the failures leave, on the way from `s` to `u`, of slots, streams and segments: the records `fails` have failed and `rest` is still
in flight, and of the streams below `n` the open segments on the lane have been broken. -/
structure State.UnitsFailing (s u : State) (l n : Nat) (fails : List (FailReason × InFlight)) (rest : List InFlight) : Prop where
  slots : ∀ k, u.slot k = if (fails.map Prod.snd).any (fun r => r.kind == .normal && r.slots.contains k) = true
    then { s.slot k with state := .staged } else s.slot k
  streams : ∀ k, u.stream k = ((s.requeueUnits (fails.map Prod.snd)).stream k).failing (s.unitsOf (fails.map Prod.snd) k)
    (s.losesBelow l n (fails.map Prod.snd) k)
  segments : ∀ id, Store.find? u.segments id = (Store.find? s.segments id).bind fun g =>
    (g.failing id (fails.map Prod.snd) (decide (g.lane = l ∧ g.stream < n))).staying

/-- What they leave of everything but the lanes. -/
structure State.Failed (s u : State) (l n : Nat) (fails : List (FailReason × InFlight)) (rest : List InFlight) : Prop
    extends s.UnitsFailing u l n fails rest where
  returns : u.returns = s.returns ++ s.failureParcels l rest fails ++ (List.range n).filterMap (s.brokenOf l)
  dump : u.dump = { s.dump with redo := u.dump.redo }
  redo : ∀ k, k ∈ u.dump.redo ↔ k ∈ s.dump.redo
    ∨ ∃ r ∈ fails.map Prod.snd, r.kind = .dump ∧ r.trailer = false ∧ k ∈ r.slots ∧ (s.slot k).inUse = true

section

variable {s u : State} {l n id : Nat} {why : FailReason} {r : InFlight} {g : Segment} {rest : List InFlight}
  {fails : List (FailReason × InFlight)}

theorem State.losesBelow_none (k : Nat) : s.losesBelow l 0 [] k = false := by
  unfold State.losesBelow
  cases s.openSegment (s.stream k) with
  | none => rfl
  | some p => simp

theorem Stream.failing_zero (t : Stream) : t.failing 0 false = t := by
  simp [Stream.failing]

theorem State.Ledger.failed_none (hs : s.Ledger) (rest : List InFlight) : s.Failed s l 0 [] rest where
  slots _ := rfl
  streams k := by
    rw [List.map_nil, State.losesBelow_none]
    exact (Stream.failing_zero _).symm
  segments id := by
    cases hfind : Store.find? s.segments id with
    | none => rfl
    | some g =>
      have hsame : g.failing id [] (decide (g.lane = l ∧ g.stream < 0)) = g := by
        rw [decide_eq_false (fun h => absurd h.2 (Nat.not_lt_zero _))]
        exact Segment.failing_of_none rfl
      rw [Option.bind_some, List.map_nil, hsame, Segment.staying, if_neg (hs.not_gone hfind)]
  returns := by simp [State.failureParcels]
  dump := rfl
  redo k := by simp

/-- Everything that the failures do not speak of may change. -/
theorem State.UnitsFailing.congr {v : State} (h : s.UnitsFailing u l n fails rest) (hslots : v.slot = u.slot) (hstreams : v.stream = u.stream)
    (hsegments : v.segments = u.segments) : s.UnitsFailing v l n fails rest where
  slots := hslots ▸ h.slots
  streams := hstreams ▸ h.streams
  segments := hsegments ▸ h.segments

theorem State.Failed.congr {v : State} (h : s.Failed u l n fails rest) (hslots : v.slot = u.slot) (hstreams : v.stream = u.stream)
    (hsegments : v.segments = u.segments) (hreturns : v.returns = u.returns) (hdump : v.dump = u.dump) : s.Failed v l n fails rest where
  toUnitsFailing := h.toUnitsFailing.congr hslots hstreams hsegments
  returns := hreturns ▸ h.returns
  dump := hdump ▸ h.dump
  redo := hdump ▸ h.redo

theorem State.failureParcels_append (stay : List InFlight) : s.failureParcels l stay (fails ++ [(why, r)])
    = s.failureParcels l (r :: stay) fails ++ s.failureParcels l stay [(why, r)] := by
  induction fails with
  | nil => rfl
  | cons p fails ih =>
    obtain ⟨reason, q⟩ := p
    have hlater : (fails ++ [(why, r)]).map Prod.snd ++ stay = fails.map Prod.snd ++ r :: stay := by simp
    rw [List.cons_append, State.failureParcels, ih, ← List.append_assoc, hlater]
    rfl

/-- A further record moves a stream's loss only when it names the stream's open segment. -/
theorem State.losesBelow_append (rs : List InFlight) {k : Nat} (h : ∀ i g', s.openSegment (s.stream k) = some (i, g') → r.seg ≠ some i) :
    s.losesBelow l n (rs ++ [r]) k = s.losesBelow l n rs k := by
  unfold State.losesBelow
  cases hopen : s.openSegment (s.stream k) with
  | none => rfl
  | some p =>
    obtain ⟨i, g'⟩ := p
    have hno : (r.seg == some i) = false := beq_eq_false_iff_ne.2 (h i g' hopen)
    simp [hno]

/-- The stream of a failed unit loses its open segment if the unit finds the segment OPEN, and else has lost what it has lost before. -/
theorem State.Ledger.losesBelow_unit (hs : s.Ledger) (rs : List InFlight) (hseg : r.seg = some id) (hfind : Store.find? s.segments id = some g) :
    s.losesBelow l n (rs ++ [r]) g.stream
      = if (g.failing id rs false).endCause = none then true else s.losesBelow l n rs g.stream := by
  by_cases hcause : g.endCause = none
  · have hopen := hs.openSegment_of_open hfind hcause
    have hafter : s.losesBelow l n (rs ++ [r]) g.stream = true := by
      rw [State.losesBelow, hopen]
      simp [hseg]
    rw [hafter]
    by_cases hbefore : 0 < unitsNamed id rs
    · have hlost : s.losesBelow l n rs g.stream = true := by
        simp only [State.losesBelow, hopen, any_named, decide_eq_true hbefore, Bool.true_or]
      rw [hlost, if_neg]
      rw [Segment.failing]
      simp [hbefore]
    · rw [Segment.failing_of_none (Nat.eq_zero_of_not_pos hbefore), if_pos hcause]
  · have hdraining : (g.failing id rs false).endCause ≠ none := by
      rw [Segment.failing]
      by_cases hbefore : 0 < unitsNamed id rs <;> simp [hbefore, hcause]
    rw [if_neg hdraining]
    refine State.losesBelow_append rs fun i g' hopen heq => ?_
    obtain rfl := Option.some.inj (hseg.symm.trans heq)
    obtain ⟨-, hfind'⟩ := State.openSegment_iff.1 hopen
    exact hcause (Option.some.inj (hfind.symm.trans hfind') ▸ (hs.openSegment_own hopen).2)

theorem State.Ledger.losesBelow_others (hs : s.Ledger) (rs : List InFlight) (hseg : r.seg = some id) (hfind : Store.find? s.segments id = some g)
    {k : Nat} (hk : k ≠ g.stream) : s.losesBelow l n (rs ++ [r]) k = s.losesBelow l n rs k := by
  refine State.losesBelow_append rs fun i g' hopen heq => ?_
  obtain rfl := Option.some.inj (hseg.symm.trans heq)
  obtain ⟨-, hfind'⟩ := State.openSegment_iff.1 hopen
  exact hk (Option.some.inj (hfind.symm.trans hfind') ▸ (hs.openSegment_own hopen).1.symm)

theorem State.Failed.seq (h : s.Failed u l n fails rest) (k : Nat) : (u.slot k).seq = (s.slot k).seq := by
  rw [h.slots]
  split <;> rfl

/-- The slots after one more record. -/
theorem slotsStaged_append (rs : List InFlight) (k : Nat) (x : Slot) :
    (if (rs ++ [r]).any (fun r => r.kind == .normal && r.slots.contains k) = true then { x with state := .staged } else x)
      = if r.kind = .normal ∧ k ∈ r.slots
        then { (if rs.any (fun r => r.kind == .normal && r.slots.contains k) = true then { x with state := .staged } else x) with state := .staged }
        else if rs.any (fun r => r.kind == .normal && r.slots.contains k) = true then { x with state := .staged } else x := by
  rw [List.any_append]
  cases hbefore : rs.any fun r => r.kind == .normal && r.slots.contains k <;> by_cases hr : r.kind = .normal ∧ k ∈ r.slots <;> simp [hr]

/-- The segment of a record still to fail is in the table. -/
theorem State.Failed.segment_of (hs : s.Ledger) (h : s.Failed u l 0 fails (r :: rest))
    (hcover : (fails.map Prod.snd ++ r :: rest).Perm (s.lane l).inflight) (hseg : r.seg = some id) (hfind : Store.find? s.segments id = some g)
    (hlane : g.lane = l) : Store.find? u.segments id = some (g.failing id (fails.map Prod.snd) false) := by
  have hstays : ¬ (g.failing id (fails.map Prod.snd) false).gone := fun hgone => by
    have hrest := ((hs.failing_gone hfind hlane hcover false).1 hgone).2
    rw [unitsNamed_cons_self hseg] at hrest
    exact absurd hrest (Nat.succ_ne_zero _)
  have hnone : decide (g.lane = l ∧ g.stream < 0) = false := decide_eq_false fun h => absurd h.2 (Nat.not_lt_zero _)
  rw [h.segments, hfind, Option.bind_some, hnone, Segment.staying, if_neg hstays]

/-- What a NORMAL record's failure enqueues. -/
theorem State.Ledger.failureParcels_unit (hs : s.Ledger) {rs : List InFlight} (hcover : (rs ++ r :: rest).Perm (s.lane l).inflight)
    (hkind : r.kind = .normal) (hseg : r.seg = some id) (hfind : Store.find? s.segments id = some g) (hlane : g.lane = l) :
    s.failureParcels l rest [(why, r)] = r.failedParcel l why ::
      if (g.failing id (rs ++ [r]) false).gone then [.segmentClosed id (g.failing id (rs ++ [r]) false)] else [] := by
  have hcover' : ((rs ++ [r]) ++ rest).Perm (s.lane l).inflight := by simpa using hcover
  have hgone := hs.failing_gone hfind hlane hcover' false
  have hcause : (g.failing id (rs ++ [r]) false).endCause ≠ none := by
    rw [Segment.failing, unitsNamed_append, unitsNamed_cons_self hseg]
    simp
  unfold State.failureParcels
  rw [hkind]
  simp only [List.map_nil, List.nil_append, State.failureParcels, List.append_nil, hseg, Option.getD_some, hfind, Option.map_some, Option.toList_some,
    any_named, decide_eq_true_eq]
  refine congr (congrArg List.cons ?_) ?_
  · rw [InFlight.failedParcel, hseg]
    rfl
  · by_cases hrest : unitsNamed id rest = 0
    · have hclosed := hgone.2 ⟨hcause, hrest⟩
      rw [if_neg (by omega), if_pos hclosed, hs.failing_lost hfind hlane hcover' hclosed]
    · rw [if_pos (Nat.pos_of_ne_zero hrest), if_neg fun h => hrest (hgone.1 h).2]

/-- A NORMAL record fails. -/
theorem State.Failed.normal (hs : s.Ledger) (h : s.Failed u l 0 fails (r :: rest))
    (hcover : (fails.map Prod.snd ++ r :: rest).Perm (s.lane l).inflight) (hkind : r.kind = .normal) :
    s.Failed (u.normalFailed l why r) l 0 (fails ++ [(why, r)]) rest := by
  obtain ⟨id, g, hseg, hfind, hlane, -⟩ := hs.segments.2.1 l r (hcover.mem_iff.1 (by simp)) hkind
  have hall : (fails ++ [(why, r)]).map Prod.snd = fails.map Prod.snd ++ [r] := by simp
  have hnone : ∀ g : Segment, decide (g.lane = l ∧ g.stream < 0) = false := fun _ => decide_eq_false fun h => absurd h.2 (Nat.not_lt_zero _)
  obtain ⟨hsegments, hstreams, hreturns⟩ := State.normalFailed_tables (l := l) (why := why) hseg (h.segment_of hs hcover hseg hfind hlane)
  have hparcels := hs.failureParcels_unit (why := why) hcover hkind hseg hfind hlane
  have howner : s.unitStream r = some g.stream := State.unitStream_normal hkind hseg hfind
  have hdump : (u.normalFailed l why r).dump = u.dump := (agree (π := State.dump) (u.normalFailed_frame l why r) :)
  rw [Segment.unitFailed_failing hseg] at hsegments hreturns
  refine { slots := fun k => ?_, streams := fun k => ?_, segments := fun i => ?_, returns := ?_, dump := ?_, redo := fun k => ?_ }
  · rw [State.normalFailed_slot, h.slots, hall, slotsStaged_append]
    exact if_congr (by simp [hkind]) rfl rfl
  · rw [hstreams, hall, State.stream_requeueUnits_append, State.unitsOf_append, howner]
    by_cases hk : k = g.stream
    · have hk' : k = (g.failing id (fails.map Prod.snd) false).stream := hk
      have hloses := hs.losesBelow_unit (l := l) (n := 0) (fails.map Prod.snd) hseg hfind
      rw [if_pos hk', if_pos (congrArg some hk.symm), if_pos (congrArg some hk.symm), State.merged_congr h.seq, h.streams k, hk, hloses,
        ← State.merged_failing]
      split
      · rw [Stream.released_failing]
        rfl
      · rfl
    · have hk' : ¬ k = (g.failing id (fails.map Prod.snd) false).stream := hk
      have hother : ¬ some g.stream = some k := fun h => hk (Option.some.inj h).symm
      rw [if_neg hk', if_neg hother, if_neg hother, hs.losesBelow_others _ hseg hfind hk]
      exact h.streams k
  · rw [hsegments, hall]
    by_cases hi : i = id
    · rw [if_pos hi, hi, hfind, Option.bind_some, hnone]
      rfl
    · rw [if_neg hi, h.segments]
      refine Option.bind_congr fun g' hg' => ?_
      rw [Segment.failing_other (by rw [hseg]; exact fun h => hi (Option.some.inj h).symm)]
  · rw [hreturns, h.returns, State.failureParcels_append, hparcels]
    simp
  · rw [hdump]
    exact h.dump
  · rw [hdump, h.redo, hall]
    simp [hkind]

theorem State.mem_issuedSlots {k : Nat} : k ∈ (s.lane l).issuedSlots ↔ ∃ r ∈ (s.lane l).inflight, r.kind = .normal ∧ k ∈ r.slots := by
  simp [Lane.issuedSlots, and_assoc]

/-- A failure takes no slot out of use and brings none into use. -/
theorem State.Failed.inUse (hs : s.Ledger) (h : s.Failed u l n fails rest) (hcover : (fails.map Prod.snd ++ rest).Perm (s.lane l).inflight)
    (k : Nat) : (u.slot k).inUse = (s.slot k).inUse := by
  rw [h.slots]
  by_cases hstaged : (fails.map Prod.snd).any (fun r => r.kind == .normal && r.slots.contains k) = true
  · obtain ⟨r, hr, hk⟩ := List.any_eq_true.1 hstaged
    simp only [Bool.and_eq_true, beq_iff_eq, List.contains_iff_mem] at hk
    have hissued : (s.slot k).state = .issued :=
      (hs.issuedSlots.1 k).2 ⟨l, State.mem_issuedSlots.2 ⟨r, hcover.mem_iff.1 (List.mem_append_left _ hr), hk⟩⟩
    rw [if_pos hstaged, Slot.inUse, Slot.inUse, hissued]
    rfl
  · rw [if_neg hstaged]

theorem State.mem_redoAfter (k : Nat) : k ∈ s.redoAfter r ↔ k ∈ s.dump.redo ∨ r.trailer = false ∧ k ∈ r.slots ∧ (s.slot k).inUse = true := by
  cases htrailer : r.trailer with
  | true => simp [State.redoAfter_trailer htrailer]
  | false =>
    rw [(State.redoAfter_data htrailer).mem_iff, List.mem_append, List.mem_filter]
    by_cases hk : k ∈ s.dump.redo <;> simp [hk]

/-- A DUMP record fails. -/
theorem State.Failed.dumped (hs : s.Ledger) (h : s.Failed u l 0 fails (r :: rest))
    (hcover : (fails.map Prod.snd ++ r :: rest).Perm (s.lane l).inflight) (hkind : r.kind = .dump) :
    s.Failed (u.recordFailed l why r) l 0 (fails ++ [(why, r)]) rest := by
  have hmem : r ∈ (s.lane l).inflight := hcover.mem_iff.1 (by simp)
  have hseg : r.seg = none := hs.segments.2.2 l r hmem hkind
  have hall : (fails ++ [(why, r)]).map Prod.snd = fails.map Prod.snd ++ [r] := by simp
  have howner : s.unitStream r = none := State.unitStream_dump hkind
  have hparcels : s.failureParcels l rest [(why, r)] = [] := by
    unfold State.failureParcels
    rw [hkind]
    rfl
  have hinUse := h.inUse hs hcover
  rw [State.recordFailed_dump hkind, State.dumpFailed_eq]
  refine { slots := fun k => ?_, streams := fun k => ?_, segments := fun i => ?_, returns := ?_, dump := ?_, redo := fun k => ?_ }
  · rw [hall, slotsStaged_append, if_neg (by simp [hkind])]
    exact h.slots k
  · rw [hall, State.stream_requeueUnits_append, State.unitsOf_append, howner, if_neg (by simp), if_neg (by simp),
      State.losesBelow_append _ (by simp [hseg])]
    exact h.streams k
  · rw [hall]
    refine (h.segments i).trans (Option.bind_congr fun g' hg' => ?_)
    rw [Segment.failing_other (by simp [hseg])]
  · rw [State.failureParcels_append, hparcels, List.append_nil]
    exact h.returns
  · exact congrArg (fun d : Dump => { d with redo := (u.updLane l fun x => { x with failed := x.failed + 1 }).redoAfter r }) h.dump
  · have hredo : (u.updLane l fun x => { x with failed := x.failed + 1 }).redoAfter r = u.redoAfter r := State.redoAfter_congr rfl rfl
    refine (iff_of_eq (congrArg (k ∈ ·) hredo)).trans (State.mem_redoAfter k |>.trans ?_)
    rw [h.redo, hinUse, hall]
    simp [hkind, or_assoc]

end

end Sys2Proof.Machine
end

section
/-! The failure of many records, and the segments that a lost lane breaks (R93, R132). -/

namespace Sys2Proof.Machine

open Sys2Proof

section

variable {s u : State} {l n k id : Nat} {why : FailReason} {r : InFlight} {g : Segment} {rs rest : List InFlight}
  {fails : List (FailReason × InFlight)}

/-! ## The failure of many records -/

theorem State.Failed.record (hs : s.Ledger) (h : s.Failed u l 0 fails (r :: rest))
    (hcover : (fails.map Prod.snd ++ r :: rest).Perm (s.lane l).inflight) :
    s.Failed (u.recordFailed l why r) l 0 (fails ++ [(why, r)]) rest := by
  cases hkind : r.kind with
  | normal =>
    rw [State.recordFailed, hkind]
    exact h.normal hs hcover hkind
  | dump => exact h.dumped hs hcover hkind

theorem State.Failed.records (hs : s.Ledger) : ∀ {u : State} {fails : List (FailReason × InFlight)} {rest : List InFlight},
    s.Failed u l 0 fails rest → (fails.map Prod.snd ++ rest).Perm (s.lane l).inflight →
    s.Failed (u.failRecords l rest) l 0 (fails ++ rest.map fun q => (.laneDown, q)) []
  | u, fails, [], h, _ => by simpa [State.failRecords] using h
  | u, fails, r :: rest, h, hcover => by
    have hnext := State.Failed.records hs (h.record (why := .laneDown) hs hcover) (by simpa using hcover)
    simpa [State.failRecords] using hnext

/-! ## Breaking the other open segments of a lost lane -/

theorem State.requeueUnits_stream (s : State) (rs : List InFlight) (k : Nat) : (s.requeueUnits rs).stream k = { s.stream k with
    queue := ((s.requeueUnits rs).stream k).queue
    pad := ((s.requeueUnits rs).stream k).pad
    linger := ((s.requeueUnits rs).stream k).linger } := by
  induction rs using List.reverseRecOn with
  | nil => rfl
  | append_singleton rs r ih =>
    rw [State.stream_requeueUnits_append]
    split
    · rw [ih]
      rfl
    · exact ih

theorem Segment.failing_lost_congr (h : g.endCause ≠ none ∨ 0 < unitsNamed id rs) (b c : Bool) : g.failing id rs b = g.failing id rs c := by
  rw [Segment.failing, Segment.failing, Segment.mk.injEq]
  refine ⟨rfl, rfl, rfl, rfl, rfl, rfl, rfl, ?_⟩
  rcases h with hcause | hunits
  · obtain ⟨cause, hsome⟩ := Option.ne_none_iff_exists'.1 hcause
    simp [hsome]
  · simp [hunits]

/-- The OPEN segment that stands in the way of a stream's step: the stream's own on the lane, no unit of which has failed. -/
def State.breaks (s : State) (l : Nat) (rs : List InFlight) (k id : Nat) (g : Segment) : Prop :=
  s.openSegment (s.stream k) = some (id, g) ∧ g.lane = l ∧ unitsNamed id rs = 0

/-- The next stream of the sweep breaks no other segment than its own. -/
theorem State.Ledger.failing_next (hs : s.Ledger) (hfind : Store.find? s.segments id = some g) (hno : ¬ s.breaks l rs k id g) :
    g.failing id rs (decide (g.lane = l ∧ g.stream < k + 1)) = g.failing id rs (decide (g.lane = l ∧ g.stream < k)) := by
  by_cases hself : g.lane = l ∧ g.stream = k
  · obtain ⟨hlane, rfl⟩ := hself
    refine Segment.failing_lost_congr ?_ _ _
    by_contra hopen
    obtain ⟨hcause, hunits⟩ := not_or.1 hopen
    exact hno ⟨hs.openSegment_of_open hfind (not_not.1 hcause), hlane, Nat.eq_zero_of_not_pos hunits⟩
  · have hsame : (g.lane = l ∧ g.stream < k + 1) ↔ (g.lane = l ∧ g.stream < k) :=
      and_congr_right fun hlane => ⟨fun h => Nat.lt_of_le_of_ne (Nat.le_of_lt_succ h) fun heq => hself ⟨hlane, heq⟩, Nat.lt_succ_of_lt⟩
    rw [decide_eq_decide.2 hsame]

theorem State.losesBelow_next {j : Nat} (hno : ∀ id g, j = k → ¬ s.breaks l rs k id g) : s.losesBelow l (k + 1) rs j = s.losesBelow l k rs j := by
  unfold State.losesBelow
  cases hopen : s.openSegment (s.stream j) with
  | none => rfl
  | some p =>
    obtain ⟨id, g⟩ := p
    simp only [any_named]
    by_cases hj : j = k
    · have hbreaks := hno id g hj
      by_cases hunits : unitsNamed id rs = 0
      · have hlane : g.lane ≠ l := fun hlane => hbreaks ⟨hj ▸ hopen, hlane, hunits⟩
        rw [beq_eq_false_iff_ne.2 hlane, Bool.false_and, Bool.false_and]
      · simp [Nat.pos_of_ne_zero hunits]
    · have hsame : j < k + 1 ↔ j < k := ⟨fun h => Nat.lt_of_le_of_ne (Nat.le_of_lt_succ h) hj, Nat.lt_succ_of_lt⟩
      rw [decide_eq_decide.2 hsame]

theorem State.brokenOf_of_breaks (hcover : rs.Perm (s.lane l).inflight) (h : s.breaks l rs k id g) :
    s.brokenOf l k = some (.segmentClosed id g.lost) := by
  obtain ⟨hopen, hlane, hunits⟩ := h
  rw [State.brokenOf, hopen]
  dsimp only
  rw [any_named, ← unitsNamed_perm hcover, hunits]
  exact if_pos ⟨hlane, rfl⟩

theorem State.brokenOf_of_none (hcover : rs.Perm (s.lane l).inflight) (h : ∀ id g, ¬ s.breaks l rs k id g) : s.brokenOf l k = none := by
  unfold State.brokenOf
  cases hopen : s.openSegment (s.stream k) with
  | none => rfl
  | some p =>
    obtain ⟨id, g⟩ := p
    refine if_neg fun hcond => h id g ⟨hopen, hcond.1, ?_⟩
    have hnone := hcond.2
    rw [any_named, ← unitsNamed_perm hcover] at hnone
    exact Nat.eq_zero_of_not_pos (of_decide_eq_false hnone)

/-- The stream's own loss, before the sweep has come to it, is by a failed unit. -/
theorem State.losesBelow_self : s.losesBelow l k rs k = match s.openSegment (s.stream k) with
    | none => false
    | some (id, _) => decide (0 < unitsNamed id rs) := by
  unfold State.losesBelow
  cases s.openSegment (s.stream k) with
  | none => rfl
  | some p => simp [any_named]

/-- What the sweep finds as a stream's open segment: the one of the start that no failed unit has broken. -/
theorem State.Failed.openSegment (hs : s.Ledger) (h : s.Failed u l k fails []) :
    u.openSegment (u.stream k) = some (id, g) ∧ g.lane = l ↔ s.breaks l (fails.map Prod.snd) k id g := by
  have hseg : (u.stream k).openSeg = if s.losesBelow l k (fails.map Prod.snd) k = true then none else (s.stream k).openSeg := by
    rw [h.streams, Stream.failing, State.requeueUnits_stream]
  have hkeeps : ∀ {id g}, Store.find? s.segments id = some g → g.stream = k → unitsNamed id (fails.map Prod.snd) = 0 →
      Store.find? u.segments id = some g := fun hfind hown hunits => by
    rw [h.segments, hfind, Option.bind_some, hown, decide_eq_false (fun h => Nat.lt_irrefl _ h.2), Segment.failing_of_none hunits,
      Segment.staying, if_neg (hs.not_gone hfind)]
  rw [State.openSegment_iff, hseg, State.losesBelow_self]
  unfold State.breaks
  cases hopen : s.openSegment (s.stream k) with
  | none =>
    simp only [Bool.false_eq_true, if_false, reduceCtorEq, false_and, iff_false]
    rintro ⟨⟨hseg, -⟩, -⟩
    obtain ⟨g', hfind, -⟩ := hs.openSegments.1 k id hseg
    rw [State.openSegment_iff.2 ⟨hseg, hfind⟩] at hopen
    cases hopen
  | some p =>
    obtain ⟨id', g'⟩ := p
    obtain ⟨hown, hcause⟩ := hs.openSegment_own hopen
    obtain ⟨hseg', hfind⟩ := State.openSegment_iff.1 hopen
    by_cases hunits : unitsNamed id' (fails.map Prod.snd) = 0
    · simp only [hunits, Nat.lt_irrefl, decide_false, Bool.false_eq_true, if_false, hseg', Option.some.injEq, Prod.mk.injEq]
      constructor
      · rintro ⟨⟨rfl, hfindu⟩, hlane⟩
        exact ⟨⟨rfl, Option.some.inj ((hkeeps hfind hown hunits).symm.trans hfindu)⟩, hlane, hunits⟩
      · rintro ⟨⟨rfl, rfl⟩, hlane, -⟩
        exact ⟨⟨rfl, hkeeps hfind hown hunits⟩, hlane⟩
    · simp only [Nat.pos_of_ne_zero hunits, decide_true, if_true, reduceCtorEq, false_and, Option.some.injEq, Prod.mk.injEq, false_iff]
      rintro ⟨⟨rfl, -⟩, -, hzero⟩
      exact hunits hzero

theorem State.stream_closing (p : ReturnParcel) (id j : Nat) : ((u.enqueue p).dropSegment id).stream j = u.stream j := rfl

theorem State.segments_closing (p : ReturnParcel) (id i : Nat) :
    Store.find? ((u.enqueue p).dropSegment id).segments i = if i = id then none else Store.find? u.segments i := Store.find?_erase _ _ _

theorem State.outside_closing (p : ReturnParcel) (id : Nat) : ((u.enqueue p).dropSegment id).slot = u.slot
    ∧ ((u.enqueue p).dropSegment id).dump = u.dump ∧ ((u.enqueue p).dropSegment id).returns = u.returns ++ [p] := ⟨rfl, rfl, rfl⟩

/-- A stream's open segment breaks and closes. -/
theorem State.drainAndClose_broken (hfind : Store.find? u.segments id = some g) (hcause : g.endCause = none) (hsettled : g.done + g.failed = g.issued) :
    (u.drainAndClose id .broken).slot = u.slot ∧ (u.drainAndClose id .broken).dump = u.dump
      ∧ (∀ j, (u.drainAndClose id .broken).stream j = if j = g.stream then (u.stream j).released else u.stream j)
      ∧ (∀ i, Store.find? (u.drainAndClose id .broken).segments i = if i = id then none else Store.find? u.segments i)
      ∧ (u.drainAndClose id .broken).returns = u.returns ++ [.segmentClosed id { g with endCause := some .broken }] := by
  have hdrain := State.drain_of_open hfind hcause .broken
  have hself : Store.find? (u.drain id .broken).segments id = some { g with endCause := some .broken } := by
    rw [hdrain]
    exact Store.find?_insert_self ..
  have hclose : u.drainAndClose id .broken = ((u.drain id .broken).enqueue (.segmentClosed id { g with endCause := some .broken })).dropSegment id :=
    State.closeIfSettled_of_gone hself ⟨Option.some_ne_none _, hsettled⟩
  rw [hdrain] at hclose
  rw [hclose]
  obtain ⟨hslots, hdump, hreturns⟩ := State.outside_closing
    (u := (u.setSegment id { g with endCause := some .broken }).setStream g.stream (u.stream g.stream).released)
    (.segmentClosed id { g with endCause := some .broken }) id
  refine ⟨hslots, hdump, fun j => ?_, fun i => ?_, hreturns⟩
  · rw [State.stream_closing, State.stream_setStream]
    by_cases hj : j = g.stream
    · rw [if_pos hj, if_pos hj, hj]
    · rw [if_neg hj, if_neg hj]
      rfl
  · rw [State.segments_closing]
    by_cases hi : i = id
    · rw [if_pos hi, if_pos hi]
    · rw [if_neg hi, if_neg hi]
      exact Store.find?_insert_ne _ _ hi

/-- The next stream of the sweep. -/
theorem State.Failed.broken (hs : s.Ledger) (h : s.Failed u l k fails []) (hcover : (fails.map Prod.snd).Perm (s.lane l).inflight) :
    s.Failed (State.breakOn l u k) l (k + 1) fails [] := by
  by_cases hbreaks : ∃ id g, s.breaks l (fails.map Prod.snd) k id g
  · obtain ⟨id, g, hb⟩ := hbreaks
    obtain ⟨hopenu, hlane⟩ := (h.openSegment hs).2 hb
    obtain ⟨hopen, -, hunits⟩ := hb
    obtain ⟨hown, hcause⟩ := hs.openSegment_own hopen
    obtain ⟨-, hfindu⟩ := State.openSegment_iff.1 hopenu
    obtain ⟨hseg, hfind⟩ := State.openSegment_iff.1 hopen
    have hcover' : (fails.map Prod.snd ++ []).Perm (s.lane l).inflight := by simpa using hcover
    have hgone : (g.failing id (fails.map Prod.snd) true).gone :=
      (hs.failing_gone hfind hlane hcover' true).2 ⟨by simp [Segment.failing], rfl⟩
    have hbroken : g.failing id (fails.map Prod.snd) true = { g with endCause := some .broken } := by
      simp [Segment.failing, hunits, hcause]
    have hlost := hs.failing_lost hfind hlane hcover' hgone
    have hstep : State.breakOn l u k = u.drainAndClose id .broken := by
      unfold State.breakOn
      rw [hopenu]
      exact if_pos hlane
    obtain ⟨hslots, hdump, hstreams, hsegments, hreturns⟩ :=
      State.drainAndClose_broken hfindu hcause (by rw [hbroken] at hgone; exact hgone.2)
    rw [hstep]
    refine { slots := fun j => ?_, streams := fun j => ?_, segments := fun i => ?_, returns := ?_, dump := hdump ▸ h.dump, redo := hdump ▸ h.redo }
    · rw [hslots]
      exact h.slots j
    · rw [hstreams, hown, h.streams j]
      by_cases hj : j = k
      · rw [if_pos hj, Stream.released_failing, hj, State.losesBelow, hopen]
        simp [hlane]
      · rw [if_neg hj, State.losesBelow_next fun _ _ h => absurd h hj]
    · rw [hsegments]
      by_cases hi : i = id
      · rw [if_pos hi, hi, hfind, Option.bind_some, decide_eq_true ⟨hlane, hown ▸ Nat.lt_succ_self k⟩, Segment.staying, if_pos hgone]
      · rw [if_neg hi, h.segments]
        refine Option.bind_congr fun g' hg' => ?_
        rw [hs.failing_next hg' fun hb => hi ?_]
        exact congrArg Prod.fst (Option.some.inj (hb.1.symm.trans hopen))
    · rw [hreturns, h.returns, List.range_succ, List.filterMap_append, ← hbroken, hlost, List.append_assoc]
      congr 2
      simp [State.brokenOf_of_breaks hcover ⟨hopen, hlane, hunits⟩]
  · have hnone : ∀ id g, ¬ s.breaks l (fails.map Prod.snd) k id g := fun id g hb => hbreaks ⟨id, g, hb⟩
    have hstep : State.breakOn l u k = u := by
      unfold State.breakOn
      cases hopen : u.openSegment (u.stream k) with
      | none => rfl
      | some p =>
        obtain ⟨id, g⟩ := p
        exact if_neg fun hlane => hnone id g ((h.openSegment hs).1 ⟨hopen, hlane⟩)
    rw [hstep]
    refine { slots := h.slots, streams := fun j => ?_, segments := fun i => ?_, returns := ?_, dump := h.dump, redo := h.redo }
    · rw [State.losesBelow_next fun id g _ => hnone id g]
      exact h.streams j
    · rw [h.segments]
      exact Option.bind_congr fun g' hg' => by rw [hs.failing_next hg' (hnone i g')]
    · rw [h.returns, List.range_succ, List.filterMap_append]
      simp [State.brokenOf_of_none hcover hnone]

/-- The segments of a lane that is lost have all broken (R132 action 3). -/
theorem State.Failed.allBroken (hs : s.Ledger) (h : s.Failed u l 0 fails []) (hcover : (fails.map Prod.snd).Perm (s.lane l).inflight) :
    s.Failed (u.breakLane l) l 256 fails [] := by
  have hall : ∀ n, s.Failed ((List.range n).foldl (State.breakOn l) u) l n fails [] := fun n => by
    induction n with
    | zero => exact h
    | succ n ih =>
      rw [List.range_succ, List.foldl_append]
      exact ih.broken hs hcover
  exact hall 256

end

end Sys2Proof.Machine
end

section
/-! The end of an event in which records failed (R56, R73, R124 act 7), and what it leaves of streams and segments. -/

namespace Sys2Proof.Machine

open Sys2Proof

section

variable {s u : State} {l n k id : Nat} {g : Segment} {rs rest : List InFlight} {fails : List (FailReason × InFlight)}

/-! ## The pads after the failures -/

/-- A failing stream, field by field. -/
theorem State.failing_requeueUnits (units : Nat) (loses : Bool) : ((s.requeueUnits rs).stream k).failing units loses = { s.stream k with
    openSeg := if loses = true then none else (s.stream k).openSeg
    state := if loses = true ∧ (s.stream k).state = .opened then .idle else (s.stream k).state
    queue := ((s.requeueUnits rs).stream k).queue
    pad := ((s.requeueUnits rs).stream k).pad
    linger := ((s.requeueUnits rs).stream k).linger
    inflight := (s.stream k).inflight - units
    failed := (s.stream k).failed + BitVec.ofNat 32 units } := by
  have hq := s.requeueUnits_stream rs k
  generalize (s.requeueUnits rs).stream k = q at hq ⊢
  rw [hq]
  rfl

theorem State.durablePads_stream (u : State) (k : Nat) :
    u.durablePads.stream k = { u.stream k with pad := (u.durablePads.stream k).pad } := by
  rw [State.stream_durablePads]
  split <;> rfl

theorem Stream.padded_failing_pad (t : Stream) (units : Nat) (loses : Bool) : (t.failing units loses).padded.pad = t.padded.pad := by
  have hbound : (t.failing units loses).bound = t.bound := by
    unfold Stream.bound Stream.failing
    cases loses <;> cases t.state <;> rfl
  unfold Stream.padded
  rw [hbound]
  rfl

theorem State.UnitsFailing.durable (h : s.UnitsFailing u l n fails rest) (k : Nat) : (u.slot k).durable = (s.slot k).durable := by
  rw [h.slots]
  split <;> rfl

/-- The pads are those that the units merged back alone would be given (R73). -/
theorem State.UnitsFailing.pad (h : s.UnitsFailing u l n fails rest) (hparams : u.params = s.params) (k : Nat) :
    (u.durablePads.stream k).pad = ((s.requeueUnits (fails.map Prod.snd)).durablePads.stream k).pad := by
  have hframe := s.requeueUnits_frame (fails.map Prod.snd)
  have hparams' : (s.requeueUnits (fails.map Prod.snd)).params = s.params := (agree (π := State.params) hframe :)
  have hslots : ∀ j, (s.requeueUnits (fails.map Prod.snd)).slot j = s.slot j := fun j => (agree (π := (State.slot · j)) hframe :)
  have hdurable : u.tailDurable (u.stream k) = (s.requeueUnits (fails.map Prod.snd)).tailDurable ((s.requeueUnits (fails.map Prod.snd)).stream k) := by
    rw [h.streams]
    unfold State.tailDurable
    simp only [h.durable, hslots]
    rfl
  rw [State.stream_durablePads, State.stream_durablePads, hparams, hparams', hdurable, h.streams]
  split
  · exact Stream.padded_failing_pad _ _ _
  · rfl

/-! ## Room for the requests -/

theorem State.UnitsFailing.openSeg (h : s.UnitsFailing u l n fails rest) (k : Nat) :
    (u.stream k).openSeg = if s.losesBelow l n (fails.map Prod.snd) k = true then none else (s.stream k).openSeg := by
  rw [h.streams, State.failing_requeueUnits]

theorem State.UnitsFailing.state (h : s.UnitsFailing u l n fails rest) (k : Nat) :
    (u.stream k).state = if s.losesBelow l n (fails.map Prod.snd) k = true ∧ (s.stream k).state = .opened then .idle else (s.stream k).state := by
  rw [h.streams, State.failing_requeueUnits]

/-- A stream that the failures leave IDLE has no open segment. -/
theorem State.UnitsFailing.openSeg_of_idle (hs : s.Ledger) (h : s.UnitsFailing u l n fails rest) (hidle : (u.stream k).state = .idle) :
    (u.stream k).openSeg = none := by
  rw [h.openSeg]
  rw [h.state] at hidle
  by_cases hloses : s.losesBelow l n (fails.map Prod.snd) k = true
  · exact if_pos hloses
  · rw [if_neg fun h => hloses h.1] at hidle
    rw [if_neg hloses]
    exact hs.roomy.2 k hidle

theorem State.UnitsFailing.roomy (hs : s.Ledger) (h : s.UnitsFailing u l n fails rest) (hsorted : Store.sorted u.segments = true) : u.roomy := by
  refine ⟨Nat.le_trans (Store.length_le_of_keys hsorted fun key hkey => ?_) hs.segmentBooks.segments_length, fun k => h.openSeg_of_idle hs⟩
  rw [h.segments] at hkey
  cases hfind : Store.find? s.segments key with
  | none =>
    rw [hfind] at hkey
    cases hkey
  | some g => rfl

/-- What the pads, the requests and the notices leave. -/
theorem State.UnitsFailing.ends (hs : s.Ledger) (h : s.UnitsFailing u l n fails rest) (hsorted : Store.sorted u.segments = true) :
    u.durablePads.roomy ∧ u.durablePads.EndsAs u.durablePads.endRequests := by
  have hsegments : u.durablePads.segments = u.segments := (agree (π := State.segments) u.durablePads_frame :)
  refine ⟨State.roomy_congr hsegments (fun k => ?_) (h.roomy hs hsorted), u.durablePads.endRequests_ends⟩
  rw [State.durablePads_stream]
  exact ⟨rfl, rfl⟩

theorem State.losesBelow_segment (k : Nat) (down : Bool) (hk : k < 256) :
    s.losesBelow l (if down then 256 else 0) rs k = s.losesSegment l rs down k := by
  unfold State.losesBelow State.losesSegment
  cases s.openSegment (s.stream k) with
  | none => rfl
  | some p =>
    cases down with
    | true => simp [hk]
    | false => simp

/-! ## A new segment -/

/-- A segment of a stream that has asked for one is new, and lies on an UP lane. -/
theorem State.asksSegment_new {t : State} (h : s.asksSegment t k) (hopen : (t.stream k).openSeg = some id)
    (hfind : Store.find? t.segments id = some g) : g.issued = 0 ∧ g.endCause = none ∧ (t.lane g.lane).up = true := by
  unfold State.asksSegment at h
  split at h
  · rcases h with ⟨-, id', g', -, hopen', hfind', -, hissued, hcause, hup, -⟩ | ⟨-, hnone, -⟩
    · rw [hopen] at hopen'
      cases hopen'
      rw [hfind] at hfind'
      cases hfind'
      exact ⟨hissued, hcause, hup⟩
    · rw [hopen] at hnone
      cases hnone
  · rw [h.2.1] at hopen
    cases hopen

/-- At the end of the event a segment is one that the failures left, or a new one on an UP lane. -/
theorem State.UnitsFailing.segment_after (hs : s.Ledger) (h : s.UnitsFailing u l n fails rest) (hsorted : Store.sorted u.segments = true)
    (hfind : Store.find? u.durablePads.endRequests.segments id = some g) : Store.find? u.segments id = some g
      ∨ g.issued = 0 ∧ g.endCause = none ∧ (u.durablePads.endRequests.lane g.lane).up = true := by
  obtain ⟨hroomy, hends⟩ := h.ends hs hsorted
  rcases hends.fresh hroomy id g hfind with hold | ⟨hidle, hopen⟩
  · left
    rwa [(agree (π := State.segments) u.durablePads_frame : u.durablePads.segments = u.segments)] at hold
  · right
    have hclosed := hroomy.2 _ hidle
    have hbelow : g.stream < 256 := by
      by_contra hge
      rw [hends.others _ (.inl (Nat.le_of_not_lt hge)), hclosed] at hopen
      cases hopen
    exact State.asksSegment_new (hends.asks (Nat.le_trans hroomy.1 (by decide)) _ hbelow hidle hclosed) hopen hfind

/-! ## The dump check after it -/

theorem State.dumpCheck_tables (e : State) : e.dumpCheck.slot = e.slot ∧ e.dumpCheck.stream = e.stream ∧ e.dumpCheck.segments = e.segments
    ∧ e.dumpCheck.starved = e.starved ∧ e.dumpCheck.returns = e.returns ∧ e.dumpCheck.due = e.due :=
  ⟨(agree (π := State.slot) e.dumpCheck_frame :), (agree (π := State.stream) e.dumpCheck_frame :), (agree (π := State.segments) e.dumpCheck_frame :),
    (agree (π := State.starved) e.dumpCheck_frame :), (agree (π := State.returns) e.dumpCheck_frame :), (agree (π := State.due) e.dumpCheck_frame :)⟩

theorem State.asksSegment_dumpCheck {e : State} (hpart : e.part = s.part) (h : s.asksSegment e k) : s.asksSegment e.dumpCheck k := by
  by_cases hdumping : e.part = .dumping
  · obtain ⟨-, hstream, -⟩ := e.dumpCheck_tables
    have hnotRun : ∀ {q : Prop}, ¬ (s.part = .run ∧ q) := fun hrun => by
      rw [← hpart, hdumping] at hrun
      cases hrun.1
    unfold State.asksSegment at h ⊢
    rw [if_neg hnotRun] at h ⊢
    rwa [hstream]
  · rw [State.dumpCheck, if_neg hdumping]
    exact h

end

end Sys2Proof.Machine
end

section
/-! The failures of an event with what ends it: `UnitsFail` and `laneLost`. -/

namespace Sys2Proof.Machine

open Sys2Proof

section

variable {s u : State} {l n k id : Nat} {g : Segment} {rs rest : List InFlight} {fails : List (FailReason × InFlight)}

theorem Segment.staying_eq_some {h : Segment} : g.staying = some h ↔ ¬ g.gone ∧ g = h := by
  unfold Segment.staying
  by_cases hgone : g.gone <;> simp [hgone]

theorem State.Ledger.starved_closed (hs : s.Ledger) (h : (s.stream k).state = .starved ∨ (s.stream k).state = .unbound) :
    (s.stream k).openSeg = none := by
  by_contra hopen
  rcases hs.openSegments.2.2.2.1 k (Option.isSome_iff_ne_none.2 hopen) with hstate | hstate <;> rcases h with h | h <;>
    rw [hstate] at h <;> cases h

/-- A stream whose context the failures leave in no IDLE state ends the event as they leave it. -/
theorem State.UnitsFailing.stream_after (hs : s.Ledger) (h : s.UnitsFailing u l n fails rest) (hsorted : Store.sorted u.segments = true)
    (hstate : (u.stream k).state ≠ .idle) : (u.endFailure.stream k).state = (u.stream k).state
      ∧ (u.endFailure.stream k).openSeg = (u.stream k).openSeg ∧ (u.endFailure.stream k).lastLane = (u.stream k).lastLane := by
  obtain ⟨-, hends⟩ := h.ends hs hsorted
  obtain ⟨-, hstream, -⟩ := u.durablePads.endRequests.dumpCheck_tables
  have hpads := u.durablePads_stream k
  have hkept : u.endFailure.stream k = u.durablePads.stream k := by
    rw [State.endFailure, hstream]
    refine hends.others k (.inr ?_)
    rw [hpads]
    exact hstate
  rw [hkept, hpads]
  exact ⟨rfl, rfl, rfl⟩

theorem State.UnitsFailing.lastLane (h : s.UnitsFailing u l n fails rest) (k : Nat) : (u.stream k).lastLane = (s.stream k).lastLane := by
  rw [h.streams, State.failing_requeueUnits]

theorem State.UnitsFailing.laneSet (h : s.UnitsFailing u l n fails rest) (k : Nat) : (u.stream k).laneSet = (s.stream k).laneSet := by
  rw [h.streams, State.failing_requeueUnits]

/-- A stream that the failures leave IDLE asks for a segment when it has ready units. -/
theorem State.UnitsFailing.asks (hs : s.Ledger) (h : s.UnitsFailing u l n fails rest) (hsorted : Store.sorted u.segments = true) (hpart : u.part = s.part)
    (hk : k < 256) (hidle : (u.stream k).state = .idle) : s.asksSegment u.endFailure k := by
  obtain ⟨hroomy, hends⟩ := h.ends hs hsorted
  have hpads := u.durablePads_stream k
  have hvpart : u.durablePads.part = s.part := (agree (π := State.part) u.durablePads_frame : _ = u.part).trans hpart
  have hepart : u.durablePads.endRequests.part = s.part := (agree (π := State.part) u.durablePads.endRequests_frame :).trans hvpart
  have hvidle : (u.durablePads.stream k).state = .idle := by
    rw [hpads]
    exact hidle
  have hasks := hends.asks (Nat.le_trans hroomy.1 (by decide)) k hk hvidle (hroomy.2 k hvidle)
  refine State.asksSegment_dumpCheck hepart (State.asksSegment_congr hvpart.symm ?_ ?_ hasks)
  · rw [hpads]
    exact (h.laneSet k).symm
  · rw [hpads]
    exact (h.lastLane k).symm

/-- The failures of an event, and what ends it, leave what R124 and R132 say (`down`: with the loss of the lane). -/
theorem State.UnitsFailing.unitsFail {down : Bool} (hs : s.Ledger) (h : s.UnitsFailing u l (if down then 256 else 0) fails rest)
    (hcover : (fails.map Prod.snd ++ rest).Perm (s.lane l).inflight) (hsorted : Store.sorted u.segments = true) (hpart : u.part = s.part)
    (hparams : u.params = s.params) (hdown : down = true → rest = [] ∧ (u.lane l).up = false) :
    s.UnitsFail u.endFailure l (fails.map Prod.snd) down := by
  obtain ⟨hroomy, hends⟩ := h.ends hs hsorted
  obtain ⟨hslot, hstream, hsegments, -⟩ := u.durablePads.endRequests.dumpCheck_tables
  have hvslot : u.durablePads.endRequests.slot = u.slot :=
    (agree (π := State.slot) u.durablePads.endRequests_frame :).trans (agree (π := State.slot) u.durablePads_frame :)
  have hvsegments : u.durablePads.segments = u.segments := (agree (π := State.segments) u.durablePads_frame :)
  have hvlane : u.durablePads.lane l = u.lane l := (agree (π := (State.lane · l)) u.durablePads_frame :)
  have hkept : ∀ {id g}, Store.find? u.segments id = some g → Store.find? u.endFailure.segments id = some g := fun hfind => by
    rw [State.endFailure, hsegments]
    exact hends.kept (Nat.le_trans hroomy.1 (by decide)) _ _ (hvsegments ▸ hfind)
  have hafter : ∀ {id g}, Store.find? u.endFailure.segments id = some g → Store.find? u.segments id = some g
      ∨ g.issued = 0 ∧ g.endCause = none ∧ (u.durablePads.endRequests.lane g.lane).up = true := fun hfind => by
    rw [State.endFailure, hsegments] at hfind
    exact h.segment_after hs hsorted hfind
  have hloses : ∀ k, k < 256 → s.losesBelow l (if down then 256 else 0) (fails.map Prod.snd) k = s.losesSegment l (fails.map Prod.snd) down k :=
    fun k hk => State.losesBelow_segment k down hk
  have hstate := h.state
  have hopenSeg := h.openSeg
  have hlost : ∀ {id g}, Store.find? s.segments id = some g →
      g.failing id (fails.map Prod.snd) (decide (g.lane = l ∧ g.stream < if down then 256 else 0))
        = { g with
          failed := g.failed + ((fails.map Prod.snd).filter fun r => r.seg == some id).length
          endCause := if (fails.map Prod.snd).any (fun r => r.seg == some id) = true ∨ (down = true ∧ g.lane = l)
            then some (g.endCause.getD .broken) else g.endCause } := fun {id g} hfind => by
    rw [Segment.failing, Segment.mk.injEq]
    refine ⟨rfl, rfl, rfl, rfl, rfl, rfl, rfl, ?_⟩
    rw [any_named]
    by_cases hcause : g.endCause = none
    · have hbelow : g.stream < 256 := by
        refine hs.openSegments.2.2.2.2 _ fun hunbound => ?_
        have hopen := hs.openSegments.2.1 id g hfind hcause
        rw [hs.starved_closed (.inr hunbound)] at hopen
        cases hopen
      refine if_congr ?_ rfl rfl
      cases down <;> simp [hbelow]
    · obtain ⟨cause, hsome⟩ := Option.ne_none_iff_exists'.1 hcause
      simp [hsome]
  exact {
    slots := fun k => by
      rw [State.endFailure, hslot, hvslot]
      exact h.slots k
    streams := fun k => by
      have hpads := u.durablePads_stream k
      rw [h.pad hparams, h.streams, State.failing_requeueUnits] at hpads
      have hend := hends.streams k
      rw [hpads, ← hstream] at hend
      exact hend
    held := fun k hk hheld => by
      have hnotOpened : ¬ (s.losesBelow l (if down then 256 else 0) (fails.map Prod.snd) k = true ∧ (s.stream k).state = .opened) := fun h => by
        rw [hheld] at h
        cases h.2
      have hu := hstate k
      rw [if_neg hnotOpened] at hu
      obtain ⟨ht, hopen, -⟩ := h.stream_after (k := k) hs hsorted (by rw [hu, hheld]; exact fun h => StreamState.noConfusion h)
      rw [ht, hopen, hu, hopenSeg, hloses k hk]
      exact ⟨hheld, rfl⟩
    others := fun k hk => by
      refine ⟨fun hopened hkeeps => ?_, fun hstarved => ?_, fun hunbound => ?_⟩
      · have hu := hstate k
        rw [hloses k hk, hkeeps, if_neg (fun h => Bool.noConfusion h.1)] at hu
        obtain ⟨ht, hopen, hlast⟩ := h.stream_after (k := k) hs hsorted (by rw [hu, hopened]; exact fun h => StreamState.noConfusion h)
        rw [ht, hopen, hlast, hu, hopenSeg, hloses k hk, hkeeps, h.lastLane]
        exact ⟨hopened, rfl, rfl⟩
      · have hu := hstate k
        rw [if_neg (fun h => by rw [hstarved] at h; cases h.2)] at hu
        obtain ⟨ht, hopen, -⟩ := h.stream_after (k := k) hs hsorted (by rw [hu, hstarved]; exact fun h => StreamState.noConfusion h)
        rw [ht, hopen, hu, hopenSeg, hs.starved_closed (.inl hstarved)]
        exact ⟨hstarved, by simp⟩
      · have hu := hstate k
        rw [if_neg (fun h => by rw [hunbound] at h; cases h.2)] at hu
        obtain ⟨ht, hopen, -⟩ := h.stream_after (k := k) hs hsorted (by rw [hu, hunbound]; exact fun h => StreamState.noConfusion h)
        rw [ht, hopen, hu, hopenSeg, hs.starved_closed (.inr hunbound)]
        exact ⟨hunbound, by simp⟩
    idle := fun k hk hidle => by
      refine h.asks hs hsorted hpart hk ?_
      rw [hstate, hloses k hk]
      rcases hidle with hidle | ⟨hopened, hlose⟩
      · rw [if_neg (fun h => by rw [hidle] at h; cases h.2)]
        exact hidle
      · exact if_pos ⟨hlose, hopened⟩
    segments := fun id g h' hfind hh => by
      have hu := h.segments id
      rw [hfind, Option.bind_some, hlost hfind, ← hh] at hu
      by_cases hgone : h'.gone
      · rw [if_pos hgone]
        rw [Segment.staying, if_pos hgone] at hu
        intro g' hg'
        rcases hafter hg' with hold | ⟨hissued, hcause, -⟩
        · rw [hu] at hold
          cases hold
        · exact ⟨hissued, hcause⟩
      · rw [if_neg hgone]
        rw [Segment.staying, if_neg hgone] at hu
        exact hkept hu
    lane := fun hlane id g hfind heq => by
      obtain ⟨hall, hup⟩ := hdown hlane
      rcases hafter hfind with hold | ⟨-, -, hnew⟩
      · rw [h.segments] at hold
        obtain ⟨g', hfind', hstay⟩ := Option.bind_eq_some_iff.1 hold
        obtain ⟨hnot, hsame⟩ := Segment.staying_eq_some.1 hstay
        have hlane' : g'.lane = l := by
          rw [← heq, ← hsame]
          rfl
        refine hnot ((hs.failing_gone hfind' hlane' hcover _).2 ⟨?_, by rw [hall]; rfl⟩)
        rw [hlost hfind']
        simp [hlane, hlane']
      · rw [heq, (hends.lanes l).up, hvlane, hup] at hnew
        cases hnew }

/-- What the event enqueues after the failures: notices of streams and lanes, and in DUMPING none (R56, R86, R153). -/
theorem State.endFailure_returns (u : State) : ∃ after, u.endFailure.returns = u.returns ++ after
    ∧ (∀ p ∈ after, (∃ k, p = .streamStarved k) ∨ ∃ x n, p = .poolLow x n) ∧ (u.part = .dumping → u.due = [] → after = []) := by
  obtain ⟨starved, low, -, -, -, hreturns, hlow, -⟩ := u.durablePads.endRequests_ends.notices
  have hvreturns : u.durablePads.returns = u.returns := (agree (π := State.returns) u.durablePads_frame :)
  have hend : u.endFailure.returns = u.returns ++ (starved.map ReturnParcel.streamStarved ++ low) := by
    rw [State.endFailure, u.durablePads.endRequests.dumpCheck_tables.2.2.2.2.1, hreturns, hvreturns, List.append_assoc]
  refine ⟨_, hend, fun p hp => ?_, fun hpart hdue => ?_⟩
  · rcases List.mem_append.1 hp with hp | hp
    · obtain ⟨k, -, rfl⟩ := List.mem_map.1 hp
      exact .inl ⟨k, rfl⟩
    · exact .inr (hlow p hp)
  · rw [State.endFailure_dumping hpart hdue, u.durablePads.dumpCheck_tables.2.2.2.2.1, hvreturns] at hend
    exact List.self_eq_append_right.1 hend

end

end Sys2Proof.Machine
end

section
/-! A lane down, act by act: what it leaves of lanes, slots and parcels in any state, and of the dump engine (R93, R130, R132, R161). -/

namespace Sys2Proof.Machine

open Sys2Proof

section

variable {s u : State} {l n k id : Nat} {why : FailReason} {r : InFlight} {rs rest : List InFlight} {fails : List (FailReason × InFlight)}

/-! ## The failure of a record of either kind, in any state -/

theorem State.recordFailed_slot (j : Nat) : (s.recordFailed l why r).slot j
    = if r.kind = .normal ∧ j ∈ r.slots then { s.slot j with state := .staged } else s.slot j := by
  cases hkind : r.kind with
  | normal =>
    rw [State.recordFailed, hkind]
    exact State.normalFailed_slot j |>.trans (if_congr (by simp) rfl rfl)
  | dump =>
    rw [State.recordFailed_dump hkind, State.dumpFailed_eq, if_neg (by simp)]
    rfl

theorem State.recordFailed_lane (j : Nat) : (s.recordFailed l why r).lane j
    = if j = l then { s.lane l with failed := (s.lane l).failed + 1 } else s.lane j := by
  cases hkind : r.kind with
  | normal =>
    rw [State.recordFailed, hkind]
    exact State.normalFailed_lane j
  | dump =>
    rw [State.recordFailed_dump hkind, State.dumpFailed_eq]
    exact s.lane_updLane l (fun x => { x with failed := x.failed + 1 }) j

theorem State.recordFailed_returns (s : State) (l : Nat) (why : FailReason) (r : InFlight) : ∃ rest,
    (s.recordFailed l why r).returns = s.returns ++ rest ∧ ∀ p ∈ rest, p = r.failedParcel l why ∨ ∃ i g, p = .segmentClosed i g := by
  cases hkind : r.kind with
  | normal =>
    rw [State.recordFailed, hkind]
    obtain ⟨closed, hreturns, hkinds⟩ := s.normalFailed_returns l why r
    refine ⟨_, hreturns, fun p hp => ?_⟩
    exact (List.mem_cons.1 hp).imp_right (hkinds p)
  | dump =>
    rw [State.recordFailed_dump hkind, State.dumpFailed_eq]
    exact ⟨[], (List.append_nil _).symm, by simp⟩

theorem State.recordFailed_dumpEngine (s : State) (l : Nat) (why : FailReason) (r : InFlight) :
    (s.recordFailed l why r).dump = { s.dump with redo := (s.recordFailed l why r).dump.redo }
      ∧ (r.kind = .normal → (s.recordFailed l why r).dump = s.dump) := by
  cases hkind : r.kind with
  | normal =>
    rw [State.recordFailed, hkind]
    have hdump : (s.normalFailed l why r).dump = s.dump := (agree (π := State.dump) (s.normalFailed_frame l why r) :)
    rw [hdump]
    exact ⟨rfl, fun _ => rfl⟩
  | dump =>
    rw [State.recordFailed_dump hkind, State.dumpFailed_eq]
    exact ⟨rfl, fun h => (nomatch h)⟩

/-! ## The failure of many records -/

theorem State.failRecords_cons : s.failRecords l (r :: rs) = (s.recordFailed l .laneDown r).failRecords l rs := rfl

theorem State.failRecords_slot (rs : List InFlight) (s : State) (j : Nat) : (s.failRecords l rs).slot j
    = if rs.any (fun r => r.kind == .normal && r.slots.contains j) = true then { s.slot j with state := .staged } else s.slot j := by
  induction rs generalizing s with
  | nil => rfl
  | cons r rs ih =>
    rw [State.failRecords_cons, ih, State.recordFailed_slot, List.any_cons]
    by_cases hr : r.kind = .normal ∧ j ∈ r.slots <;>
      cases hrs : rs.any fun r => r.kind == .normal && r.slots.contains j <;> simp [hr]

theorem State.failRecords_lane (rs : List InFlight) (s : State) (j : Nat) : (s.failRecords l rs).lane j
    = if j = l then { s.lane l with failed := (s.lane l).failed + BitVec.ofNat 32 rs.length } else s.lane j := by
  induction rs generalizing s with
  | nil =>
    show s.lane j = _
    split
    · rename_i hj
      rw [hj]
      simp
    · rfl
  | cons r rs ih =>
    have hcount : (s.lane l).failed + 1 + BitVec.ofNat 32 rs.length = (s.lane l).failed + BitVec.ofNat 32 (r :: rs).length := by
      rw [List.length_cons, Nat.add_comm rs.length 1, BitVec.ofNat_add, BitVec.add_assoc]
      rfl
    rw [State.failRecords_cons, ih, State.recordFailed_lane, State.recordFailed_lane, if_pos rfl]
    by_cases hj : j = l
    · rw [if_pos hj, if_pos hj, hcount]
    · rw [if_neg hj, if_neg hj, if_neg hj]

theorem State.failRecords_returns (rs : List InFlight) (s : State) : ∃ rest, (s.failRecords l rs).returns = s.returns ++ rest
    ∧ ∀ p ∈ rest, (∃ x u b, p = .programFailed l .laneDown x u b) ∨ ∃ i g, p = .segmentClosed i g := by
  induction rs generalizing s with
  | nil => exact ⟨[], (List.append_nil _).symm, by simp⟩
  | cons r rs ih =>
    obtain ⟨first, hfirst, hkinds⟩ := s.recordFailed_returns l .laneDown r
    obtain ⟨later, hlater, hrest⟩ := ih (s.recordFailed l .laneDown r)
    rw [hfirst, List.append_assoc] at hlater
    refine ⟨_, hlater, fun p hp => ?_⟩
    rcases List.mem_append.1 hp with hp | hp
    · exact (hkinds p hp).imp_left fun heq => ⟨_, _, _, heq⟩
    · exact hrest p hp

theorem State.failRecords_dump (rs : List InFlight) (s : State) : (s.failRecords l rs).dump = { s.dump with redo := (s.failRecords l rs).dump.redo }
    ∧ ((∀ r ∈ rs, r.kind = .normal) → (s.failRecords l rs).dump = s.dump) := by
  induction rs generalizing s with
  | nil => exact ⟨rfl, fun _ => rfl⟩
  | cons r rs ih =>
    obtain ⟨hany, hnormal⟩ := s.recordFailed_dumpEngine l .laneDown r
    obtain ⟨hanys, hnormals⟩ := ih (s.recordFailed l .laneDown r)
    refine ⟨hanys.trans (congrArg (fun d : Dump => { d with redo := ((s.recordFailed l .laneDown r).failRecords l rs).dump.redo }) hany), fun hall => ?_⟩
    exact (hnormals fun q hq => hall q (List.mem_cons_of_mem _ hq)).trans (hnormal (hall r (List.mem_cons_self ..)))

theorem State.breakLane_returns (s : State) (l : Nat) : ∃ rest, (s.breakLane l).returns = s.returns ++ rest ∧ ∀ p ∈ rest, ∃ i g, p = .segmentClosed i g := by
  have hstep : ∀ (s : State) k, ∃ rest, (State.breakOn l s k).returns = s.returns ++ rest ∧ ∀ p ∈ rest, ∃ i g, p = .segmentClosed i g := by
    intro s k
    unfold State.breakOn
    split
    · exact ⟨[], (List.append_nil _).symm, by simp⟩
    · rename_i id g _
      split
      · obtain ⟨rest, hreturns, hkinds⟩ := (s.drain id .broken).closeIfSettled_returns id
        exact ⟨rest, hreturns.trans (congrArg (· ++ rest) (agree (π := State.returns) (s.drain_frame id .broken))), hkinds⟩
      · exact ⟨[], (List.append_nil _).symm, by simp⟩
  have hall : ∀ n, ∃ rest, ((List.range n).foldl (State.breakOn l) s).returns = s.returns ++ rest ∧ ∀ p ∈ rest, ∃ i g, p = .segmentClosed i g := by
    intro n
    induction n with
    | zero => exact ⟨[], (List.append_nil _).symm, by simp⟩
    | succ n ih =>
      obtain ⟨rest, hreturns, hkinds⟩ := ih
      obtain ⟨more, hmore, hmoreKinds⟩ := hstep ((List.range n).foldl (State.breakOn l) s) n
      rw [hreturns, List.append_assoc] at hmore
      rw [List.range_succ, List.foldl_append]
      refine ⟨_, hmore, fun p hp => ?_⟩
      rcases List.mem_append.1 hp with hp | hp
      · exact hkinds p hp
      · exact hmoreKinds p hp
  exact hall 256

/-! ## The acts of a lane down -/

/-- The lane DOWN, without records, every answer waiting counted as stray (R132 action 1). -/
def Lane.lostLink (x : Lane) : Lane :=
  { x with up := false, inflight := [], stray := x.stray + BitVec.ofNat 32 x.waiting.length, waiting := [] }

/-- The state after the actions 1 to 3 of R132. -/
def State.laneBroken (s : State) (l : Nat) : State := ((s.setLane l (s.lane l).lostLink).failRecords l (s.lane l).inflight).breakLane l

/-- The state after the actions 1 to 5 of R132. -/
def State.laneGivenUp (s : State) (l : Nat) (cause : DownCause) : State :=
  ((s.laneBroken l).returnGrants l).enqueue (.laneDown l cause (s.lane l).inflight.length)

theorem State.laneDown_eq (s : State) (l : Nat) (cause : DownCause) :
    s.laneDown l cause = (s.laneGivenUp l cause).dumpLosesLane l ((s.laneBroken l).lane l).dumpCapacity := rfl

theorem State.laneBroken_lane (s : State) (l j : Nat) : (s.laneBroken l).lane j = if j = l
    then { (s.lane l).lostLink with failed := (s.lane l).failed + BitVec.ofNat 32 (s.lane l).inflight.length } else s.lane j := by
  have hframe := ((s.setLane l (s.lane l).lostLink).failRecords l (s.lane l).inflight).breakLane_frame l
  refine (agree (π := (State.lane · j)) hframe : _ = ((s.setLane l (s.lane l).lostLink).failRecords l (s.lane l).inflight).lane j).trans ?_
  rw [State.failRecords_lane, State.lane_setLane, State.lane_setLane, if_pos rfl]
  by_cases hj : j = l
  · rw [if_pos hj, if_pos hj]
    rfl
  · rw [if_neg hj, if_neg hj, if_neg hj]

theorem State.laneBroken_slot (s : State) (l j : Nat) : (s.laneBroken l).slot j
    = if (s.lane l).inflight.any (fun r => r.kind == .normal && r.slots.contains j) = true then { s.slot j with state := .staged } else s.slot j := by
  have hframe := ((s.setLane l (s.lane l).lostLink).failRecords l (s.lane l).inflight).breakLane_frame l
  refine (agree (π := (State.slot · j)) hframe : _ = ((s.setLane l (s.lane l).lostLink).failRecords l (s.lane l).inflight).slot j).trans ?_
  rw [State.failRecords_slot]
  rfl

theorem State.laneBroken_dump (s : State) (l : Nat) : (s.laneBroken l).dump = { s.dump with redo := (s.laneBroken l).dump.redo }
    ∧ ((∀ r ∈ (s.lane l).inflight, r.kind = .normal) → (s.laneBroken l).dump = s.dump) := by
  have hframe : (s.laneBroken l).dump = ((s.setLane l (s.lane l).lostLink).failRecords l (s.lane l).inflight).dump :=
    (agree (π := State.dump) (State.breakLane_frame _ l) :)
  rw [hframe]
  exact State.failRecords_dump _ _

theorem State.laneBroken_returns (s : State) (l : Nat) : ∃ before, (s.laneBroken l).returns = s.returns ++ before
    ∧ ∀ p ∈ before, (∃ x u b, p = .programFailed l .laneDown x u b) ∨ ∃ j g, p = .segmentClosed j g := by
  obtain ⟨failed, hfailed, hkinds⟩ := (s.setLane l (s.lane l).lostLink).failRecords_returns (l := l) (s.lane l).inflight
  obtain ⟨closed, hclosed, hclosedKinds⟩ := ((s.setLane l (s.lane l).lostLink).failRecords l (s.lane l).inflight).breakLane_returns l
  rw [hfailed, List.append_assoc] at hclosed
  refine ⟨failed ++ closed, hclosed, fun p hp => ?_⟩
  rcases List.mem_append.1 hp with hp | hp
  · exact hkinds p hp
  · exact .inr (hclosedKinds p hp)

theorem State.laneBroken_frame (s : State) (l : Nat) : (s.laneBroken l).butRecordFailed = s.butRecordFailed := by
  unfold State.laneBroken
  rw [agree (π := State.butRecordFailed) (State.breakLane_frame ..), State.failRecords_frame]
  rfl

theorem State.grantParcels_laneBroken (s : State) (l : Nat) : (s.laneBroken l).grantParcels l = s.grantParcels l := by
  unfold State.grantParcels
  rw [State.laneBroken_lane, if_pos rfl]
  rfl

/-- The lane once it is DOWN, its records have failed and its grants have left (R93, R132). -/
def Lane.lost (x : Lane) : Lane :=
  { x with
    up := false, inflight := [], normal := [], dump := [], armed := false, waiting := [],
    stray := x.stray + BitVec.ofNat 32 x.waiting.length
    failed := x.failed + BitVec.ofNat 32 x.inflight.length }

theorem State.lane_enqueue (p : ReturnParcel) (j : Nat) : (s.enqueue p).lane j = s.lane j := rfl

theorem State.butReturnGrants_enqueue (p : ReturnParcel) : (s.enqueue p).butReturnGrants = s.butReturnGrants := rfl

theorem State.laneGivenUp_lane (s : State) (l : Nat) (cause : DownCause) (j : Nat) :
    (s.laneGivenUp l cause).lane j = if j = l then (s.lane l).lost else s.lane j := by
  rw [State.laneGivenUp, State.lane_enqueue, State.returnGrants_lane, State.laneBroken_lane, State.laneBroken_lane, if_pos rfl]
  by_cases hj : j = l
  · rw [if_pos hj, if_pos hj]
    rfl
  · rw [if_neg hj, if_neg hj, if_neg hj]

theorem State.laneGivenUp_returns (s : State) (l : Nat) (cause : DownCause) : (s.laneGivenUp l cause).returns
    = (s.laneBroken l).returns ++ s.grantParcels l ++ [.laneDown l cause (s.lane l).inflight.length] := by
  rw [State.laneGivenUp, State.enqueue_returns, State.returnGrants_returns, State.grantParcels_laneBroken]

/-- The state outside what `returnGrants` and a parcel may change. -/
theorem State.laneGivenUp_frame (s : State) (l : Nat) (cause : DownCause) :
    (s.laneGivenUp l cause).butReturnGrants = (s.laneBroken l).butReturnGrants := by
  rw [State.laneGivenUp, State.butReturnGrants_enqueue, State.returnGrants_frame]

end

end Sys2Proof.Machine
end

section
/-! What ends a lane down or a failure, in terms of lanes and of the dump engine (R56, R82, R161 to R163). -/

namespace Sys2Proof.Machine

open Sys2Proof

section

variable {s u : State} {l n k id : Nat} {cause : DownCause} {rest : List InFlight} {fails : List (FailReason × InFlight)}

/-! ## The end of the event -/

theorem State.endRequests_lanes_still (hpart : u.part = .dumping) : u.endRequests.lanes = u.lanes := by
  rw [State.endRequests, State.segmentRequests_stay (by rw [hpart]; decide)]
  exact (agree (π := State.lanes) u.poolLowNotices_frame :)

/-- The state in which the dump check of a failure is made. -/
theorem State.beforeCheck_facts (u : State) : u.durablePads.endRequests.part = u.part ∧ u.durablePads.endRequests.dump = u.dump
    ∧ (u.part = .dumping → u.durablePads.endRequests.lanes = u.lanes) := by
  have hpart : u.durablePads.part = u.part := (agree (π := State.part) u.durablePads_frame :)
  refine ⟨(agree (π := State.part) u.durablePads.endRequests_frame :).trans hpart,
    (agree (π := State.dump) u.durablePads.endRequests_frame :).trans (agree (π := State.dump) u.durablePads_frame :), fun h => ?_⟩
  exact (State.endRequests_lanes_still (hpart.trans h)).trans (agree (π := State.lanes) u.durablePads_frame :)

/-- The end of a failure draws grants alone from a lane, and in DUMPED drops its answers. -/
theorem State.endFailure_lane (hsorted : u.part = .dumping → Store.sorted u.lanes = true) (i : Nat) : ∃ y, (u.lane i).Draws y
    ∧ u.endFailure.lane i = { y with waiting := (u.endFailure.lane i).waiting }
    ∧ ((u.lane i).waiting = [] → (u.endFailure.lane i).waiting = []) := by
  obtain ⟨hpart, -, hlanes⟩ := u.beforeCheck_facts
  have hpads : u.durablePads.lane i = u.lane i := (agree (π := (State.lane · i)) u.durablePads_frame :)
  by_cases hdumping : u.part = .dumping
  · have hlane : u.durablePads.endRequests.lane i = u.lane i := by
      rw [State.lane, hlanes hdumping, State.lane]
    have hsorted' : Store.sorted u.durablePads.endRequests.lanes = true := hlanes hdumping ▸ hsorted hdumping
    refine ⟨u.lane i, .refl _, ?_, fun hnone => ?_⟩
    · have hcheck := State.dumpCheck_lane hsorted' i
      rw [hlane] at hcheck
      exact hcheck
    · rw [← hlane] at hnone
      unfold State.endFailure State.dumpCheck
      split
      · split
        · split
          · exact hnone
          · rw [State.enterDumped_lane hsorted']
        · split <;> exact hnone
      · exact hnone
  · have hend : u.endFailure = u.durablePads.endRequests := by
      rw [State.endFailure, State.dumpCheck, if_neg (hpart ▸ hdumping)]
    have hdraws := u.durablePads.endRequests_ends.lanes i
    rw [hpads] at hdraws
    rw [hend]
    refine ⟨_, hdraws, rfl, fun hnone => ?_⟩
    rw [hdraws.2]
    exact hnone

/-- A lane without grants ends the event as it is, but for the answers that DUMPED drops. -/
theorem State.endFailure_lane_of_lost (hsorted : u.part = .dumping → Store.sorted u.lanes = true) {i : Nat} {x : Lane} (hlane : u.lane i = x.lost) :
    u.endFailure.lane i = x.lost := by
  obtain ⟨y, hdraws, hend, hwaiting⟩ := State.endFailure_lane hsorted i
  rw [hlane] at hdraws hwaiting
  have hnormal : y.normal = [] := hdraws.normal_nil rfl
  have hy : y = x.lost := by
    rw [hdraws.2, hnormal]
    simp [Lane.drawn, Lane.lost]
  rw [hend, hwaiting rfl, hy]
  rfl

theorem State.endFailure_dump (u : State) : u.endFailure.dump = { u.dump with phase := u.endFailure.dump.phase } := by
  obtain ⟨-, hdump, -⟩ := u.beforeCheck_facts
  have hcheck := u.durablePads.endRequests.dumpCheck_dump
  rw [hdump] at hcheck
  exact hcheck

theorem State.endFailure_of_run (h : u.part = .run) : u.endFailure.part = .run ∧ u.endFailure.dump = u.dump := by
  obtain ⟨hpart, hdump, -⟩ := u.beforeCheck_facts
  have hend : u.endFailure = u.durablePads.endRequests := by
    rw [State.endFailure, State.dumpCheck, if_neg (by rw [hpart, h]; decide)]
  rw [hend]
  exact ⟨hpart.trans h, hdump⟩

theorem State.endFailure_settled (h : u.part = .dumping) (hsorted : Store.sorted u.lanes = true) : u.endFailure.dumpSettled u.dump.phase := by
  obtain ⟨hpart, hdump, hlanes⟩ := u.beforeCheck_facts
  have hsettled := State.dumpCheck_settled (hpart.trans h) (hlanes h ▸ hsorted)
  rw [hdump] at hsettled
  exact hsettled

/-! ## The dump engine's part in a lane down (R161) -/

theorem State.takeGrant_lane_down {i : Nat} (hdown : (s.lane i).up = false) : (s.takeGrant l).lane i = s.lane i := by
  rcases s.takeGrant_cases l with ⟨htake, -⟩ | ⟨j, g, rest, -, -, hup, -, -, htake⟩ <;> rw [htake]
  rw [State.grantTaken_lane, if_neg]
  rintro rfl
  rw [hup] at hdown
  cases hdown

/-- The unassigned positions of the current grant, when it lies on the lane. -/
def State.lostWith (s : State) (l : Nat) : Nat :=
  match s.dump.current with
  | some g => if g.lane = l then g.capacity - g.assigned else 0
  | none => 0

/-- The engine with this capacity lost, before it takes the next grant. -/
def State.capacityLost (s : State) (l lost : Nat) : State := s.withDump { s.dump with remaining := s.dump.remaining - (lost + s.lostWith l) }

theorem State.dumpLosesLane_of_other (lost : Nat) (hpart : s.part = .dumping) (h : ∀ c, s.dump.current = some c → c.lane ≠ l) :
    s.dumpLosesLane l lost = s.capacityLost l lost := by
  have hcurrent : ({ s.dump with remaining := s.dump.remaining - lost } : Dump).current = s.dump.current := rfl
  rw [State.dumpLosesLane, if_pos hpart]
  unfold State.loseDumpLane State.capacityLost State.lostWith
  cases hc : s.dump.current with
  | none =>
    simp only [hcurrent, hc]
    rfl
  | some c =>
    simp only [hcurrent, hc, if_neg (h c hc)]
    rfl

theorem State.dumpLosesLane_of_current (lost : Nat) (hpart : s.part = .dumping) {c : TakenGrant} (hc : s.dump.current = some c) (hlane : c.lane = l) :
    s.dumpLosesLane l lost = (s.capacityLost l lost).takeGrant l := by
  have hcurrent : ({ s.dump with remaining := s.dump.remaining - lost } : Dump).current = s.dump.current := rfl
  rw [State.dumpLosesLane, if_pos hpart]
  unfold State.loseDumpLane State.capacityLost State.lostWith
  simp only [hcurrent, hc, if_pos hlane, Nat.sub_sub]
  rfl

/-- In DUMPING the engine loses the capacity, and takes the next grant when the current one lay on the lane. -/
theorem State.dumpLosesLane_cases (s : State) (l lost : Nat) (hpart : s.part = .dumping) :
    ((∀ c, s.dump.current = some c → c.lane ≠ l) ∧ s.dumpLosesLane l lost = s.capacityLost l lost)
      ∨ ((∃ c, s.dump.current = some c ∧ c.lane = l) ∧ s.dumpLosesLane l lost = (s.capacityLost l lost).takeGrant l) := by
  by_cases h : ∃ c, s.dump.current = some c ∧ c.lane = l
  · obtain ⟨c, hc, hlane⟩ := h
    exact .inr ⟨⟨c, hc, hlane⟩, State.dumpLosesLane_of_current lost hpart hc hlane⟩
  · have hother : ∀ c, s.dump.current = some c → c.lane ≠ l := fun c hc hlane => h ⟨c, hc, hlane⟩
    exact .inl ⟨hother, State.dumpLosesLane_of_other lost hpart hother⟩

theorem State.dumpLosesLane_lane_down {i : Nat} (lost : Nat) (hdown : (s.lane i).up = false) : (s.dumpLosesLane l lost).lane i = s.lane i := by
  by_cases hpart : s.part = .dumping
  · rcases s.dumpLosesLane_cases l lost hpart with ⟨-, heq⟩ | ⟨-, heq⟩ <;> rw [heq]
    · rfl
    · exact State.takeGrant_lane_down (s := s.capacityLost l lost) hdown
  · rw [State.dumpLosesLane, if_neg hpart]

/-! ## A lane down -/

theorem State.laneDown_lane (s : State) (l : Nat) (cause : DownCause) : (s.laneDown l cause).lane l = (s.lane l).lost := by
  have hlane : (s.laneGivenUp l cause).lane l = (s.lane l).lost := by
    rw [State.laneGivenUp_lane, if_pos rfl]
  rw [State.laneDown_eq, State.dumpLosesLane_lane_down _ (by rw [hlane]; rfl), hlane]

theorem State.laneDown_tables (s : State) (l : Nat) (cause : DownCause) : (s.laneDown l cause).slot = (s.laneBroken l).slot
    ∧ (s.laneDown l cause).stream = (s.laneBroken l).stream ∧ (s.laneDown l cause).segments = (s.laneBroken l).segments
    ∧ (s.laneDown l cause).returns = (s.laneBroken l).returns ++ s.grantParcels l ++ [.laneDown l cause (s.lane l).inflight.length] := by
  have hengine := (s.laneGivenUp l cause).dumpLosesLane_frame l ((s.laneBroken l).lane l).dumpCapacity
  have hgiven := s.laneGivenUp_frame l cause
  have hreturns := s.laneGivenUp_returns l cause
  rw [State.laneDown_eq]
  exact ⟨(agree (π := State.slot) hengine :).trans (agree (π := State.slot) hgiven :), (agree (π := State.stream) hengine :).trans (agree (π := State.stream) hgiven :),
    (agree (π := State.segments) hengine :).trans (agree (π := State.segments) hgiven :), (agree (π := State.returns) hengine :).trans hreturns⟩

theorem State.laneDown_of_run (h : s.part = .run) : (s.laneDown l cause).dump = (s.laneBroken l).dump := by
  have hgiven := s.laneGivenUp_frame l cause
  have hpart : (s.laneGivenUp l cause).part = .run :=
    (agree (π := State.part) hgiven :).trans ((agree (π := State.part) (s.laneBroken_frame l) :).trans h)
  rw [State.laneDown_eq, State.dumpLosesLane, if_neg (by rw [hpart]; decide)]
  exact (agree (π := State.dump) hgiven :)

theorem State.laneDown_rest (s : State) (l : Nat) (cause : DownCause) : (s.laneDown l cause).part = s.part
    ∧ (s.laneDown l cause).params = s.params ∧ (s.laneDown l cause).due = s.due :=
  ⟨(agree (π := State.part) (s.laneDown_frame l cause) :), (agree (π := State.params) (s.laneDown_frame l cause) :),
    (agree (π := State.due) (s.laneDown_frame l cause) :)⟩

/-- A lane down fails every record that is left, and breaks the lane's segments. -/
theorem State.Failed.laneBroken (hs : s.Ledger) (h : s.Failed u l 0 fails (u.lane l).inflight)
    (hcover : (fails.map Prod.snd ++ (u.lane l).inflight).Perm (s.lane l).inflight) :
    s.Failed (u.laneBroken l) l 256 (fails ++ (u.lane l).inflight.map fun q => (.laneDown, q)) [] := by
  have hset : s.Failed (u.setLane l (u.lane l).lostLink) l 0 fails (u.lane l).inflight := h.congr rfl rfl rfl rfl rfl
  refine (hset.records hs hcover).allBroken hs ?_
  rw [List.map_append, List.map_map]
  simpa using hcover

end

end Sys2Proof.Machine
end

section
/-! A lane down under the ledger: `laneLost` and `dumpLoses` (R93, R132, R161). -/

namespace Sys2Proof.Machine

open Sys2Proof

section

variable {s w : State} {l : Nat} {cause : DownCause} {rest : List InFlight} {fails : List (FailReason × InFlight)}

/-- The events of a lane down: the state `w` in which it begins is that of the event's start, but for the record whose failure caused it. -/
structure State.LosesLane (s w : State) (l : Nat) (fails : List (FailReason × InFlight)) : Prop where
  ledger : s.Ledger
  failed : s.Failed w l 0 fails (w.lane l).inflight
  cover : (fails.map Prod.snd ++ (w.lane l).inflight).Perm (s.lane l).inflight
  canonical : w.Canonical
  part : w.part = s.part
  params : w.params = s.params
  due : w.due = s.due
  others : ∀ j, j ≠ l → w.lane j = s.lane j
  grants : (w.lane l).normal = (s.lane l).normal ∧ (w.lane l).dump = (s.lane l).dump

/-- The records that fail in the event, in their order. -/
def lostRecords (fails : List (FailReason × InFlight)) (rs : List InFlight) : List (FailReason × InFlight) :=
  fails ++ rs.map fun q => (.laneDown, q)

theorem lostRecords_units (fails : List (FailReason × InFlight)) (rs : List InFlight) : (lostRecords fails rs).map Prod.snd = fails.map Prod.snd ++ rs := by
  rw [lostRecords, List.map_append, List.map_map]
  congr 1
  exact List.map_id _

theorem State.LosesLane.broken (h : s.LosesLane w l fails) : s.Failed (w.laneBroken l) l 256 (lostRecords fails (w.lane l).inflight) [] :=
  h.failed.laneBroken h.ledger h.cover

theorem State.LosesLane.units (h : s.LosesLane w l fails) : s.UnitsFailing (w.laneDown l cause) l 256 (lostRecords fails (w.lane l).inflight) [] := by
  obtain ⟨hslots, hstreams, hsegments, -⟩ := w.laneDown_tables l cause
  exact h.broken.toUnitsFailing.congr hslots hstreams hsegments

theorem State.LosesLane.grantParcels (h : s.LosesLane w l fails) : w.grantParcels l = s.grantParcels l := by
  unfold State.grantParcels
  rw [h.grants.1, h.grants.2]

/-- A lane down leaves what R132 says. -/
theorem State.LosesLane.laneLost (h : s.LosesLane w l fails) : s.laneLost (w.laneDown l cause).endFailure l cause
    (lostRecords fails (w.lane l).inflight) (w.lane l).inflight.length := by
  obtain ⟨-, -, -, hreturns⟩ := w.laneDown_tables l cause
  obtain ⟨hpart, hparams, hdue⟩ := w.laneDown_rest l cause
  obtain ⟨after, hafter, hkinds, hnone⟩ := (w.laneDown l cause).endFailure_returns
  refine ⟨State.UnitsFailing.unitsFail (down := true) h.ledger h.units ?_ (closed_canonical.laneDown l cause h.canonical).segments
    (hpart.trans h.part) (hparams.trans h.params) fun _ => ⟨rfl, ?_⟩, after, ?_, hkinds, fun hdumping hempty => hnone ?_ ?_⟩
  · rw [lostRecords_units, List.append_nil]
    exact h.cover
  · rw [State.laneDown_lane]
    rfl
  · rw [hafter, hreturns, h.broken.returns, h.grantParcels]
    simp only [List.append_assoc, List.cons_append, List.nil_append]
    rfl
  · exact hpart.trans (h.part.trans hdumping)
  · exact hdue.trans (h.due.trans hempty)

/-! ## The dump engine -/

theorem State.LosesLane.givenUp_dump (h : s.LosesLane w l fails) :
    (w.laneGivenUp l cause).dump = { s.dump with redo := (w.laneGivenUp l cause).dump.redo } := by
  have hgiven : (w.laneGivenUp l cause).dump = (w.laneBroken l).dump := (agree (π := State.dump) (w.laneGivenUp_frame l cause) :)
  rw [hgiven]
  exact h.broken.dump

theorem Dump.current_redo (d : Dump) (redo : List Nat) : ({ d with redo := redo } : Dump).current = d.current := rfl

theorem State.capacityLost_lane (lost j : Nat) : (s.capacityLost l lost).lane j = s.lane j := rfl

theorem State.capacityLost_dump (lost : Nat) :
    (s.capacityLost l lost).dump = { s.dump with remaining := s.dump.remaining - (lost + s.lostWith l) } := rfl

/-- The state in which the dump engine takes the next grant. -/
def State.engineLeft (w : State) (l : Nat) (cause : DownCause) : State :=
  (w.laneGivenUp l cause).capacityLost l ((w.laneBroken l).lane l).dumpCapacity

theorem State.LosesLane.engineLeft_lane (h : s.LosesLane w l fails) (j : Nat) : (w.engineLeft l cause).lane j = if j = l then (w.lane l).lost else s.lane j := by
  rw [State.engineLeft, State.capacityLost_lane, State.laneGivenUp_lane]
  by_cases hj : j = l
  · rw [if_pos hj, if_pos hj]
  · rw [if_neg hj, if_neg hj, h.others j hj]

theorem State.LosesLane.engineLeft_dump (h : s.LosesLane w l fails) : (w.engineLeft l cause).dump = { s.dump with
    redo := (w.laneBroken l).dump.redo
    remaining := s.dump.remaining - (((s.lane l).dump.map Grant.capacity).sum + s.lostWith l) } := by
  have hgiven : (w.laneGivenUp l cause).dump = (w.laneBroken l).dump := (agree (π := State.dump) (w.laneGivenUp_frame l cause) :)
  have hdump := h.broken.dump
  have hcapacity : ((w.laneBroken l).lane l).dumpCapacity = ((s.lane l).dump.map Grant.capacity).sum := by
    rw [State.laneBroken_lane, if_pos rfl, ← h.grants.2]
    rfl
  have hlost : (w.laneGivenUp l cause).lostWith l = s.lostWith l := by
    unfold State.lostWith
    rw [hgiven, hdump, Dump.current_redo]
  rw [State.engineLeft, State.capacityLost_dump, hcapacity, hlost, hgiven, hdump]

theorem State.LosesLane.redo (h : s.LosesLane w l fails) (k : Nat) : k ∈ (w.laneBroken l).dump.redo ↔ k ∈ s.dump.redo
    ∨ ∃ r ∈ (s.lane l).inflight, r.kind = .dump ∧ r.trailer = false ∧ k ∈ r.slots ∧ (s.slot k).inUse = true := by
  rw [h.broken.redo, lostRecords_units]
  simp only [h.cover.mem_iff]

/-- After a lane down in DUMPING: whether the current grant lay on the lane, and what the engine took. -/
theorem State.LosesLane.engine (h : s.LosesLane w l fails) (hdumping : s.part = .dumping) :
    ((∀ c, s.dump.current = some c → c.lane ≠ l) ∧ w.laneDown l cause = w.engineLeft l cause)
      ∨ ((∃ c, s.dump.current = some c ∧ c.lane = l) ∧ w.laneDown l cause = (w.engineLeft l cause).takeGrant l) := by
  have hpart : (w.laneGivenUp l cause).part = .dumping :=
    (agree (π := State.part) (w.laneGivenUp_frame l cause) :).trans
      ((agree (π := State.part) (w.laneBroken_frame l) :).trans (h.part.trans hdumping))
  have hcurrent : (w.laneGivenUp l cause).dump.current = s.dump.current := by
    rw [h.givenUp_dump, Dump.current_redo]
  have hcases := (w.laneGivenUp l cause).dumpLosesLane_cases l ((w.laneBroken l).lane l).dumpCapacity hpart
  rw [hcurrent, ← State.laneDown_eq] at hcases
  unfold State.engineLeft
  exact hcases

/-- The engine takes the next grant from a later lane, the lane itself being DOWN. -/
theorem State.LosesLane.takesNext (h : s.LosesLane w l fails) {t : State} (htaken : t.dump.taken = ((w.engineLeft l cause).takeGrant l).dump.taken)
    (hstores : ∀ j, (t.lane j).dump = (((w.engineLeft l cause).takeGrant l).lane j).dump) : s.takesNext t (l + 1) := by
  obtain ⟨hfirst, hnone⟩ := (w.engineLeft l cause).takeGrant_takesNext l
  have hbefore : (w.engineLeft l cause).dump.taken = s.dump.taken := by rw [h.engineLeft_dump]
  have hdown : ((w.engineLeft l cause).lane l).up = false := by
    rw [h.engineLeft_lane, if_pos rfl]
    rfl
  have hlater : ∀ j, l + 1 ≤ j → (w.engineLeft l cause).lane j = s.lane j := fun j hj => by
    rw [h.engineLeft_lane, if_neg (by omega)]
  have hstore : ∀ n, (∀ i, l + 1 ≤ i → i < n → (s.lane i).up = true → (s.lane i).dump = []) →
      ∀ i, l ≤ i → i < n → ((w.engineLeft l cause).lane i).up = true → ((w.engineLeft l cause).lane i).dump = [] := fun n hempty i hi hn hup => by
    rcases Nat.eq_or_lt_of_le hi with rfl | hi
    · rw [hdown] at hup
      cases hup
    · rw [hlater i hi] at hup ⊢
      exact hempty i hi hn hup
  rw [hbefore, ← htaken] at hfirst hnone
  refine ⟨fun j d ds hj hj8 hup hdump hempty => ?_, fun hempty => hnone fun j hj hj8 => hstore 8 hempty j hj hj8⟩
  rw [hstores]
  exact hfirst j d ds (by omega) hj8 (by rw [hlater j hj]; exact hup) (by rw [hlater j hj]; exact hdump) (hstore j hempty)

theorem State.endFailure_store (hsorted : Store.sorted w.lanes = true) (j : Nat) : (w.endFailure.lane j).dump = (w.lane j).dump := by
  obtain ⟨y, hdraws, hlane, -⟩ := State.endFailure_lane (u := w) (fun _ => hsorted) j
  rw [hlane, hdraws.2]
  rfl

/-- The dump engine after a lane down in DUMPING (R161). -/
theorem State.LosesLane.dumpLoses (h : s.LosesLane w l fails) (hdumping : s.part = .dumping) : s.dumpLoses (w.laneDown l cause).endFailure l := by
  have hsorted := sorted_of_canon (closed_canonical.laneDown l cause h.canonical).lanes
  have hsettled := State.endFailure_settled ((w.laneDown_rest l cause).1.trans (h.part.trans hdumping)) hsorted
  have hend := (w.laneDown l cause).endFailure_dump
  have hstores := fun j => State.endFailure_store hsorted j
  have hengine := h.engine (cause := cause) hdumping
  have hdump : (w.laneDown l cause).dump = { s.dump with
      redo := (w.laneBroken l).dump.redo
      remaining := s.dump.remaining - (((s.lane l).dump.map Grant.capacity).sum + s.lostWith l)
      taken := (w.laneDown l cause).dump.taken } := by
    rcases hengine with ⟨-, heq⟩ | ⟨-, heq⟩ <;> rw [heq]
    · rw [h.engineLeft_dump]
    · rw [State.takeGrant_dump, h.engineLeft_dump]
  have htaken : (w.laneDown l cause).endFailure.dump.taken = (w.laneDown l cause).dump.taken := by rw [hend]
  have hphase : (w.laneDown l cause).dump.phase = s.dump.phase := by rw [hdump]
  rw [hphase] at hsettled
  have hbefore : (w.engineLeft l cause).dump.taken = s.dump.taken := by rw [h.engineLeft_dump]
  refine ⟨fun k => ?_, ?_, ?_, fun hcurrent => ?_, fun hother => ?_, ?_, ?_, ?_, ?_, ?_, ?_, hsettled⟩
  · have hredo : (w.laneDown l cause).endFailure.dump.redo = (w.laneBroken l).dump.redo := by rw [hend, hdump]
    rw [hredo]
    exact h.redo k
  · rw [hend, hdump]
    rfl
  · rw [htaken]
    rcases hengine with ⟨-, heq⟩ | ⟨-, heq⟩ <;> rw [heq]
    · rw [hbefore]
    · obtain ⟨more, hmore⟩ := (w.engineLeft l cause).takeGrant_taken l
      rw [hmore, hbefore]
      exact List.prefix_append _ _
  · rcases hengine with ⟨hother, -⟩ | ⟨-, heq⟩
    · obtain ⟨c, hc, hlane⟩ := hcurrent
      exact absurd hlane (hother c hc)
    · rw [heq] at htaken hstores
      rw [heq]
      exact h.takesNext htaken hstores
  · rcases hengine with ⟨-, heq⟩ | ⟨⟨c, hc, hlane⟩, -⟩
    · rw [heq] at htaken hstores
      rw [heq]
      refine ⟨htaken.trans hbefore, fun j hj => ?_⟩
      rw [hstores, h.engineLeft_lane, if_neg hj]
    · exact absurd hlane (hother c hc)
  all_goals rw [hend, hdump]

end

end Sys2Proof.Machine
end

section
/-! ANSWER with FAIL for a NORMAL record (R124 to R126). -/

namespace Sys2Proof.Machine

open Sys2Proof

/-- The table of lanes is in its canonical form. -/
def State.lanesCanon (s : State) : Prop := Store.canon {} s.lanes = true

theorem closed_lanesCanon : Closed State.lanesCanon where
  other hs h := Eq.trans (congrArg (fun u : State => Store.canon ({} : Lane) u.lanes) h :) hs
  tenant _ _ _ hs := hs
  range _ _ _ _ hs := hs
  putTenant := State.putTenant_keeps (fun _ _ _ hs => hs) fun _ _ hs => hs
  dropTenant := State.dropTenant_keeps (fun _ _ _ hs => hs) fun _ _ hs => hs
  putRanges := State.putRanges_keeps (fun _ _ _ hs => hs) fun _ _ hs => hs
  slot _ _ hs := hs
  stream _ _ _ hs := hs
  lane l r hs := Store.canon_setD hs l r
  segment _ _ hs := hs
  dropSegment _ hs := hs
  index _ _ hs := hs
  dropIndex _ hs := hs
  durable _ _ hs := hs
  dropDurable _ hs := hs
  flush _ _ hs := hs
  dropFlush _ hs := hs
  enqueue _ _ hs := hs
  sendLane _ _ hs := hs
  bytes _ _ hs := hs
  decay hs := hs
  hushed hs := Store.canon_mapD hs (fun l => { l with waiting := [] })
  cleared hs := hs

section

variable {s u : State} {l i : Nat} {r : InFlight} {why : FailReason}

/-- The state outside the slots, streams, segments, starvation list, lanes, return queue and dump engine, and what goes with them. -/
def State.steady (s : State) : State :=
  { s with
    now := 0, lines := {}, part := .run, dumpres := .none, slots := [], streams := [], segments := [], nextSegment := 0, starved := [], lanes := [],
    dump := {}, returns := [], due := [], draws := 0 }

theorem State.endFailure_steady (s : State) : s.endFailure.steady = s.steady := (agree (π := State.steady) s.endFailure_frame :)

theorem State.recordFailed_steady (s : State) (l : Nat) (why : FailReason) (r : InFlight) : (s.recordFailed l why r).steady = s.steady :=
  (agree (π := State.steady) (s.recordFailed_frame l why r) :)

theorem State.laneDown_steady (s : State) (l : Nat) (cause : DownCause) : (s.laneDown l cause).steady = s.steady :=
  (agree (π := State.steady) (s.laneDown_frame l cause) :)

theorem State.recordFailed_rest (s : State) (l : Nat) (why : FailReason) (r : InFlight) : (s.recordFailed l why r).part = s.part
    ∧ (s.recordFailed l why r).params = s.params ∧ (s.recordFailed l why r).due = s.due :=
  ⟨(agree (π := State.part) (s.recordFailed_frame l why r) :), (agree (π := State.params) (s.recordFailed_frame l why r) :),
    (agree (π := State.due) (s.recordFailed_frame l why r) :)⟩

/-- The end of a failure takes nothing of a lane but grants, and answers in DUMPED. -/
theorem State.endFailure_lane_kept (hsorted : u.part = .dumping → Store.sorted u.lanes = true) (j : Nat) :
    (u.endFailure.lane j).inflight = (u.lane j).inflight ∧ (u.endFailure.lane j).consecutive = (u.lane j).consecutive
      ∧ (u.endFailure.lane j).failed = (u.lane j).failed ∧ (u.endFailure.lane j).done = (u.lane j).done
      ∧ (u.endFailure.lane j).up = (u.lane j).up ∧ (u.endFailure.lane j).timeouts = (u.lane j).timeouts := by
  obtain ⟨y, hdraws, hlane, -⟩ := State.endFailure_lane hsorted j
  rw [hlane, hdraws.2]
  exact ⟨rfl, rfl, rfl, rfl, rfl, rfl⟩

theorem State.endFailure_slot (k : Nat) : u.endFailure.slot k = u.slot k := (agree (π := (State.slot · k)) u.endFailure_frame :)

/-- The record is among those of the lane, in front of the others. -/
theorem eraseIdx_perm {α : Type} {xs : List α} {i : Nat} {x : α} (h : xs[i]? = some x) : (x :: xs.eraseIdx i).Perm xs := by
  obtain ⟨hi, rfl⟩ := List.getElem?_eq_some_iff.1 h
  exact List.getElem_cons_eraseIdx_perm hi

theorem length_eraseIdx_of_getElem? {α : Type} {xs : List α} {i : Nat} {x : α} (h : xs[i]? = some x) : (xs.eraseIdx i).length + 1 = xs.length := by
  have hlength := (eraseIdx_perm h).length_eq
  rwa [List.length_cons] at hlength

/-- The failure of a NORMAL record that has left its lane's list. -/
theorem State.Ledger.failed_one {v : State} (hs : s.Ledger) (hr : (s.lane l).inflight[i]? = some r) (hslots : v.slot = s.slot) (hstreams : v.stream = s.stream)
    (hsegments : v.segments = s.segments) (hreturns : v.returns = s.returns) (hdump : v.dump = s.dump) :
    s.Failed (v.recordFailed l why r) l 0 [(why, r)] ((s.lane l).inflight.eraseIdx i) :=
  (((hs.failed_none (r :: (s.lane l).inflight.eraseIdx i)).congr hslots hstreams hsegments hreturns hdump).record hs (eraseIdx_perm hr) :
    s.Failed (v.recordFailed l why r) l 0 ([] ++ [(why, r)]) ((s.lane l).inflight.eraseIdx i))

/-- What the failure of one record, with what ends the event, leaves under the ledger. -/
theorem State.Ledger.unitFails (hs : s.Ledger) (h : s.Failed u l 0 [(why, r)] ((s.lane l).inflight.eraseIdx i))
    (hr : (s.lane l).inflight[i]? = some r) (hcanon : u.Canonical) (hpart : u.part = s.part) (hparams : u.params = s.params) :
    s.UnitsFail u.endFailure l [r] false :=
  State.UnitsFailing.unitsFail (down := false) (fails := [(why, r)]) hs h.toUnitsFailing (eraseIdx_perm hr) hcanon.segments hpart hparams
    fun h => Bool.noConfusion h

theorem State.endFailure_one {fails : List ReturnParcel} (hreturns : u.returns = s.returns ++ r.failedParcel l why :: fails)
    (hfails : ∀ p ∈ fails, ∃ j g, p = .segmentClosed j g) : ∃ rest after, u.endFailure.returns = s.returns ++ r.failedParcel l why :: rest
      ∧ rest = fails ++ after ∧ (∀ p ∈ rest, (∃ j g, p = .segmentClosed j g) ∨ (∃ k, p = .streamStarved k) ∨ ∃ x n, p = .poolLow x n)
      ∧ (∀ p ∈ after, (∃ k, p = .streamStarved k) ∨ ∃ x n, p = .poolLow x n) ∧ (u.part = .dumping → u.due = [] → after = []) := by
  obtain ⟨after, hafter, hkinds, hnone⟩ := u.endFailure_returns
  refine ⟨fails ++ after, after, ?_, rfl, fun p hp => ?_, hkinds, hnone⟩
  · rw [hafter, hreturns, List.append_assoc, List.cons_append]
  · rcases List.mem_append.1 hp with hp | hp
    · exact .inl (hfails p hp)
    · exact .inr (hkinds p hp)

end

/-- Settles O39: the acts of R124, then what ends the event. -/
theorem failReturnsUnitToStaging : Obligations.FailReturnsUnitToStaging := by
  unfold Obligations.FailReturnsUnitToStaging
  intro s lane l i w r why hl htake hkind hbody hcode hr hblock hunit hbefore hnormal hcanon hwhy
  have houtcome : answerOutcome w.head = .fail why := by
    rw [answerOutcome, if_neg (by omega), if_pos hcode, hwhy]
  have htaken : exec (.answer lane) s = .next (((s.answering l i).recordFailed l why r).endFailure) := by
    have hresult := State.takeAnswer_matched htake ((isAnswer_iff w.head).2 ⟨hkind, hbody⟩) houtcome (fun h => nomatch h)
      (Lane.matching_eq_some hr hblock hunit hbefore) hr
    subst hl
    exact exec_eq_next_iff.2 hresult
  have hvlane := State.answering_lane (s := s) l i l
  have hled : s.Ledger → s.Failed ((s.answering l i).recordFailed l why r) l 0 [(why, r)] ((s.lane l).inflight.eraseIdx i) := fun hs =>
    hs.failed_one hr rfl rfl rfl rfl rfl
  have hvcanon : s.Ledger → (s.answering l i).Canonical := fun hs =>
    closed_canonical.lane _ _ (closed_canonical.lane _ _ ((State.canonical_iff s).1 hs.canonical))
  have hvsorted : Store.canon {} s.lanes = true → Store.canon {} (s.answering l i).lanes = true := fun h =>
    Store.canon_setD (Store.canon_setD h _ _) _ _
  have hvsteady : (s.answering l i).steady = s.steady := rfl
  have hvreturns : (s.answering l i).returns = s.returns := rfl
  have hvdump : (s.answering l i).dump = s.dump := rfl
  have hvslot : ∀ k, (s.answering l i).slot k = s.slot k := fun _ => rfl
  have hvrest : (s.answering l i).part = s.part ∧ (s.answering l i).params = s.params ∧ (s.answering l i).due = s.due := ⟨rfl, rfl, rfl⟩
  rw [if_pos rfl] at hvlane
  generalize s.answering l i = v at *
  obtain ⟨hvpart, hvparams, hvdue⟩ := hvrest
  have hucanon : s.Ledger → (v.recordFailed l why r).Canonical := fun hs => closed_canonical.recordFailed l why r (hvcanon hs)
  have husorted : s.part = .dumping → Store.sorted (v.recordFailed l why r).lanes = true := fun h =>
    sorted_of_canon (closed_lanesCanon.recordFailed l why r (hvsorted (hcanon h)))
  obtain ⟨hupart, huparams, hudue⟩ := v.recordFailed_rest l why r
  have hudump := (v.recordFailed_dumpEngine l why r).2 hnormal
  have hulane := State.recordFailed_lane (s := v) (l := l) (why := why) (r := r) l
  have huslot := fun k => State.recordFailed_slot (s := v) (l := l) (why := why) (r := r) k
  have husteady := v.recordFailed_steady l why r
  obtain ⟨closed, hreturns, hclosed⟩ : ∃ closed, (v.recordFailed l why r).returns = v.returns ++ r.failedParcel l why :: closed
      ∧ ∀ p ∈ closed, ∃ j g, p = .segmentClosed j g := by
    rw [State.recordFailed, hnormal]
    exact v.normalFailed_returns l why r
  rw [hvreturns] at hreturns
  rw [if_pos rfl, hvlane] at hulane
  generalize v.recordFailed l why r = u at *
  have hupart' : u.part = s.part := hupart.trans hvpart
  obtain ⟨hinflight, hconsecutive, hfailed, hdone, hup, -⟩ := State.endFailure_lane_kept (u := u) (fun h => husorted (hupart' ▸ h)) l
  obtain ⟨rest, after, htreturns, hrest, hkinds, hafter, hnone⟩ := State.endFailure_one hreturns hclosed
  have hsteady : u.endFailure.steady = s.steady := u.endFailure_steady.trans (husteady.trans hvsteady)
  rw [hulane] at hinflight hconsecutive hfailed hdone hup
  refine ⟨u.endFailure, rest, htaken, hinflight, hconsecutive, hfailed, hdone, hup, htreturns, hkinds, fun k => ?_, (agree (π := State.index) hsteady :),
    (agree (π := State.tenants) hsteady :), (agree (π := State.durables) hsteady :), (agree (π := State.flushes) hsteady :),
    (agree (π := State.credits) hsteady :), (agree (π := State.staging) hsteady :), (agree (π := State.ranges) hsteady :),
    (agree (π := State.sequence) hsteady :), (agree (π := State.params) hsteady :), fun hrun => ?_, fun hdumping => ?_, fun hs => ⟨?_, ?_⟩⟩
  · rw [State.endFailure_slot, huslot, hvslot]
    exact if_congr (by simp [hnormal]) rfl rfl
  · obtain ⟨hpart, hdump⟩ := State.endFailure_of_run (hupart'.trans hrun)
    exact ⟨hpart, hdump.trans (hudump.trans hvdump)⟩
  · have hsettled := State.endFailure_settled (hupart'.trans hdumping) (husorted hdumping)
    have hend := u.endFailure_dump
    rw [hudump, hvdump] at hsettled hend
    exact ⟨hend, hsettled⟩
  · exact hs.unitFails (hled hs) hr (hucanon hs) hupart' (huparams.trans hvparams)
  · have hparcels := (hled hs).returns
    rw [hreturns, List.range_zero, List.filterMap_nil, List.append_nil] at hparcels
    refine ⟨after, ?_, hafter, fun hdumping hdue => hnone (hupart'.trans hdumping) (hudue.trans (hvdue.trans hdue))⟩
    rw [← List.append_cancel_left hparcels, hrest]
    rfl

end Sys2Proof.Machine
end

section
/-! EXPIRY (R127, R128, R132, R160). -/

namespace Sys2Proof.Machine

open Sys2Proof

section

variable {s : State} {l i : Nat} {r : InFlight}

/-- The clock has reached the expiry, and the record has left its lane's list. -/
def State.expiring (s : State) (l i : Nat) (r : InFlight) : State :=
  { s with now := max s.now r.expiry }.updLane l fun x => { x with inflight := x.inflight.eraseIdx i }

/-- Both timeout counters of a lane rise (R128). -/
def Lane.timedOut (x : Lane) : Lane := { x with timeouts := x.timeouts + 1, consecutive := min 15 (x.consecutive + 1) }

/-- The record has failed, and both timeout counters have risen. -/
def State.expired (s : State) (l i : Nat) (r : InFlight) : State := ((s.expiring l i r).recordFailed l .timeout r).updLane l Lane.timedOut

theorem State.expire_eq (s : State) (l i : Nat) (r : InFlight) : s.expire l i r
    = (if (s.expired l i r).params.timeoutLimit ≤ ((s.expired l i r).lane l).consecutive then (s.expired l i r).laneDown l .timeout
      else s.expired l i r).endFailure := rfl

/-- The lane of the expired record. -/
def Lane.expired (x : Lane) (i : Nat) : Lane :=
  { x with
    inflight := x.inflight.eraseIdx i, failed := x.failed + 1, timeouts := x.timeouts + 1, consecutive := min 15 (x.consecutive + 1) }

theorem State.expired_lane (s : State) (l i : Nat) (r : InFlight) (j : Nat) :
    (s.expired l i r).lane j = if j = l then (s.lane l).expired i else s.lane j := by
  have hexpiring : ∀ j, (s.expiring l i r).lane j = if j = l then { s.lane l with inflight := (s.lane l).inflight.eraseIdx i } else s.lane j :=
    fun j => State.lane_updLane { s with now := max s.now r.expiry } l _ j
  rw [State.expired, State.lane_updLane, State.recordFailed_lane, State.recordFailed_lane, hexpiring, hexpiring, if_pos rfl, if_pos rfl]
  by_cases hj : j = l
  · rw [if_pos hj, if_pos hj]
    rfl
  · rw [if_neg hj, if_neg hj, if_neg hj, if_neg hj]

theorem State.expired_slot (s : State) (l i : Nat) (r : InFlight) (k : Nat) : (s.expired l i r).slot k
    = if r.kind = .normal ∧ k ∈ r.slots then { s.slot k with state := .staged } else s.slot k :=
  State.recordFailed_slot (s := s.expiring l i r) (l := l) (why := .timeout) (r := r) k

theorem State.expired_returns (s : State) (l i : Nat) (r : InFlight) :
    (s.expired l i r).returns = ((s.expiring l i r).recordFailed l .timeout r).returns := rfl

theorem State.expired_dump (s : State) (l i : Nat) (r : InFlight) :
    (s.expired l i r).dump = ((s.expiring l i r).recordFailed l .timeout r).dump := rfl

theorem State.expired_rest (s : State) (l i : Nat) (r : InFlight) : (s.expired l i r).part = s.part ∧ (s.expired l i r).params = s.params
    ∧ (s.expired l i r).due = s.due ∧ (s.expired l i r).now = max s.now r.expiry ∧ (s.expired l i r).steady = s.steady := by
  have hframe := (s.expiring l i r).recordFailed_frame l .timeout r
  exact ⟨(agree (π := State.part) hframe :), (agree (π := State.params) hframe :), (agree (π := State.due) hframe :),
    (agree (π := State.now) hframe :), (agree (π := State.steady) hframe :)⟩

theorem State.expired_keeps {P : State → Prop} (hclosed : Closed P) (h : P s) : P (s.expired l i r) :=
  hclosed.lane _ _ (hclosed.recordFailed l .timeout r (hclosed.lane _ _ (hclosed.other h rfl)))

theorem State.Ledger.expired_failed (hs : s.Ledger) (hr : (s.lane l).inflight[i]? = some r) :
    s.Failed (s.expired l i r) l 0 [(.timeout, r)] ((s.lane l).inflight.eraseIdx i) :=
  (hs.failed_one (v := s.expiring l i r) hr rfl rfl rfl rfl rfl).congr rfl rfl rfl rfl rfl

theorem exec_expiry {lane : Fin 8} (hlive : s.live = true) (hr : (s.lane lane.val).inflight[i]? = some r) :
    exec (.expiry lane i) s = .next (s.expire lane.val i r) := by
  refine exec_eq_next_iff.2 ?_
  show s.expireRecord lane.val i = _
  rw [State.expireRecord, hr]
  exact if_pos hlive

theorem State.expire_below (hbelow : (s.lane l).consecutive + 1 < s.params.timeoutLimit) (hlimit : s.params.timeoutLimit ≤ 15) :
    s.expire l i r = (s.expired l i r).endFailure := by
  have hconsecutive : ((s.expired l i r).lane l).consecutive = min 15 ((s.lane l).consecutive + 1) := by
    rw [State.expired_lane, if_pos rfl]
    rfl
  rw [State.expire_eq, hconsecutive, (s.expired_rest l i r).2.1, if_neg (by omega)]

theorem State.expire_at (hat : s.params.timeoutLimit ≤ (s.lane l).consecutive + 1) (hlimit : s.params.timeoutLimit ≤ 15) :
    s.expire l i r = ((s.expired l i r).laneDown l .timeout).endFailure := by
  have hconsecutive : ((s.expired l i r).lane l).consecutive = min 15 ((s.lane l).consecutive + 1) := by
    rw [State.expired_lane, if_pos rfl]
    rfl
  rw [State.expire_eq, hconsecutive, (s.expired_rest l i r).2.1, if_pos (by omega)]

/-- The lane down that an expiry at the limit makes. -/
theorem State.Ledger.expired_losesLane (hs : s.Ledger) (hr : (s.lane l).inflight[i]? = some r) : s.LosesLane (s.expired l i r) l [(.timeout, r)] where
  ledger := hs
  failed := by
    rw [State.expired_lane, if_pos rfl]
    exact hs.expired_failed hr
  cover := by
    rw [State.expired_lane, if_pos rfl]
    exact eraseIdx_perm hr
  canonical := State.expired_keeps closed_canonical ((State.canonical_iff s).1 hs.canonical)
  part := (s.expired_rest l i r).1
  params := (s.expired_rest l i r).2.1
  due := (s.expired_rest l i r).2.2.1
  others j hj := by rw [State.expired_lane, if_neg hj]
  grants := by
    rw [State.expired_lane, if_pos rfl]
    exact ⟨rfl, rfl⟩

/-- The lane of an expiry at the limit, at the end of the event. -/
theorem State.expire_at_lane (hcanon : s.part = .dumping → Store.canon {} s.lanes = true) :
    ((s.expired l i r).laneDown l .timeout).endFailure.lane l = ((s.lane l).expired i).lost := by
  have hlane := (s.expired l i r).laneDown_lane l .timeout
  rw [State.expired_lane, if_pos rfl] at hlane
  refine State.endFailure_lane_of_lost (fun hdumping => ?_) hlane
  have hpart : ((s.expired l i r).laneDown l .timeout).part = s.part := ((s.expired l i r).laneDown_rest l .timeout).1.trans (s.expired_rest l i r).1
  exact sorted_of_canon (closed_lanesCanon.laneDown l .timeout (State.expired_keeps closed_lanesCanon (hcanon (hpart ▸ hdumping))))

/-- The failed counter after the loss of every record. -/
theorem Lane.expired_lost_failed {x : Lane} (hr : x.inflight[i]? = some r) :
    (x.expired i).lost.failed = x.failed + BitVec.ofNat 32 x.inflight.length := by
  have hcount : x.failed + 1 + BitVec.ofNat 32 (x.inflight.eraseIdx i).length = x.failed + BitVec.ofNat 32 x.inflight.length := by
    rw [← length_eraseIdx_of_getElem? hr, Nat.add_comm _ 1, BitVec.ofNat_add, BitVec.add_assoc]
    rfl
  exact hcount

theorem Lane.expired_lost_length {x : Lane} (hr : x.inflight[i]? = some r) : (x.expired i).inflight.length = x.inflight.length - 1 :=
  Nat.eq_sub_of_add_eq (length_eraseIdx_of_getElem? hr)

end

/-- Settles O40: the record fails, the counters rise, and at the limit a lane down follows. -/
theorem expiryFailsAsTimeout : Obligations.ExpiryFailsAsTimeout := by
  unfold Obligations.ExpiryFailsAsTimeout
  refine ⟨fun s lane l i r hl hlive hr hnormal hcanon hlimit => ?either, fun s lane l i r hl hlive hr hs hat hlimit => ?atLimit⟩
  case either =>
    have hexec := exec_expiry hlive (hl ▸ hr)
    rw [← hl] at hexec
    obtain ⟨hpart, hparams, hdue, hnow, hsteady⟩ := s.expired_rest l i r
    obtain ⟨closed, hreturns, hclosed⟩ : ∃ closed, (s.expired l i r).returns = s.returns ++ r.failedParcel l .timeout :: closed
        ∧ ∀ p ∈ closed, ∃ j g, p = .segmentClosed j g := by
      rw [State.expired_returns, State.recordFailed, hnormal]
      exact (s.expiring l i r).normalFailed_returns l .timeout r
    have hdump : (s.expired l i r).dump = s.dump := ((s.expiring l i r).recordFailed_dumpEngine l .timeout r).2 hnormal
    have hslot : ∀ k ∈ r.slots, (s.expired l i r).slot k = { s.slot k with state := .staged } := fun k hk => by
      rw [State.expired_slot, if_pos ⟨hnormal, hk⟩]
    have hlane := s.expired_lane l i r l
    rw [if_pos rfl] at hlane
    by_cases hat : s.params.timeoutLimit ≤ (s.lane l).consecutive + 1
    · rw [State.expire_at hat hlimit] at hexec
      have hdown := State.expire_at_lane (l := l) (i := i) (r := r) hcanon
      have hfailed := Lane.expired_lost_failed hr
      obtain ⟨hslots, -, -, hgiven⟩ := (s.expired l i r).laneDown_tables l .timeout
      obtain ⟨before, hbefore, -⟩ := (s.expired l i r).laneBroken_returns l
      obtain ⟨after, hafter, -⟩ := ((s.expired l i r).laneDown l .timeout).endFailure_returns
      have htsteady := ((s.expired l i r).laneDown l .timeout).endFailure_steady.trans (((s.expired l i r).laneDown_steady l .timeout).trans hsteady)
      refine ⟨_, closed ++ (before ++ ((s.expired l i r).grantParcels l ++ .laneDown l .timeout ((s.lane l).inflight.length - 1) :: after)), hexec,
        ?_, ?_, ?_, ?_, fun k hk => ?_, ?_, (agree (π := State.staging) htsteady :), (agree (π := State.index) htsteady :),
        (agree (π := State.tenants) htsteady :), (agree (π := State.credits) htsteady :), (agree (π := State.sequence) htsteady :),
        (agree (π := State.durables) htsteady :), (agree (π := State.flushes) htsteady :), (agree (π := State.ranges) htsteady :),
        (agree (π := State.params) htsteady :), fun hrun hall => ?_, fun _ hbelow => absurd hat (Nat.not_le_of_lt hbelow)⟩
      · rw [(agree (π := State.now) (State.endFailure_frame _) :), (agree (π := State.now) (State.laneDown_frame _ _ _) :)]
        exact hnow
      · rw [hafter, hgiven, hbefore, hreturns, hlane, Lane.expired_lost_length hr]
        simp only [List.append_assoc, List.cons_append, List.nil_append]
        rfl
      · rw [hdown]
        rfl
      · rw [hdown]
        rfl
      · rw [State.endFailure_slot, hslots, State.laneBroken_slot, hslot k hk]
        split <;> rfl
      · rw [if_pos hat, hdown]
        refine ⟨rfl, rfl, rfl, rfl, hfailed, ?_⟩
        simp
      · have hrun' : (s.expired l i r).part = .run := hpart.trans hrun
        obtain ⟨htpart, htdump⟩ := State.endFailure_of_run (((s.expired l i r).laneDown_rest l .timeout).1.trans hrun')
        refine ⟨htpart, htdump.trans ((State.laneDown_of_run hrun').trans (((s.expired l i r).laneBroken_dump l).2 (fun q hq => ?_) |>.trans hdump))⟩
        rw [hlane] at hq
        exact hall q (List.mem_of_mem_eraseIdx hq)
    · rw [State.expire_below (Nat.lt_of_not_le hat) hlimit] at hexec
      have hsorted : (s.expired l i r).part = .dumping → Store.sorted (s.expired l i r).lanes = true := fun h =>
        sorted_of_canon (State.expired_keeps closed_lanesCanon (hcanon (hpart ▸ h)))
      obtain ⟨hinflight, hconsecutive, hfailed, -, hup, htimeouts⟩ := State.endFailure_lane_kept hsorted l
      obtain ⟨rest, after, htreturns, hrest, -, hafter, hnone⟩ := State.endFailure_one hreturns hclosed
      have htsteady := (s.expired l i r).endFailure_steady.trans hsteady
      rw [hlane] at hinflight hconsecutive hfailed hup htimeouts
      refine ⟨_, rest, hexec, (agree (π := State.now) (State.endFailure_frame _) :).trans hnow, htreturns, htimeouts, hconsecutive, fun k hk => ?_, ?_,
        (agree (π := State.staging) htsteady :), (agree (π := State.index) htsteady :),
        (agree (π := State.tenants) htsteady :), (agree (π := State.credits) htsteady :), (agree (π := State.sequence) htsteady :),
        (agree (π := State.durables) htsteady :), (agree (π := State.flushes) htsteady :), (agree (π := State.ranges) htsteady :),
        (agree (π := State.params) htsteady :), fun hrun _ => ?_, fun hs _ => ⟨?_, fun hdumping => ?_, after, ?_, hafter, fun hdumping hempty => ?_⟩⟩
      · rw [State.endFailure_slot, hslot k hk]
      · rw [if_neg hat]
        exact ⟨hup, hinflight, hfailed⟩
      · obtain ⟨htpart, htdump⟩ := State.endFailure_of_run (hpart.trans hrun)
        exact ⟨htpart, htdump.trans hdump⟩
      · exact hs.unitFails (hs.expired_failed hr) hr (State.expired_keeps closed_canonical ((State.canonical_iff s).1 hs.canonical)) hpart hparams
      · have hsettled := State.endFailure_settled (hpart.trans hdumping) (hsorted (hpart.trans hdumping))
        have hend := (s.expired l i r).endFailure_dump
        rw [hdump] at hsettled hend
        exact ⟨hend, hsettled⟩
      · have hparcels := (hs.expired_failed hr).returns
        rw [hreturns, List.range_zero, List.filterMap_nil, List.append_nil] at hparcels
        rw [htreturns, hrest, ← List.append_cancel_left hparcels, List.append_assoc]
        rfl
      · exact hnone (hpart.trans hdumping) (hdue.trans hempty)
  case atLimit =>
    have hexec := exec_expiry hlive (hl ▸ hr)
    rw [← hl, State.expire_at hat hlimit] at hexec
    have hdown := State.expire_at_lane (l := l) (i := i) (r := r) fun _ => ((State.canonical_iff s).1 hs.canonical).lanes
    have hlost := (hs.expired_losesLane hr).laneLost (cause := .timeout)
    have hlane := s.expired_lane l i r l
    rw [if_pos rfl] at hlane
    rw [hlane, Lane.expired_lost_length hr] at hlost
    refine ⟨_, hexec, hlost, ?_, ?_, ?_, ?_, ?_, ?_, ?_, ?_⟩ <;> rw [hdown]
    · rfl
    · rfl
    · rfl
    · rfl
    · rfl
    · rfl
    · rfl
    · exact Lane.expired_lost_failed hr

end Sys2Proof.Machine
end

section
/-! LANEFLT (R130, R132), and the outcomes of DUMP records and lanes at expiries and lane downs (R160, R161). -/

namespace Sys2Proof.Machine

open Sys2Proof

section

variable {s : State} {l : Nat}

/-! ## The line -/

theorem bit_getLsbD (hl : l < 8) (j : Nat) : (BitVec.ofNat 8 (2 ^ l)).getLsbD j = (j == l) := by
  rw [BitVec.getLsbD_ofNat, Nat.testBit_two_pow]
  by_cases hj : j = l
  · subst hj
    simp [hl]
  · simp [hj, Ne.symm hj]

theorem State.setLaneflt_level (hl : l < 8) (level : Bool) (j : Nat) :
    (s.setLaneflt l level).lines.laneflt.getLsbD j = if j = l then level else s.lines.laneflt.getLsbD j := by
  have hbit := bit_getLsbD hl j
  cases level with
  | true =>
    show (s.lines.laneflt ||| BitVec.ofNat 8 (2 ^ l)).getLsbD j = _
    rw [BitVec.getLsbD_or, hbit]
    by_cases hj : j = l <;> simp [hj]
  | false =>
    show (s.lines.laneflt &&& ~~~BitVec.ofNat 8 (2 ^ l)).getLsbD j = _
    rw [BitVec.getLsbD_and, BitVec.getLsbD_not, hbit]
    by_cases hj : j = l
    · simp [hj]
    · by_cases hwide : j < 8
      · simp [hj, hwide]
      · simp [hj, hwide, BitVec.getLsbD_of_ge _ _ (Nat.le_of_not_lt hwide)]

theorem exec_laneflt {lane : Fin 8} {level : Bool} : exec (.laneflt lane level) s = .next (s.lanefltTo lane.val level) := rfl

theorem State.lanefltTo_down (hlive : s.live = true) (hup : (s.lane l).up = true) (hlevel : s.lines.laneflt.getLsbD l = false) :
    s.lanefltTo l true = ((s.setLaneflt l true).laneDown l .link).endFailure := by
  rw [State.lanefltTo]
  refine if_pos ?_
  rw [State.lanefltLevel, hlevel, hlive, hup]
  rfl

theorem State.lanefltTo_level {level : Bool} (h : level = false ∨ s.lines.laneflt.getLsbD l = true ∨ (s.lane l).up = false ∨ s.part = .dumped
    ∨ s.lines.reset = true) : s.lanefltTo l level = s.setLaneflt l level := by
  rw [State.lanefltTo]
  refine if_neg fun hcond => ?_
  simp only [Bool.and_eq_true, Bool.not_eq_true', State.lanefltLevel, State.live, bne_iff_ne, ne_eq] at hcond
  obtain ⟨⟨⟨hlevel, hlow⟩, hreset, hpart⟩, hup⟩ := hcond
  rcases h with h | h | h | h | h
  · rw [h] at hlevel
    cases hlevel
  · rw [h] at hlow
    cases hlow
  · rw [h] at hup
    cases hup
  · exact hpart h
  · rw [h] at hreset
    cases hreset

/-- The lane down that a LANEFLT makes. -/
theorem State.Ledger.laneflt_losesLane (hs : s.Ledger) : s.LosesLane (s.setLaneflt l true) l [] where
  ledger := hs
  failed := (hs.failed_none (s.lane l).inflight).congr rfl rfl rfl rfl rfl
  cover := List.Perm.refl _
  canonical := closed_canonical.other ((State.canonical_iff s).1 hs.canonical) rfl
  part := rfl
  params := rfl
  due := rfl
  others _ _ := rfl
  grants := ⟨rfl, rfl⟩

/-- The lane at the end of the event. -/
theorem State.laneflt_lane (hcanon : s.part = .dumping → Store.canon {} s.lanes = true) :
    ((s.setLaneflt l true).laneDown l .link).endFailure.lane l = (s.lane l).lost := by
  refine State.endFailure_lane_of_lost (fun hdumping => ?_) ((s.setLaneflt l true).laneDown_lane l .link)
  have hpart := ((s.setLaneflt l true).laneDown_rest l .link).1
  exact sorted_of_canon (closed_lanesCanon.laneDown l .link (closed_lanesCanon.other (hcanon (hpart ▸ hdumping)) rfl))

end

/-- Settles O41: the records fail in issue order, the segments break, the grants leave, and then the event ends as any failure. -/
theorem lanefltTakesLaneDownOrSetsLevel : Obligations.LanefltTakesLaneDownOrSetsLevel := by
  unfold Obligations.LanefltTakesLaneDownOrSetsLevel
  refine ⟨fun s lane l hl hlive hup hlevel hcanon => ?down, fun s lane level h => ?level⟩
  case level =>
    refine ⟨s.setLaneflt lane.val level, ?_, fun j => State.setLaneflt_level lane.isLt level j, rfl, rfl, rfl⟩
    rw [exec_laneflt, State.lanefltTo_level h]
  case down =>
    have hexec : exec (.laneflt lane true) s = .next (((s.setLaneflt l true).laneDown l .link).endFailure) := by
      rw [exec_laneflt, ← hl, State.lanefltTo_down hlive hup hlevel]
    have hlane := State.laneflt_lane (l := l) hcanon
    have hlines := fun j => State.setLaneflt_level (s := s) (hl ▸ lane.isLt) true j
    have hlost := fun hs : s.Ledger => hs.laneflt_losesLane (l := l).laneLost (cause := .link)
    have hwslot : ∀ k, (s.setLaneflt l true).slot k = s.slot k := fun _ => rfl
    have hwlane : (s.setLaneflt l true).lane l = s.lane l := rfl
    have hwgrants : (s.setLaneflt l true).grantParcels l = s.grantParcels l := rfl
    have hwreturns : (s.setLaneflt l true).returns = s.returns := rfl
    have hwpart : (s.setLaneflt l true).part = s.part := rfl
    have hwdump : (s.setLaneflt l true).dump = s.dump := rfl
    have hwsteady : (s.setLaneflt l true).steady = s.steady := rfl
    generalize s.setLaneflt l true = w at *
    obtain ⟨hslots, -, -, hgiven⟩ := w.laneDown_tables l .link
    obtain ⟨before, hbefore, hfailed⟩ := w.laneBroken_returns l
    obtain ⟨after, hafter, hnotices, -⟩ := (w.laneDown l .link).endFailure_returns
    have hsteady := (w.laneDown l .link).endFailure_steady.trans ((w.laneDown_steady l .link).trans hwsteady)
    have hlines' : (w.laneDown l .link).endFailure.lines = w.lines :=
      (agree (π := State.lines) (State.endFailure_frame _) :).trans (agree (π := State.lines) (w.laneDown_frame l .link) :)
    refine ⟨_, before, after, hexec, fun j => ?_, hlane, ?_, hfailed, hnotices, fun k => ?_, (agree (π := State.staging) hsteady :),
      (agree (π := State.index) hsteady :), (agree (π := State.tenants) hsteady :), (agree (π := State.credits) hsteady :),
      (agree (π := State.durables) hsteady :), (agree (π := State.flushes) hsteady :), (agree (π := State.ranges) hsteady :),
      (agree (π := State.sequence) hsteady :), (agree (π := State.params) hsteady :), fun hrun hall => ?_, fun hs => ?_⟩
    · rw [hlines', hlines]
      by_cases hj : j = l <;> simp [hj]
    · rw [hafter, hgiven, hbefore, hwreturns, hwgrants, hwlane]
      simp only [List.append_assoc, List.cons_append, List.nil_append]
      rfl
    · rw [State.endFailure_slot, hslots, State.laneBroken_slot, hwslot, hwlane]
      by_cases hstaged : (s.lane l).inflight.any (fun r => r.kind == .normal && r.slots.contains k) = true
      · obtain ⟨q, hq, hk⟩ := List.any_eq_true.1 hstaged
        simp only [Bool.and_eq_true, beq_iff_eq, List.contains_iff_mem] at hk
        rw [if_pos hstaged]
        exact ⟨fun h => (nomatch h), fun h => absurd hk.2 (h.2 q hq hk.1)⟩
      · rw [if_neg hstaged]
        refine ⟨fun h => ⟨h, fun q hq hkind hk => hstaged (List.any_eq_true.2 ⟨q, hq, by simp [hkind, hk]⟩)⟩, fun h => h.1⟩
    · have hrun' : w.part = .run := hwpart.trans hrun
      obtain ⟨htpart, htdump⟩ := State.endFailure_of_run ((w.laneDown_rest l .link).1.trans hrun')
      exact ⟨htpart, htdump.trans ((State.laneDown_of_run hrun').trans (((w.laneBroken_dump l).2 (hwlane ▸ hall)).trans hwdump))⟩
    · have h := hlost hs
      rw [hwlane] at h
      exact h

/-! ## DUMP records and lanes lost in DUMPING -/

section

variable {s w : State} {l : Nat} {cause : DownCause} {fails : List (FailReason × InFlight)}

/-- In DUMPING a lane down starves no stream and opens no segment. -/
theorem State.laneDown_quiet (hdumping : s.part = .dumping) (hdue : s.due = []) :
    (s.laneDown l cause).endFailure.starved = s.starved ∧ (s.laneDown l cause).endFailure.nextSegment = s.nextSegment := by
  obtain ⟨hpart, -, hdue'⟩ := s.laneDown_rest l cause
  have hframe := s.laneDown_frame l cause
  rw [State.endFailure_dumping (hpart.trans hdumping) (hdue'.trans hdue)]
  have hcheck := (s.laneDown l cause).durablePads.dumpCheck_frame
  have hpads := (s.laneDown l cause).durablePads_frame
  exact ⟨(agree (π := State.starved) hcheck :).trans ((agree (π := State.starved) hpads :).trans (agree (π := State.starved) hframe :)),
    (agree (π := State.nextSegment) hcheck :).trans ((agree (π := State.nextSegment) hpads :).trans (agree (π := State.nextSegment) hframe :))⟩

/-- The expiry of a DUMP record (R160). -/
theorem State.expired_dumpRecord {i : Nat} {r : InFlight} (hkind : r.kind = .dump) : (s.expired l i r).dump = { s.dump with redo := s.redoAfter r }
    ∧ (s.expired l i r).returns = s.returns ∧ (s.expired l i r).slots = s.slots := by
  have hredo : ((s.expiring l i r).updLane l fun x => { x with failed := x.failed + 1 }).redoAfter r = s.redoAfter r := State.redoAfter_congr rfl rfl
  have hfailed : (s.expiring l i r).recordFailed l .timeout r = ((s.expiring l i r).updLane l fun x => { x with failed := x.failed + 1 }).withDump
      { s.dump with redo := s.redoAfter r } := by
    rw [State.recordFailed_dump hkind, State.dumpFailed_eq, hredo]
    rfl
  unfold State.expired
  rw [hfailed]
  exact ⟨rfl, rfl, rfl⟩

/-- The parcels of a lane down in DUMPING. -/
theorem State.laneLost.returns_dumping {t : State} {lost : Nat} (h : s.laneLost t l cause fails lost) (hdumping : s.part = .dumping) (hdue : s.due = []) :
    t.returns = s.returns ++ s.failureParcels l [] fails ++ s.brokenParcels l ++ s.grantParcels l ++ [.laneDown l cause lost] := by
  obtain ⟨-, after, hreturns, -, hnone⟩ := h
  rw [hreturns, hnone hdumping hdue]

end

/-- Settles O46: a DUMP record's expiry, and a lane down by LANEFLT and by an expiry at the limit. -/
theorem dumpExpiryAndLaneDown : Obligations.DumpExpiryAndLaneDown := by
  unfold Obligations.DumpExpiryAndLaneDown
  refine ⟨fun s lane l i r hl hlive hdumping hdue hr hkind hcanon hbelow hlimit => ?expiry,
    fun s lane l hl hlive hdumping hdue hs hup hlevel => ?laneflt, fun s lane l i r hl hlive hdumping hdue hs hr hat hlimit => ?limit⟩
  case expiry =>
    have hexec := exec_expiry hlive (hl ▸ hr)
    rw [← hl, State.expire_below hbelow hlimit] at hexec
    obtain ⟨hpart, hparams, hdue', hnow, hsteady⟩ := s.expired_rest l i r
    obtain ⟨hdump, hreturns, hslots⟩ := State.expired_dumpRecord (s := s) (l := l) (i := i) hkind
    have hlane := s.expired_lane l i r l
    rw [if_pos rfl] at hlane
    have hsorted : Store.sorted (s.expired l i r).lanes = true := sorted_of_canon (State.expired_keeps closed_lanesCanon hcanon)
    obtain ⟨hinflight, hconsecutive, hfailed, hdone, hup, htimeouts⟩ := State.endFailure_lane_kept (u := s.expired l i r) (fun _ => hsorted) l
    rw [hlane] at hinflight hconsecutive hfailed hdone hup htimeouts
    obtain ⟨after, hafter, -, hnone⟩ := (s.expired l i r).endFailure_returns
    rw [hnone (hpart.trans hdumping) (hdue'.trans hdue), List.append_nil, hreturns] at hafter
    have hsettled := State.endFailure_settled (hpart.trans hdumping) hsorted
    have hend := (s.expired l i r).endFailure_dump
    rw [hdump] at hsettled hend
    have hredo : (s.expired l i r).endFailure.dump.redo = s.redoAfter r := congrArg Dump.redo hend
    refine ⟨_, hexec, (agree (π := State.now) (State.endFailure_frame _) :).trans hnow, hafter,
      (agree (π := State.slots) (State.endFailure_frame _) :).trans hslots, hinflight, hfailed, htimeouts, hconsecutive.trans ?_, hup, hdone,
      fun htrailer => ?_, fun htrailer => ?_, (congrArg Dump.taken hend :), (congrArg Dump.remaining hend :), (congrArg Dump.cursor hend :),
      (congrArg Dump.sectors hend :), (congrArg Dump.units hend :), hsettled⟩
    · exact Nat.min_eq_right (by omega)
    · rw [hredo]
      exact State.redoAfter_data htrailer
    · rw [hredo]
      exact State.redoAfter_trailer htrailer
  case laneflt =>
    have hcanon := ((State.canonical_iff s).1 hs.canonical).lanes
    have hexec : exec (.laneflt lane true) s = .next (((s.setLaneflt l true).laneDown l .link).endFailure) := by
      rw [exec_laneflt, ← hl, State.lanefltTo_down hlive hup hlevel]
    have hlane := State.laneflt_lane (s := s) (l := l) fun _ => hcanon
    have hloses := hs.laneflt_losesLane (l := l)
    have hreturns := (hloses.laneLost (cause := .link)).returns_dumping hdumping hdue
    obtain ⟨hstarved, hnext⟩ := State.laneDown_quiet (s := s.setLaneflt l true) (l := l) (cause := .link) hdumping hdue
    refine ⟨_, hexec, ?_, ?_, ?_, ?_, ?_, ?_, ?_, ?_, hreturns, hstarved, hnext, hloses.dumpLoses hdumping⟩ <;> rw [hlane] <;> rfl
  case limit =>
    have hcanon := ((State.canonical_iff s).1 hs.canonical).lanes
    have hexec := exec_expiry hlive (hl ▸ hr)
    rw [← hl, State.expire_at hat hlimit] at hexec
    obtain ⟨hpart, hparams, hdue', hnow, -⟩ := s.expired_rest l i r
    have hlane := State.expire_at_lane (l := l) (i := i) (r := r) fun _ => hcanon
    have hloses := hs.expired_losesLane hr
    have hreturns := (hloses.laneLost (cause := .timeout)).returns_dumping hdumping hdue
    obtain ⟨hstarved, hnext⟩ := State.laneDown_quiet (s := s.expired l i r) (l := l) (cause := .timeout) (hpart.trans hdumping) (hdue'.trans hdue)
    have hframe := (s.expiring l i r).recordFailed_frame l .timeout r
    have hlist : (s.expired l i r).starved = s.starved := (agree (π := State.starved) hframe :)
    have hcounter : (s.expired l i r).nextSegment = s.nextSegment := (agree (π := State.nextSegment) hframe :)
    have hlost := s.expired_lane l i r l
    rw [if_pos rfl] at hlost
    rw [hlost, Lane.expired_lost_length hr] at hreturns
    refine ⟨_, hexec, ?_, ?_, ?_, ?_, ?_, ?_, ?_, hreturns, hstarved.trans hlist, hnext.trans hcounter, hloses.dumpLoses hdumping⟩
    · rw [(agree (π := State.now) (State.endFailure_frame _) :), (agree (π := State.now) (State.laneDown_frame _ _ _) :)]
      exact hnow
    · rw [hlane]
      rfl
    · rw [hlane]
      rfl
    · rw [hlane]
      rfl
    · rw [hlane]
      rfl
    · rw [hlane]
      rfl
    · rw [hlane]
      exact Lane.expired_lost_failed hr

end Sys2Proof.Machine
end

section
/-! The law of the lanes through every command (R79, R80, R82, R98, R101). -/

namespace Sys2Proof.Machine

open Sys2Proof

/-! ## Single lanes -/

section

variable {x y : Lane} {r : InFlight}

/-- A lane whose grants, records, counters and limits are the old ones stays lawful. -/
theorem Lane.lawful_congr (h : x.lawful) (hup : y.up = x.up) (hwindow : y.window = x.window) (hinflight : y.inflight = x.inflight)
    (hpass : y.pass = x.pass) (hposition : y.position = x.position) (hconsecutive : y.consecutive = x.consecutive) (hnormal : y.normal = x.normal)
    (hdump : y.dump = x.dump) (hmark : y.poolLowMark = x.poolLowMark) (harmed : y.armed = x.armed) : y.lawful := by
  unfold Lane.lawful
  rw [hup, hwindow, hinflight, hpass, hposition, hconsecutive, hnormal, hdump, hmark, harmed]
  exact h

theorem Lane.lawful_drawn (h : x.lawful) (hdraws : x.Draws y) : y.lawful := by
  obtain ⟨hsuffix, hdrawn⟩ := hdraws
  obtain ⟨hwindow, hinflight, hpass, hposition, hconsecutive, hnormal, hdump, hcapacity, hmark, harmed, hdown⟩ := h
  have hshorter := hsuffix.length_le
  rw [hdrawn]
  refine ⟨hwindow, hinflight, hpass, hposition, hconsecutive, Nat.le_trans hshorter hnormal, hdump, fun g hg => hcapacity g ?_, hmark,
    fun h => ?_, fun h => ?_⟩
  · exact (List.mem_append.1 hg).elim (fun h => List.mem_append_left _ (hsuffix.subset h)) (List.mem_append_right _)
  · have harmed' : (x.armed && !decide (y.normal ≠ x.normal ∧ y.normal.length ≤ x.poolLowMark)) = true := h
    simp only [Bool.and_eq_true, Bool.not_eq_true', decide_eq_false_iff_not, not_and, Nat.not_le] at harmed'
    obtain ⟨hold, hkept⟩ := harmed'
    show x.poolLowMark < y.normal.length
    by_cases hsame : y.normal = x.normal
    · rw [hsame]
      exact harmed hold
    · exact hkept hsame
  · obtain ⟨hnone, hempty, hstore⟩ := hdown h
    refine ⟨hnone, ?_, hstore⟩
    rw [hempty] at hsuffix
    exact List.suffix_nil.1 hsuffix

theorem Lane.lawful_waiting (h : x.lawful) (waiting : List Waiting) : ({ x with waiting := waiting } : Lane).lawful :=
  Lane.lawful_congr h rfl rfl rfl rfl rfl rfl rfl rfl rfl rfl

/-- A record may leave, and the consecutive counter may take a value up to 15. -/
theorem Lane.lawful_erased (h : x.lawful) (i : Nat) {n : Nat} (hn : n ≤ 15) :
    ({ x with inflight := x.inflight.eraseIdx i, consecutive := n } : Lane).lawful := by
  obtain ⟨hwindow, hinflight, hpass, hposition, -, hnormal, hdump, hcapacity, hmark, harmed, hdown⟩ := h
  refine ⟨hwindow, Nat.le_trans (List.length_eraseIdx_le ..) hinflight, hpass, hposition, hn, hnormal, hdump, hcapacity, hmark, harmed, fun hup => ?_⟩
  obtain ⟨hnone, hgrants⟩ := hdown hup
  refine ⟨?_, hgrants⟩
  show x.inflight.eraseIdx i = []
  rw [hnone]
  rfl

theorem Lane.lawful_carrying (h : x.lawful) (hup : x.up = true) (hroom : x.inflight.length < x.window) : (x.carrying r).lawful := by
  obtain ⟨hwindow, hinflight, hpass, hposition, hconsecutive, hnormal, hdump, hcapacity, hmark, harmed, -⟩ := h
  refine ⟨hwindow, ?_, hpass, hposition, hconsecutive, hnormal, hdump, hcapacity, hmark, harmed, fun hdown => ?_⟩
  · show (x.inflight ++ [r]).length ≤ 32
    rw [List.length_append, List.length_singleton]
    omega
  · rw [show (x.carrying r).up = x.up from rfl, hup] at hdown
    cases hdown

/-- A dump grant may leave. -/
theorem Lane.lawful_dump (h : x.lawful) {dump : List Grant} (hsuffix : dump.IsSuffix x.dump) : ({ x with dump := dump } : Lane).lawful := by
  obtain ⟨hwindow, hinflight, hpass, hposition, hconsecutive, hnormal, hdump, hcapacity, hmark, harmed, hdown⟩ := h
  refine ⟨hwindow, hinflight, hpass, hposition, hconsecutive, hnormal, Nat.le_trans hsuffix.length_le hdump, fun g hg => hcapacity g ?_, hmark, harmed,
    fun hup => ?_⟩
  · exact (List.mem_append.1 hg).elim (List.mem_append_left _) fun h => List.mem_append_right _ (hsuffix.subset h)
  · obtain ⟨hnone, hempty, hstore⟩ := hdown hup
    rw [hstore] at hsuffix
    exact ⟨hnone, hempty, List.suffix_nil.1 hsuffix⟩

theorem Lane.lawful_lost (h : x.lawful) : x.lost.lawful := by
  obtain ⟨hwindow, -, hpass, hposition, hconsecutive, -, -, -, hmark, -, -⟩ := h
  exact ⟨hwindow, Nat.zero_le _, hpass, hposition, hconsecutive, Nat.zero_le _, Nat.zero_le _, fun g hg => absurd hg (List.not_mem_nil),
    hmark, fun harmed => Bool.noConfusion harmed, fun _ => ⟨rfl, rfl, rfl⟩⟩

theorem Lane.lawful_ungranted (h : x.lawful) : x.ungranted.lawful := by
  obtain ⟨hwindow, hinflight, hpass, hposition, hconsecutive, -, -, -, hmark, -, hdown⟩ := h
  exact ⟨hwindow, hinflight, hpass, hposition, hconsecutive, Nat.zero_le _, Nat.zero_le _, fun g hg => absurd hg (List.not_mem_nil),
    hmark, fun harmed => Bool.noConfusion harmed, fun hup => ⟨(hdown hup).1, rfl, rfl⟩⟩

theorem Grant.clamped_capacity (g : Grant) (h : g.capacity ≠ 0) : 1 ≤ g.clamped.capacity ∧ g.clamped.capacity ≤ 4096 := by
  unfold Grant.clamped
  dsimp only
  omega

end

/-! ## What a command does to every lane -/

/-- Every lane that is lawful stays so. -/
def State.lanesKeep (s t : State) : Prop := ∀ l, (s.lane l).lawful → (t.lane l).lawful

section

variable {s t u : State} {l i k : Nat} {r : InFlight}

theorem State.lanesKeep.refl (s : State) : s.lanesKeep s := fun _ h => h

theorem State.lanesKeep.trans (h : s.lanesKeep t) (h' : t.lanesKeep u) : s.lanesKeep u := fun l hl => h' l (h l hl)

theorem State.lanesKeep_of_lanes (h : t.lanes = s.lanes) : s.lanesKeep t := fun l hl => by
  rw [State.lane, h]
  exact hl

theorem State.lanesKeep_endRequests (s : State) : s.lanesKeep s.endRequests := fun l hl => Lane.lawful_drawn hl (s.endRequests_ends.lanes l)

theorem State.lanesKeep_updLane {f : Lane → Lane} (hf : ∀ x : Lane, x = s.lane l → x.lawful → (f x).lawful) : s.lanesKeep (s.updLane l f) := fun j hj => by
  rw [State.lane_updLane]
  split
  · rename_i h
    exact hf _ rfl (h ▸ hj)
  · exact hj

theorem State.lanesKeep_dumpCheck (hsorted : Store.sorted s.lanes = true) : s.lanesKeep s.dumpCheck := fun l hl => by
  rw [State.dumpCheck_lane hsorted]
  exact Lane.lawful_waiting hl _

theorem State.lanesKeep_endFailure (hsorted : Store.sorted s.lanes = true) : s.lanesKeep s.endFailure := fun l hl => by
  obtain ⟨y, hdraws, hlane, -⟩ := State.endFailure_lane (u := s) (fun _ => hsorted) l
  rw [hlane]
  exact Lane.lawful_waiting (Lane.lawful_drawn hl hdraws) _

theorem State.lanesKeep_takeGrant (s : State) (l : Nat) : s.lanesKeep (s.takeGrant l) := fun j hj => by
  rcases s.takeGrant_cases l with ⟨htake, -⟩ | ⟨i, g, rest, -, -, -, hdump, -, htake⟩ <;> rw [htake]
  · exact hj
  · rw [State.grantTaken_lane]
    split
    · rename_i h
      subst h
      exact Lane.lawful_dump hj (hdump ▸ List.suffix_cons g rest)
    · exact hj

theorem State.lanesKeep_recordFailed (s : State) (l : Nat) (why : FailReason) (r : InFlight) : s.lanesKeep (s.recordFailed l why r) := fun j hj => by
  rw [State.recordFailed_lane]
  split
  · rename_i h
    exact Lane.lawful_congr (h ▸ hj) rfl rfl rfl rfl rfl rfl rfl rfl rfl rfl
  · exact hj

theorem State.lanesKeep_laneDown (s : State) (l : Nat) (cause : DownCause) : s.lanesKeep (s.laneDown l cause) := fun j hj => by
  have hgiven : ((s.laneGivenUp l cause).lane j).lawful := by
    rw [State.laneGivenUp_lane]
    split
    · rename_i h
      exact Lane.lawful_lost (h ▸ hj)
    · exact hj
  rw [State.laneDown_eq]
  by_cases hpart : (s.laneGivenUp l cause).part = .dumping
  · rcases (s.laneGivenUp l cause).dumpLosesLane_cases l ((s.laneBroken l).lane l).dumpCapacity hpart with ⟨-, heq⟩ | ⟨-, heq⟩ <;> rw [heq]
    · rw [State.capacityLost_lane]
      exact hgiven
    · refine State.lanesKeep_takeGrant _ l j ?_
      rw [State.capacityLost_lane]
      exact hgiven
  · rw [State.dumpLosesLane, if_neg hpart]
    exact hgiven

theorem State.lanesKeep_expired (s : State) (l i : Nat) (r : InFlight) : s.lanesKeep (s.expired l i r) := fun j hj => by
  rw [State.expired_lane]
  split
  · rename_i h
    exact Lane.lawful_congr (Lane.lawful_erased (h ▸ hj) i (Nat.min_le_left 15 ((s.lane l).consecutive + 1))) rfl rfl rfl rfl rfl rfl rfl rfl rfl rfl
  · exact hj

theorem State.lanesKeep_expire (hcanon : s.lanesCanon) (l i : Nat) (r : InFlight) : s.lanesKeep (s.expire l i r) := by
  have hexpired := s.lanesKeep_expired l i r
  have hcanon' : (s.expired l i r).lanesCanon := State.expired_keeps closed_lanesCanon hcanon
  rw [State.expire_eq]
  split
  · exact (hexpired.trans (State.lanesKeep_laneDown _ l .timeout)).trans
      (State.lanesKeep_endFailure (sorted_of_canon (closed_lanesCanon.laneDown l .timeout hcanon')))
  · exact hexpired.trans (State.lanesKeep_endFailure (sorted_of_canon hcanon'))

theorem State.lanesKeep_answering (s : State) (l i : Nat) : s.lanesKeep (s.answering l i) := fun j hj => by
  rw [State.answering_lane]
  split
  · rename_i h
    exact Lane.lawful_waiting (Lane.lawful_erased (h ▸ hj) i (Nat.zero_le 15)) _
  · exact hj

/-- A DONE (R119, R120). -/
theorem State.lanesKeep_done (hcanon : s.lanesCanon) (l i : Nat) (r : InFlight) : s.lanesKeep ((s.answering l i).recordDone l r).dumpCheck := by
  have hsorted : Store.sorted ((s.answering l i).recordDone l r).lanes = true :=
    sorted_of_canon (closed_lanesCanon.recordDone l r (closed_lanesCanon.lane _ _ (closed_lanesCanon.lane _ _ hcanon)))
  refine State.lanesKeep.trans (fun j hj => ?_) (State.lanesKeep_dumpCheck hsorted)
  have hcounted : ((s.answeringWith l i fun x => { x with done := x.done + 1 }).lane j).lawful := by
    refine State.lanesKeep_updLane (fun x _ hx => ?_) j (State.lanesKeep_answering s l i j hj)
    exact Lane.lawful_congr hx rfl rfl rfl rfl rfl rfl rfl rfl rfl rfl
  cases hkind : r.kind with
  | normal =>
    obtain ⟨paid, closed, hready⟩ := s.doneReady l i r
    have hcredit : (((s.answering l i).unitDone l r).evalCredit.lane j) = ((s.answering l i).unitDone l r).lane j :=
      (agree (π := (State.lane · j)) (State.evalCredit_frame _) :)
    rw [State.recordDone, hkind]
    show (((s.answering l i).normalDone l r).lane j).lawful
    rw [State.normalDone_eq, hcredit]
    by_cases hl : j = l
    · subst hl
      rw [hready.lane]
      exact Lane.lawful_congr (Lane.lawful_erased hj i (Nat.zero_le 15)) rfl rfl rfl rfl rfl rfl rfl rfl rfl rfl
    · rw [hready.lanes j hl]
      exact hj
  | dump =>
    rw [State.recordDone_dump hkind]
    split
    · rw [State.trailerDone, State.enterDumped_lane (State.answeringWith_sorted _ hcanon)]
      exact Lane.lawful_waiting hcounted _
    · exact hcounted

/-- A FAIL (R119, R124). -/
theorem State.lanesKeep_fail (hcanon : s.lanesCanon) (l i : Nat) (why : FailReason) (r : InFlight) :
    s.lanesKeep ((s.answering l i).recordFailed l why r).endFailure :=
  ((State.lanesKeep_answering s l i).trans (State.lanesKeep_recordFailed _ l why r)).trans (State.lanesKeep_endFailure
    (sorted_of_canon (closed_lanesCanon.recordFailed l why r (closed_lanesCanon.lane _ _ (closed_lanesCanon.lane _ _ hcanon)))))

/-- A stray parcel (R118, R189). -/
theorem State.lanesKeep_stray (s : State) (l : Nat) : s.lanesKeep ((s.popWaiting l).strayAnswer l) := fun j hj => by
  have hstray := s.tookStray_lane l j
  rw [State.tookStray] at hstray
  rw [hstray]
  split
  · rename_i h
    exact Lane.lawful_congr (h ▸ hj) rfl rfl rfl rfl rfl rfl rfl rfl rfl rfl
  · exact hj

/-- What the taking of an ANSWER can do: nothing, a stray count, a DONE or a FAIL (R115 to R118). -/
theorem State.takeAnswer_cases (s : State) (l : Nat) : s.takeAnswer l = s ∨ s.live = true ∧ (s.takeAnswer l = s.tookStray l
    ∨ ∃ i r, (s.lane l).inflight[i]? = some r ∧ (s.takeAnswer l = ((s.answering l i).recordDone l r).dumpCheck
      ∨ ∃ why, s.takeAnswer l = ((s.answering l i).recordFailed l why r).endFailure)) := by
  cases htake : s.takeable l with
  | none => exact .inl (State.takeAnswer_of_none htake)
  | some w =>
    cases hanswer : isAnswer w.head with
    | false =>
      left
      rw [State.takeAnswer, htake]
      exact if_neg (by rw [hanswer]; decide)
    | true =>
      refine .inr ⟨live_of_takeable htake, ?_⟩
      have htaken := State.takeAnswer_of_takeable htake hanswer
      have hpopped : ((s.popWaiting l).lane l).inflight = (s.lane l).inflight := by
        rw [State.popWaiting, State.lane_updLane, if_pos rfl]
      by_cases hunknown : answerOutcome w.head = .unknown
      · rw [htaken, State.answerTaken_unknown hunknown]
        exact .inl rfl
      · cases hmatch : (s.lane l).matching w.head with
        | none =>
          rw [htaken, State.answerTaken_unmatched (by rw [Lane.matching, hpopped]; exact hmatch)]
          exact .inl rfl
        | some i =>
          have hi := (List.findIdx?_eq_some_iff_getElem.1 hmatch).1
          have hr : (s.lane l).inflight[i]? = some (s.lane l).inflight[i] := List.getElem?_eq_getElem hi
          have hresult := State.takeAnswer_matched htake hanswer rfl hunknown hmatch hr
          refine .inr ⟨i, _, hr, ?_⟩
          cases houtcome : answerOutcome w.head with
          | unknown => exact absurd houtcome hunknown
          | done =>
            rw [houtcome] at hresult
            exact .inl hresult
          | fail why =>
            rw [houtcome] at hresult
            exact .inr ⟨why, hresult⟩

end

end Sys2Proof.Machine
end

section
/-! O54: every command keeps the parameters in their ranges and the law of the lanes. -/

namespace Sys2Proof.Machine

open Sys2Proof

section

variable {s t : State} {a : Arriving} {l k : Nat}

/-! ## ISSUE -/

/-- What one ISSUE can do: nothing, or one or two units of the stream that the search finds, and the end of the event (R103 to R106). -/
theorem State.issueOn_cases (s : State) (l : Nat) : s.issueOn l = s ∨ ∃ p k id g n v, s.running = true ∧ (s.lane l).up = true
    ∧ (s.lane l).inflight.length + n ≤ (s.lane l).window ∧ s.search l = some (p, k) ∧ k < 256 ∧ (s.stream k).state = .opened
    ∧ 1 ≤ (s.stream k).ready ∧ s.openSegment (s.stream k) = some (id, g) ∧ g.lane = l ∧ (n = 1 ∨ n = 2)
    ∧ (n = 2 → 16 ≤ (s.stream k).queue.length ∧ g.issued + 2 ≤ g.capacity) ∧ (s.positioned l p k).UnitsIssued v l k id n g
    ∧ s.issueOn l = (v.afterUnits id n g).durablePads.endRequests := by
  by_cases hcond : (s.running && (s.lane l).up && (s.lane l).roomFor 1) = true
  · cases hsearch : s.search l with
    | none =>
      left
      rw [State.issueOn, if_pos hcond, hsearch]
    | some found =>
      obtain ⟨p, k⟩ := found
      simp only [Bool.and_eq_true, Lane.roomFor, decide_eq_true_eq] at hcond
      obtain ⟨⟨hrun, hup⟩, hroom⟩ := hcond
      obtain ⟨i, -, -, hfound, -⟩ := State.search_some hsearch
      obtain ⟨⟨hcandidate, hk⟩, -⟩ := State.mem_candidatesAt.1 (State.foundAt_some hfound).1
      obtain ⟨hstate, hready, id, g, hopen, hlane⟩ := (s.candidate_iff _ k).1 hcandidate
      have htwo := State.grantsTwo_iff (l := l) hopen
      have hgranted : s.granted l k = 1 ∧ ¬ s.grantsTwo l k = true ∨ s.granted l k = 2 ∧ s.grantsTwo l k = true := by
        unfold State.granted
        by_cases h : s.grantsTwo l k = true <;> simp [h]
      have hfits : (s.lane l).inflight.length + s.granted l k ≤ (s.lane l).window := by
        rcases hgranted with ⟨hone, -⟩ | ⟨htwo', hyes⟩
        · rw [hone]
          exact hroom
        · rw [htwo']
          exact (htwo.1 hyes).2.1
      have hfull : s.granted l k = 2 → 16 ≤ (s.stream k).queue.length ∧ g.issued + 2 ≤ g.capacity := fun h => by
        rcases hgranted with ⟨hone, -⟩ | ⟨-, hyes⟩
        · omega
        · obtain ⟨hready, -, hcapacity⟩ := htwo.1 hyes
          refine ⟨?_, hcapacity⟩
          unfold Stream.ready at hready
          split at hready <;> omega
      have hn : s.granted l k = 1 ∨ s.granted l k = 2 := hgranted.imp And.left And.left
      obtain ⟨v, hv, hunits⟩ := State.issueUnits_eq (s := s.positioned l p k) (l := l) hopen hn hfull
      refine .inr ⟨p, k, id, g, _, v, hrun, hup, hfits, rfl, hk, hstate, hready, hopen, hlane, hn, hfull, hv, ?_⟩
      rw [State.issueOn_of_found hrun hup hroom hsearch, hunits]
      rfl
  · left
    rw [State.issueOn, if_neg hcond]

theorem State.search_bounds {p : Nat} (hpass : (s.lane l).pass < 65536) (h : s.search l = some (p, k)) : p < 65536 ∧ k < 256 := by
  obtain ⟨i, -, hp, hfound, -⟩ := State.search_some h
  obtain ⟨⟨-, hk⟩, -⟩ := State.mem_candidatesAt.1 (State.foundAt_some hfound).1
  refine ⟨?_, hk⟩
  rw [hp, State.passAt]
  split
  · exact hpass
  · exact Nat.mod_lt _ (by decide)

/-- The lanes of an ISSUE before its requests. -/
theorem State.lanesKeep_units {v : State} {p id n : Nat} {g : Segment} (hv : (s.positioned l p k).UnitsIssued v l k id n g)
    (hup : (s.lane l).up = true) (hfits : (s.lane l).inflight.length + n ≤ (s.lane l).window) (hsearch : s.search l = some (p, k)) :
    s.lanesKeep (v.afterUnits id n g).durablePads := fun j hj => by
  have hpads : (v.afterUnits id n g).durablePads.lane j = v.lane j :=
    (agree (π := (State.lane · j)) (State.durablePads_frame _) :).trans (agree (π := (State.lane · j)) (State.afterUnits_frame (u := v)) :)
  rw [hpads]
  by_cases hl : j = l
  · subst hl
    obtain ⟨hwindow, hinflight, hpass, -, hconsecutive, hnormal, hdump, hcapacity, hmark, harmed, -⟩ := hj
    obtain ⟨hp, hk⟩ := State.search_bounds hpass hsearch
    rw [hv.lane, State.positioned_lane, if_pos rfl]
    refine ⟨hwindow, ?_, hp, Nat.le_of_lt_succ hk, hconsecutive, hnormal, hdump, hcapacity, hmark, harmed, fun hdown => ?_⟩
    · show ((s.lane j).inflight ++ _).length ≤ 32
      rw [List.length_append, List.length_map, List.length_range]
      omega
    · rw [show ({ (s.lane j) with pass := p, position := k } : Lane).up = (s.lane j).up from rfl, hup] at hdown
      cases hdown
  · rw [hv.lanes j hl, State.positioned_lane, if_neg hl]
    exact hj

theorem State.lanesKeep_issueOn (s : State) (l : Nat) : s.lanesKeep (s.issueOn l) := by
  rcases s.issueOn_cases l with heq | ⟨p, k, id, g, n, v, -, hup, hfits, hsearch, -, -, -, -, -, -, -, hv, heq⟩ <;> rw [heq]
  · exact .refl s
  · exact (State.lanesKeep_units hv hup hfits hsearch).trans (State.lanesKeep_endRequests _)

/-! ## Requests -/

theorem State.lanesKeep_take {want : Arriving → Bool} {act : State → Arriving → State} (hact : ∀ s a, want a = true → State.lanesKeep s (act s a))
    (s : State) : s.lanesKeep (s.take want act) := fun j hj => by
  rcases s.take_cases want act with h | ⟨a, -, -, -, h⟩ | ⟨a, -, hwant, h⟩ <;> rw [h]
  · exact hj
  · exact hj
  · exact hact _ a hwant j hj

theorem clampInto_bounds {r : Nat × Nat} (h : r.1 ≤ r.2) (v : Nat) : r.1 ≤ clampInto r v ∧ clampInto r v ≤ r.2 := by
  unfold clampInto
  omega

theorem State.setParam_cases (s : State) (a : Arriving) (act : State → State) : (∃ status, s.setParam a act = s.reply a status)
    ∨ ∃ p, a.param = some p ∧ s.setParam a act = act ((s.storeParam p a.paramLane (clampInto (paramRange p) a.paramValue)).reply a .ok
      (paramBody (a.arg 9) a.paramLane (clampInto (paramRange p) a.paramValue))) := by
  unfold State.setParam
  cases hchecked : a.checkedParam with
  | none => exact .inl ⟨_, rfl⟩
  | some p =>
    have hparam : a.param = some p := by
      unfold Arriving.checkedParam at hchecked
      cases hp : a.param with
      | none =>
        rw [hp] at hchecked
        cases hchecked
      | some q =>
        rw [hp] at hchecked
        dsimp only at hchecked
        split at hchecked
        · cases hchecked
        · exact hchecked
    dsimp only
    split
    · exact .inl ⟨_, rfl⟩
    · exact .inr ⟨p, hparam, rfl⟩

theorem State.lanesKeep_reply (s : State) (a : Arriving) (status : Status) (body : List Byte) : s.lanesKeep (s.reply a status body) :=
  State.lanesKeep_of_lanes rfl

theorem State.lanesKeep_storeParam {p : Param} (hp : p ≠ .poolLowMark) (l v : Nat) : s.lanesKeep (s.storeParam p l (clampInto (paramRange p) v)) := by
  cases p with
  | poolLowMark => exact absurd rfl hp
  | issueWindow =>
    refine State.lanesKeep_updLane (f := fun x => { x with window := clampInto (paramRange .issueWindow) v }) fun x _ hx => ?_
    obtain ⟨-, hinflight, hrest⟩ := hx
    exact ⟨clampInto_bounds (r := paramRange .issueWindow) (by decide) v, hinflight, hrest⟩
  | _ => exact State.lanesKeep_of_lanes rfl

theorem State.lanesKeep_setParam {act : State → State} (hact : ∀ u : State, u.lanesKeep (act u)) (hp : a.param ≠ some .poolLowMark) :
    s.lanesKeep (s.setParam a act) := by
  rcases s.setParam_cases a act with ⟨status, heq⟩ | ⟨p, hparam, heq⟩ <;> rw [heq]
  · exact State.lanesKeep_of_lanes rfl
  · have hstored := State.lanesKeep_storeParam (s := s) (fun h => hp (h ▸ hparam)) a.paramLane a.paramValue
    exact (hstored.trans (State.lanesKeep_reply _ _ _ _)).trans (hact _)

theorem State.lane_rearm (s : State) (l j : Nat) : (State.rearm l s).lane j
    = if j = l then { s.lane l with armed := decide ((s.lane l).poolLowMark < (s.lane l).normal.length) } else s.lane j := s.lane_setLane l _ j

theorem State.lane_reply (s : State) (a : Arriving) (status : Status) (body : List Byte) (j : Nat) : (s.reply a status body).lane j = s.lane j := rfl

theorem State.lane_storeMark (s : State) (l v j : Nat) :
    (s.storeParam .poolLowMark l v).lane j = if j = l then { s.lane l with poolLowMark := v } else s.lane j := s.lane_setLane l _ j

theorem State.lanesKeep_setPoolLowMark (hp : a.param = some .poolLowMark) : s.lanesKeep (s.setParam a (State.rearm a.paramLane)) := by
  rcases s.setParam_cases a (State.rearm a.paramLane) with ⟨status, heq⟩ | ⟨p, hparam, heq⟩ <;> rw [heq]
  · exact s.lanesKeep_reply a status []
  · rw [hp] at hparam
    cases hparam
    intro j hj
    rw [State.lane_rearm, State.lane_reply, State.lane_reply, State.lane_storeMark, State.lane_storeMark, if_pos rfl]
    split
    · rename_i h
      subst h
      obtain ⟨hwindow, hinflight, hpass, hposition, hconsecutive, hnormal, hdump, hcapacity, -, -, hdown⟩ := hj
      exact ⟨hwindow, hinflight, hpass, hposition, hconsecutive, hnormal, hdump, hcapacity,
        (clampInto_bounds (r := paramRange .poolLowMark) (by decide) _).2, fun h => of_decide_eq_true h, hdown⟩
    · exact hj

theorem State.lanesKeep_restartLane (s : State) (a : Arriving) : s.lanesKeep (s.restartLane a) := by
  unfold State.restartLane
  dsimp only
  split
  · exact State.lanesKeep_of_lanes rfl
  · split
    · exact State.lanesKeep_of_lanes rfl
    · split
      · exact State.lanesKeep_of_lanes rfl
      · refine State.lanesKeep.trans (State.lanesKeep_updLane fun x _ hx => ?_) (State.lanesKeep_reply _ _ _ _)
        obtain ⟨hwindow, hinflight, -, -, -, hnormal, hdump, hcapacity, hmark, harmed, -⟩ := hx
        exact ⟨hwindow, hinflight, (by decide : (0 : Nat) < 65536), (by decide : (255 : Nat) ≤ 255), (by decide : (0 : Nat) ≤ 15),
          hnormal, hdump, hcapacity, hmark, harmed, fun h => Bool.noConfusion h⟩

theorem Lane.lawful_grantedBy {x : Lane} (hx : x.lawful) (hup : x.up = true) (hgood : ¬ a.grantsBad = true)
    (hfits : ¬ x.grantsFull a.grantKind a.entryCount = true) : (x.grantedBy a).lawful := by
  obtain ⟨hwindow, hinflight, hpass, hposition, hconsecutive, hnormal, hdump, hcapacity, hmark, harmed, hdown⟩ := hx
  rw [a.grantsBad_iff] at hgood
  obtain ⟨-, hkind, -, -, hzero⟩ := by simpa only [not_or] using hgood
  rw [Lane.grantsFull_iff x (by omega)] at hfits
  have hnew : ∀ g ∈ a.grants.map Grant.clamped, 1 ≤ g.capacity ∧ g.capacity ≤ 4096 := fun g hg => by
    obtain ⟨q, hq, rfl⟩ := List.mem_map.1 hg
    refine q.clamped_capacity fun hnone => hzero ?_
    obtain ⟨i, hi, rfl⟩ := List.mem_map.1 hq
    exact ⟨i, List.mem_range.1 hi, hnone⟩
  by_cases hk : a.grantKind = 0
  · rw [Lane.grantedBy_normal hk]
    refine ⟨hwindow, hinflight, hpass, hposition, hconsecutive, ?_, hdump, fun g hg => ?_, hmark, fun h => ?_, fun h => ?_⟩
    · show (x.normal ++ a.grants.map Grant.clamped).length ≤ 32
      rw [List.length_append, a.length_grants]
      omega
    · have hg' : g ∈ (x.normal ++ a.grants.map Grant.clamped) ++ x.dump := hg
      simp only [List.mem_append] at hg'
      rcases hg' with (hg' | hg') | hg'
      · exact hcapacity g (List.mem_append_left _ hg')
      · exact hnew g hg'
      · exact hcapacity g (List.mem_append_right _ hg')
    · have h' : (x.armed || decide (x.poolLowMark < (x.normal ++ a.grants.map Grant.clamped).length)) = true := h
      show x.poolLowMark < (x.normal ++ a.grants.map Grant.clamped).length
      rcases Bool.or_eq_true _ _ ▸ h' with h' | h'
      · have hold := harmed h'
        rw [List.length_append]
        omega
      · exact of_decide_eq_true h'
    · rw [show ({ x with normal := x.normal ++ a.grants.map Grant.clamped, armed := _ } : Lane).up = x.up from rfl, hup] at h
      cases h
  · rw [Lane.grantedBy_dump hk]
    refine ⟨hwindow, hinflight, hpass, hposition, hconsecutive, hnormal, ?_, fun g hg => ?_, hmark, harmed, fun h => ?_⟩
    · show (x.dump ++ a.grants.map Grant.clamped).length ≤ 4
      rw [List.length_append, a.length_grants]
      omega
    · have hg' : g ∈ x.normal ++ (x.dump ++ a.grants.map Grant.clamped) := hg
      simp only [List.mem_append] at hg'
      rcases hg' with hg' | hg' | hg'
      · exact hcapacity g (List.mem_append_left _ hg')
      · exact hcapacity g (List.mem_append_right _ hg')
      · exact hnew g hg'
    · rw [show ({ x with dump := x.dump ++ a.grants.map Grant.clamped } : Lane).up = x.up from rfl, hup] at h
      cases h

theorem State.lanesKeep_serve (l n : Nat) : ∀ s : State, s.lanesKeep (State.serve l n s) := by
  induction n with
  | zero => exact fun s => .refl s
  | succ n ih =>
    intro s
    unfold State.serve
    split
    · rename_i hcan
      split
      · exact .refl s
      · rename_i k _
        refine State.lanesKeep.trans (fun j hj => ?_) (ih _)
        cases hnormal : (s.lane l).normal with
        | nil =>
          simp [Lane.canGrant, hnormal] at hcan
        | cons g gs =>
          have hlane := State.serveOne_lane (k := k) hnormal j
          rw [State.serveOne] at hlane
          rw [hlane]
          split
          · rename_i h
            subst h
            exact Lane.lawful_drawn hj (Lane.draws_drawn (hnormal ▸ List.suffix_cons g gs))
          · exact hj
    · exact .refl s

theorem State.lanesKeep_grantBlocks (s : State) (a : Arriving) : s.lanesKeep (s.grantBlocks a) := by
  by_cases hbad : a.grantsBad = true
  · rw [State.grantBlocks_bad hbad]
    exact State.lanesKeep_of_lanes rfl
  · by_cases hup : (s.lane a.lane).up = true
    · by_cases hfull : (s.lane a.lane).grantsFull a.grantKind a.entryCount = true
      · rw [State.grantBlocks_full hbad hup hfull]
        exact State.lanesKeep_of_lanes rfl
      · rw [State.grantBlocks_ok hbad hup hfull]
        have hgranting : s.lanesKeep (s.granting a) := fun j hj => by
          rw [State.granting_lane]
          split
          · rename_i h
            exact Lane.lawful_grantedBy (h ▸ hj) hup hbad hfull
          · exact hj
        split
        · have hserve := State.lanesKeep_serve a.lane ((s.lane a.lane).grantedBy a).normal.length (s.granting a)
          refine (hgranting.trans hserve).trans (State.lanesKeep_of_lanes ?_)
          exact (agree (π := State.lanes) (State.poolLowNotices_frame _) :)
        · exact hgranting
    · rw [State.grantBlocks_down hbad (Bool.not_eq_true _ ▸ hup)]
      exact State.lanesKeep_of_lanes rfl

theorem State.emptied_lanes (s : State) (j : Nat) :
    s.emptied.lane j = if j < 8 then (s.givenBack.untabled.lane j).cleared else s.givenBack.untabled.lane j :=
  lane_foldl (f := fun u l => u.updLane l Lane.cleared) (fun u k j => u.lane_setLane k (u.lane k).cleared j) s.givenBack.untabled 8 j

theorem State.lanesKeep_emptied (s : State) : s.lanesKeep s.emptied := fun j hj => by
  have hgiven : (s.givenBack.untabled.lane j).lawful := by
    rw [State.lane_untabled, State.givenBack_lane]
    split
    · exact Lane.lawful_ungranted hj
    · exact hj
  have hemptied := s.emptied_lanes j
  generalize s.givenBack.untabled.lane j = x at hgiven hemptied
  rw [hemptied]
  by_cases h : j < 8
  · rw [if_pos h]
    obtain ⟨hwindow, hinflight, hpass, hposition, -, hnormal, hdump, hcapacity, hmark, harmed, hdown⟩ := hgiven
    exact ⟨hwindow, hinflight, hpass, hposition, Nat.zero_le 15, hnormal, hdump, hcapacity, hmark, harmed, hdown⟩
  · rw [if_neg h]
    exact hgiven

theorem State.lanesKeep_clearPart (s : State) (a : Arriving) : s.lanesKeep (s.clearPart a) := by
  by_cases hquiet : s.quiet = true
  · rw [State.clearPart_quiet hquiet]
    exact (s.lanesKeep_reply a .ok []).trans (State.lanesKeep_emptied _)
  · rw [State.clearPart_notQuiet (Bool.not_eq_true _ ▸ hquiet)]
    exact s.lanesKeep_reply a .notQuiet []

end

end Sys2Proof.Machine
end

section
/-! The commands that leave the segments, the lanes and the starvation list alone until the segment requests of their end (R56). -/

namespace Sys2Proof.Machine

open Sys2Proof

section

variable {s t u : State} {a : Arriving}

/-! ## Beside the books of the segment manager -/

/-- The fields, streams aside, that the segment manager, the arbiters and the dump engine keep. -/
def State.bookFields (s : State) : State :=
  { part := s.part, segments := s.segments, nextSegment := s.nextSegment, lanes := s.lanes, starved := s.starved, due := s.due, dump := s.dump }

/-- `u` differs from `s` beside the books of the segment manager: of the streams, in their queues, tails and counters of sectors alone. -/
structure State.Beside (s u : State) : Prop where
  books : u.bookFields = s.bookFields
  streams : ∀ k, (u.stream k).standing = (s.stream k).standing

namespace State.Beside

theorem refl (s : State) : s.Beside s := ⟨rfl, fun _ => rfl⟩

theorem trans (h : s.Beside t) (h' : t.Beside u) : s.Beside u := ⟨h'.books.trans h.books, fun k => (h'.streams k).trans (h.streams k)⟩

theorem lanes (h : s.Beside u) : u.lanes = s.lanes := agree h.books
theorem segments (h : s.Beside u) : u.segments = s.segments := agree h.books
theorem starved (h : s.Beside u) : u.starved = s.starved := agree h.books
theorem part (h : s.Beside u) : u.part = s.part := agree h.books
theorem dump (h : s.Beside u) : u.dump = s.dump := agree h.books
theorem due (h : s.Beside u) : u.due = s.due := agree h.books
theorem lane (h : s.Beside u) (l : Nat) : u.lane l = s.lane l := agree (π := (State.lane · l)) h.books

theorem state (h : s.Beside u) (k : Nat) : (u.stream k).state = (s.stream k).state := (congrArg Stream.state (h.streams k) :)
theorem openSeg (h : s.Beside u) (k : Nat) : (u.stream k).openSeg = (s.stream k).openSeg := (congrArg Stream.openSeg (h.streams k) :)
theorem laneSet (h : s.Beside u) (k : Nat) : (u.stream k).laneSet = (s.stream k).laneSet := (congrArg Stream.laneSet (h.streams k) :)
theorem inflight (h : s.Beside u) (k : Nat) : (u.stream k).inflight = (s.stream k).inflight := (congrArg Stream.inflight (h.streams k) :)

/-- What a frame leaves of the streams and of the books is beside them. -/
theorem of_frame {m : State → State} (h : m u = m s) (hbooks : ∀ s, (m s).bookFields = s.bookFields := by intro _; rfl)
    (hstreams : ∀ s, (m s).streams = s.streams := by intro _; rfl) : s.Beside u :=
  ⟨agree h hbooks, fun k => by rw [State.stream, show u.streams = s.streams from agree h hstreams]; rfl⟩

theorem setStream (s : State) (k : Nat) (r : Stream) (h : r.standing = (s.stream k).standing) : s.Beside (s.setStream k r) := by
  refine ⟨rfl, fun j => ?_⟩
  rw [State.stream_setStream]
  split
  · rename_i hj
    rw [hj, h]
  · rfl

theorem foldl {α : Type} {f : State → α → State} (hf : ∀ s x, State.Beside s (f s x)) (xs : List α) (s : State) : s.Beside (xs.foldl f s) := by
  induction xs generalizing s with
  | nil => exact .refl s
  | cons x xs ih => exact (hf s x).trans (ih _)

theorem padStream (s : State) (k : Nat) : s.Beside (s.padStream k) := by
  unfold State.padStream
  split
  · exact setStream s k _ rfl
  · exact .refl s

theorem lingerCheck (s : State) (k : Nat) : s.Beside (s.lingerCheck k) := by
  unfold State.lingerCheck
  split
  · exact padStream s k
  · exact .refl s

theorem lingerTick (s : State) (k : Nat) : s.Beside (s.lingerTick k) := by
  unfold State.lingerTick
  split
  · have hset := setStream s k { s.stream k with linger := min 255 ((s.stream k).linger + 1) } rfl
    exact hset.trans (lingerCheck _ k)
  · exact .refl s

theorem durablePads (s : State) : s.Beside s.durablePads := by
  unfold State.durablePads
  split
  · refine foldl (fun s k => ?_) _ s
    split
    · exact padStream s k
    · exact .refl s
  · exact .refl s

theorem pressure (s : State) : s.Beside s.pressure := by
  unfold State.pressure
  split
  · split
    · exact .refl s
    · exact padStream s _
  · exact .refl s

theorem flushPads (s : State) (fn : Nat) : s.Beside (s.flushPads fn) := by
  refine foldl (fun s k => ?_) _ s
  split
  · exact padStream s k
  · exact .refl s

theorem stageAll (s : State) (a : Arriving) : s.Beside (s.stageAll a) :=
  foldl (fun s x => ⟨agree (s.stageSector_frame a x), fun k => State.standing_stageSector x k⟩) _ s

theorem writeRecorded (s : State) (a : Arriving) : s.Beside (s.writeRecorded a) := by
  unfold State.writeRecorded
  split
  · exact (stageAll s a).trans (of_frame (State.createDurable_frame ..))
  · exact (stageAll s a).trans (of_frame (State.enqueue_frame ..))

/-- The acts of an accepted WRITE before its segment requests (R42). -/
theorem writeCredited (s : State) (a : Arriving) : s.Beside (s.writeCredited a) := by
  have hpads := (writeRecorded s a).trans ((durablePads _).trans (pressure _))
  unfold State.writeCredited
  split
  · exact hpads.trans (of_frame (State.evalCredit_frame _))
  · exact hpads

theorem refuseWrite (s : State) (a : Arriving) (status : LandedStatus) : s.Beside (s.refuseWrite a status) := of_frame (s.refuseWrite_frame a status)

/-- The acts of an accepted FLUSH before its segment requests (R146). -/
theorem flushMarked (s : State) (a : Arriving) : s.Beside (s.flushMarked a) :=
  ((of_frame (State.markSlots_frame s _)).trans (of_frame (State.setFlush_frame ..))).trans (flushPads _ a.fn)

end State.Beside

/-! ## The commands -/

/-- `t` has the streams of `s` and the same books. -/
def State.Apart (s t : State) : Prop := t.bookFields = s.bookFields ∧ t.streams = s.streams

theorem State.Apart.refl (s : State) : s.Apart s := ⟨rfl, rfl⟩

theorem State.Apart.trans (h : s.Apart t) (h' : t.Apart u) : s.Apart u := ⟨h'.1.trans h.1, h'.2.trans h.2⟩

theorem State.Apart.stream (h : s.Apart t) (k : Nat) : t.stream k = s.stream k := by rw [State.stream, h.2]; rfl

theorem State.Apart.beside (h : s.Apart t) : s.Beside t := ⟨h.1, fun k => by rw [h.stream]⟩

theorem State.Apart.of_frame {m : State → State} (h : m u = m s) (hbooks : ∀ s, (m s).bookFields = s.bookFields := by intro _; rfl)
    (hstreams : ∀ s, (m s).streams = s.streams := by intro _; rfl) : s.Apart u := ⟨agree h hbooks, agree h hstreams⟩

/-- `t` is apart from `s`, or what the end of an event makes of a state beside it. -/
def State.EndsBeside (s t : State) : Prop := s.Apart t ∨ ∃ u, s.Beside u ∧ t = u.endRequests

theorem State.EndsBeside.of_apart (h : s.Apart u) (h' : u.EndsBeside t) : s.EndsBeside t :=
  h'.imp h.trans fun ⟨v, hv, ht⟩ => ⟨v, h.beside.trans hv, ht⟩

theorem State.EndsBeside.take {want : Arriving → Bool} {act : State → Arriving → State} (hact : ∀ s a, want a = true → State.EndsBeside s (act s a))
    (s : State) : s.EndsBeside (s.take want act) := by
  rcases s.take_cases want act with h | ⟨a, -, -, -, h⟩ | ⟨a, -, hwant, h⟩ <;> rw [h]
  · exact .inl (.refl s)
  · exact .inl ⟨rfl, rfl⟩
  · exact .of_apart (u := { s with parser := .awaiting }) ⟨rfl, rfl⟩ (hact _ a hwant)

theorem State.EndsBeside.decideWrite (s : State) (a : Arriving) : s.EndsBeside (s.decideWrite a) := by
  rcases s.decideWrite_cases a with ⟨status, -, h⟩ | ⟨-, ⟨-, h⟩ | ⟨-, h⟩⟩ <;> rw [h]
  · exact .inl (.of_frame (s.refuseWrite_frame a status))
  · exact .inl ⟨rfl, rfl⟩
  · exact .inr ⟨s.writeCredited a, .writeCredited s a, s.acceptWrite_eq a⟩

theorem State.EndsBeside.takeFlush (s : State) (a : Arriving) : s.EndsBeside (s.takeFlush a) := by
  have henqueue : ∀ p, s.EndsBeside (s.enqueue p) := fun p => .inl (.of_frame (s.enqueue_frame p))
  have haccept : s.EndsBeside (s.acceptFlush a) := .inr ⟨s.flushMarked a, .flushMarked s a, State.acceptFlush_eq⟩
  cases hvalid : s.validTenant a.fn with
  | false =>
    rw [State.takeFlush_of_noTenant hvalid]
    exact henqueue _
  | true =>
    cases hrecord : Store.find? s.flushes a.fn with
    | none =>
      rw [State.takeFlush_of_noRecord hvalid hrecord]
      split
      · exact henqueue _
      · split
        · exact henqueue _
        · exact haccept
    | some r =>
      rw [State.takeFlush_of_record hvalid hrecord]
      split
      · exact henqueue _
      · exact haccept

theorem State.EndsBeside.of_frame {m : State → State} (h : m u = m s) (hbooks : ∀ s, (m s).bookFields = s.bookFields := by intro _; rfl)
    (hstreams : ∀ s, (m s).streams = s.streams := by intro _; rfl) : s.EndsBeside u := .inl (.of_frame h hbooks hstreams)

theorem State.EndsBeside.reply (s : State) (a : Arriving) (status : Status) (body : List Byte) : s.EndsBeside (s.reply a status body) :=
  .of_frame (s.reply_frame a status body)

theorem State.EndsBeside.checkAllLinger (s : State) : s.EndsBeside s.checkAllLinger := .inr ⟨_, .foldl State.Beside.lingerCheck _ s, rfl⟩

theorem State.EndsBeside.ticked (s : State) : s.EndsBeside (s.forStreams State.lingerTick).endRequests :=
  .inr ⟨_, .foldl State.Beside.lingerTick _ s, rfl⟩

theorem State.Apart.storeDurableLinger (s : State) (a : Arriving) (v : Nat) (body : List Byte) :
    s.Apart ((s.storeParam .durableLinger a.paramLane v).reply a .ok body) := ⟨rfl, rfl⟩

theorem State.EndsBeside.setDurableLinger (s : State) (a : Arriving) (h : a.param = some .durableLinger) :
    s.EndsBeside (s.setParam a State.checkAllLinger) := by
  rcases s.setParam_cases a State.checkAllLinger with ⟨status, heq⟩ | ⟨p, hparam, heq⟩ <;> rw [heq]
  · exact .reply s a status []
  · cases h.symm.trans hparam
    exact .of_apart (.storeDurableLinger s a _ _) (.checkAllLinger _)

theorem State.EndsBeside.flushStream (s : State) (a : Arriving) : s.EndsBeside (s.flushStream a) := by
  unfold State.flushStream
  split
  · exact .inr ⟨(s.padStream a.stream).reply a .ok, (State.Beside.padStream s a.stream).trans (.of_frame (State.reply_frame _ a .ok [])), rfl⟩
  · exact .reply s a .wrongState []

theorem State.EndsBeside.lingerExpires (s : State) : s.EndsBeside s.lingerExpires := by
  unfold State.lingerExpires
  split
  · exact .inl (.refl s)
  · rename_i d _
    split
    · exact .of_apart (u := { s.reachTime d with lingerClock := some (d + 1000) }) ⟨rfl, rfl⟩ (.ticked _)
    · exact .inl (.refl s)

theorem State.EndsBeside.retake (s : State) : s.EndsBeside s.retake := by
  unfold State.retake
  split
  · split
    · exact .of_apart (u := { s with parser := .awaiting }) ⟨rfl, rfl⟩ (.decideWrite _ _)
    · exact .inl (.refl s)
  · exact .inl (.refl s)

theorem State.EndsBeside.takeWrite (s : State) (a : Arriving) : s.EndsBeside (s.takeWrite a) := by
  rcases s.takeWrite_cases a with ⟨status, h⟩ | ⟨-, -, h⟩ <;> rw [h]
  · exact .inl (.of_frame (s.refuseWrite_frame a status))
  · exact .decideWrite s a

/-- A command that does not act on the segments, lanes, dump engine or configured streams itself. -/
def keepsBooks : Instr → Bool
  | .setParam | .setPoolLowMark | .putStream | .holdStream | .releaseStream | .rotateStream | .unbindStream | .grantBlocks | .restartLane
  | .clearPart | .issue _ | .answer _ | .malformedLaneParcel _ | .expiry _ _ | .laneflt _ _ | .dumpUnitSend | .trailerSend | .pfail _
  | .resetAssert _ _ | .resetRelease | .answerArrival _ _ => false
  | _ => true

theorem State.after_endsBeside {c : Instr} (h : keepsBooks c = true) (s : State) : s.EndsBeside (s.after c) := by
  cases c
  case write => exact (.take (fun s a _ => .takeWrite s a) s : s.EndsBeside (s.take _ State.takeWrite))
  case heldWriteRetaking => exact .retake s
  case flush => exact (.take (fun s a _ => .takeFlush s a) s : s.EndsBeside (s.take _ State.takeFlush))
  case setDurableLinger =>
    exact (.take (fun s a hw => .setDurableLinger s a (Arriving.param_of_setsParam hw)) s :
      s.EndsBeside (s.take (·.setsParam .durableLinger) fun s a => s.setParam a State.checkAllLinger))
  case flushStream => exact (.take (fun s a _ => .flushStream s a) s : s.EndsBeside (s.take _ State.flushStream))
  case lingerClockExpiry => exact .lingerExpires s
  all_goals first | exact .inl ⟨s.after_agree _, s.after_agree _⟩ | cases h

end

end Sys2Proof.Machine
end

section
/-! What the lane events, the dump engine's sends and PFAIL can do, and O54. -/

namespace Sys2Proof.Machine

open Sys2Proof

section

variable {s t u : State} {a : Arriving} {l k : Nat}

/-! ## The events, case by case -/

/-- EXPIRY: nothing, or the expiry of a record that is in flight (R127, R128). -/
theorem State.expireRecord_cases (s : State) (l i : Nat) : s.expireRecord l i = s
    ∨ ∃ r, (s.lane l).inflight[i]? = some r ∧ s.live = true ∧ s.expireRecord l i = s.expire l i r := by
  unfold State.expireRecord
  cases hr : (s.lane l).inflight[i]? with
  | none => exact .inl rfl
  | some r =>
    cases hlive : s.live with
    | false => exact .inl rfl
    | true => exact .inr ⟨r, rfl, rfl, rfl⟩

/-- LANEFLT: the level alone, or a lane down (R130). -/
theorem State.lanefltTo_cases (s : State) (l : Nat) (level : Bool) : s.lanefltTo l level = s.setLaneflt l level
    ∨ level = true ∧ s.live = true ∧ (s.lane l).up = true ∧ s.lines.laneflt.getLsbD l = false
      ∧ s.lanefltTo l level = ((s.setLaneflt l true).laneDown l .link).endFailure := by
  by_cases hcond : (level && !s.lanefltLevel l && s.live && (s.lane l).up) = true
  · simp only [Bool.and_eq_true, Bool.not_eq_true', State.lanefltLevel] at hcond
    obtain ⟨⟨⟨rfl, hlow⟩, hlive⟩, hup⟩ := hcond
    exact .inr ⟨rfl, hlive, hup, hlow, State.lanefltTo_down hlive hup hlow⟩
  · left
    rw [State.lanefltTo]
    exact if_neg hcond

/-- The unit may go on the current grant's lane. -/
structure State.DumpReady (s : State) (taken : List TakenGrant) (g : TakenGrant) : Prop where
  live : s.live = true
  dumping : s.part = .dumping
  taken : s.dump.taken = taken ++ [g]
  up : (s.lane g.lane).up = true
  room : (s.lane g.lane).inflight.length < (s.lane g.lane).window

theorem State.dumpReady_of (hlive : s.live = true) (hpart : s.part = .dumping) (h : s.dumpLaneReady = true) : ∃ taken g, s.DumpReady taken g := by
  unfold State.dumpLaneReady at h
  cases hcurrent : s.dump.current with
  | none =>
    rw [hcurrent] at h
    cases h
  | some g =>
    rw [hcurrent] at h
    simp only [Bool.and_eq_true, Lane.roomFor, decide_eq_true_eq] at h
    obtain ⟨hup, hroom⟩ := h
    obtain ⟨taken, htaken⟩ := List.getLast?_eq_some_iff.1 hcurrent
    exact ⟨taken, g, hlive, hpart, htaken, hup, by omega⟩

theorem State.mayDumpUnit_ready (h : s.mayDumpUnit = true) :
    (∃ taken g, s.DumpReady taken g) ∧ s.dump.phase = .filling ∧ 0 < s.undumped ∧ 2 ≤ s.dump.remaining := by
  simp only [State.mayDumpUnit, Bool.and_eq_true, beq_iff_eq, decide_eq_true_eq] at h
  obtain ⟨⟨⟨⟨⟨hlive, hpart⟩, hphase⟩, hsome⟩, hleft⟩, hready⟩ := h
  exact ⟨State.dumpReady_of hlive hpart hready, hphase, hsome, hleft⟩

theorem State.mayTrailer_ready (h : s.mayTrailer = true) :
    (∃ taken g, s.DumpReady taken g) ∧ s.dump.phase = .trailing ∧ s.dumpInFlight true = false ∧ 1 ≤ s.dump.remaining := by
  simp only [State.mayTrailer, Bool.and_eq_true, beq_iff_eq, decide_eq_true_eq, Bool.not_eq_true'] at h
  obtain ⟨⟨⟨⟨⟨hlive, hpart⟩, hphase⟩, hnone⟩, hleft⟩, hready⟩ := h
  exact ⟨State.dumpReady_of hlive hpart hready, hphase, hnone, hleft⟩

/-- PFAIL: the level alone, or the entry to DUMPING (R151, R152). -/
theorem State.pfailTo_cases (s : State) (level : Bool) : s.pfailTo level = s.pfailAt level
    ∨ s.running = true ∧ s.pfailTo level = (s.pfailAt level).enterDumping := by
  by_cases hcond : (level && !s.lines.pfail && s.running) = true
  · have hrun := (Bool.and_eq_true_iff.1 hcond).2
    refine .inr ⟨hrun, ?_⟩
    rw [State.pfailTo]
    exact if_pos hcond
  · left
    rw [State.pfailTo]
    exact if_neg hcond

theorem State.takeMalformed_cases (s : State) (l : Nat) : s.takeMalformed l = s ∨ s.takeMalformed l = s.tookStray l := by
  unfold State.takeMalformed
  cases s.takeable l with
  | none => exact .inl rfl
  | some w =>
    cases hanswer : isAnswer w.head with
    | true => exact .inl (if_pos hanswer)
    | false => exact .inr (if_neg (Bool.eq_false_iff.1 hanswer))

theorem State.releaseStream_cases (s : State) (a : Arriving) : s.releaseStream a = s.reply a .wrongState
    ∨ (s.stream a.stream).state = .held ∧ s.releaseStream a = (s.unheld a).endRequests := by
  by_cases h : (s.stream a.stream).state = .held
  · exact .inr ⟨h, State.releaseStream_held h⟩
  · exact .inl (State.releaseStream_wrongState h)

/-- The state of a ROTATE-STREAM before the segment is ended: the tail is padded and the REPLY enqueued. -/
def State.tailReplied (s : State) (a : Arriving) : State := (s.padStream a.stream).reply a .ok

theorem State.Beside.tailReplied (s : State) (a : Arriving) : s.Beside (s.tailReplied a) :=
  (State.Beside.padStream s a.stream).trans (.of_frame (State.reply_frame _ a .ok []))

theorem State.rotateStream_cases (s : State) (a : Arriving) : s.rotateStream a = s.reply a .wrongState
    ∨ ((s.stream a.stream).state = .opened ∨ (s.stream a.stream).state = .held)
      ∧ s.rotateStream a = ((s.tailReplied a).rotate a.stream).endRequests := by
  by_cases h : (s.stream a.stream).state = .opened ∨ (s.stream a.stream).state = .held
  · exact .inr ⟨h, if_pos h⟩
  · exact .inl (if_neg h)

/-! ## The lanes through every command -/

theorem State.lanesKeep_endsBeside (h : s.EndsBeside t) : s.lanesKeep t := by
  rcases h with h | ⟨u, h, rfl⟩
  · exact State.lanesKeep_of_lanes h.beside.lanes
  · exact (State.lanesKeep_of_lanes h.lanes).trans (State.lanesKeep_endRequests u)

theorem State.lanesKeep_nextGrantIfUsed (s : State) : s.lanesKeep s.nextGrantIfUsed := by
  unfold State.nextGrantIfUsed
  split
  · exact .refl s
  · split
    · exact State.lanesKeep_takeGrant s _
    · exact .refl s

/-- The sending of a DUMP unit (R112, R157). -/
theorem State.lanesKeep_sendDump {g : TakenGrant} (hup : (s.lane g.lane).up = true) (hroom : (s.lane g.lane).inflight.length < (s.lane g.lane).window)
    (slots : List Nat) (fillers : Nat) (trailer : Bool) (sectors : List (List Byte)) : s.lanesKeep (s.sendDump g slots fillers trailer sectors) := by
  rw [State.sendDump_eq]
  refine State.lanesKeep.trans (fun j hj => ?_) (State.lanesKeep_nextGrantIfUsed _)
  rw [State.dumpSent_lane]
  split
  · rename_i h
    subst h
    exact Lane.lawful_carrying hj hup hroom
  · exact hj

theorem State.lanesKeep_withDump (s : State) (d : Dump) : s.lanesKeep (s.withDump d) := State.lanesKeep_of_lanes rfl

theorem closed_sendDump {P : State → Prop} (hclosed : Closed P) (hs : P s) (g : TakenGrant) (slots : List Nat) (fillers : Nat) (trailer : Bool)
    (sectors : List (List Byte)) : P (s.sendDump g slots fillers trailer sectors) := by
  have hsent : P (s.dumpSent g slots fillers trailer sectors) := hclosed.sendLane _ _ (hclosed.lane _ _ hs)
  rw [State.sendDump_eq]
  exact hclosed.nextGrantIfUsed hsent

/-- The sending of a unit with another account of the dump. -/
theorem State.lanesKeep_sendWith {taken : List TakenGrant} {g : TakenGrant} (h : s.DumpReady taken g) (d : Dump) (slots : List Nat)
    (fillers : Nat) (trailer : Bool) (sectors : List (List Byte)) : s.lanesKeep ((s.withDump d).sendDump g slots fillers trailer sectors) :=
  (State.lanesKeep_withDump s d).trans (State.lanesKeep_sendDump (s := s.withDump d) h.up h.room slots fillers trailer sectors)

theorem State.lanesCanon_sendWith (h : s.lanesCanon) (d : Dump) (g : TakenGrant) (slots : List Nat) (fillers : Nat) (trailer : Bool)
    (sectors : List (List Byte)) : ((s.withDump d).sendDump g slots fillers trailer sectors).lanesCanon :=
  closed_sendDump closed_lanesCanon (closed_lanesCanon.other (t := s.withDump d) h rfl) g slots fillers trailer sectors

theorem State.lanesKeep_dumpUnit (h : s.mayDumpUnit = true) : s.lanesKeep s.dumpUnit := by
  obtain ⟨⟨taken, g, hready⟩, -⟩ := State.mayDumpUnit_ready h
  rw [State.dumpUnit_eq (current_append hready.taken)]
  exact State.lanesKeep_sendWith hready _ _ _ _ _

theorem State.lanesKeep_trailerUnit (hcanon : s.lanesCanon) (h : s.mayTrailer = true) : s.lanesKeep s.trailerUnit := by
  obtain ⟨⟨taken, g, hready⟩, -⟩ := State.mayTrailer_ready h
  rw [State.trailerUnit_eq hready.taken]
  exact (State.lanesKeep_sendWith hready _ _ _ _ _).trans (State.lanesKeep_dumpCheck (sorted_of_canon (State.lanesCanon_sendWith hcanon _ _ _ _ _ _)))

theorem State.lanesKeep_enterDumping (hcanon : s.lanesCanon) : s.lanesKeep s.enterDumping := by
  have hbegun : s.dumpBegun.lanesCanon := by
    rw [State.lanesCanon, State.dumpBegun_lanes]
    exact hcanon
  have hkeep : s.lanesKeep s.dumpBegun := State.lanesKeep_of_lanes State.dumpBegun_lanes
  rw [State.enterDumping_eq]
  generalize s.dumpBegun = u at hbegun hkeep
  exact (hkeep.trans (State.lanesKeep_takeGrant u 0)).trans (State.lanesKeep_dumpCheck (sorted_of_canon (State.takeGrant_canon u 0 hbegun)))

theorem State.lanesKeep_takeAnswer (hcanon : s.lanesCanon) (l : Nat) : s.lanesKeep (s.takeAnswer l) := by
  rcases s.takeAnswer_cases l with h | ⟨-, h | ⟨i, r, -, h | ⟨why, h⟩⟩⟩ <;> rw [h]
  · exact .refl s
  · exact State.lanesKeep_stray s l
  · exact State.lanesKeep_done hcanon l i r
  · exact State.lanesKeep_fail hcanon l i why r

theorem State.lanesKeep_lanefltTo (hcanon : s.lanesCanon) (l : Nat) (level : Bool) : s.lanesKeep (s.lanefltTo l level) := by
  have hlevel : ∀ level, s.lanesKeep (s.setLaneflt l level) := fun _ => State.lanesKeep_of_lanes rfl
  rcases s.lanefltTo_cases l level with h | ⟨-, -, -, -, h⟩ <;> rw [h]
  · exact hlevel level
  · have hset : (s.setLaneflt l true).lanesCanon := closed_lanesCanon.other hcanon rfl
    exact ((hlevel true).trans (State.lanesKeep_laneDown _ l .link)).trans
      (State.lanesKeep_endFailure (sorted_of_canon (closed_lanesCanon.laneDown l .link hset)))

theorem State.lanesKeep_after (hcanon : s.lanesCanon) {c : Instr} (hreset : ¬ (c = .resetRelease ∨ ∃ r l, c = .resetAssert r l)) :
    s.lanesKeep (s.after c) := by
  cases hkeeps : keepsBooks c with
  | true => exact State.lanesKeep_endsBeside (State.after_endsBeside hkeeps s)
  | false =>
    cases c
    case resetAssert r l => exact absurd (.inr ⟨r, l, rfl⟩) hreset
    case resetRelease => exact absurd (.inl rfl) hreset
    case setParam =>
      refine State.lanesKeep_take (act := fun s a => s.setParam a id) (fun s a hwant => State.lanesKeep_setParam (fun u => .refl u) ?_) s
      obtain ⟨-, -, -, -, hmark⟩ := Arriving.param_of_setsPlainParam hwant
      exact hmark
    case setPoolLowMark =>
      exact State.lanesKeep_take (act := fun s a => s.setParam a (State.rearm a.paramLane))
        (fun s a hwant => State.lanesKeep_setPoolLowMark (Arriving.param_of_setsParam hwant)) s
    case releaseStream =>
      refine State.lanesKeep_take (act := State.releaseStream) (fun s a _ => ?_) s
      rcases s.releaseStream_cases a with h | ⟨-, h⟩ <;> rw [h]
      · exact State.lanesKeep_reply s a _ _
      · have hunheld : s.lanesKeep (s.unheld a) := State.lanesKeep_of_lanes rfl
        exact hunheld.trans (State.lanesKeep_endRequests _)
    case rotateStream =>
      refine State.lanesKeep_take (act := State.rotateStream) (fun s a _ => ?_) s
      rcases s.rotateStream_cases a with h | ⟨-, h⟩ <;> rw [h]
      · exact State.lanesKeep_reply s a _ _
      · have hrotated : ((s.tailReplied a).rotate a.stream).lanes = s.lanes :=
          (agree (π := State.lanes) (State.rotate_frame _ a.stream) :).trans (State.Beside.tailReplied s a).lanes
        exact (State.lanesKeep_of_lanes hrotated).trans (State.lanesKeep_endRequests _)
    case grantBlocks => exact State.lanesKeep_take (act := State.grantBlocks) (fun s a _ => State.lanesKeep_grantBlocks s a) s
    case restartLane => exact State.lanesKeep_take (act := State.restartLane) (fun s a _ => State.lanesKeep_restartLane s a) s
    case clearPart => exact State.lanesKeep_take (act := State.clearPart) (fun s a _ => State.lanesKeep_clearPart s a) s
    case issue lane => exact State.lanesKeep_issueOn s lane.val
    case answer lane => exact State.lanesKeep_takeAnswer hcanon lane.val
    case malformedLaneParcel lane =>
      show s.lanesKeep (s.takeMalformed lane.val)
      rcases s.takeMalformed_cases lane.val with h | h <;> rw [h]
      · exact .refl s
      · exact State.lanesKeep_stray s lane.val
    case expiry lane i =>
      show s.lanesKeep (s.expireRecord lane.val i)
      rcases s.expireRecord_cases lane.val i with h | ⟨r, -, -, h⟩ <;> rw [h]
      · exact .refl s
      · exact State.lanesKeep_expire hcanon lane.val i r
    case laneflt lane level => exact State.lanesKeep_lanefltTo hcanon lane.val level
    case dumpUnitSend =>
      show s.lanesKeep (if s.mayDumpUnit then s.dumpUnit else s)
      split
      · exact State.lanesKeep_dumpUnit ‹_›
      · exact .refl s
    case trailerSend =>
      show s.lanesKeep (if s.mayTrailer then s.trailerUnit else s)
      split
      · exact State.lanesKeep_trailerUnit hcanon ‹_›
      · exact .refl s
    case pfail level =>
      show s.lanesKeep (s.pfailTo level)
      have hlevel : s.lanesKeep (s.pfailAt level) := State.lanesKeep_of_lanes rfl
      rcases s.pfailTo_cases level with h | ⟨-, h⟩ <;> rw [h]
      · exact hlevel
      · exact hlevel.trans (State.lanesKeep_enterDumping hcanon)
    case answerArrival lane head =>
      show s.lanesKeep (s.laneArrives lane.val head)
      unfold State.laneArrives
      split
      · exact State.lanesKeep_updLane (f := fun x => { x with waiting := x.waiting ++ [{ head := head, arrival := s.arrivals }] })
          fun x _ hx => Lane.lawful_waiting hx _
      · exact .refl s
    all_goals first | exact State.lanesKeep_of_lanes (s.after_agree _) | cases hkeeps

/-! ## The parameters (R170, R171) -/

theorem Params.lawful_stored (h : s.params.lawful) (p : Param) (l v : Nat) : (s.storeParam p l (clampInto (paramRange p) v)).params.lawful := by
  obtain ⟨hheat, hdecay, htimeout, hlimit, hpressure, hlinger, hbatch, hcredit, hgeneration⟩ := h
  have hclamped := clampInto_bounds (r := paramRange p) (by cases p <;> decide) v
  cases p
  case heatStep => exact ⟨hclamped, hdecay, htimeout, hlimit, hpressure, hlinger, hbatch, hcredit, hgeneration⟩
  case decayInterval => exact ⟨hheat, hclamped, htimeout, hlimit, hpressure, hlinger, hbatch, hcredit, hgeneration⟩
  case programTimeout => exact ⟨hheat, hdecay, hclamped, hlimit, hpressure, hlinger, hbatch, hcredit, hgeneration⟩
  case timeoutLimit => exact ⟨hheat, hdecay, htimeout, hclamped, hpressure, hlinger, hbatch, hcredit, hgeneration⟩
  case pressureMark => exact ⟨hheat, hdecay, htimeout, hlimit, hclamped.2, hlinger, hbatch, hcredit, hgeneration⟩
  case durableLinger => exact ⟨hheat, hdecay, htimeout, hlimit, hpressure, hclamped.2, hbatch, hcredit, hgeneration⟩
  case creditBatch => exact ⟨hheat, hdecay, htimeout, hlimit, hpressure, hlinger, hclamped, hcredit, hgeneration⟩
  case creditLinger => exact ⟨hheat, hdecay, htimeout, hlimit, hpressure, hlinger, hbatch, hclamped, hgeneration⟩
  case dumpGeneration => exact ⟨hheat, hdecay, htimeout, hlimit, hpressure, hlinger, hbatch, hcredit, hclamped.2⟩
  all_goals exact ⟨hheat, hdecay, htimeout, hlimit, hpressure, hlinger, hbatch, hcredit, hgeneration⟩

theorem Params.lawful_setParam {act : State → State} (hact : ∀ u : State, (act u).params = u.params) (h : s.params.lawful) (a : Arriving) :
    (s.setParam a act).params.lawful := by
  rcases s.setParam_cases a act with ⟨status, heq⟩ | ⟨p, -, heq⟩ <;> rw [heq]
  · exact h
  · rw [hact]
    exact Params.lawful_stored h p _ _

theorem State.params_checkAllLinger (s : State) : s.checkAllLinger.params = s.params := agree s.checkAllLinger_frame

theorem Params.lawful_take (h : s.params.lawful) (want : Arriving → Bool) (act : Arriving → State → State)
    (hact : ∀ a u, (act a u).params = u.params) : (s.take want fun s a => s.setParam a (act a)).params.lawful :=
  State.take_keeps (P := fun s => s.params.lawful) (fun _ _ h => h) (fun _ a _ h => Params.lawful_setParam (hact a) h a) h

theorem State.after_setDurableLinger (s : State) : s.after .setDurableLinger
    = s.take (·.setsParam .durableLinger) fun s a => s.setParam a State.checkAllLinger := rfl

theorem Params.lawful_durableLinger (h : s.params.lawful) (want : Arriving → Bool) :
    (s.take want fun s a => s.setParam a State.checkAllLinger).params.lawful :=
  State.take_keeps (P := fun s => s.params.lawful) (fun _ _ h => h) (fun _ a _ h => Params.lawful_setParam State.params_checkAllLinger h a) h

theorem Params.lawful_after (h : s.params.lawful) (c : Instr) : (s.after c).params.lawful := by
  have hreset : c = .resetRelease ∨ (∃ r l, c = .resetAssert r l) → (s.after c).params.lawful := fun hc => by
    rcases s.after_reset_bare hc with hsame | hbare
    · rwa [hsame]
    · rw [hbare.params]
      simp [Params.lawful]
  cases c
  case resetAssert r l => exact hreset (.inr ⟨r, l, rfl⟩)
  case resetRelease => exact hreset (.inl rfl)
  case setParam => exact Params.lawful_take h Arriving.setsPlainParam (fun _ => id) fun _ _ => rfl
  case setDecayInterval => exact Params.lawful_take h (·.setsParam .decayInterval) (fun _ => State.restartDecay) fun _ _ => rfl
  case setDurableLinger =>
    rw [s.after_setDurableLinger]
    exact Params.lawful_durableLinger h _
  case setCreditBatch => exact Params.lawful_take h (·.setsParam .creditBatch) (fun _ => State.evalCredit) fun _ u => agree u.evalCredit_frame
  case setSequenceBase => exact Params.lawful_take h (·.setsParam .sequenceBase) (fun _ => id) fun _ _ => rfl
  case setPoolLowMark => exact Params.lawful_take h (·.setsParam .poolLowMark) (fun a => State.rearm a.paramLane) fun _ _ => rfl
  all_goals exact Eq.mpr (congrArg Params.lawful (s.after_agree (π := State.params) _)) h

end

/-- Settles O54: the clamped store of a SET-PARAM, and the lanes command by command. -/
theorem stepKeepsParamAndLaneLaws : Obligations.StepKeepsParamAndLaneLaws := by
  unfold Obligations.StepKeepsParamAndLaneLaws
  refine ⟨fun s t hs hstep => ?params, fun s t hcanon hs hstep => ?lanes⟩
  case params =>
    exact step_keeps (P := fun s => s.params.lawful) (fun _ _ h => h) (fun _ _ h => h) (fun c _ h => Params.lawful_after h c) s t hs hstep
  case lanes =>
    refine (step_keeps (P := fun s => s.lanesCanon ∧ s.lanesLawful) (fun _ _ h => h) (fun _ _ h => h) (fun c s h => ?_) s t
      ⟨((State.canonical_iff s).1 hcanon).lanes, hs⟩ hstep).2
    obtain ⟨hcanon, hs⟩ := h
    by_cases hreset : c = .resetRelease ∨ ∃ r l, c = .resetAssert r l
    · rcases s.after_reset_bare hreset with hsame | hbare
      · rw [hsame]
        exact ⟨hcanon, hs⟩
      · refine ⟨?_, fun l => hbare.lane l ▸ (by simp [Lane.lawful])⟩
        rw [State.lanesCanon, hbare.lanes]
        rfl
    · refine ⟨?_, fun l => State.lanesKeep_after hcanon hreset l (hs l)⟩
      by_cases hsent : c = .parcelSent
      · rw [State.lanesCanon, hsent, s.after_agree (π := State.lanes) .parcelSent]
        exact hcanon
      · exact closed_lanesCanon.after c hsent (fun h => hreset (.inl h)) (fun r l h => hreset (.inr ⟨r, l, h⟩)) hcanon

end Sys2Proof.Machine
end

section
/-! The starvation list through every command (R86 to R88). -/

namespace Sys2Proof.Machine

open Sys2Proof

section

variable {s t u : State} {a : Arriving} {l k : Nat}

/-! ## The stream requests, case by case -/

theorem State.putStream_cases (s : State) (a : Arriving) : (∃ status, s.putStream a = s.reply a status)
    ∨ ((s.stream a.stream).state = .unbound ∧ s.putStream a = (s.setStream a.stream ((s.stream a.stream).bind a)).reply a .ok)
    ∨ (s.stream a.stream).state = .held ∧ s.putStream a = if s.movedOff a.stream a.laneMask then (s.reconfigured a).rotate a.stream else s.reconfigured a := by
  by_cases hmask : a.laneMask = 0
  · exact .inl ⟨_, State.putStream_unmasked hmask⟩
  by_cases hunbound : (s.stream a.stream).state = .unbound
  · exact .inr (.inl ⟨hunbound, State.putStream_unbound hmask hunbound⟩)
  by_cases hheld : (s.stream a.stream).state = .held
  · exact .inr (.inr ⟨hheld, State.putStream_held hmask hheld⟩)
  · exact .inl ⟨_, State.putStream_wrongState hmask hunbound hheld⟩

theorem State.holdStream_cases (s : State) (a : Arriving) : (∃ status, s.holdStream a = s.reply a status)
    ∨ ((s.stream a.stream).state = .starved
      ∧ s.holdStream a = { s.setStream a.stream { s.stream a.stream with state := .held } with starved := s.starved.erase a.stream }.reply a .ok)
    ∨ ((s.stream a.stream).state = .idle ∨ (s.stream a.stream).state = .opened)
      ∧ s.holdStream a = (s.setStream a.stream { s.stream a.stream with state := .held }).reply a .ok := by
  cases hstate : (s.stream a.stream).state with
  | unbound => exact .inl ⟨_, State.holdStream_of_unbound hstate⟩
  | held => exact .inl ⟨_, State.holdStream_of_held hstate⟩
  | starved => exact .inr (.inl ⟨rfl, State.holdStream_of_starved hstate⟩)
  | idle => exact .inr (.inr ⟨.inl rfl, State.holdStream_of_active (.inl hstate)⟩)
  | opened => exact .inr (.inr ⟨.inr rfl, State.holdStream_of_active (.inr hstate)⟩)

theorem State.unbindStream_cases (s : State) (a : Arriving) : (∃ status, s.unbindStream a = s.reply a status)
    ∨ ((s.stream a.stream).state = .idle ∨ (s.stream a.stream).state = .held) ∧ (s.stream a.stream).queue = [] ∧ (s.stream a.stream).inflight = 0
      ∧ s.isDefault a.stream = false ∧ s.unbindStream a = ((s.reply a .ok).rotate a.stream).retire a.stream := by
  by_cases hstate : (s.stream a.stream).state = .idle ∨ (s.stream a.stream).state = .held
  · rw [State.unbindStream_quietState hstate]
    by_cases hquiet : (s.stream a.stream).queue ≠ [] ∨ (s.stream a.stream).inflight ≠ 0
    · exact .inl ⟨_, if_pos hquiet⟩
    · rw [if_neg hquiet]
      obtain ⟨hqueue, hinflight⟩ := not_or.1 hquiet
      cases hdefault : s.isDefault a.stream with
      | true => exact .inl ⟨_, if_pos rfl⟩
      | false => exact .inr ⟨hstate, not_not.1 hqueue, not_not.1 hinflight, rfl, if_neg Bool.false_ne_true⟩
  · refine .inl ⟨.wrongState, State.unbindStream_wrongState ?_⟩
    obtain ⟨hidle, hheld⟩ := not_or.1 hstate
    cases h : (s.stream a.stream).state
    case idle => exact absurd h hidle
    case held => exact absurd h hheld
    all_goals simp

/-! ## What leaves the starvation list alone -/

/-- The starvation list and the STARVED streams are the same. -/
def State.StarvedAlike (s u : State) : Prop := u.starved = s.starved ∧ ∀ k, (u.stream k).state = .starved ↔ (s.stream k).state = .starved

namespace State.StarvedAlike

theorem refl (s : State) : s.StarvedAlike s := ⟨rfl, fun _ => Iff.rfl⟩

theorem trans (h : s.StarvedAlike t) (h' : t.StarvedAlike u) : s.StarvedAlike u := ⟨h'.1.trans h.1, fun k => (h'.2 k).trans (h.2 k)⟩

theorem lawful (h : s.StarvedAlike u) (hs : s.starvationLawful) : u.starvationLawful := by
  obtain ⟨hnodup, hmem⟩ := hs
  refine ⟨h.1 ▸ hnodup, fun k => ?_⟩
  rw [h.1, hmem, h.2]

theorem of_beside (h : s.Beside u) : s.StarvedAlike u := ⟨h.starved, fun k => by rw [h.state]⟩

theorem of_frame {m : State → State} (h : m u = m s) (hstarved : ∀ s, (m s).starved = s.starved := by intro _; rfl)
    (hstreams : ∀ s, (m s).streams = s.streams := by intro _; rfl) : s.StarvedAlike u :=
  ⟨agree h hstarved, fun k => by rw [State.stream, show u.streams = s.streams from agree h hstreams]; rfl⟩

theorem setStream (s : State) (k : Nat) (r : Stream) (h : r.state = .starved ↔ (s.stream k).state = .starved) : s.StarvedAlike (s.setStream k r) := by
  refine ⟨rfl, fun j => ?_⟩
  rw [State.stream_setStream]
  split
  · rename_i hj
    rw [hj, h]
  · exact Iff.rfl

theorem foldl {α : Type} {f : State → α → State} (hf : ∀ s x, State.StarvedAlike s (f s x)) (xs : List α) (s : State) : s.StarvedAlike (xs.foldl f s) := by
  induction xs generalizing s with
  | nil => exact .refl s
  | cons x xs ih => exact (hf s x).trans (ih _)

theorem released (t : Stream) : t.released.state = .starved ↔ t.state = .starved := by
  unfold Stream.released
  dsimp only
  split
  · rename_i h
    simp [h]
  · exact Iff.rfl

theorem drain (s : State) (id : Nat) (cause : EndCause) : s.StarvedAlike (s.drain id cause) := by
  unfold State.drain
  split
  · exact .refl s
  · split
    · exact setStream (s.setSegment id _) _ _ (released _)
    · exact .refl s

theorem drainAndClose (s : State) (id : Nat) (cause : EndCause) : s.StarvedAlike (s.drainAndClose id cause) :=
  (drain s id cause).trans (.of_frame (State.closeIfSettled_frame _ id))

theorem rotate (s : State) (k : Nat) : s.StarvedAlike (s.rotate k) := by
  unfold State.rotate
  split
  · exact .refl s
  · exact drainAndClose s _ _

theorem breakLane (s : State) (l : Nat) : s.StarvedAlike (s.breakLane l) := by
  refine foldl (fun s k => ?_) _ s
  unfold State.breakOn
  split
  · exact .refl s
  · split
    · exact drainAndClose s _ _
    · exact .refl s

theorem countFailed (s : State) (id : Nat) : s.StarvedAlike (s.countFailed id) := by
  unfold State.countFailed
  split
  · exact .refl s
  · rename_i g _
    exact (of_frame (s.setSegment_frame id _)).trans (drain (s.setSegment id { g with failed := g.failed + 1 }) id .broken)

theorem updStream (s : State) (k : Nat) {f : Stream → Stream} (hf : ∀ t, (f t).state = t.state) : s.StarvedAlike (s.updStream k f) :=
  setStream s k _ (by rw [hf])

theorem requeue (s : State) (k : Nat) (slots : List Nat) (fillers : Nat) : s.StarvedAlike (s.requeue k slots fillers) := by
  refine setStream s k _ ?_
  have hsettle : ∀ t : Stream, t.settle.state = t.state := fun t => by
    unfold Stream.settle
    split <;> rfl
  dsimp only
  rw [hsettle]

theorem normalFailed (s : State) (l : Nat) (why : FailReason) (r : InFlight) : s.StarvedAlike (s.normalFailed l why r) := by
  have hcounted : ∀ v : State, v.StarvedAlike (v.countFailed (r.seg.getD 0)) := fun v => countFailed v _
  have hlane : ∀ v : State, v.StarvedAlike (v.updLane l fun x => { x with failed := x.failed + 1 }) := fun v => of_frame (v.updLane_frame l _)
  have hslots : ∀ v : State, v.StarvedAlike (v.setSlotStates r.slots .staged) := fun v => of_frame (State.setSlotStates_frame ..)
  have hreturned : ∀ (v : State) (o : Option Nat), v.StarvedAlike (v.unitReturned r o) := fun v o => by
    cases o with
    | none => exact .refl v
    | some k =>
      have hcount := updStream v k (f := fun t => { t with failed := t.failed + 1 }) fun _ => rfl
      exact (hcount.trans (requeue _ k r.slots r.fillers)).trans (updStream _ k (f := Stream.landedUnit) fun _ => rfl)
  have hclosed : ∀ v : State, v.StarvedAlike (v.closeIfSettled (r.seg.getD 0)) := fun v => .of_frame (v.closeIfSettled_frame _)
  have hfailing : s.StarvedAlike (s.unitFailing l why r) :=
    (((of_frame (s.enqueue_frame _)).trans (hcounted _)).trans (hlane _)).trans (hslots _)
  rw [State.normalFailed_eq]
  exact (hfailing.trans (hreturned _ _)).trans (hclosed _)

theorem recordFailed (s : State) (l : Nat) (why : FailReason) (r : InFlight) : s.StarvedAlike (s.recordFailed l why r) := by
  unfold State.recordFailed
  split
  · exact normalFailed s l why r
  · exact (of_frame (s.updLane_frame l _)).trans (of_frame (State.dumpFailed_frame _ r))

theorem laneDown (s : State) (l : Nat) (cause : DownCause) : s.StarvedAlike (s.laneDown l cause) := by
  have hbroken : s.StarvedAlike (s.laneBroken l) :=
    ((of_frame (s.setLane_frame l _)).trans (foldl (fun s r => recordFailed s l .laneDown r) _ _)).trans (breakLane _ l)
  rw [State.laneDown_eq]
  exact ((hbroken.trans (of_frame (State.returnGrants_frame _ l))).trans (of_frame (State.enqueue_frame ..))).trans
    (of_frame (State.dumpLosesLane_frame ..))

theorem recordDone (s : State) (l : Nat) (r : InFlight) : s.StarvedAlike (s.recordDone l r) := by
  unfold State.recordDone
  split
  · have hcounted : ∀ v : State, v.StarvedAlike (v.doneCounted (r.seg.getD 0)) := fun v =>
      (of_frame (v.countDone_frame _)).trans (of_frame (State.closeIfSettled_frame _ _))
    have hlanded : ∀ (v : State) (o : Option Nat), v.StarvedAlike (v.unitLanded o) := fun v o => by
      cases o with
      | none => exact .refl v
      | some k => exact updStream v k (f := Stream.landedUnit) fun _ => rfl
    have hsettled : ∀ v : State, v.StarvedAlike (v.settleSlots r.slots) := fun v => of_frame (v.settleSlots_frame r.slots)
    rw [State.normalDone_eq]
    exact ((((of_frame (s.enqueue_frame (s.placedParcel l r))).trans (hsettled _)).trans (hcounted _)).trans (hlanded _ (s.streamOf (r.seg.getD 0)))).trans
      ((of_frame (State.updLane_frame _ l _)).trans (of_frame (State.evalCredit_frame _)))
  · dsimp only
    split
    · exact (of_frame (s.updLane_frame l _)).trans (of_frame (State.trailerDone_frame _))
    · exact (of_frame (s.updLane_frame l _)).trans (of_frame (State.dumpDone_frame _ r))

end State.StarvedAlike

/-! ## Who joins and leaves the list -/

theorem State.starvationLawful_endRequests (hs : s.starvationLawful) : s.endRequests.starvationLawful := by
  obtain ⟨hnodup, hmem⟩ := hs
  have h := s.endRequests_ends
  obtain ⟨starved, low, hlist, hsorted, hjoined, -⟩ := h.notices
  have hold : ∀ k ∈ s.starved, k ∉ starved := fun k hk hnew => by
    have hidle := ((hjoined k).1 hnew).1
    rw [(hmem k).1 hk] at hidle
    cases hidle
  refine ⟨?_, fun k => ?_⟩
  · rw [hlist, List.nodup_append']
    exact ⟨hnodup, hsorted.imp Nat.ne_of_lt, hold⟩
  · rw [hlist, List.mem_append, hmem, hjoined]
    by_cases hidle : (s.stream k).state = .idle
    · simp [hidle]
    · rw [h.others k (.inr hidle)]
      simp [hidle]

theorem State.starvationLawful_endFailure (hs : s.starvationLawful) : s.endFailure.starvationLawful :=
  (State.StarvedAlike.of_frame (State.dumpCheck_frame _)).lawful
    (State.starvationLawful_endRequests ((State.StarvedAlike.of_beside (.durablePads s)).lawful hs))

theorem State.starvationLawful_serveOne {g : Grant} {gs : List Grant} (hs : s.starvationLawful)
    (hnormal : (s.lane l).normal = g :: gs) : (s.serveOne k l).starvationLawful := by
  obtain ⟨hnodup, hmem⟩ := hs
  refine ⟨State.serveOne_starved ▸ hnodup.erase k, fun j => ?_⟩
  rw [State.serveOne_starved, hnodup.mem_erase_iff, State.serveOne_stream hnormal]
  by_cases hj : j = k
  · simp [hj]
  · simp [hj, hmem]

theorem State.starvationLawful_serve (l n : Nat) (s : State) (hs : s.starvationLawful) : (State.serve l n s).starvationLawful := by
  induction n generalizing s with
  | zero => exact hs
  | succ n ih =>
    unfold State.serve
    split
    · rename_i hcan
      split
      · exact hs
      · rename_i k holdest
        cases hnormal : (s.lane l).normal with
        | nil => simp [Lane.canGrant, hnormal] at hcan
        | cons g gs => exact ih _ (State.starvationLawful_serveOne hs hnormal)
    · exact hs

theorem State.starvationLawful_grantBlocks (hs : s.starvationLawful) (a : Arriving) : (s.grantBlocks a).starvationLawful := by
  by_cases hbad : a.grantsBad = true
  · rw [State.grantBlocks_bad hbad]
    exact hs
  · by_cases hup : (s.lane a.lane).up = true
    · by_cases hfull : (s.lane a.lane).grantsFull a.grantKind a.entryCount = true
      · rw [State.grantBlocks_full hbad hup hfull]
        exact hs
      · rw [State.grantBlocks_ok hbad hup hfull]
        have hgranting : (s.granting a).starvationLawful := hs
        split
        · exact (State.StarvedAlike.of_frame (State.poolLowNotices_frame _)).lawful (State.starvationLawful_serve _ _ _ hgranting)
        · exact hgranting
    · rw [State.grantBlocks_down hbad (Bool.not_eq_true _ ▸ hup)]
      exact hs

theorem State.starvationLawful_clearPart (hs : s.starvationLawful) (a : Arriving) : (s.clearPart a).starvationLawful := by
  by_cases hquiet : s.quiet = true
  · rw [State.clearPart_quiet hquiet, State.emptied_eq]
    refine ⟨List.nodup_nil, fun k => ?_⟩
    show k ∈ [] ↔ ({} : Stream).state = .starved
    simp
  · rw [State.clearPart_notQuiet (Bool.not_eq_true _ ▸ hquiet)]
    exact hs

theorem State.starvationLawful_take {want : Arriving → Bool} {act : State → Arriving → State}
    (hact : ∀ s a, s.starvationLawful → (act s a).starvationLawful) (hs : s.starvationLawful) : (s.take want act).starvationLawful :=
  State.take_keeps (P := State.starvationLawful) (fun _ _ h => h) (fun s a _ h => hact s a h) hs

theorem State.StarvedAlike.reply (s : State) (a : Arriving) (status : Status) (body : List Byte) : s.StarvedAlike (s.reply a status body) :=
  of_frame (s.reply_frame a status body)

theorem State.starvationLawful_putStream (hs : s.starvationLawful) (a : Arriving) : (s.putStream a).starvationLawful := by
  rcases s.putStream_cases a with ⟨status, h⟩ | ⟨hstate, h⟩ | ⟨hstate, h⟩ <;> rw [h]
  · exact hs
  · exact ((State.StarvedAlike.setStream s a.stream ((s.stream a.stream).bind a) (by simp [hstate, Stream.bind])).trans (.reply _ a .ok [])).lawful hs
  · have hreconfigured : s.StarvedAlike (s.reconfigured a) := by
      refine ⟨rfl, fun k => ?_⟩
      rw [State.reconfigured_stream]
      split
      · rename_i hk
        rw [hk]
        exact Iff.rfl
      · exact Iff.rfl
    split
    · exact (hreconfigured.trans (.rotate _ a.stream)).lawful hs
    · exact hreconfigured.lawful hs

theorem State.starvationLawful_holdStream (hs : s.starvationLawful) (a : Arriving) : (s.holdStream a).starvationLawful := by
  rcases s.holdStream_cases a with ⟨status, h⟩ | ⟨hstate, h⟩ | ⟨hstate, h⟩ <;> rw [h]
  · exact hs
  · obtain ⟨hnodup, hmem⟩ := hs
    refine ⟨hnodup.erase _, fun k => ?_⟩
    have hstream := s.stream_setStream a.stream { s.stream a.stream with state := .held } k
    show k ∈ s.starved.erase a.stream ↔ ((s.setStream a.stream { s.stream a.stream with state := .held }).stream k).state = .starved
    rw [hnodup.mem_erase_iff, hstream, hmem]
    by_cases hk : k = a.stream <;> simp [hk]
  · refine ((State.StarvedAlike.setStream s a.stream { s.stream a.stream with state := .held } ?_).trans (.reply _ a .ok [])).lawful hs
    rcases hstate with h | h <;> simp [h]

theorem State.starvationLawful_releaseStream (hs : s.starvationLawful) (a : Arriving) : (s.releaseStream a).starvationLawful := by
  rcases s.releaseStream_cases a with h | ⟨hheld, h⟩ <;> rw [h]
  · exact hs
  · refine State.starvationLawful_endRequests (State.StarvedAlike.lawful (s := s) ⟨rfl, fun k => ?_⟩ hs)
    rw [State.unheld_stream]
    split
    · rename_i hk
      rw [hk, hheld]
      dsimp only
      split <;> simp
    · exact Iff.rfl

theorem State.starvationLawful_rotateStream (hs : s.starvationLawful) (a : Arriving) : (s.rotateStream a).starvationLawful := by
  rcases s.rotateStream_cases a with h | ⟨-, h⟩ <;> rw [h]
  · exact hs
  · exact State.starvationLawful_endRequests (((State.StarvedAlike.of_beside (.tailReplied s a)).trans (.rotate _ a.stream)).lawful hs)

theorem State.starvationLawful_unbindStream (hs : s.starvationLawful) (a : Arriving) : (s.unbindStream a).starvationLawful := by
  rcases s.unbindStream_cases a with ⟨status, h⟩ | ⟨hstate, -, -, -, h⟩ <;> rw [h]
  · exact hs
  · have hrotated : s.StarvedAlike ((s.reply a .ok).rotate a.stream) := (State.StarvedAlike.reply s a .ok []).trans (.rotate _ a.stream)
    refine (hrotated.trans (.setStream _ a.stream _ ?_)).lawful hs
    rw [hrotated.2]
    rcases hstate with h | h <;> simp [h, Stream.retired]

theorem State.starvationLawful_issueOn (hs : s.starvationLawful) (l : Nat) : (s.issueOn l).starvationLawful := by
  rcases s.issueOn_cases l with heq | ⟨p, k, id, g, n, v, -, -, -, -, -, -, -, -, -, -, -, hv, heq⟩ <;> rw [heq]
  · exact hs
  · have hunits : s.StarvedAlike v := by
      refine ⟨(agree (π := State.starved) hv.frame).trans rfl, fun j => ?_⟩
      by_cases hj : j = k
      · rw [hj, hv.stream]
        exact Iff.rfl
      · rw [hv.others j hj]
        exact Iff.rfl
    have hafter : v.StarvedAlike (v.afterUnits id n g) := by
      unfold State.afterUnits
      split
      · exact .drain v id .full
      · exact .refl v
    exact State.starvationLawful_endRequests (((hunits.trans hafter).trans (.of_beside (.durablePads _))).lawful hs)

theorem State.StarvedAlike.answering (s : State) (l i : Nat) : s.StarvedAlike (s.answering l i) := ⟨rfl, fun _ => Iff.rfl⟩

theorem State.starvationLawful_takeAnswer (hs : s.starvationLawful) (l : Nat) : (s.takeAnswer l).starvationLawful := by
  rcases s.takeAnswer_cases l with h | ⟨-, h | ⟨i, r, -, h | ⟨why, h⟩⟩⟩ <;> rw [h]
  · exact hs
  · exact hs
  · exact (((State.StarvedAlike.answering s l i).trans (.recordDone _ l r)).trans (.of_frame (State.dumpCheck_frame _))).lawful hs
  · exact State.starvationLawful_endFailure (((State.StarvedAlike.answering s l i).trans (.recordFailed _ l why r)).lawful hs)

theorem State.starvationLawful_expireRecord (hs : s.starvationLawful) (l i : Nat) : (s.expireRecord l i).starvationLawful := by
  rcases s.expireRecord_cases l i with h | ⟨r, -, -, h⟩ <;> rw [h]
  · exact hs
  · have hexpiring : s.StarvedAlike (s.expiring l i r) := ⟨rfl, fun _ => Iff.rfl⟩
    have hexpired : s.StarvedAlike (s.expired l i r) := (hexpiring.trans (.recordFailed _ l .timeout r)).trans (.of_frame (State.updLane_frame _ l _))
    rw [State.expire_eq]
    split
    · exact State.starvationLawful_endFailure ((hexpired.trans (.laneDown _ l .timeout)).lawful hs)
    · exact State.starvationLawful_endFailure (hexpired.lawful hs)

theorem State.starvationLawful_lanefltTo (hs : s.starvationLawful) (l : Nat) (level : Bool) : (s.lanefltTo l level).starvationLawful := by
  rcases s.lanefltTo_cases l level with h | ⟨-, -, -, -, h⟩ <;> rw [h]
  · exact hs
  · have hlevel : s.StarvedAlike (s.setLaneflt l true) := ⟨rfl, fun _ => Iff.rfl⟩
    exact State.starvationLawful_endFailure ((hlevel.trans (.laneDown _ l .link)).lawful hs)

theorem State.starvationLawful_endsBeside (hs : s.starvationLawful) (h : s.EndsBeside t) : t.starvationLawful := by
  rcases h with h | ⟨u, h, rfl⟩
  · exact (State.StarvedAlike.of_beside h.beside).lawful hs
  · exact State.starvationLawful_endRequests ((State.StarvedAlike.of_beside h).lawful hs)

theorem State.starvationLawful_after (hs : s.starvationLawful) (c : Instr) : (s.after c).starvationLawful := by
  have hreset : c = .resetRelease ∨ (∃ r l, c = .resetAssert r l) → (s.after c).starvationLawful := fun hc => by
    rcases s.after_reset_bare hc with hsame | hbare
    · rwa [hsame]
    · refine ⟨hbare.starved ▸ List.nodup_nil, fun k => ?_⟩
      rw [hbare.starved, hbare.stream]
      simp
  cases hkeeps : keepsBooks c with
  | true => exact State.starvationLawful_endsBeside hs (State.after_endsBeside hkeeps s)
  | false =>
    cases c
    case resetAssert r l => exact hreset (.inr ⟨r, l, rfl⟩)
    case resetRelease => exact hreset (.inl rfl)
    case putStream => exact State.starvationLawful_take (act := State.putStream) (fun _ a h => State.starvationLawful_putStream h a) hs
    case holdStream => exact State.starvationLawful_take (act := State.holdStream) (fun _ a h => State.starvationLawful_holdStream h a) hs
    case releaseStream => exact State.starvationLawful_take (act := State.releaseStream) (fun _ a h => State.starvationLawful_releaseStream h a) hs
    case rotateStream => exact State.starvationLawful_take (act := State.rotateStream) (fun _ a h => State.starvationLawful_rotateStream h a) hs
    case unbindStream => exact State.starvationLawful_take (act := State.unbindStream) (fun _ a h => State.starvationLawful_unbindStream h a) hs
    case grantBlocks => exact State.starvationLawful_take (act := State.grantBlocks) (fun _ a h => State.starvationLawful_grantBlocks h a) hs
    case clearPart => exact State.starvationLawful_take (act := State.clearPart) (fun _ a h => State.starvationLawful_clearPart h a) hs
    case issue lane => exact State.starvationLawful_issueOn hs lane.val
    case answer lane => exact State.starvationLawful_takeAnswer hs lane.val
    case expiry lane i => exact State.starvationLawful_expireRecord hs lane.val i
    case laneflt lane level => exact State.starvationLawful_lanefltTo hs lane.val level
    all_goals
      first
      | exact State.StarvedAlike.lawful ⟨s.after_agree _, fun k => by rw [s.after_agree (π := (State.stream · k)) _]⟩ hs
      | cases hkeeps

end

end Sys2Proof.Machine
end

section
/-! The books of the segment manager: what opening, changing and ending segments keeps of them (R83, R85, R89 to R92). -/

namespace Sys2Proof.Machine

open Sys2Proof

section

variable {s t u : State} {a : Arriving} {l k id : Nat} {g : Segment}

/-! ## The same books -/

/-- What the books speak of is the same: the segments, the streams' states, open segments and lane sets, the units in flight, and the streams
that their slots name. -/
structure State.BooksAlike (s t : State) : Prop where
  segments : t.segments = s.segments
  streams : ∀ k, (t.stream k).state = (s.stream k).state ∧ (t.stream k).openSeg = (s.stream k).openSeg ∧ (t.stream k).laneSet = (s.stream k).laneSet
  inflight : ∀ l, (t.lane l).inflight = (s.lane l).inflight
  slots : ∀ l r, r ∈ (s.lane l).inflight → r.kind = .normal → ∀ k ∈ r.slots, (t.slot k).stream = (s.slot k).stream

theorem State.BooksAlike.books (h : s.BooksAlike t) (hs : s.SegmentBooks) (hlanes : t.lanesLawful) (hexist : t.lanesExist) : t.SegmentBooks where
  sorted_segments := h.segments ▸ hs.sorted_segments
  lanes := hlanes
  exist := hexist
  segments := by
    obtain ⟨hcounts, hnormal, hdump⟩ := hs.segments
    refine ⟨fun id g hfind => ?_, fun l r hr hkind => ?_, fun l r hr => ?_⟩
    · have hout : t.outstanding id g = s.outstanding id g := by rw [State.outstanding, h.inflight]; rfl
      rw [hout]
      exact hcounts id g (h.segments ▸ hfind)
    · rw [h.inflight] at hr
      obtain ⟨id, g, hseg, hfind, hlane, hslots⟩ := hnormal l r hr hkind
      exact ⟨id, g, hseg, h.segments ▸ hfind, hlane, fun k hk => (h.slots l r hr hkind k hk).trans (hslots k hk)⟩
    · rw [h.inflight] at hr
      exact hdump l r hr
  openSegments := by
    obtain ⟨hown, hopen, hopened, hstate, hbound⟩ := hs.openSegments
    refine ⟨fun k id hk => ?_, fun id g hfind hcause => ?_, fun k hk => ?_, fun k hk => ?_, fun k hk => ?_⟩
    · obtain ⟨-, hseg, hset⟩ := h.streams k
      rw [h.segments, hset]
      exact hown k id (hseg ▸ hk)
    · rw [(h.streams g.stream).2.1]
      exact hopen id g (h.segments ▸ hfind) hcause
    · rw [(h.streams k).2.1]
      exact hopened k ((h.streams k).1 ▸ hk)
    · rw [(h.streams k).1]
      exact hstate k ((h.streams k).2.1 ▸ hk)
    · exact hbound k ((h.streams k).1 ▸ hk)

/-! ## One stream's context -/

/-- A stream's context may change that keeps its open segment and that segment's lane in its set. -/
theorem State.SegmentBooks.setStream (hs : s.SegmentBooks) (k : Nat) (r : Stream) (hseg : r.openSeg = (s.stream k).openSeg)
    (hset : ∀ id g, r.openSeg = some id → Store.find? s.segments id = some g → r.laneSet.getLsbD g.lane = true)
    (hstate : r.openSeg.isSome = true → r.state = .opened ∨ r.state = .held) (hopened : r.state = .opened → r.openSeg.isSome = true) (hbound : r.state ≠ .unbound → k < 256) : (s.setStream k r).SegmentBooks where
  sorted_segments := hs.sorted_segments
  lanes := hs.lanes
  exist := hs.exist
  segments := hs.segments
  openSegments := by
    obtain ⟨hown, hopen, hopened', hstate', hbound'⟩ := hs.openSegments
    have hsame : ∀ j, ((s.setStream k r).stream j).openSeg = (s.stream j).openSeg := fun j => by
      rw [State.stream_setStream]
      split
      · rename_i hj
        rw [hseg, hj]
      · rfl
    refine ⟨fun j id hj => ?_, fun id g hfind hcause => ?_, fun j hj => ?_, fun j hj => ?_, fun j hj => ?_⟩
    · rw [hsame] at hj
      obtain ⟨g, hfind, hgstream, hcause, hlane⟩ := hown j id hj
      refine ⟨g, hfind, hgstream, hcause, ?_⟩
      rw [State.stream_setStream]
      split
      · rename_i h
        subst h
        exact hset id g (hseg.trans hj) hfind
      · exact hlane
    · rw [hsame]
      exact hopen id g hfind hcause
    · rw [State.stream_setStream] at hj ⊢
      by_cases h : j = k
      · rw [if_pos h] at hj ⊢
        exact hopened hj
      · rw [if_neg h] at hj ⊢
        exact hopened' j hj
    · rw [State.stream_setStream] at hj ⊢
      by_cases h : j = k
      · rw [if_pos h] at hj ⊢
        exact hstate hj
      · rw [if_neg h] at hj ⊢
        exact hstate' j hj
    · rw [State.stream_setStream] at hj
      by_cases h : j = k
      · rw [if_pos h] at hj
        exact h ▸ hbound hj
      · rw [if_neg h] at hj
        exact hbound' j hj

/-! ## Opening a segment (R85, R88) -/

/-- No record names a segment that is not in use. -/
theorem State.SegmentBooks.not_named (hs : s.SegmentBooks) (hfree : Store.find? s.segments id = none) (l : Nat) :
    ((s.lane l).inflight.filter fun r => r.seg == some id) = [] := by
  obtain ⟨-, hnormal, hdump⟩ := hs.segments
  refine List.filter_eq_nil_iff.2 fun r hr hseg => ?_
  have hseg : r.seg = some id := by simpa using hseg
  cases hkind : r.kind with
  | normal =>
    obtain ⟨id', g, hseg', hfind, -⟩ := hnormal l r hr hkind
    rw [hseg] at hseg'
    cases hseg'
    rw [hfree] at hfind
    cases hfind
  | dump =>
    rw [hdump l r hr hkind] at hseg
    cases hseg

theorem State.SegmentBooks.lane_lt (hs : s.SegmentBooks) {g : Grant} {rest : List Grant} (hnormal : (s.lane l).normal = g :: rest) : l < 8 := by
  by_contra hl
  rw [hs.exist.1 l (Nat.le_of_not_lt hl)] at hnormal
  cases hnormal

/-- A grant opens a segment for a stream that has none, on a lane of its set. -/
theorem State.SegmentBooks.openFrom (hs : s.SegmentBooks) (hk : k < 256) (hnone : (s.stream k).openSeg = none)
    (hset : (s.stream k).laneSet.getLsbD l = true) {g : Grant} {rest : List Grant} (hnormal : (s.lane l).normal = g :: rest) :
    (s.openFrom k l).SegmentBooks := by
  have hfree : Store.find? s.segments s.nextSegmentId = none :=
    State.nextSegmentId_free (Nat.lt_of_le_of_lt hs.segments_length (by decide))
  have hid : s.nextSegmentId < 65536 := freeId_lt _ _ _
  have hlane := State.openFrom_lane (k := k) hnormal
  have hstream := State.openFrom_stream (k := k) hnormal
  have hsegments := State.openFrom_segments (k := k) hnormal
  have hslot : ∀ j, (s.openFrom k l).slot j = s.slot j := fun j => (agree (π := (State.slot · j)) (s.openFrom_frame k l) :)
  have hdump : (s.openFrom k l).dump = s.dump := (agree (π := State.dump) (s.openFrom_frame k l) :)
  have hl := hs.lane_lt hnormal
  have hlawful := hs.lanes l
  have hdraws : (s.lane l).Draws ((s.lane l).drawn rest) := Lane.draws_drawn (hnormal ▸ List.suffix_cons g rest)
  generalize s.openFrom k l = t at *
  generalize s.nextSegmentId = new at *
  have hinflight : ∀ j, (t.lane j).inflight = (s.lane j).inflight := fun j => by
    rw [hlane]
    split
    · rename_i h
      rw [h]
      rfl
    · rfl
  have hfind : ∀ id, Store.find? t.segments id
      = if id = new then some { stream := k, lane := l, block := g.block, capacity := g.capacity } else Store.find? s.segments id := fun id => by
    rw [hsegments]
    exact Store.find?_insert ..
  obtain ⟨hcounts, hrecords, hdumps⟩ := hs.segments
  obtain ⟨hown, hopen, hopened, hstate, hbound⟩ := hs.openSegments
  have hout : ∀ id g, t.outstanding id g = s.outstanding id g := fun id g => by
    rw [State.outstanding, hinflight]
    rfl
  have hold : ∀ id g, Store.find? s.segments id = some g → Store.find? t.segments id = some g := fun id g h => by
    rw [hfind, if_neg]
    · exact h
    · rintro rfl
      rw [hfree] at h
      cases h
  refine ⟨?_, fun j => ?_, ⟨fun id q hq => ?_, fun j r hr hkind => ?_, fun j r hr => ?_⟩,
    ⟨fun j id hj => ?_, fun id q hq hcause => ?_, fun j hj => ?_, fun j hj => ?_, fun j hj => ?_⟩, fun j hj => ?_, ?_⟩
  · rw [hsegments]
    exact Store.sorted_insert hs.sorted_segments _ _
  · rw [hlane]
    split
    · exact Lane.lawful_drawn hlawful hdraws
    · exact hs.lanes j
  · rw [hout]
    rw [hfind] at hq
    by_cases h : id = new
    · rw [if_pos h] at hq
      cases hq
      have hcapacity := (hlawful.2.2.2.2.2.2.2.1 g (by simp [hnormal])).1
      have hzero : s.outstanding id { stream := k, lane := l, block := g.block, capacity := g.capacity } = 0 := by
        rw [State.outstanding, h, hs.not_named hfree]
        rfl
      rw [hzero, h]
      exact ⟨hid, Nat.zero_le _, rfl, fun _ => hcapacity, fun hne => absurd rfl hne⟩
    · rw [if_neg h] at hq
      exact hcounts id q hq
  · rw [hinflight] at hr
    obtain ⟨id, q, hseg, hq, hqlane, hslots⟩ := hrecords j r hr hkind
    exact ⟨id, q, hseg, hold id q hq, hqlane, fun i hi => (congrArg Slot.stream (hslot i)).trans (hslots i hi)⟩
  · rw [hinflight] at hr
    exact hdumps j r hr
  · rw [hstream] at hj
    by_cases h : j = k
    · rw [if_pos h] at hj
      cases hj
      refine ⟨_, (hfind new).trans (if_pos rfl), h.symm, rfl, ?_⟩
      rw [hstream, if_pos h]
      exact hset
    · rw [if_neg h] at hj
      obtain ⟨q, hq, hqstream, hcause, hqset⟩ := hown j id hj
      rw [hstream, if_neg h]
      exact ⟨q, hold id q hq, hqstream, hcause, hqset⟩
  · rw [hfind] at hq
    by_cases h : id = new
    · rw [if_pos h] at hq
      cases hq
      rw [hstream, if_pos rfl, h]
    · rw [if_neg h] at hq
      have hqopen := hopen id q hq hcause
      rw [hstream, if_neg]
      · exact hqopen
      · intro hqk
        rw [hqk, hnone] at hqopen
        cases hqopen
  · rw [hstream] at hj ⊢
    by_cases h : j = k
    · rw [if_pos h]
      rfl
    · rw [if_neg h] at hj ⊢
      exact hopened j hj
  · rw [hstream] at hj ⊢
    by_cases h : j = k
    · rw [if_pos h]
      exact .inl rfl
    · rw [if_neg h] at hj ⊢
      exact hstate j hj
  · rw [hstream] at hj
    by_cases h : j = k
    · exact h ▸ hk
    · rw [if_neg h] at hj
      exact hbound j hj
  · rw [hlane, if_neg (by omega)]
    exact hs.exist.1 j hj
  · rw [hdump]
    exact hs.exist.2

theorem State.BooksAlike.of_frame {m : State → State} (h : m t = m s) (hsegments : ∀ s, (m s).segments = s.segments := by intro _; rfl)
    (hstreams : ∀ s, (m s).streams = s.streams := by intro _; rfl) (hlanes : ∀ s, (m s).lanes = s.lanes := by intro _; rfl)
    (hslots : ∀ s, (m s).slots = s.slots := by intro _; rfl) : s.BooksAlike t where
  segments := agree h hsegments
  streams k := by
    rw [State.stream, show t.streams = s.streams from agree h hstreams]
    exact ⟨rfl, rfl, rfl⟩
  inflight l := by
    rw [State.lane, show t.lanes = s.lanes from agree h hlanes]
    rfl
  slots l r _ _ k _ := by
    rw [State.slot, show t.slots = s.slots from agree h hslots]
    rfl

/-- What a frame leaves of the tables that the books speak of keeps the books. -/
theorem State.SegmentBooks.of_frame {m : State → State} (hs : s.SegmentBooks) (h : m t = m s)
    (hsegments : ∀ s, (m s).segments = s.segments := by intro _; rfl) (hstreams : ∀ s, (m s).streams = s.streams := by intro _; rfl)
    (hlanes : ∀ s, (m s).lanes = s.lanes := by intro _; rfl) (hslots : ∀ s, (m s).slots = s.slots := by intro _; rfl)
    (htaken : ∀ s, (m s).dump.taken = s.dump.taken := by intro _; rfl) : t.SegmentBooks := by
  have hlane : ∀ l, t.lane l = s.lane l := fun l => by
    rw [State.lane, show t.lanes = s.lanes from agree h hlanes]
    rfl
  refine (State.BooksAlike.of_frame h hsegments hstreams hlanes hslots).books hs (fun l => hlane l ▸ hs.lanes l) ⟨fun l hl => ?_, ?_⟩
  · rw [hlane]
    exact hs.exist.1 l hl
  · rw [show t.dump.taken = s.dump.taken from agree (π := fun s => s.dump.taken) h htaken]
    exact hs.exist.2

theorem State.SegmentBooks.openSeg_of_idle (hs : s.SegmentBooks) (hidle : (s.stream k).state = .idle ∨ (s.stream k).state = .starved) :
    (s.stream k).openSeg = none := by
  obtain ⟨-, -, -, hstate, -⟩ := hs.openSegments
  by_contra hopen
  rcases hstate k (Option.isSome_iff_ne_none.2 hopen) with h | h <;> rcases hidle with h' | h' <;> rw [h] at h' <;> cases h'

theorem State.SegmentBooks.starve (hs : s.SegmentBooks) (hk : k < 256) (hidle : (s.stream k).state = .idle) : (s.starve k).SegmentBooks := by
  have hnone := hs.openSeg_of_idle (.inl hidle)
  have hclosed : ({ s.stream k with state := .starved } : Stream).openSeg = none := hnone
  have hset := hs.setStream k { s.stream k with state := .starved } rfl (fun id g h => by rw [hclosed] at h; cases h)
    (fun h => by rw [hclosed] at h; cases h) (fun h => by cases h) fun _ => hk
  exact ⟨hset.sorted_segments, hset.lanes, hset.segments, hset.openSegments, hset.exist⟩

theorem State.SegmentBooks.requestIfDue (hs : s.SegmentBooks) (hk : k < 256) : (s.requestIfDue k).SegmentBooks := by
  unfold State.requestIfDue
  split
  · rename_i hdue
    obtain ⟨hidle, -⟩ := hdue
    unfold State.requestSegment
    rcases s.laneFor_cases k with ⟨l, i, g, rest, hlane, -, -, hon, -, hnormal, -⟩ | ⟨hlane, -⟩ <;> rw [hlane]
    · exact hs.openFrom hk (hs.openSeg_of_idle (.inl hidle)) hon hnormal
    · exact hs.starve hk hidle
  · exact hs

/-- The end of an event keeps the books (R56, R85, R86). -/
theorem State.SegmentBooks.endRequests (hs : s.SegmentBooks) : s.endRequests.SegmentBooks := by
  have hswept : s.segmentRequests.SegmentBooks := by
    unfold State.segmentRequests
    split
    · have hfold : ∀ (ks : List Nat) (u : State), (∀ k ∈ ks, k < 256) → u.SegmentBooks → (ks.foldl State.requestIfDue u).SegmentBooks := by
        intro ks
        induction ks with
        | nil => exact fun u _ hu => hu
        | cons k ks ih => exact fun u hks hu => ih _ (fun j hj => hks j (List.mem_cons_of_mem _ hj)) (hu.requestIfDue (hks k List.mem_cons_self))
      exact hfold _ _ (fun k hk => List.mem_range.1 hk) hs
    · exact hs
  exact hswept.of_frame (State.poolLowNotices_frame _)

/-- The service of the oldest listed stream (R88). -/
theorem State.SegmentBooks.serveOne {g : Grant} {gs : List Grant} (hs : s.SegmentBooks) (hk : (s.stream k).state = .starved)
    (hon : (s.stream k).onLane l = true) (hnormal : (s.lane l).normal = g :: gs) : (s.serveOne k l).SegmentBooks := by
  obtain ⟨-, -, -, -, hbound⟩ := hs.openSegments
  have hlisted : ({ s with starved := s.starved.erase k } : State).SegmentBooks := ⟨hs.sorted_segments, hs.lanes, hs.segments, hs.openSegments, hs.exist⟩
  exact hlisted.openFrom (hbound k (by rw [hk]; decide)) (hs.openSeg_of_idle (.inr hk)) hon hnormal

theorem State.SegmentBooks.serve (l n : Nat) (hs : s.SegmentBooks) (hstarved : s.starvationLawful) : (State.serve l n s).SegmentBooks := by
  induction n generalizing s with
  | zero => exact hs
  | succ n ih =>
    unfold State.serve
    split
    · rename_i hcan
      split
      · exact hs
      · rename_i k holdest
        cases hnormal : (s.lane l).normal with
        | nil => simp [Lane.canGrant, hnormal] at hcan
        | cons g gs =>
          have hmem := List.mem_of_find?_eq_some holdest
          exact ih (hs.serveOne ((hstarved.2 k).1 hmem) (List.find?_some (p := fun k => (s.stream k).onLane l) holdest) hnormal) (State.starvationLawful_serveOne hstarved hnormal)
    · exact hs

/-! ## Units and segments that leave (R89 to R92) -/

/-- The table after segments have moved on, and closed where that left them DRAINING without a unit. -/
structure State.SegmentsMove (s t : State) (f : Nat → Segment → Segment) : Prop where
  table : ∀ id, Store.find? t.segments id = (Store.find? s.segments id).bind fun g => (f id g).staying
  place : ∀ id g, Store.find? s.segments id = some g → (f id g).stream = g.stream ∧ (f id g).lane = g.lane
    ∧ (f id g).capacity = g.capacity ∧ (f id g).issued = g.issued
  counts : ∀ id g, Store.find? s.segments id = some g → (f id g).done + (f id g).failed + t.outstanding id g = g.issued
  causes : ∀ id g, Store.find? s.segments id = some g → (f id g).endCause = none → g.endCause = none

/-- The streams' open segments follow those that stay OPEN. -/
structure State.OpensMove (s t : State) (f : Nat → Segment → Segment) : Prop where
  kept : ∀ k id, (t.stream k).openSeg = some id → (s.stream k).openSeg = some id ∧ (t.stream k).laneSet = (s.stream k).laneSet
    ∧ ∀ g, Store.find? s.segments id = some g → (f id g).endCause = none
  opens : ∀ id g, Store.find? s.segments id = some g → (f id g).endCause = none → (t.stream g.stream).openSeg = some id
  opened : ∀ k, (t.stream k).state = .opened → (t.stream k).openSeg.isSome = true
  state : ∀ k, (t.stream k).openSeg.isSome = true → (t.stream k).state = .opened ∨ (t.stream k).state = .held
  bound : ∀ k, (t.stream k).state ≠ .unbound → k < 256

/-- Segments that move on with the units that leave keep the books. -/
theorem State.SegmentBooks.move {f : Nat → Segment → Segment} (hs : s.SegmentBooks) (h : s.SegmentsMove t f) (ho : s.OpensMove t f)
    (hrecords : ∀ l r, r ∈ (t.lane l).inflight → r ∈ (s.lane l).inflight)
    (hslots : ∀ l r, r ∈ (t.lane l).inflight → r.kind = .normal → ∀ k ∈ r.slots, (t.slot k).stream = (s.slot k).stream)
    (hsorted : Store.sorted t.segments = true) (hlanes : t.lanesLawful) (hexist : t.lanesExist) : t.SegmentBooks := by
  obtain ⟨hcounts, hnormal, hdump⟩ := hs.segments
  obtain ⟨hown, hopen, -, -, -⟩ := hs.openSegments
  have hfound : ∀ id q, Store.find? t.segments id = some q →
      ∃ g, Store.find? s.segments id = some g ∧ q = f id g ∧ ¬ (f id g).gone := fun id q hq => by
    rw [h.table, Option.bind_eq_some_iff] at hq
    obtain ⟨g, hg, hstays⟩ := hq
    obtain ⟨hstay, hsame⟩ := Segment.staying_eq_some.1 hstays
    exact ⟨g, hg, hsame.symm, hstay⟩
  have hstays : ∀ id g, Store.find? s.segments id = some g → ¬ (f id g).gone → Store.find? t.segments id = some (f id g) := fun id g hg hstay => by
    rw [h.table, hg, Option.bind_some]
    exact Segment.staying_eq_some.2 ⟨hstay, rfl⟩
  refine ⟨hsorted, hlanes, ⟨fun id q hq => ?_, fun l r hr hkind => ?_, fun l r hr => hdump l r (hrecords l r hr)⟩,
    ⟨fun k id hk => ?_, fun id q hq hcause => ?_, ho.opened, ho.state, ho.bound⟩, hexist⟩
  · obtain ⟨g, hg, rfl, hstay⟩ := hfound id q hq
    obtain ⟨-, hlane, hcapacity, hissued⟩ := h.place id g hg
    obtain ⟨hid, hwithin, -, hbelow, -⟩ := hcounts id g hg
    have hcount := h.counts id g hg
    have hout : t.outstanding id (f id g) = t.outstanding id g := by rw [State.outstanding, hlane]; rfl
    rw [hout, hissued, hcapacity]
    refine ⟨hid, hwithin, hcount, fun hcause => hbelow (h.causes id g hg hcause), fun hcause => ?_⟩
    have hne : (f id g).done + (f id g).failed ≠ g.issued := fun heq => hstay ⟨hcause, hissued ▸ heq⟩
    omega
  · obtain ⟨id, g, hseg, hg, hlane, hstream⟩ := hnormal l r (hrecords l r hr) hkind
    obtain ⟨hfstream, hflane, -, hissued⟩ := h.place id g hg
    have hpos : 0 < t.outstanding id g :=
      List.length_pos_of_mem (List.mem_filter.2 ⟨hlane.symm ▸ hr, by simp [hseg]⟩)
    have hcount := h.counts id g hg
    have hstay : ¬ (f id g).gone := fun ⟨_, hsettled⟩ => by
      rw [hissued] at hsettled
      omega
    exact ⟨id, f id g, hseg, hstays id g hg hstay, hflane.trans hlane, fun k hk => (hslots l r hr hkind k hk).trans ((hstream k hk).trans hfstream.symm)⟩
  · obtain ⟨hseg, hset, hcause⟩ := ho.kept k id hk
    obtain ⟨g, hg, hstream, -, hlane⟩ := hown k id hseg
    obtain ⟨hfstream, hflane, -, -⟩ := h.place id g hg
    refine ⟨f id g, hstays id g hg fun hgone => hgone.1 (hcause g hg), hfstream.trans hstream, hcause g hg, ?_⟩
    rw [hset, hflane]
    exact hlane
  · obtain ⟨g, hg, rfl, -⟩ := hfound id q hq
    rw [(h.place id g hg).1]
    exact ho.opens id g hg hcause

end

end Sys2Proof.Machine
end

section
/-! The books of the segment manager through the stream requests, GRANT-BLOCKS, CLEAR-PART and ISSUE. -/

namespace Sys2Proof.Machine

open Sys2Proof

section

variable {s t u : State} {a : Arriving} {l k id : Nat} {g : Segment}

/-! ## Ending a stream's open segment (R57, R91, R92) -/

theorem State.SegmentBooks.openSegment (hs : s.SegmentBooks) (hk : (s.stream k).openSeg = some id) : ∃ g, Store.find? s.segments id = some g
    ∧ s.openSegment (s.stream k) = some (id, g) ∧ g.stream = k ∧ g.endCause = none ∧ (s.stream k).laneSet.getLsbD g.lane = true := by
  obtain ⟨g, hfind, hstream, hcause, hset⟩ := hs.openSegments.1 k id hk
  exact ⟨g, hfind, State.openSegment_iff.2 ⟨hk, hfind⟩, hstream, hcause, hset⟩

theorem Stream.released_state (t : Stream) : t.released.state = if t.state = .opened then .idle else t.state := rfl

theorem State.rotatedOff_sorted (hsorted : Store.sorted s.segments = true) : Store.sorted (s.rotatedOff k id g).segments = true := by
  unfold State.rotatedOff
  dsimp only
  split
  · exact Store.sorted_erase hsorted _
  · exact Store.sorted_insert hsorted _ _

theorem State.SegmentBooks.rotatedOff (hs : s.SegmentBooks) (hk : (s.stream k).openSeg = some id) (hfind : Store.find? s.segments id = some g)
    (hown : g.stream = k) : (s.rotatedOff k id g).SegmentBooks := by
  obtain ⟨hcounts, -, -⟩ := hs.segments
  obtain ⟨-, hopen, hopened, hstate, hbound⟩ := hs.openSegments
  have hstream := s.rotatedOff_stream k id g
  have houtcome := s.rotatedOff_outcome k id g
  have hothers := fun i (hi : i ≠ id) => s.rotatedOff_find k id g hi
  have hsorted := State.rotatedOff_sorted (k := k) (id := id) (g := g) hs.sorted_segments
  have hlane : ∀ j, (s.rotatedOff k id g).lane j = s.lane j := fun _ => rfl
  have hslot : ∀ j, (s.rotatedOff k id g).slot j = s.slot j := fun _ => rfl
  have hdump : (s.rotatedOff k id g).dump = s.dump := rfl
  generalize s.rotatedOff k id g = t at *
  have hdrained : (t.stream k).openSeg = none := by rw [hstream, if_pos rfl]; rfl
  refine hs.move (f := fun i q => if i = id then q.rotated else q)
    ⟨fun i => ?_, fun i q hq => ?_, fun i q hq => ?_, fun i q hq hnone => ?_⟩
    ⟨fun j i hj => ?_, fun i q hq hnone => ?_, fun j hj => ?_, fun j hj => ?_, fun j hj => ?_⟩
    (fun j r hr => hlane j ▸ hr) (fun j r _ _ i _ => congrArg Slot.stream (hslot i)) hsorted (fun j => hlane j ▸ hs.lanes j)
    ⟨fun j hj => (hlane j).trans (hs.exist.1 j hj), hdump ▸ hs.exist.2⟩
  · by_cases hi : i = id
    · subst hi
      rw [hfind, Option.bind_some, if_pos rfl]
      by_cases hsettled : g.done + g.failed = g.issued
      · rw [if_pos hsettled] at houtcome
        rw [houtcome.1]
        exact (if_pos ⟨by simp [Segment.rotated], hsettled⟩).symm
      · rw [if_neg hsettled] at houtcome
        rw [houtcome.1]
        exact (if_neg fun hgone => hsettled hgone.2).symm
    · rw [hothers i hi]
      cases hq : Store.find? s.segments i with
      | none => rfl
      | some q =>
        have hstays : ¬ q.gone := fun ⟨hended, hsettled⟩ => absurd hsettled ((hcounts i q hq).2.2.2.2 hended).ne
        rw [Option.bind_some, if_neg hi]
        exact (if_neg hstays).symm
  · split <;> exact ⟨rfl, rfl, rfl, rfl⟩
  · have hout : t.outstanding i q = s.outstanding i q := by rw [State.outstanding, hlane]; rfl
    have hcount := (hcounts i q hq).2.2.1
    rw [hout]
    split <;> exact hcount
  · split at hnone
    · cases hnone
    · exact hnone
  · by_cases hjk : j = k
    · rw [hjk, hdrained] at hj
      cases hj
    · rw [hstream, if_neg hjk] at hj ⊢
      refine ⟨hj, rfl, fun q hq => ?_⟩
      obtain ⟨q', hq', hqstream, hqcause, -⟩ := hs.openSegments.1 j i hj
      cases hq.symm.trans hq'
      rw [if_neg]
      · exact hqcause
      · rintro rfl
        cases hfind.symm.trans hq
        exact hjk (hqstream.symm.trans hown)
  · by_cases hi : i = id
    · simp [hi, Segment.rotated] at hnone
    · rw [if_neg hi] at hnone
      have hqopen := hopen i q hq hnone
      rw [hstream, if_neg]
      · exact hqopen
      · intro hqk
        rw [hqk, hk] at hqopen
        exact hi (Option.some.inj hqopen).symm
  · rw [hstream] at hj ⊢
    by_cases hjk : j = k
    · rw [if_pos hjk, Stream.released_state] at hj
      split at hj
      · cases hj
      · exact absurd hj ‹_›
    · rw [if_neg hjk] at hj ⊢
      exact hopened j hj
  · rw [hstream] at hj ⊢
    by_cases hjk : j = k
    · rw [if_pos hjk] at hj
      cases hj
    · rw [if_neg hjk] at hj ⊢
      exact hstate j hj
  · rw [hstream] at hj
    by_cases hjk : j = k
    · subst hjk
      refine hbound j fun hunbound => ?_
      rcases hstate j (hk ▸ rfl) with h | h <;> rw [h] at hunbound <;> cases hunbound
    · rw [if_neg hjk] at hj
      exact hbound j hj

theorem State.SegmentBooks.rotate (hs : s.SegmentBooks) (k : Nat) : (s.rotate k).SegmentBooks := by
  cases hk : (s.stream k).openSeg with
  | none =>
    rw [State.rotate_of_none hk]
    exact hs
  | some id =>
    obtain ⟨g, hfind, hopen, hown, hcause, -⟩ := hs.openSegment hk
    rw [State.rotate_of_open hopen hcause hown]
    exact hs.rotatedOff hk hfind hown

theorem State.SegmentBooks.rotate_openSeg (hs : s.SegmentBooks) (k : Nat) : ((s.rotate k).stream k).openSeg = none := by
  cases hk : (s.stream k).openSeg with
  | none =>
    rw [State.rotate_of_none hk]
    exact hk
  | some id =>
    obtain ⟨g, -, hopen, hown, hcause, -⟩ := hs.openSegment hk
    rw [State.rotate_of_open hopen hcause hown, State.rotatedOff_stream, if_pos rfl]
    rfl

/-! ## The stream requests -/

theorem State.SegmentBooks.reply (hs : s.SegmentBooks) (a : Arriving) (status : Status) (body : List Byte) : (s.reply a status body).SegmentBooks :=
  hs.of_frame (s.reply_frame a status body)

theorem State.SegmentBooks.bound_lt (hs : s.SegmentBooks) (hk : (s.stream k).state ≠ .unbound) : k < 256 := hs.openSegments.2.2.2.2 k hk

/-- The open segment's lane stays in a set that does not change. -/
theorem State.SegmentBooks.in_set (hs : s.SegmentBooks) {r : Stream} (hseg : r.openSeg = (s.stream k).openSeg) (hset : r.laneSet = (s.stream k).laneSet)
    (id : Nat) (g : Segment) (hid : r.openSeg = some id) (hfind : Store.find? s.segments id = some g) : r.laneSet.getLsbD g.lane = true := by
  obtain ⟨g', hfind', -, -, -, hlane⟩ := hs.openSegment (hseg ▸ hid)
  cases hfind.symm.trans hfind'
  exact hset ▸ hlane

theorem State.SegmentBooks.holdStream (hs : s.SegmentBooks) (a : Arriving) : (s.holdStream a).SegmentBooks := by
  have hheld : ∀ hactive : (s.stream a.stream).state ≠ .unbound, (s.setStream a.stream { s.stream a.stream with state := .held }).SegmentBooks :=
    fun hactive => hs.setStream a.stream _ rfl (hs.in_set rfl rfl) (fun _ => .inr rfl) (fun h => by cases h) fun _ => hs.bound_lt hactive
  rcases s.holdStream_cases a with ⟨status, h⟩ | ⟨hstate, h⟩ | ⟨hstate, h⟩ <;> rw [h]
  · exact hs.reply a _ _
  · have hset := hheld (by rw [hstate]; decide)
    exact ⟨hset.sorted_segments, hset.lanes, hset.segments, hset.openSegments, hset.exist⟩
  · exact (hheld (by rcases hstate with h | h <;> rw [h] <;> decide)).reply a _ _

theorem State.SegmentBooks.releaseStream (hs : s.SegmentBooks) (a : Arriving) : (s.releaseStream a).SegmentBooks := by
  rcases s.releaseStream_cases a with h | ⟨hheld, h⟩ <;> rw [h]
  · exact hs.reply a _ _
  · have hset := hs.setStream a.stream { s.stream a.stream with state := if (s.stream a.stream).openSeg.isSome then .opened else .idle } rfl
      (hs.in_set rfl rfl) (fun hsome => .inl (if_pos hsome)) (fun hopened => by
        dsimp only at hopened
        split at hopened
        · assumption
        · cases hopened) fun _ => hs.bound_lt (by rw [hheld]; decide)
    exact (show (s.unheld a).SegmentBooks from hset.reply a .ok []).endRequests

/-- The stream whose segment is ended is configured. -/
def State.endedReconfigured (s : State) (a : Arriving) (id : Nat) (g : Segment) : State :=
  (s.rotatedOff a.stream id g).setStream a.stream (((s.rotatedOff a.stream id g).stream a.stream).configured a)

theorem State.rotatedOff_lane (s : State) (k id : Nat) (g : Segment) (l : Nat) : (s.rotatedOff k id g).lane l = s.lane l := rfl

theorem State.rotatedOff_slot (s : State) (k id : Nat) (g : Segment) (j : Nat) : (s.rotatedOff k id g).slot j = s.slot j := rfl

theorem State.rotatedOff_dump (s : State) (k id : Nat) (g : Segment) : (s.rotatedOff k id g).dump = s.dump := rfl

theorem State.reconfigured_lane (s : State) (a : Arriving) (l : Nat) : (s.reconfigured a).lane l = s.lane l := rfl

theorem State.reconfigured_slot (s : State) (a : Arriving) (j : Nat) : (s.reconfigured a).slot j = s.slot j := rfl

theorem State.reconfigured_segments (s : State) (a : Arriving) : (s.reconfigured a).segments = s.segments := rfl

theorem State.endedReconfigured_lane (s : State) (a : Arriving) (id : Nat) (g : Segment) (l : Nat) :
    (s.endedReconfigured a id g).lane l = s.lane l := rfl

theorem State.endedReconfigured_slot (s : State) (a : Arriving) (id : Nat) (g : Segment) (j : Nat) :
    (s.endedReconfigured a id g).slot j = s.slot j := rfl

theorem State.rotatedOff_segments (s : State) (k id : Nat) (g : Segment) : (s.rotatedOff k id g).segments
    = if g.done + g.failed = g.issued then Store.erase s.segments id else Store.insert s.segments id g.rotated := rfl

theorem State.endedReconfigured_segments (s : State) (a : Arriving) (id : Nat) (g : Segment) :
    (s.endedReconfigured a id g).segments = (s.rotatedOff a.stream id g).segments := rfl

/-- Ending the segment of a stream that is configured, and configuring the stream whose segment is ended, differ in the parcels alone. -/
theorem State.booksAlike_reconfigured (s : State) (a : Arriving) (id : Nat) (g : Segment) :
    (s.endedReconfigured a id g).BooksAlike ((s.reconfigured a).rotatedOff a.stream id g) where
  segments := by rw [State.rotatedOff_segments, State.endedReconfigured_segments, State.rotatedOff_segments, State.reconfigured_segments]
  streams j := by
    rw [State.rotatedOff_stream, State.endedReconfigured, State.stream_setStream, State.reconfigured_stream, State.reconfigured_stream,
      State.rotatedOff_stream, State.rotatedOff_stream, if_pos rfl, if_pos rfl]
    by_cases hj : j = a.stream
    · rw [if_pos hj, if_pos hj]
      exact ⟨rfl, rfl, rfl⟩
    · rw [if_neg hj, if_neg hj, if_neg hj, if_neg hj]
      exact ⟨rfl, rfl, rfl⟩
  inflight l := by rw [State.rotatedOff_lane, State.reconfigured_lane, State.endedReconfigured_lane]
  slots _ _ _ _ k _ := by rw [State.rotatedOff_slot, State.reconfigured_slot, State.endedReconfigured_slot]

theorem State.SegmentBooks.putStream (hs : s.SegmentBooks) (hunbound : (s.stream a.stream).state = .unbound → (s.stream a.stream).openSeg = none) :
    (s.putStream a).SegmentBooks := by
  rcases s.putStream_cases a with ⟨status, h⟩ | ⟨hstate, h⟩ | ⟨hstate, h⟩ <;> rw [h]
  · exact hs.reply a _ _
  · have hnone : ((s.stream a.stream).bind a).openSeg = none := hunbound hstate
    have hset := hs.setStream a.stream ((s.stream a.stream).bind a) rfl (fun id g h => by rw [hnone] at h; cases h)
      (fun h => by rw [hnone] at h; cases h) (fun h => by cases h) fun _ => Arriving.stream_lt a
    exact hset.reply a .ok []
  · have hk := hs.bound_lt (k := a.stream) (by rw [hstate]; decide)
    have hconfigured : ((s.stream a.stream).configured a).state = .held := hstate
    by_cases hmoved : s.movedOff a.stream a.laneMask = true
    · rw [if_pos hmoved]
      have hrotated := hs.rotate a.stream
      have hnone := hs.rotate_openSeg a.stream
      cases hopenSeg : (s.stream a.stream).openSeg with
      | none =>
        rw [State.movedOff, State.openSegment_of_none hopenSeg] at hmoved
        cases hmoved
      | some id =>
        obtain ⟨g, hfind, hopen, hown, hcause, -⟩ := hs.openSegment hopenSeg
        have hopen' : (s.reconfigured a).openSegment ((s.reconfigured a).stream a.stream) = some (id, g) := by
          refine State.openSegment_iff.2 ⟨?_, hfind⟩
          rw [State.reconfigured_stream, if_pos rfl]
          exact hopenSeg
        have hset := hs.rotatedOff hopenSeg hfind hown
        have hoff : ((s.rotatedOff a.stream id g).stream a.stream).openSeg = none := by
          rw [State.rotatedOff_stream, if_pos rfl]
          rfl
        have hoffState : ((s.rotatedOff a.stream id g).stream a.stream).state = .held := by
          rw [State.rotatedOff_stream, if_pos rfl, Stream.released_state, hstate]
          rfl
        have hdone := hset.setStream a.stream (((s.rotatedOff a.stream id g).stream a.stream).configured a) rfl
          (fun i q h => by rw [show (((s.rotatedOff a.stream id g).stream a.stream).configured a).openSeg = _ from hoff] at h; cases h)
          (fun h => by rw [show (((s.rotatedOff a.stream id g).stream a.stream).configured a).openSeg = _ from hoff] at h; cases h)
          (fun h => by rw [show (((s.rotatedOff a.stream id g).stream a.stream).configured a).state = _ from hoffState] at h; cases h) fun _ => hk
        rw [State.rotate_of_open hopen' hcause hown]
        have halike := s.booksAlike_reconfigured a id g
        have hlane : ∀ l, ((s.reconfigured a).rotatedOff a.stream id g).lane l = s.lane l := fun l => by
          rw [State.rotatedOff_lane, State.reconfigured_lane]
        have hdump : ((s.reconfigured a).rotatedOff a.stream id g).dump = s.dump := State.rotatedOff_dump _ _ _ _
        generalize (s.reconfigured a).rotatedOff a.stream id g = t at *
        refine halike.books hdone (fun l => ?_) ⟨fun l hl => ?_, ?_⟩
        · rw [hlane]
          exact hs.lanes l
        · rw [hlane]
          exact hs.exist.1 l hl
        · rw [hdump]
          exact hs.exist.2
    · rw [if_neg hmoved]
      have hset := hs.setStream a.stream ((s.stream a.stream).configured a) rfl (fun id g hid hfind => ?_) (fun hsome => .inr hconfigured)
        (fun h => by rw [hconfigured] at h; cases h) fun _ => hk
      · exact (show (s.reconfigured a).SegmentBooks from hset.reply a .ok [])
      · have hopen : s.openSegment (s.stream a.stream) = some (id, g) := State.openSegment_iff.2 ⟨hid, hfind⟩
        rw [State.movedOff, hopen] at hmoved
        have hlane : a.laneMask.getLsbD g.lane = true := by simpa using hmoved
        exact hlane

theorem State.SegmentBooks.unbindStream (hs : s.SegmentBooks) (a : Arriving) : (s.unbindStream a).SegmentBooks := by
  rcases s.unbindStream_cases a with ⟨status, h⟩ | ⟨-, -, -, -, h⟩ <;> rw [h]
  · exact hs.reply a _ _
  · have hrotated := (hs.reply a .ok []).rotate a.stream
    have hnone := (hs.reply a .ok []).rotate_openSeg a.stream
    exact hrotated.setStream a.stream _ hnone.symm (fun id g h => by cases h) (fun h => by cases h) (fun h => by cases h) fun h => absurd rfl h

/-- A state beside the books, whose slots in flight name the streams that they named. -/
theorem State.SegmentBooks.beside (hs : s.SegmentBooks) (h : s.Beside u)
    (hslots : ∀ l r, r ∈ (s.lane l).inflight → r.kind = .normal → ∀ k ∈ r.slots, (u.slot k).stream = (s.slot k).stream) : u.SegmentBooks := by
  refine State.BooksAlike.books ⟨h.segments, fun k => ⟨h.state k, h.openSeg k, h.laneSet k⟩, fun l => by rw [h.lane], hslots⟩ hs
    (fun l => h.lane l ▸ hs.lanes l) ⟨fun l hl => (h.lane l).trans (hs.exist.1 l hl), ?_⟩
  rw [h.dump]
  exact hs.exist.2

theorem State.SegmentBooks.rotateStream (hs : s.SegmentBooks) (a : Arriving) : (s.rotateStream a).SegmentBooks := by
  rcases s.rotateStream_cases a with h | ⟨-, h⟩ <;> rw [h]
  · exact hs.reply a _ _
  · have hslot : ∀ k, (s.tailReplied a).slot k = s.slot k := fun k => (agree (π := (State.slot · k)) (s.padStream_frame a.stream) :)
    exact ((hs.beside (.tailReplied s a) fun _ _ _ _ k _ => by rw [hslot]).rotate a.stream).endRequests

end

end Sys2Proof.Machine
end

section
/-! The books of the segment manager through the outcomes of units and through ISSUE (R89, R90, R92). -/

namespace Sys2Proof.Machine

open Sys2Proof

section

variable {s t u e : State} {a : Arriving} {l k i n p id : Nat} {g : Segment} {r : InFlight} {rest : List InFlight}
  {fails : List (FailReason × InFlight)} {paid closed : List ReturnParcel}

/-! ## Records that fail -/

/-- The units in flight while these records fail. -/
structure State.UnitsLeave (s u : State) (l : Nat) (fails : List (FailReason × InFlight)) (rest : List InFlight) : Prop where
  cover : (fails.map Prod.snd ++ rest).Perm (s.lane l).inflight
  left : (u.lane l).inflight = rest
  others : ∀ j, j ≠ l → (u.lane j).inflight = (s.lane j).inflight

theorem State.UnitsLeave.mem (h : s.UnitsLeave u l fails rest) (j : Nat) (hr : r ∈ (u.lane j).inflight) : r ∈ (s.lane j).inflight := by
  by_cases hj : j = l
  · subst hj
    rw [h.left] at hr
    exact h.cover.mem_iff.1 (List.mem_append_right _ hr)
  · exact h.others j hj ▸ hr

/-- How many units of a segment fail, and how many stay in flight. -/
theorem State.UnitsLeave.named (hs : s.Ledger) (h : s.UnitsLeave u l fails rest) (hfind : Store.find? s.segments id = some g) :
    g.done + (g.failed + unitsNamed id (fails.map Prod.snd)) + u.outstanding id g = g.issued := by
  have hhere := hs.named_here hfind
  by_cases hlane : g.lane = l
  · have hout : u.outstanding id g = unitsNamed id rest := by rw [State.outstanding, hlane, h.left]; rfl
    rw [hlane, ← unitsNamed_perm h.cover, unitsNamed_append] at hhere
    omega
  · have hout : u.outstanding id g = unitsNamed id (s.lane g.lane).inflight := by rw [State.outstanding, h.others _ hlane]; rfl
    have hnone := hs.named_elsewhere hfind hlane
    rw [← unitsNamed_perm h.cover, unitsNamed_append] at hnone
    omega

theorem State.losesBelow_iff (hopen : s.openSegment (s.stream k) = some (id, g)) (rs : List InFlight) :
    s.losesBelow l n rs k = true ↔ 0 < unitsNamed id rs ∨ g.lane = l ∧ k < n := by
  rw [State.losesBelow, hopen]
  simp only [any_named, Bool.or_eq_true, decide_eq_true_eq, Bool.and_eq_true, beq_iff_eq]

theorem Segment.failing_endCause (rs : List InFlight) (lost : Bool) :
    (g.failing id rs lost).endCause = none ↔ g.endCause = none ∧ unitsNamed id rs = 0 ∧ lost = false := by
  unfold Segment.failing
  by_cases h : 0 < unitsNamed id rs ∨ lost = true
  · rw [if_pos h]
    simp only [reduceCtorEq, false_iff, not_and, Bool.not_eq_false]
    intro _ hzero
    exact h.resolve_left (by omega)
  · rw [if_neg h]
    obtain ⟨hzero, hlost⟩ := not_or.1 h
    simp only [Bool.not_eq_true] at hlost
    have hzero' : unitsNamed id rs = 0 := by omega
    simp [hzero', hlost]

/-- The books when the failures of an event have been made (R90, R92, R93, R124, R132). -/
theorem State.UnitsFailing.books (hs : s.Ledger) (h : s.UnitsFailing u l n fails rest) (hleave : s.UnitsLeave u l fails rest)
    (hsorted : Store.sorted u.segments = true) (hlanes : u.lanesLawful) (hexist : u.lanesExist) : u.SegmentBooks := by
  obtain ⟨hown, hopen, hopened, hstate, hbound⟩ := hs.openSegments
  have hloses : ∀ j, s.losesBelow l n (fails.map Prod.snd) j = true → (s.stream j).openSeg.isSome = true := fun j hj => by
    by_contra hnone
    rw [State.losesBelow, State.openSegment_of_none (Option.not_isSome_iff_eq_none.1 hnone)] at hj
    cases hj
  refine hs.segmentBooks.move (f := fun i q => q.failing i (fails.map Prod.snd) (decide (q.lane = l ∧ q.stream < n)))
    ⟨h.segments, fun i q _ => ⟨rfl, rfl, rfl, rfl⟩, fun i q hq => hleave.named hs hq, fun i q hq hnone => (Segment.failing_endCause _ _ |>.1 hnone).1⟩
    ⟨fun j i hj => ?_, fun i q hq hnone => ?_, fun j hj => ?_, fun j hj => ?_, fun j hj => ?_⟩
    (fun j r hr => hleave.mem j hr) (fun j r _ _ i _ => ?_) hsorted hlanes hexist
  · rw [h.openSeg] at hj
    split at hj
    · cases hj
    · rename_i hkept
      refine ⟨hj, h.laneSet j, fun q hq => ?_⟩
      obtain ⟨q', hq', hstream, hcause, -⟩ := hown j i hj
      cases hq.symm.trans hq'
      rw [State.losesBelow_iff (State.openSegment_iff.2 ⟨hj, hq⟩), not_or] at hkept
      refine (Segment.failing_endCause _ _).2 ⟨hcause, by omega, decide_eq_false ?_⟩
      rw [hstream]
      exact hkept.2
  · obtain ⟨hcause, hzero, hlane⟩ := (Segment.failing_endCause _ _).1 hnone
    have hseg := hopen i q hq hcause
    rw [h.openSeg, if_neg]
    · exact hseg
    · rw [State.losesBelow_iff (State.openSegment_iff.2 ⟨hseg, hq⟩), not_or]
      exact ⟨by omega, of_decide_eq_false hlane⟩
  · rw [h.state] at hj
    rw [h.openSeg]
    split at hj
    · cases hj
    · rename_i hkept
      rw [if_neg fun hl => hkept ⟨hl, hj⟩]
      exact hopened j hj
  · rw [h.openSeg] at hj
    rw [h.state]
    split at hj
    · cases hj
    · rename_i hkept
      rw [if_neg fun hl => hkept hl.1]
      exact hstate j hj
  · rw [h.state] at hj
    split at hj
    · rename_i hl
      exact hbound j (by rw [hl.2]; decide)
    · exact hbound j hj
  · rw [h.slots]
    split <;> rfl

/-! ## A record that is DONE -/

theorem State.DoneReady.books (hs : s.Ledger) (h : s.DoneReady e l i r paid closed) (hr : (s.lane l).inflight[i]? = some r) (hkind : r.kind = .normal)
    (hslots : ∀ k, (e.slot k).stream = (s.slot k).stream) (hlanes : e.lanesLawful) (hexist : e.lanesExist) : e.SegmentBooks := by
  obtain ⟨hcounts, hnormal, -⟩ := hs.segments
  obtain ⟨hown, hopen, hopened, hstate, hbound⟩ := hs.openSegments
  obtain ⟨id, g, hseg, hfind, hlane, -⟩ := hnormal l r (List.mem_of_getElem? hr) hkind
  have hid : r.seg.getD 0 = id := by rw [hseg]; rfl
  have htable := h.segments g (hid.symm ▸ hfind)
  have hstream : ∀ j, (e.stream j).state = (s.stream j).state ∧ (e.stream j).openSeg = (s.stream j).openSeg ∧ (e.stream j).laneSet = (s.stream j).laneSet :=
    fun j => by
      rw [h.streams]
      split <;> exact ⟨rfl, rfl, rfl⟩
  have hinflight : (e.lane l).inflight = (s.lane l).inflight.eraseIdx i := by rw [h.lane]
  have hperm := eraseIdx_perm hr
  rw [hid] at htable
  have hsorted : Store.sorted e.segments = true := by
    split at htable <;> rw [htable.1]
    · exact Store.sorted_erase hs.sorted_segments _
    · exact Store.sorted_insert hs.sorted_segments _ _
  refine hs.segmentBooks.move (f := fun j q => if j = id then { q with done := q.done + 1 } else q)
    ⟨fun j => ?_, fun j q _ => by split <;> exact ⟨rfl, rfl, rfl, rfl⟩, fun j q hq => ?_, fun j q _ hnone => ?_⟩
    ⟨fun j x hj => ?_, fun j q hq hnone => ?_, fun j hj => ?_, fun j hj => ?_, fun j hj => ?_⟩
    (fun j q hq => ?_) (fun _ _ _ _ k _ => hslots k) hsorted hlanes hexist
  · by_cases hj : j = id
    · subst hj
      rw [hfind, Option.bind_some, if_pos rfl]
      split at htable
      · rename_i hgone
        rw [htable.1, Store.find?_erase_self]
        exact (if_pos hgone).symm
      · rename_i hgone
        rw [htable.1, Store.find?_insert_self]
        exact (if_neg hgone).symm
    · have hkept : Store.find? e.segments j = Store.find? s.segments j := by
        split at htable <;> rw [htable.1]
        · exact Store.find?_erase_ne _ hj
        · exact Store.find?_insert_ne _ _ hj
      rw [hkept]
      cases hq : Store.find? s.segments j with
      | none => rfl
      | some q =>
        have hstays : ¬ q.gone := hs.not_gone hq
        rw [Option.bind_some, if_neg hj]
        exact (if_neg hstays).symm
  · have hcount := (hcounts j q hq).2.2.1
    have hout : e.outstanding j q + (if j = id then 1 else 0) = s.outstanding j q := by
      by_cases hql : q.lane = l
      · have hsplit : s.outstanding j q = unitsNamed j ([r] ++ (s.lane l).inflight.eraseIdx i) := by
          rw [State.outstanding, hql]
          exact (unitsNamed_perm hperm j).symm
        rw [hsplit, unitsNamed_append, State.outstanding, hql, hinflight]
        by_cases hj : j = id
        · rw [if_pos hj, unitsNamed_cons_self (hj ▸ hseg)]
          exact Nat.add_comm _ _
        · rw [if_neg hj, unitsNamed_cons_other (by rw [hseg]; exact fun h => hj (Option.some.inj h).symm)]
          exact (Nat.zero_add _).symm
      · have hj : j ≠ id := by
          rintro rfl
          cases hfind.symm.trans hq
          exact hql hlane
        rw [if_neg hj, State.outstanding, h.lanes _ hql]
        rfl
    by_cases hj : j = id
    · rw [if_pos hj] at hout ⊢
      show q.done + 1 + q.failed + e.outstanding j q = q.issued
      omega
    · rw [if_neg hj] at hout ⊢
      omega
  · split at hnone
    · exact hnone
    · exact hnone
  · rw [(hstream j).2.1] at hj
    refine ⟨hj, (hstream j).2.2, fun q hq => ?_⟩
    obtain ⟨q', hq', -, hcause, -⟩ := hown j x hj
    cases hq.symm.trans hq'
    split <;> exact hcause
  · rw [(hstream q.stream).2.1]
    refine hopen j q hq ?_
    split at hnone <;> exact hnone
  · rw [(hstream j).2.1]
    exact hopened j ((hstream j).1 ▸ hj)
  · rw [(hstream j).1]
    exact hstate j ((hstream j).2.1 ▸ hj)
  · exact hbound j ((hstream j).1 ▸ hj)
  · by_cases hj : j = l
    · subst hj
      rw [hinflight] at hq
      exact List.mem_of_mem_eraseIdx hq
    · rwa [h.lanes j hj] at hq

/-! ## The dump engine -/

theorem State.SegmentBooks.of_waiting (hs : s.SegmentBooks) (hsegments : t.segments = s.segments) (hstreams : ∀ k, t.stream k = s.stream k)
    (hslots : ∀ k, t.slot k = s.slot k) (hlanes : ∀ l, ∃ waiting, t.lane l = { s.lane l with waiting := waiting } ∧ (s.lane l = {} → t.lane l = {}))
    (htaken : t.dump.taken = s.dump.taken) : t.SegmentBooks := by
  refine State.BooksAlike.books ⟨hsegments, fun k => by rw [hstreams]; exact ⟨rfl, rfl, rfl⟩, fun l => ?_, fun _ _ _ _ k _ => by rw [hslots]⟩ hs
    (fun l => ?_) ⟨fun l hl => ?_, htaken ▸ hs.exist.2⟩
  · obtain ⟨waiting, h, -⟩ := hlanes l
    rw [h]
  · obtain ⟨waiting, h, -⟩ := hlanes l
    rw [h]
    exact Lane.lawful_waiting (hs.lanes l) waiting
  · exact (hlanes l).choose_spec.2 (hs.exist.1 l hl)

theorem State.dumpCheck_lane_either (hs : Store.sorted s.lanes = true) (j : Nat) :
    s.dumpCheck.lane j = s.lane j ∨ s.dumpCheck.lane j = { s.lane j with waiting := [] } := by
  have hended : ∀ result, (s.enterDumped result).lane j = { s.lane j with waiting := [] } := fun result =>
    Store.getD_mapD (d := ({} : Lane)) hs (fun x => { x with waiting := [] }) rfl j
  unfold State.dumpCheck
  repeat' split
  all_goals first | exact .inr (hended _) | exact .inl rfl

theorem State.SegmentBooks.dumpCheck (hs : s.SegmentBooks) (hsorted : Store.sorted s.lanes = true) : s.dumpCheck.SegmentBooks := by
  have hframe := s.dumpCheck_frame
  refine hs.of_waiting (agree (π := State.segments) hframe :) (fun k => (agree (π := (State.stream · k)) hframe :))
    (fun k => (agree (π := (State.slot · k)) hframe :)) (fun l => ?_) ?_
  · rcases State.dumpCheck_lane_either hsorted l with h | h <;> rw [h]
    · exact ⟨_, rfl, id⟩
    · exact ⟨[], rfl, fun hnone => by rw [hnone]⟩
  · rw [s.dumpCheck_dump]

theorem State.SegmentBooks.endFailure (hs : s.SegmentBooks) (hsorted : s.part = .dumping → Store.sorted s.lanes = true) : s.endFailure.SegmentBooks := by
  have hpads : s.durablePads.SegmentBooks := hs.beside (.durablePads s) fun _ _ _ _ k _ => congrArg Slot.stream
    (agree (π := (State.slot · k)) s.durablePads_frame : s.durablePads.slot k = s.slot k)
  obtain ⟨hpart, -, hlanes⟩ := s.beforeCheck_facts
  have hends := hpads.endRequests
  rw [State.endFailure]
  by_cases hdumping : s.part = .dumping
  · exact hends.dumpCheck (hlanes hdumping ▸ hsorted hdumping)
  · rw [State.dumpCheck, if_neg (by rw [hpart]; simpa using hdumping)]
    exact hends

end

end Sys2Proof.Machine
end

section
/-! The books of the segment manager through the commands that act beside them: the streams that slots name (R42, R83). -/

namespace Sys2Proof.Machine

open Sys2Proof

section

variable {s t u : State} {a : Arriving} {k : Nat}

/-! ## The streams that slots name -/

/-- Of the slots that are not in `ks`, each names the stream that it named. -/
def State.NamesKept (s t : State) (ks : List Nat) : Prop := ∀ k, k ∉ ks → (t.slot k).stream = (s.slot k).stream

theorem State.NamesKept.of_slots (ks : List Nat) (h : ∀ k, (t.slot k).stream = (s.slot k).stream) : s.NamesKept t ks := fun k _ => h k

theorem State.NamesKept.trans {ks : List Nat} (h : s.NamesKept t ks) (h' : t.NamesKept u ks) : s.NamesKept u ks :=
  fun k hk => (h' k hk).trans (h k hk)

/-- Nothing but a slot's own record is read of what a frame keeps. -/
theorem State.NamesKept.of_frame {m : State → State} (ks : List Nat) (h : m t = m s) (hslots : ∀ s, (m s).slots = s.slots := by intro _; rfl) :
    s.NamesKept t ks := fun k _ => by rw [State.slot, show t.slots = s.slots from agree h hslots]; rfl

theorem State.freeSlotList_names (s : State) (js ks : List Nat) : s.NamesKept (s.freeSlotList js) ks := fun k _ => by
  rw [State.freeSlotList_slot]
  split <;> rfl

theorem State.refuseWrite_names (s : State) (a : Arriving) (status : LandedStatus) (ks : List Nat) : s.NamesKept (s.refuseWrite a status) ks := by
  have hrefusing : s.NamesKept (s.refusing a status) ks := fun k _ => by
    rw [State.refusing_slot]
    split <;> rfl
  rw [State.refuseWrite_eq]
  split
  · exact hrefusing
  · exact hrefusing.trans (.of_frame ks (State.evalCredit_frame _))

theorem State.stageSector_names (s : State) (a : Arriving) (lba k : Nat) : s.NamesKept (s.stageSector a (lba, k)) [k] := fun j hj => by
  have hne : j ≠ k := by simpa using hj
  rcases s.stageSector_either a lba k with h | ⟨o, h⟩ <;> rw [h]
  · rw [State.sectorKept_slot, if_neg hne]
  · rw [State.sectorOver, State.sectorCounted_slot, State.supersede_slot]
    split
    · rename_i ho
      rw [← ho, State.sectorIndexed_slot, if_neg hne]
    · rw [State.sectorIndexed_slot, if_neg hne]

theorem State.stageAll_names (s : State) (a : Arriving) : s.NamesKept (s.stageAll a) a.landed := by
  have hfold : ∀ (xs : List (Nat × Nat)) (u : State), (∀ x ∈ xs, x.2 ∈ a.landed) → u.NamesKept (xs.foldl (State.stageSector a) u) a.landed := by
    intro xs
    induction xs with
    | nil => exact fun u _ k _ => rfl
    | cons x xs ih =>
      intro u hxs
      have hone : u.NamesKept (u.stageSector a x) a.landed := fun j hj =>
        u.stageSector_names a x.1 x.2 j (by simpa using fun h : j = x.2 => hj (h ▸ hxs x List.mem_cons_self))
      exact hone.trans (ih _ fun y hy => hxs y (List.mem_cons_of_mem _ hy))
  exact hfold _ s fun x hx => (List.of_mem_zip (show (x.1, x.2) ∈ (List.range' a.lba a.landed.length).zip a.landed from hx)).2

theorem State.createDurable_names (s : State) (a : Arriving) (first : Nat) (ks : List Nat) : s.NamesKept (s.createDurable a first) ks := by
  unfold State.createDurable
  split
  · exact fun k _ => rfl
  · rename_i i _
    have hfold : ∀ (js : List Nat) (u : State),
        u.NamesKept (js.foldl (fun s k => s.setSlot k { s.slot k with durable := some i }) u) ks := by
      intro js
      induction js with
      | nil => exact fun u k _ => rfl
      | cons j js ih =>
        intro u
        have hone : u.NamesKept (u.setSlot j { u.slot j with durable := some i }) ks := fun k _ => by
          rw [State.slot_setSlot]
          split
          · rename_i hkj
            rw [hkj]
          · rfl
        exact hone.trans (ih _)
    exact (show s.NamesKept (s.setDurable i { tag := a.tag, fn := a.fn, first := first, count := a.count, remaining := a.count }) ks
      from fun k _ => rfl).trans (hfold _ _)

theorem State.acceptWrite_names (s : State) (a : Arriving) : s.NamesKept (s.acceptWrite a) a.landed := by
  have hrecorded : s.NamesKept (s.writeRecorded a) a.landed := by
    unfold State.writeRecorded
    split
    · exact (s.stageAll_names a).trans (State.createDurable_names _ _ _ _)
    · exact (s.stageAll_names a).trans (.of_frame _ (State.enqueue_frame _ _))
  have hpads := (hrecorded.trans (.of_frame _ (State.durablePads_frame _))).trans (.of_frame _ (State.pressure_frame _))
  have hcredited : s.NamesKept (s.writeCredited a) a.landed := by
    unfold State.writeCredited
    split
    · exact hpads.trans (.of_frame _ (State.evalCredit_frame _))
    · exact hpads
  rw [State.acceptWrite_eq]
  exact hcredited.trans (.of_frame _ (State.endRequests_frame _))

theorem State.decideWrite_names (s : State) (a : Arriving) : s.NamesKept (s.decideWrite a) a.landed := by
  rcases s.decideWrite_cases a with ⟨status, -, h⟩ | ⟨-, ⟨-, h⟩ | ⟨-, h⟩⟩ <;> rw [h]
  · exact s.refuseWrite_names a status _
  · exact fun _ _ => rfl
  · exact s.acceptWrite_names a

theorem State.takeWrite_names (s : State) (a : Arriving) : s.NamesKept (s.takeWrite a) a.landed := by
  rcases s.takeWrite_cases a with ⟨status, h⟩ | ⟨-, -, h⟩ <;> rw [h]
  · exact s.refuseWrite_names a status _
  · exact s.decideWrite_names a

theorem State.markSlots_names (s : State) (js ks : List Nat) : s.NamesKept (s.markSlots js) ks := by
  induction js generalizing s with
  | nil => exact fun _ _ => rfl
  | cons j js ih =>
    have hone : s.NamesKept (s.setSlot j { s.slot j with mark := true }) ks := fun k _ => by
      rw [State.slot_setSlot]
      split
      · rename_i hkj
        rw [hkj]
      · rfl
    exact hone.trans (ih _)

end

end Sys2Proof.Machine
end

section
/-! The books of the segment manager are kept by every command that acts beside them. -/

namespace Sys2Proof.Machine

open Sys2Proof

section

variable {s t u : State} {a : Arriving} {k : Nat}

theorem State.land_slot (s : State) (a : Arriving) (j : Nat) (block : List Unit16) (k : Nat) : (s.land a j block).slot k
    = if k = j then { s.slot j with state := .landing, fn := a.fn, ns := a.ns, lba := a.lba + a.landed.length } else s.slot k :=
  s.slot_setSlot j { s.slot j with state := .landing, fn := a.fn, ns := a.ns, lba := a.lba + a.landed.length } k

theorem State.landBlock_names (s : State) (block : List Unit16) (ks : List Nat) : s.NamesKept (s.landBlock block) ks := fun k _ => by
  unfold State.landBlock
  split
  · rfl
  · rename_i b j _
    have hslot : ((s.land b j block).slot k).stream = (s.slot k).stream := by
      rw [State.land_slot]
      split
      · rename_i hkj
        rw [hkj]
      · rfl
    exact hslot

theorem State.retake_names (s : State) : s.NamesKept s.retake s.parser.landedSlots := by
  unfold State.retake
  split
  · rename_i a hparser
    rw [hparser]
    split
    · exact (State.decideWrite_names { s with parser := .awaiting } a : s.NamesKept _ a.landed)
    · exact fun _ _ => rfl
  · exact fun _ _ => rfl

theorem State.releaseAborted_names (s : State) (ks : List Nat) : s.NamesKept s.releaseAborted ks := by
  unfold State.releaseAborted
  split
  · rename_i a _
    split
    · have hfreed : s.NamesKept ({ s with parser := .awaiting }.freeSlotList a.landed) ks := State.freeSlotList_names { s with parser := .awaiting } a.landed ks
      exact hfreed.trans (.of_frame ks (State.evalCredit_frame _))
    · exact fun _ _ => rfl
  · exact fun _ _ => rfl

theorem State.take_names {want : Arriving → Bool} {act : State → Arriving → State} (hact : ∀ s a, State.NamesKept s (act s a) a.landed) (s : State) :
    s.NamesKept (s.take want act) s.parser.landedSlots := by
  rcases s.take_cases want act with h | ⟨a, -, -, -, h⟩ | ⟨a, hoffers, -, h⟩ <;> rw [h]
  · exact fun _ _ => rfl
  · exact fun _ _ => rfl
  · rw [State.offers_landedSlots hoffers]
    exact (hact { s with parser := .awaiting } a : s.NamesKept _ a.landed)

theorem State.takeFlush_names (s : State) (a : Arriving) : s.NamesKept (s.takeFlush a) a.landed := by
  have hmarked : s.NamesKept (s.acceptFlush a) a.landed := by
    have hmarks := (s.markSlots_names (s.unmarked a.fn) a.landed).trans (.of_frame _ (State.setFlush_frame _ a.fn
      { count := ((Store.find? s.flushes a.fn).getD {}).count + (s.unmarked a.fn).length,
        tags := ((Store.find? s.flushes a.fn).getD {}).tags ++ [a.tag] }))
    exact (hmarks.trans (.of_frame _ (State.flushPads_frame _ a.fn))).trans (.of_frame _ (State.endRequests_frame _))
  have henqueue : ∀ p, s.NamesKept (s.enqueue p) a.landed := fun p => .of_frame _ (s.enqueue_frame p)
  cases hvalid : s.validTenant a.fn with
  | false =>
    rw [State.takeFlush_of_noTenant hvalid]
    exact henqueue _
  | true =>
    cases hrecord : Store.find? s.flushes a.fn with
    | none =>
      rw [State.takeFlush_of_noRecord hvalid hrecord]
      repeat' split
      · exact henqueue _
      · exact henqueue _
      · exact hmarked
    | some r =>
      rw [State.takeFlush_of_record hvalid hrecord]
      split
      · exact henqueue _
      · exact hmarked

/-- A slot that is not one of the WRITE being handled names the stream that it named (R42). -/
theorem State.after_names {c : Instr} (h : keepsBooks c = true) (s : State) : s.NamesKept (s.after c) s.parser.landedSlots := by
  have hslots : (s.after c).slots = s.slots → s.NamesKept (s.after c) s.parser.landedSlots :=
    fun hsame k _ => congrArg Slot.stream (by rw [State.slot, hsame]; rfl)
  cases c
  case landing block => exact s.landBlock_names block _
  case write => exact (State.take_names State.takeWrite_names s : s.NamesKept (s.take _ State.takeWrite) _)
  case heldWriteRetaking => exact s.retake_names
  case abortedWriteRelease => exact s.releaseAborted_names _
  case flush => exact (State.take_names State.takeFlush_names s : s.NamesKept (s.take _ State.takeFlush) _)
  all_goals first | exact hslots (s.after_agree _) | cases h

/-! ## The books -/

theorem Lane.mem_issuedSlots {x : Lane} {r : InFlight} (hr : r ∈ x.inflight) (hkind : r.kind = .normal) (hk : k ∈ r.slots) : k ∈ x.issuedSlots :=
  List.mem_flatMap.2 ⟨r, List.mem_filter.2 ⟨hr, by simp [hkind]⟩, hk⟩

/-- A slot of a NORMAL record in flight is ISSUED, so it is not one of the WRITE being handled. -/
theorem State.Ledger.issued_not_landed (hs : s.Ledger) {l : Nat} {r : InFlight} (hr : r ∈ (s.lane l).inflight) (hkind : r.kind = .normal)
    (hk : k ∈ r.slots) : k ∉ s.parser.landedSlots := fun hlanded => by
  obtain ⟨-, -, hlanding, -⟩ := hs.landingSlots
  have hstate := (hs.issuedSlots.1 k).2 ⟨l, Lane.mem_issuedSlots hr hkind hk⟩
  rw [(hlanding k).2 hlanded] at hstate
  cases hstate

theorem State.SegmentBooks.of_endsBeside (hs : s.SegmentBooks) (h : s.EndsBeside t)
    (hslots : ∀ l r, r ∈ (s.lane l).inflight → r.kind = .normal → ∀ k ∈ r.slots, (t.slot k).stream = (s.slot k).stream) : t.SegmentBooks := by
  rcases h with h | ⟨u, hbeside, rfl⟩
  · exact hs.beside h.beside hslots
  · have hslot : ∀ k, u.endRequests.slot k = u.slot k := fun k => (agree (π := (State.slot · k)) u.endRequests_frame :)
    exact (hs.beside hbeside fun l r hr hkind k hk => hslot k ▸ hslots l r hr hkind k hk).endRequests

theorem State.Ledger.books_keepsBooks (hs : s.Ledger) {c : Instr} (h : keepsBooks c = true) : (s.after c).SegmentBooks :=
  hs.segmentBooks.of_endsBeside (State.after_endsBeside h s) fun _ _ hr hkind _ hk => State.after_names h s _ (hs.issued_not_landed hr hkind hk)

/-! ## Lanes whose units stay -/

/-- What changes of a lane beside its units keeps the books. -/
theorem State.SegmentBooks.of_lanes (hs : s.SegmentBooks) (hsegments : t.segments = s.segments) (hstreams : ∀ k, t.stream k = s.stream k)
    (hslots : ∀ k, t.slot k = s.slot k) (hinflight : ∀ l, (t.lane l).inflight = (s.lane l).inflight) (hlanes : t.lanesLawful)
    (hexist : ∀ l, 8 ≤ l → t.lane l = {}) (htaken : t.dump.taken = s.dump.taken) : t.SegmentBooks :=
  State.BooksAlike.books ⟨hsegments, fun k => by rw [hstreams]; exact ⟨rfl, rfl, rfl⟩, hinflight, fun _ _ _ _ k _ => by rw [hslots]⟩ hs hlanes
    ⟨hexist, htaken ▸ hs.exist.2⟩

end

end Sys2Proof.Machine
end

section
/-! The failures that an event makes before it ends, under the ledger: the records of a FAIL, of an expiry, and of a lane down (R124, R128,
R132). -/

namespace Sys2Proof.Machine

open Sys2Proof

section

variable {s t u w : State} {l i n k : Nat} {r : InFlight} {why : FailReason} {cause : DownCause} {rest : List InFlight}
  {fails : List (FailReason × InFlight)}

/-! ## Lanes beyond the eight -/

/-- A lane that holds nothing. -/
def State.bare (s : State) (l : Nat) : Prop := s.lane l = {}

theorem State.bare_takeGrant {j : Nat} (h : s.bare j) (l : Nat) : (s.takeGrant l).bare j := by
  rcases s.takeGrant_cases l with ⟨htake, -⟩ | ⟨i, g, rest, -, -, -, hdump, -, htake⟩ <;> rw [htake]
  · exact h
  · refine (State.grantTaken_lane i g rest j).trans ?_
    rw [if_neg]
    · exact h
    · rintro rfl
      rw [h] at hdump
      cases hdump

theorem State.takeGrant_taken_lt (h : ∀ g ∈ s.dump.taken, g.lane < 8) (l : Nat) : ∀ g ∈ (s.takeGrant l).dump.taken, g.lane < 8 := by
  rcases s.takeGrant_cases l with ⟨htake, -⟩ | ⟨i, g, rest, -, hi, -, -, -, htake⟩ <;> rw [htake]
  · exact h
  · intro q hq
    rcases List.mem_append.1 (show q ∈ s.dump.taken ++ [g.takenFrom i] from hq) with hq | hq
    · exact h q hq
    · rw [List.mem_singleton.1 hq]
      exact hi

theorem State.lanesExist_takeGrant (h : s.lanesExist) (l : Nat) : (s.takeGrant l).lanesExist :=
  ⟨fun j hj => State.bare_takeGrant (h.1 j hj) l, State.takeGrant_taken_lt h.2 l⟩

theorem State.lanesExist_capacityLost (h : s.lanesExist) (l lost : Nat) : (s.capacityLost l lost).lanesExist := h

theorem State.lanesExist_laneDown (h : w.lanesExist) (hl : l < 8) (cause : DownCause) : (w.laneDown l cause).lanesExist := by
  have hgiven : (w.laneGivenUp l cause).lanesExist := by
    refine ⟨fun j hj => ?_, ?_⟩
    · rw [State.laneGivenUp_lane, if_neg (by omega)]
      exact h.1 j hj
    · have hdump : (w.laneGivenUp l cause).dump = (w.laneBroken l).dump := (agree (π := State.dump) (w.laneGivenUp_frame l cause) :)
      rw [hdump, (w.laneBroken_dump l).1]
      exact h.2
  rw [State.laneDown_eq]
  by_cases hpart : (w.laneGivenUp l cause).part = .dumping
  · have hlost := State.lanesExist_capacityLost hgiven l ((w.laneBroken l).lane l).dumpCapacity
    rcases (w.laneGivenUp l cause).dumpLosesLane_cases l ((w.laneBroken l).lane l).dumpCapacity hpart with ⟨-, heq⟩ | ⟨-, heq⟩ <;> rw [heq]
    · exact hlost
    · exact State.lanesExist_takeGrant hlost l
  · rw [State.dumpLosesLane, if_neg hpart]
    exact hgiven

/-- A lane down takes at most a dump grant from another lane. -/
theorem State.laneDown_other {j : Nat} (hj : j ≠ l) : (w.laneDown l cause).lane j = { w.lane j with dump := ((w.laneDown l cause).lane j).dump } := by
  have hgiven : (w.laneGivenUp l cause).lane j = w.lane j := by rw [State.laneGivenUp_lane, if_neg hj]
  rw [State.laneDown_eq]
  by_cases hpart : (w.laneGivenUp l cause).part = .dumping
  · rcases (w.laneGivenUp l cause).dumpLosesLane_cases l ((w.laneBroken l).lane l).dumpCapacity hpart with ⟨-, heq⟩ | ⟨-, heq⟩ <;> rw [heq]
    · rw [State.capacityLost_lane, hgiven]
    · rw [State.takeGrant_lane, State.capacityLost_lane, hgiven]
  · rw [State.dumpLosesLane, if_neg hpart, hgiven]

/-! ## The failures of an event -/

/-- The failures that an event makes: the units `fails` of lane `l` fail and leave `rest` in flight there, and of a lane that is lost (`n` is
256 then) the open segments break; the other tables, the credits and the parameters stay. -/
structure State.FailureMade (s u : State) (l n : Nat) (fails : List (FailReason × InFlight)) (rest : List InFlight) : Prop
    extends s.UnitsFailing u l n fails rest, s.UnitsLeave u l fails rest where
  canonical : u.Canonical
  part : u.part = s.part
  due : u.due = s.due
  steady : u.steady = s.steady
  lanes : u.lanesLawful
  exist : u.lanesExist

/-- One record fails (R117, R128). -/
theorem State.LosesLane.failureMade (h : s.LosesLane w l fails) (hsteady : w.steady = s.steady) (hlanes : w.lanesLawful) (hexist : w.lanesExist) :
    s.FailureMade w l 0 fails (w.lane l).inflight where
  toUnitsFailing := h.failed.toUnitsFailing
  cover := h.cover
  left := rfl
  others j hj := by rw [h.others j hj]
  canonical := h.canonical
  part := h.part
  due := h.due
  steady := hsteady
  lanes := hlanes
  exist := hexist

/-- The lane is lost with its records (R132). -/
theorem State.LosesLane.downMade (h : s.LosesLane w l fails) (hsteady : w.steady = s.steady) (hlanes : w.lanesLawful) (hexist : w.lanesExist)
    (hl : l < 8) : s.FailureMade (w.laneDown l cause) l 256 (lostRecords fails (w.lane l).inflight) [] where
  toUnitsFailing := h.units
  cover := by
    rw [lostRecords_units, List.append_nil]
    exact h.cover
  left := by rw [State.laneDown_lane]; rfl
  others j hj := by
    have hlane := State.laneDown_other (w := w) (l := l) (cause := cause) hj
    generalize (w.laneDown l cause).lane j = y at hlane ⊢
    rw [hlane, ← h.others j hj]
  canonical := closed_canonical.laneDown l cause h.canonical
  part := (w.laneDown_rest l cause).1.trans h.part
  due := (w.laneDown_rest l cause).2.2.trans h.due
  steady := (w.laneDown_steady l cause).trans hsteady
  lanes j := State.lanesKeep_laneDown w l cause j (hlanes j)
  exist := State.lanesExist_laneDown hexist hl cause

/-! ## The events -/

/-- The record of an ANSWER with FAIL has failed. -/
theorem State.Ledger.answered_losesLane (hs : s.Ledger) (hr : (s.lane l).inflight[i]? = some r) :
    s.LosesLane ((s.answering l i).recordFailed l why r) l [(why, r)] := by
  obtain ⟨hpart, hparams, hdue⟩ := (s.answering l i).recordFailed_rest l why r
  have hfailed : s.Failed ((s.answering l i).recordFailed l why r) l 0 [(why, r)] ((s.lane l).inflight.eraseIdx i) :=
    hs.failed_one hr rfl rfl rfl rfl rfl
  have hvcanon : (s.answering l i).Canonical := closed_canonical.lane _ _ (closed_canonical.lane _ _ ((State.canonical_iff s).1 hs.canonical))
  have hcanon : ((s.answering l i).recordFailed l why r).Canonical := closed_canonical.recordFailed l why r hvcanon
  have hvlane := State.answering_lane (s := s) l i
  have hlane := State.recordFailed_lane (s := s.answering l i) (l := l) (why := why) (r := r)
  have hvrest : (s.answering l i).part = s.part ∧ (s.answering l i).params = s.params ∧ (s.answering l i).due = s.due := ⟨rfl, rfl, rfl⟩
  generalize s.answering l i = v at *
  generalize v.recordFailed l why r = u at *
  have hself : u.lane l = { s.lane l with
      waiting := (s.lane l).waiting.tail
      inflight := (s.lane l).inflight.eraseIdx i
      consecutive := 0
      failed := (s.lane l).failed + 1 } := by
    rw [hlane, if_pos rfl, hvlane, if_pos rfl]
  refine ⟨hs, by rw [hself]; exact hfailed, ?_, hcanon, hpart.trans hvrest.1, hparams.trans hvrest.2.1, hdue.trans hvrest.2.2, fun j hj => ?_,
    by rw [hself]; exact ⟨rfl, rfl⟩⟩
  · rw [hself]
    exact eraseIdx_perm hr
  · rw [hlane, if_neg hj, hvlane, if_neg hj]

theorem State.lt_of_inflight (h : s.lanesExist) (hr : (s.lane l).inflight[i]? = some r) : l < 8 := by
  by_contra hl
  rw [h.1 l (Nat.le_of_not_lt hl)] at hr
  cases hr

theorem State.Ledger.answerFailed (hs : s.Ledger) (hr : (s.lane l).inflight[i]? = some r) : ∃ rest,
    s.FailureMade ((s.answering l i).recordFailed l why r) l 0 [(why, r)] rest := by
  have hl := State.lt_of_inflight hs.exist hr
  refine ⟨_, (hs.answered_losesLane hr).failureMade ((State.recordFailed_steady _ _ _ _).trans rfl)
    (fun j => (State.lanesKeep_answering s l i).trans (State.lanesKeep_recordFailed _ l why r) j (hs.lanes j)) ⟨fun j hj => ?_, ?_⟩⟩
  · rw [State.recordFailed_lane, if_neg (by omega), State.answering_lane, if_neg (by omega)]
    exact hs.exist.1 j hj
  · rw [((s.answering l i).recordFailed_dumpEngine l why r).1]
    exact hs.exist.2

theorem State.Ledger.expired_made (hs : s.Ledger) (hr : (s.lane l).inflight[i]? = some r) : ∃ fails rest n u,
    s.FailureMade u l n fails rest ∧ s.expire l i r = u.endFailure := by
  have hl := State.lt_of_inflight hs.exist hr
  have hlost := hs.expired_losesLane hr
  have hsteady := (s.expired_rest l i r).2.2.2.2
  have hlanes : (s.expired l i r).lanesLawful := fun j => State.lanesKeep_expired s l i r j (hs.lanes j)
  have hexist : (s.expired l i r).lanesExist := by
    refine ⟨fun j hj => ?_, ?_⟩
    · rw [State.expired_lane, if_neg (by omega)]
      exact hs.exist.1 j hj
    · rw [State.expired_dump, ((s.expiring l i r).recordFailed_dumpEngine l .timeout r).1]
      exact hs.exist.2
  rw [State.expire_eq]
  split
  · exact ⟨_, _, 256, _, hlost.downMade hsteady hlanes hexist hl, rfl⟩
  · exact ⟨_, _, 0, _, hlost.failureMade hsteady hlanes hexist, rfl⟩

theorem State.Ledger.laneflt_made (hs : s.Ledger) (hl : l < 8) : ∃ fails rest n u,
    s.FailureMade u l n fails rest ∧ ((s.setLaneflt l true).laneDown l .link).endFailure = u.endFailure :=
  ⟨_, _, 256, _, hs.laneflt_losesLane.downMade rfl hs.lanes hs.exist hl, rfl⟩

end

end Sys2Proof.Machine
end

section
/-! One ISSUE under the ledger, before the segment requests of its end (R103 to R106), and the books of the segment manager through it. -/

namespace Sys2Proof.Machine

open Sys2Proof

section

variable {s d u v : State} {l p k id n i : Nat} {g : Segment}

/-! ## What an ISSUE has made -/

/-- One or two units of stream `k`, which the arbiter of lane `l` found, have been issued into the stream's open segment, and the
durable-linger pads have been made. -/
structure State.IssueMade (s d : State) (l p k id n : Nat) (g : Segment) : Prop extends s.IssueReady d l p k id n g, s.SegmentFed d k id n g where
  opening : s.openSegment (s.stream k) = some (id, g)
  running : s.running = true
  opened : (s.stream k).state = .opened
  units : n = 1 ∨ n = 2
  filled : n = 2 → 16 ≤ (s.stream k).queue.length
  held : 1 ≤ (s.stream k).ready
  below : k < 256
  onLane : g.lane = l
  owner : g.stream = k
  cause : g.endCause = none
  within : g.issued + n ≤ g.capacity
  padded : ∀ j, j ≠ k → d.stream j = { s.stream j with pad := (d.stream j).pad }
  unbound : ∀ j, j ≠ k → (s.stream j).state = .unbound → d.stream j = s.stream j
  sorted : Store.sorted d.segments = true
  lawful : d.lanesLawful

theorem State.drain_sorted (h : Store.sorted s.segments = true) (id : Nat) (cause : EndCause) : Store.sorted (s.drain id cause).segments = true := by
  unfold State.drain
  split
  · exact h
  · split
    · exact Store.sorted_insert h _ _
    · exact h

theorem State.afterUnits_sorted (h : Store.sorted v.segments = true) : Store.sorted (v.afterUnits id n g).segments = true := by
  unfold State.afterUnits
  split
  · exact State.drain_sorted h _ _
  · exact h

/-- Filling the segment releases no stream but its own. -/
theorem State.UnitsIssued.afterUnits_other (h : (s.positioned l p k).UnitsIssued v l k id n g) (hcause : g.endCause = none) (hown : g.stream = k)
    {j : Nat} (hj : j ≠ k) : (v.afterUnits id n g).stream j = s.stream j := by
  have hkept : v.stream j = s.stream j := h.others j hj
  unfold State.afterUnits
  split
  · rw [State.drain_of_open h.segment hcause, hown, State.stream_setStream, if_neg hj]
    exact hkept
  · exact hkept

theorem Stream.padded_of_unbound {t : Stream} (h : t.state = .unbound) : t.padded = t := by
  have hpad : (t.pad || (t.bound && decide (0 < t.tailSize))) = t.pad := by simp [Stream.bound, h]
  rw [Stream.padded, hpad]

theorem State.Ledger.issueOn_made (hs : s.Ledger) (l : Nat) : s.issueOn l = s
    ∨ ∃ d p k id g n, s.IssueMade d l p k id n g ∧ s.issueOn l = d.endRequests := by
  rcases s.issueOn_cases l with heq | ⟨p, k, id, g, n, v, hrun, hup, hfits, hsearch, hk, hstate, hready, hopen, hlane, hn, htwo, hv, heq⟩
  · exact .inl heq
  · right
    obtain ⟨hown, hcause⟩ := hs.openSegment_own hopen
    obtain ⟨hseg, hfind⟩ := State.openSegment_iff.1 hopen
    have hbelow := (hs.segments.1 id g hfind).2.2.2.1 hcause
    have hbound : (s.stream k).bound = true := (Stream.bound_iff _).2 (by rw [hstate]; exact StreamState.noConfusion)
    have hvsorted : Store.sorted v.segments = true := hv.sorted hs.sorted_segments
    have hpads : (v.afterUnits id n g).durablePads.segments = (v.afterUnits id n g).segments := agree (State.durablePads_frame _)
    refine ⟨_, p, k, id, g, n, ⟨hv.issueReady hbound hk (by omega), hv.segmentFed hopen hstate hcause hown, hopen, hrun, hstate, hn,
      fun h => (htwo h).1, hready, hk, hlane, hown, hcause, ?_, fun j hj => ?_, fun j hj hunbound => ?_, ?_, fun j => State.lanesKeep_units hv hup hfits hsearch j (hs.lanes j)⟩, heq⟩
    · rcases hn with h | h
      · omega
      · rw [h]
        exact (htwo h).2
    · conv_lhs => rw [State.durablePads_stream, hv.afterUnits_other hcause hown hj]
    · rw [State.stream_durablePads, hv.afterUnits_other hcause hown hj, Stream.padded_of_unbound hunbound, ite_self]
    · rw [hpads]
      exact State.afterUnits_sorted hvsorted

/-! ## The books -/

theorem unitsNamed_nthRecords (s : State) (k id : Nat) (g : Segment) (n i : Nat) :
    unitsNamed i ((List.range n).map (s.nthRecord k id g)) = if i = id then n else 0 := by
  induction n with
  | zero => simp [unitsNamed]
  | succ n ih =>
    rw [List.range_succ, List.map_append, unitsNamed_append, ih, List.map_singleton]
    by_cases hi : i = id
    · rw [if_pos hi, if_pos hi, unitsNamed_cons_self (by rw [hi]; rfl)]
      rfl
    · rw [if_neg hi, if_neg hi, unitsNamed_cons_other (fun h => hi (Option.some.inj h).symm)]
      rfl

theorem State.IssueMade.inflight (h : s.IssueMade d l p k id n g) (j : Nat) : (d.lane j).inflight
    = (s.lane j).inflight ++ if j = l then (List.range n).map (s.nthRecord k id g) else [] := by
  by_cases hj : j = l
  · subst hj
    rw [if_pos rfl, h.lane]
  · rw [if_neg hj, h.lanes j hj, List.append_nil]

theorem State.IssueMade.slotStream (h : s.IssueMade d l p k id n g) (j : Nat) : (d.slot j).stream = (s.slot j).stream := by
  rw [h.slot]
  split <;> rfl

theorem State.IssueMade.books (hs : s.Ledger) (hl : l < 8) (h : s.IssueMade d l p k id n g) : d.SegmentBooks := by
  obtain ⟨hcounts, hnormal, hdump⟩ := hs.segments
  obtain ⟨hown, hopen, hopened, hstate, hbound⟩ := hs.openSegments
  obtain ⟨hseg, hfind⟩ := State.openSegment_iff.1 h.opening
  have hother : ∀ j, j ≠ k → (d.stream j).state = (s.stream j).state ∧ (d.stream j).openSeg = (s.stream j).openSeg
      ∧ (d.stream j).laneSet = (s.stream j).laneSet := fun j hj => by
    rw [h.padded j hj]
    exact ⟨rfl, rfl, rfl⟩
  have hlaneSet : (d.stream k).laneSet = (s.stream k).laneSet := by rw [h.stream]
  have hout : ∀ i q, Store.find? s.segments i = some q → d.outstanding i q = s.outstanding i q + if i = id then n else 0 := fun i q hq => by
    show unitsNamed i (d.lane q.lane).inflight = unitsNamed i (s.lane q.lane).inflight + _
    rw [h.inflight, unitsNamed_append]
    by_cases hi : i = id
    · subst hi
      cases hfind.symm.trans hq
      rw [if_pos h.onLane, unitsNamed_nthRecords]
    · rw [if_neg hi]
      split
      · rw [unitsNamed_nthRecords, if_neg hi]
      · rfl
  have hkept : ∀ i q, Store.find? s.segments i = some q → ∃ q', Store.find? d.segments i = some q' ∧ q'.stream = q.stream ∧ q'.lane = q.lane :=
    fun i q hq => by
      by_cases hi : i = id
      · subst hi
        cases hfind.symm.trans hq
        exact ⟨_, h.segment, rfl, rfl⟩
      · exact ⟨q, (h.segments i hi).trans hq, rfl, rfl⟩
  refine ⟨h.sorted, h.lawful, ⟨fun i q hq => ?_, fun j r hr hkind => ?_, fun j r hr hkind => ?_⟩,
    ⟨fun j i hj => ?_, fun i q hq hnone => ?_, fun j hj => ?_, fun j hj => ?_, fun j hj => ?_⟩, fun j hj => ?_, ?_⟩
  · by_cases hi : i = id
    · subst hi
      cases h.segment.symm.trans hq
      obtain ⟨hid, -, hcount, -⟩ := hcounts i g hfind
      have hafter := hout i g hfind
      have hpos : 0 < n := by rcases h.units with h | h <;> omega
      have hwithin := h.within
      rw [if_pos rfl] at hafter
      show i < 65536 ∧ g.issued + n ≤ g.capacity ∧ g.done + g.failed + d.outstanding i g = g.issued + n ∧ _ ∧ (_ → g.done + g.failed < g.issued + n)
      refine ⟨hid, h.within, by omega, fun hnone => ?_, fun _ => by omega⟩
      dsimp only at hnone ⊢
      split at hnone
      · cases hnone
      · omega
    · rw [h.segments i hi] at hq
      have hafter := hout i q hq
      rw [if_neg hi, Nat.add_zero] at hafter
      rw [hafter]
      exact hcounts i q hq
  · rw [h.inflight, List.mem_append] at hr
    rcases hr with hr | hr
    · obtain ⟨i, q, hrseg, hq, hqlane, hslots⟩ := hnormal j r hr hkind
      obtain ⟨q', hq', hqstream, hqlane'⟩ := hkept i q hq
      exact ⟨i, q', hrseg, hq', hqlane'.trans hqlane, fun x hx => (h.slotStream x).trans ((hslots x hx).trans hqstream.symm)⟩
    · by_cases hj : j = l
      · rw [if_pos hj] at hr
        obtain ⟨m, -, rfl⟩ := List.mem_map.1 hr
        refine ⟨id, _, rfl, h.segment, h.onLane.trans hj.symm, fun x hx => (h.slotStream x).trans ?_⟩
        have hqueue : x ∈ (s.stream k).queue := List.mem_of_mem_drop (List.mem_of_mem_take hx)
        rw [((hs.queues.1 k x).1 hqueue).2]
        exact h.owner.symm
      · rw [if_neg hj] at hr
        cases hr
  · rw [h.inflight, List.mem_append] at hr
    rcases hr with hr | hr
    · exact hdump j r hr hkind
    · split at hr
      · obtain ⟨m, -, rfl⟩ := List.mem_map.1 hr
        cases hkind
      · cases hr
  · by_cases hjk : j = k
    · subst hjk
      rcases Nat.lt_or_ge (g.issued + n) g.capacity with hless | hfull
      · rw [(h.fed hless).2] at hj
        cases hj
        refine ⟨_, h.segment, h.owner, if_neg (by omega), ?_⟩
        rw [hlaneSet]
        obtain ⟨q, hq, -, -, hset⟩ := hown j _ hseg
        cases hfind.symm.trans hq
        exact hset
      · rw [(h.full hfull).2] at hj
        cases hj
    · rw [(hother j hjk).2.1] at hj
      obtain ⟨q, hq, hqstream, hqcause, hset⟩ := hown j i hj
      have hi : i ≠ id := by
        rintro rfl
        cases hfind.symm.trans hq
        exact hjk (hqstream.symm.trans h.owner)
      rw [(hother j hjk).2.2]
      exact ⟨q, (h.segments i hi).trans hq, hqstream, hqcause, hset⟩
  · by_cases hi : i = id
    · subst hi
      cases h.segment.symm.trans hq
      dsimp only at hnone ⊢
      split at hnone
      · cases hnone
      · rw [h.owner]
        exact (h.fed (by omega)).2
    · rw [h.segments i hi] at hq
      have hqopen := hopen i q hq hnone
      have hqk : q.stream ≠ k := fun hqk => by
        rw [hqk, hseg] at hqopen
        exact hi (Option.some.inj hqopen).symm
      rw [(hother q.stream hqk).2.1]
      exact hqopen
  · by_cases hjk : j = k
    · subst hjk
      rcases Nat.lt_or_ge (g.issued + n) g.capacity with hless | hfull
      · rw [(h.fed hless).2]
        rfl
      · rw [(h.full hfull).1] at hj
        cases hj
    · rw [(hother j hjk).2.1]
      exact hopened j ((hother j hjk).1 ▸ hj)
  · by_cases hjk : j = k
    · subst hjk
      rcases Nat.lt_or_ge (g.issued + n) g.capacity with hless | hfull
      · exact .inl (h.fed hless).1
      · rw [(h.full hfull).2] at hj
        cases hj
    · rw [(hother j hjk).1]
      exact hstate j ((hother j hjk).2.1 ▸ hj)
  · by_cases hjk : j = k
    · exact hjk ▸ h.below
    · exact hbound j ((hother j hjk).1 ▸ hj)
  · rw [h.lanes j (by omega)]
    exact hs.exist.1 j hj
  · rw [show d.dump = s.dump from agree (π := State.dump) h.frame]
    exact hs.exist.2

end

end Sys2Proof.Machine
end

section
/-! The books of the segment manager through the commands that change lanes, grants and DUMP records alone. -/

namespace Sys2Proof.Machine

open Sys2Proof

section

variable {s t u : State} {a : Arriving} {l i k id : Nat} {g : TakenGrant} {r : InFlight}

/-! ## The same NORMAL units -/

/-- The NORMAL records of a lane. -/
def Lane.normals (x : Lane) : List InFlight := x.inflight.filter fun r => r.kind == .normal

theorem Lane.mem_normals {x : Lane} : r ∈ x.normals ↔ r ∈ x.inflight ∧ r.kind = .normal := by
  simp [Lane.normals]

/-- What the books speak of is the same, DUMP records aside. -/
structure State.NormalsAlike (s t : State) : Prop where
  segments : t.segments = s.segments
  streams : ∀ k, (t.stream k).state = (s.stream k).state ∧ (t.stream k).openSeg = (s.stream k).openSeg ∧ (t.stream k).laneSet = (s.stream k).laneSet
  normals : ∀ l, (t.lane l).normals = (s.lane l).normals
  dumps : ∀ l r, r ∈ (t.lane l).inflight → r.kind = .dump → r.seg = none
  slots : ∀ k, (t.slot k).stream = (s.slot k).stream ∨ k ∈ s.parser.landedSlots

/-- Only NORMAL records name a segment. -/
theorem Lane.named_normals {x : Lane} (h : ∀ r ∈ x.inflight, r.kind = .dump → r.seg = none) (id : Nat) :
    (x.inflight.filter fun r => r.seg == some id) = x.normals.filter fun r => r.seg == some id := by
  rw [Lane.normals, List.filter_filter]
  refine List.filter_congr fun r hr => ?_
  cases hkind : r.kind with
  | normal => simp
  | dump => simp [h r hr hkind]

theorem State.NormalsAlike.books (h : s.NormalsAlike t) (hs : s.Ledger) (hlanes : t.lanesLawful) (hexist : t.lanesExist) : t.SegmentBooks where
  sorted_segments := h.segments ▸ hs.sorted_segments
  lanes := hlanes
  exist := hexist
  segments := by
    obtain ⟨hcounts, hnormal, hdump⟩ := hs.segments
    refine ⟨fun id g hfind => ?_, fun l r hr hkind => ?_, h.dumps⟩
    · have hout : t.outstanding id g = s.outstanding id g := by
        rw [State.outstanding, State.outstanding, Lane.named_normals (h.dumps _), Lane.named_normals (hdump _), h.normals]
      rw [hout]
      exact hcounts id g (h.segments ▸ hfind)
    · obtain ⟨hold, -⟩ := Lane.mem_normals.1 (h.normals l ▸ Lane.mem_normals.2 ⟨hr, hkind⟩)
      obtain ⟨id, g, hseg, hfind, hlane, hslots⟩ := hnormal l r hold hkind
      exact ⟨id, g, hseg, h.segments ▸ hfind, hlane,
        fun k hk => ((h.slots k).resolve_right (hs.issued_not_landed hold hkind hk)).trans (hslots k hk)⟩
  openSegments := by
    obtain ⟨hown, hopen, hopened, hstate, hbound⟩ := hs.openSegments
    refine ⟨fun k id hk => ?_, fun id g hfind hcause => ?_, fun k hk => ?_, fun k hk => ?_, fun k hk => ?_⟩
    · obtain ⟨-, hseg, hset⟩ := h.streams k
      rw [h.segments, hset]
      exact hown k id (hseg ▸ hk)
    · rw [(h.streams g.stream).2.1]
      exact hopen id g (h.segments ▸ hfind) hcause
    · rw [(h.streams k).2.1]
      exact hopened k ((h.streams k).1 ▸ hk)
    · rw [(h.streams k).1]
      exact hstate k ((h.streams k).2.1 ▸ hk)
    · exact hbound k ((h.streams k).1 ▸ hk)

theorem eraseIdx_normals {rs : List InFlight} (hr : rs[i]? = some r) (hkind : r.kind = .dump) :
    (rs.eraseIdx i).filter (fun r => r.kind == .normal) = rs.filter fun r => r.kind == .normal := by
  obtain ⟨hi, rfl⟩ := List.getElem?_eq_some_iff.1 hr
  conv_rhs => rw [← List.take_append_drop i rs, List.drop_eq_getElem_cons hi]
  rw [List.eraseIdx_eq_take_drop_succ, List.filter_append, List.filter_append, List.filter_cons_of_neg (by simp [hkind])]

/-! ## The dump engine's lanes -/

theorem State.takeGrant_inflight (s : State) (l j : Nat) : ((s.takeGrant l).lane j).inflight = (s.lane j).inflight := by
  rw [State.takeGrant_lane]

theorem State.nextGrantIfUsed_inflight (s : State) (j : Nat) : (s.nextGrantIfUsed.lane j).inflight = (s.lane j).inflight := by
  unfold State.nextGrantIfUsed
  split
  · rfl
  · split
    · exact s.takeGrant_inflight _ j
    · rfl

theorem State.lanesExist_nextGrantIfUsed (h : s.lanesExist) : s.nextGrantIfUsed.lanesExist := by
  unfold State.nextGrantIfUsed
  split
  · exact h
  · split
    · exact State.lanesExist_takeGrant h _
    · exact h

theorem State.dumpCheck_inflight (hsorted : Store.sorted s.lanes = true) (j : Nat) : (s.dumpCheck.lane j).inflight = (s.lane j).inflight := by
  rcases State.dumpCheck_lane_either hsorted j with h | h <;> rw [h]

theorem State.lanesExist_dumpCheck (h : s.lanesExist) (hsorted : Store.sorted s.lanes = true) : s.dumpCheck.lanesExist := by
  refine ⟨fun j hj => ?_, ?_⟩
  · rcases State.dumpCheck_lane_either hsorted j with heq | heq <;> rw [heq, h.1 j hj]
  · rw [s.dumpCheck_dump]
    exact h.2

theorem mem_assignPosition {taken : List TakenGrant} (h : g ∈ assignPosition taken) : ∃ q ∈ taken, g.lane = q.lane := by
  unfold assignPosition at h
  split at h
  · exact ⟨g, h, rfl⟩
  · rename_i q hlast
    rcases List.mem_append.1 h with h | h
    · exact ⟨g, List.dropLast_subset _ h, rfl⟩
    · rw [List.mem_singleton.1 h]
      exact ⟨q, List.mem_of_getLast? hlast, rfl⟩

/-- What the sending of a DUMP unit leaves of the lanes. -/
theorem State.sendWith_lanes (hs : s.Ledger) (hg : g ∈ s.dump.taken) (d : Dump) (hd : ∀ q ∈ d.taken, ∃ q' ∈ s.dump.taken, q.lane = q'.lane)
    (slots : List Nat) (fillers : Nat) (trailer : Bool) (sectors : List (List Byte)) :
    ((s.withDump d).sendDump g slots fillers trailer sectors).lanesExist
      ∧ (∀ l, (((s.withDump d).sendDump g slots fillers trailer sectors).lane l).normals = (s.lane l).normals)
      ∧ ∀ l r, r ∈ (((s.withDump d).sendDump g slots fillers trailer sectors).lane l).inflight → r.kind = .dump → r.seg = none := by
  have hg8 : g.lane < 8 := hs.exist.2 g hg
  have hsent := State.dumpSent_lane (s := s.withDump d) (g := g) (slots := slots) (fillers := fillers) (trailer := trailer) (sectors := sectors)
  have hdump : ((s.withDump d).dumpSent g slots fillers trailer sectors).dump = d := rfl
  have hlane : ∀ j, (s.withDump d).lane j = s.lane j := fun _ => rfl
  have hkind : ((s.withDump d).dumpRecord g slots fillers trailer).kind = .dump ∧ ((s.withDump d).dumpRecord g slots fillers trailer).seg = none :=
    ⟨rfl, rfl⟩
  rw [State.sendDump_eq]
  generalize (s.withDump d).dumpSent g slots fillers trailer sectors = u at *
  generalize (s.withDump d).dumpRecord g slots fillers trailer = q at *
  have hinflight : ∀ j, (u.lane j).inflight = (s.lane j).inflight ++ if j = g.lane then [q] else [] := fun j => by
    rw [hsent]
    by_cases hj : j = g.lane
    · rw [if_pos hj, if_pos hj, hj]
      rfl
    · rw [if_neg hj, if_neg hj, List.append_nil, hlane]
  refine ⟨State.lanesExist_nextGrantIfUsed ⟨fun j hj => ?_, fun q hq => ?_⟩, fun l => ?_, fun l r hr hrkind => ?_⟩
  · rw [hsent, if_neg (by omega), hlane]
    exact hs.exist.1 j hj
  · rw [hdump] at hq
    obtain ⟨q', hq', hsame⟩ := hd q hq
    exact hsame ▸ hs.exist.2 q' hq'
  · rw [Lane.normals, Lane.normals, State.nextGrantIfUsed_inflight, hinflight, List.filter_append]
    have hnone : (if l = g.lane then [q] else []).filter (fun r => r.kind == .normal) = [] := by
      split
      · simp [hkind.1]
      · rfl
    rw [hnone, List.append_nil]
  · rw [State.nextGrantIfUsed_inflight, hinflight, List.mem_append] at hr
    rcases hr with hr | hr
    · exact hs.segments.2.2 l r hr hrkind
    · split at hr
      · rw [List.mem_singleton.1 hr]
        exact hkind.2
      · cases hr

end

end Sys2Proof.Machine
end

section
/-! O59: every command keeps the laws of the segments. -/

namespace Sys2Proof.Machine

open Sys2Proof

section

variable {s t u : State} {a : Arriving} {l i k id : Nat} {g : TakenGrant} {r : InFlight}

/-! ## Outcomes of units -/

/-- The tables of slots and streams, with what counts them. -/
def State.slotSide (s : State) : State :=
  { tenants := s.tenants, slots := s.slots, index := s.index, streams := s.streams, segments := s.segments, starved := s.starved,
    durables := s.durables, flushes := s.flushes, parser := s.parser, sequence := s.sequence, credits := s.credits }

theorem State.answering_slotSide (s : State) (l i : Nat) : (s.answering l i).slotSide = s.slotSide := rfl

theorem State.dumpCheck_slotSide (s : State) : s.dumpCheck.slotSide = s.slotSide := agree s.dumpCheck_frame

theorem State.updLane_slotSide (s : State) (l : Nat) (f : Lane → Lane) : (s.updLane l f).slotSide = s.slotSide := rfl

theorem State.answeringWith_slotSide (s : State) (l i : Nat) (f : Lane → Lane) : (s.answeringWith l i f).slotSide = s.slotSide := by
  rw [State.answeringWith, State.updLane_slotSide, State.answering_slotSide]

theorem State.trailerDone_slotSide (s : State) : s.trailerDone.slotSide = s.slotSide := rfl

theorem State.dataDone_slotSide (s : State) (r : InFlight) : (s.dumpDone r).slotSide = s.slotSide := rfl

theorem State.dumpDone_slotSide (hkind : r.kind = .dump) : ((s.answering l i).recordDone l r).slotSide = s.slotSide := by
  rw [State.recordDone_dump hkind]
  split
  · rw [State.trailerDone_slotSide, State.answeringWith_slotSide]
  · rw [State.dataDone_slotSide, State.answeringWith_slotSide]

theorem State.dumpDone_lane (hcanon : s.lanesCanon) (hkind : r.kind = .dump) (j : Nat) : ∃ waiting, (s.lane j = {} → waiting = []) ∧
    ((s.answering l i).recordDone l r).lane j = if j = l
      then { s.lane l with waiting := waiting, inflight := (s.lane l).inflight.eraseIdx i, consecutive := 0, done := (s.lane l).done + 1 }
      else { s.lane j with waiting := waiting } := by
  have hwith : ∀ j, (s.answeringWith l i fun x => { x with done := x.done + 1 }).lane j = if j = l
      then { s.lane l with
        waiting := (s.lane l).waiting.tail, inflight := (s.lane l).inflight.eraseIdx i, consecutive := 0, done := (s.lane l).done + 1 }
      else s.lane j := fun j => by
    by_cases hj : j = l
    · subst hj
      rw [State.answeringWith_lane, if_pos rfl]
    · rw [State.answeringWith, State.lane_updLane, if_neg hj, State.answering_lane, if_neg hj, if_neg hj]
  have hsorted := State.answeringWith_sorted (l := l) (i := i) (fun x : Lane => { x with done := x.done + 1 }) hcanon
  rw [State.recordDone_dump hkind]
  generalize (s.answeringWith l i fun x => { x with done := x.done + 1 }) = v at *
  split
  · refine ⟨[], fun _ => rfl, ?_⟩
    rw [State.trailerDone, State.enterDumped_lane hsorted, hwith]
    split <;> rfl
  · have hlane : (v.dumpDone r).lane j = v.lane j := rfl
    refine ⟨if j = l then (s.lane l).waiting.tail else (s.lane j).waiting, fun hbare => ?_, ?_⟩
    · split
      · rename_i hj
        rw [← hj, hbare]
        rfl
      · rw [hbare]
    · rw [hlane, hwith]
      by_cases hj : j = l
      · rw [if_pos hj, if_pos hj, if_pos hj]
      · rw [if_neg hj, if_neg hj, if_neg hj]

theorem State.dumpDone_taken (hkind : r.kind = .dump) : ((s.answering l i).recordDone l r).dump.taken = s.dump.taken := by
  rw [State.recordDone_dump hkind]
  split <;> rfl

theorem State.dumpDone_canon (hcanon : s.lanesCanon) : ((s.answering l i).recordDone l r).lanesCanon :=
  closed_lanesCanon.recordDone l r (closed_lanesCanon.lane _ _ (closed_lanesCanon.lane _ _ hcanon))

theorem State.Ledger.lanesCanon (hs : s.Ledger) : s.lanesCanon := ((State.canonical_iff s).1 hs.canonical).lanes

/-- A DONE of a DUMP record (R159, R163). -/
theorem State.Ledger.books_dumpDone (hs : s.Ledger) (hr : (s.lane l).inflight[i]? = some r) (hkind : r.kind = .dump) :
    ((s.answering l i).recordDone l r).dumpCheck.SegmentBooks := by
  have hside := (State.dumpCheck_slotSide _).trans (State.dumpDone_slotSide (s := s) (l := l) (i := i) hkind)
  have hlane := State.dumpDone_lane (l := l) (i := i) hs.lanesCanon hkind
  have htaken := State.dumpDone_taken (s := s) (l := l) (i := i) hkind
  have hsorted := sorted_of_canon (State.dumpDone_canon (l := l) (i := i) (r := r) hs.lanesCanon)
  have hlawful := State.lanesKeep_done hs.lanesCanon l i r
  have hl := State.lt_of_inflight hs.exist hr
  generalize (s.answering l i).recordDone l r = v at *
  have hinflight : ∀ j, (v.dumpCheck.lane j).inflight = if j = l then (s.lane l).inflight.eraseIdx i else (s.lane j).inflight := fun j => by
    rw [State.dumpCheck_inflight hsorted]
    obtain ⟨waiting, -, h⟩ := hlane j
    rw [h]
    split <;> rfl
  have hexist : v.lanesExist := by
    refine ⟨fun j hj => ?_, htaken ▸ hs.exist.2⟩
    obtain ⟨waiting, hnone, h⟩ := hlane j
    rw [h, if_neg (by omega), hnone (hs.exist.1 j hj), hs.exist.1 j hj]
  refine State.NormalsAlike.books ⟨agree (π := State.segments) hside, fun k => ?_, fun j => ?_, fun j q hq => ?_, fun k => .inl ?_⟩ hs
    (fun j => hlawful j (hs.lanes j)) (State.lanesExist_dumpCheck hexist hsorted)
  · rw [show v.dumpCheck.stream k = s.stream k from agree (π := (State.stream · k)) hside]
    exact ⟨rfl, rfl, rfl⟩
  · rw [Lane.normals, Lane.normals, hinflight]
    split
    · rename_i hj
      rw [hj, eraseIdx_normals hr hkind]
    · rfl
  · rw [hinflight] at hq
    split at hq
    · rename_i hj
      exact hs.segments.2.2 l q (List.mem_of_mem_eraseIdx hq)
    · exact hs.segments.2.2 j q hq
  · rw [show v.dumpCheck.slot k = s.slot k from agree (π := (State.slot · k)) hside]

/-- The settlement of a slot keeps the stream that it names (log 18). -/
theorem State.settleSlots_names (s : State) (ks : List Nat) (k : Nat) : ((s.settleSlots ks).slot k).stream = (s.slot k).stream := by
  induction ks generalizing s with
  | nil => rfl
  | cons j ks ih =>
    refine (ih (s.settleSlot j)).trans ?_
    rw [State.settleSlot_slot]
    split
    · rename_i h
      rw [h]
    · rfl

theorem State.recordDone_normal (hkind : r.kind = .normal) : (s.answering l i).recordDone l r = ((s.answering l i).unitDone l r).evalCredit := by
  rw [State.recordDone, hkind]
  exact State.normalDone_eq ..

/-- What a DONE of a NORMAL record leaves before the credits are evaluated. -/
theorem State.Ledger.books_unitDone {e : State} {paid closed : List ReturnParcel} (hs : s.Ledger) (hready : s.DoneReady e l i r paid closed)
    (hr : (s.lane l).inflight[i]? = some r) (hkind : r.kind = .normal) : e.SegmentBooks := by
  have hl := State.lt_of_inflight hs.exist hr
  refine hready.books hs hr hkind (fun k => ?_) (fun j => ?_) ⟨fun j hj => ?_, ?_⟩
  · rw [State.slot, hready.tables.1]
    exact s.settleSlots_names r.slots k
  · by_cases hj : j = l
    · subst hj
      rw [hready.lane]
      exact Lane.lawful_congr (Lane.lawful_erased (hs.lanes j) i (Nat.zero_le 15)) rfl rfl rfl rfl rfl rfl rfl rfl rfl rfl
    · rw [hready.lanes j hj]
      exact hs.lanes j
  · rw [hready.lanes j (by omega)]
    exact hs.exist.1 j hj
  · rw [show e.dump = s.dump from agree (π := State.dump) hready.frame]
    exact hs.exist.2

/-- A DONE of a NORMAL record (R120 to R123). -/
theorem State.Ledger.books_normalDone (hs : s.Ledger) (hr : (s.lane l).inflight[i]? = some r) (hkind : r.kind = .normal) :
    ((s.answering l i).recordDone l r).dumpCheck.SegmentBooks := by
  obtain ⟨paid, closed, hready⟩ := s.doneReady l i r
  have hsorted : Store.sorted ((s.answering l i).recordDone l r).lanes = true :=
    sorted_of_canon (State.dumpDone_canon (l := l) (i := i) (r := r) hs.lanesCanon)
  have hframe := ((s.answering l i).unitDone l r).evalCredit_frame
  rw [State.recordDone_normal hkind] at hsorted ⊢
  generalize (s.answering l i).unitDone l r = e at *
  exact ((hs.books_unitDone hready hr hkind).of_frame hframe).dumpCheck hsorted

theorem State.FailureMade.books {n : Nat} {fails : List (FailReason × InFlight)} {rest : List InFlight} (hs : s.Ledger)
    (h : s.FailureMade u l n fails rest) : u.endFailure.SegmentBooks :=
  (h.toUnitsFailing.books hs h.toUnitsLeave h.canonical.segments h.lanes h.exist).endFailure fun _ => sorted_of_canon h.canonical.lanes

theorem State.Ledger.books_answer (hs : s.Ledger) (hl : l < 8) : (s.takeAnswer l).SegmentBooks := by
  rcases s.takeAnswer_cases l with h | ⟨-, h | ⟨i, r, hr, h | ⟨why, h⟩⟩⟩
  · rw [h]
    exact hs.segmentBooks
  · have hlane := s.tookStray_lane l
    rw [h]
    refine hs.segmentBooks.of_lanes rfl (fun _ => rfl) (fun _ => rfl) (fun j => ?_) (fun j => State.lanesKeep_stray s l j (hs.lanes j))
      (fun j hj => ?_) rfl
    · rw [hlane]
      split
      · rename_i hj
        rw [hj]
      · rfl
    · rw [hlane, if_neg (by omega)]
      exact hs.exist.1 j hj
  · rw [h]
    cases hkind : r.kind with
    | normal => exact hs.books_normalDone hr hkind
    | dump => exact hs.books_dumpDone hr hkind
  · rw [h]
    obtain ⟨rest, hmade⟩ := hs.answerFailed (why := why) hr
    exact hmade.books hs

theorem State.Ledger.books_malformed (hs : s.Ledger) (hl : l < 8) : (s.takeMalformed l).SegmentBooks := by
  rcases s.takeMalformed_cases l with h | h <;> rw [h]
  · exact hs.segmentBooks
  · have hlane := s.tookStray_lane l
    refine hs.segmentBooks.of_lanes rfl (fun _ => rfl) (fun _ => rfl) (fun j => ?_) (fun j => State.lanesKeep_stray s l j (hs.lanes j))
      (fun j hj => ?_) rfl
    · rw [hlane]
      split
      · rename_i hj
        rw [hj]
      · rfl
    · rw [hlane, if_neg (by omega)]
      exact hs.exist.1 j hj

theorem State.Ledger.books_expiry (hs : s.Ledger) (l i : Nat) : (s.expireRecord l i).SegmentBooks := by
  rcases s.expireRecord_cases l i with h | ⟨r, hr, -, h⟩ <;> rw [h]
  · exact hs.segmentBooks
  · obtain ⟨fails, rest, n, u, hmade, heq⟩ := hs.expired_made hr
    rw [heq]
    exact hmade.books hs

theorem State.Ledger.books_laneflt (hs : s.Ledger) (hl : l < 8) (level : Bool) : (s.lanefltTo l level).SegmentBooks := by
  rcases s.lanefltTo_cases l level with h | ⟨-, -, -, -, h⟩ <;> rw [h]
  · exact hs.segmentBooks.of_lanes rfl (fun _ => rfl) (fun _ => rfl) (fun _ => rfl) hs.lanes hs.exist.1 rfl
  · obtain ⟨fails, rest, n, u, hmade, heq⟩ := hs.laneflt_made hl
    rw [heq]
    exact hmade.books hs

theorem State.Ledger.books_issue (hs : s.Ledger) (hl : l < 8) : (s.issueOn l).SegmentBooks := by
  rcases hs.issueOn_made l with h | ⟨d, p, k, id, g, n, hmade, h⟩ <;> rw [h]
  · exact hs.segmentBooks
  · exact (hmade.books hs hl).endRequests

end

end Sys2Proof.Machine
end

section
/-! O59: every command keeps the laws of the segments, and a lawful part has at most 512 of them. -/

namespace Sys2Proof.Machine

open Sys2Proof

section

variable {s t u : State} {a : Arriving} {l i k id : Nat} {g : TakenGrant} {r : InFlight}

/-! ## Requests that change a lane -/

/-- The units of every lane stay, and so does every lane beyond the eight. -/
def State.unitsStay (s t : State) : Prop := ∀ j, (t.lane j).inflight = (s.lane j).inflight ∧ (8 ≤ j → t.lane j = s.lane j)

theorem State.unitsStay_of_lanes (h : t.lanes = s.lanes) : s.unitsStay t := fun j => by
  rw [State.lane, h]
  exact ⟨rfl, fun _ => rfl⟩

theorem State.unitsStay.trans (h : s.unitsStay t) (h' : t.unitsStay u) : s.unitsStay u :=
  fun j => ⟨(h' j).1.trans (h j).1, fun hj => ((h' j).2 hj).trans ((h j).2 hj)⟩

theorem State.unitsStay_updLane {f : Lane → Lane} (hl : l < 8) (hf : ∀ x : Lane, (f x).inflight = x.inflight) : s.unitsStay (s.updLane l f) := fun j => by
  rw [State.lane_updLane]
  refine ⟨?_, fun hj => if_neg (by omega)⟩
  split
  · rename_i h
    rw [hf, h]
  · rfl

theorem State.unitsStay_take {want : Arriving → Bool} {act : State → Arriving → State} (hact : ∀ s a, want a = true → State.unitsStay s (act s a))
    (s : State) : s.unitsStay (s.take want act) := fun j => by
  rcases s.take_cases want act with h | ⟨a, -, -, -, h⟩ | ⟨a, -, hwant, h⟩ <;> rw [h]
  · exact ⟨rfl, fun _ => rfl⟩
  · exact ⟨rfl, fun _ => rfl⟩
  · exact hact _ a hwant j

theorem Arriving.paramLane_lt {p : Param} (h : a.checkedParam = some p) (hlane : paramPerLane p = true) : a.paramLane < 8 := by
  unfold Arriving.checkedParam at h
  split at h
  · cases h
  · split at h
    · cases h
    · rename_i hnot
      cases h
      by_contra hge
      exact hnot ⟨hlane, by omega⟩

theorem State.unitsStay_storeParam (p : Param) (v : Nat) (h : paramPerLane p = true → l < 8) : s.unitsStay (s.storeParam p l v) := by
  cases p with
  | issueWindow => exact State.unitsStay_updLane (f := fun x => { x with window := v }) (h rfl) fun _ => rfl
  | poolLowMark => exact State.unitsStay_updLane (f := fun x => { x with poolLowMark := v }) (h rfl) fun _ => rfl
  | _ => exact State.unitsStay_of_lanes rfl

theorem State.unitsStay_setParam {act : State → State} (hact : ∀ u : State, a.checkedParam ≠ none → u.unitsStay (act u)) :
    s.unitsStay (s.setParam a act) := by
  unfold State.setParam
  cases hchecked : a.checkedParam with
  | none => exact State.unitsStay_of_lanes rfl
  | some p =>
    dsimp only
    split
    · exact State.unitsStay_of_lanes rfl
    · have hstored := State.unitsStay_storeParam (s := s) p (clampInto (paramRange p) a.paramValue) (Arriving.paramLane_lt hchecked)
      exact (hstored.trans (State.unitsStay_of_lanes rfl)).trans (hact _ (by rw [hchecked]; exact Option.some_ne_none p))

theorem State.unitsStay_restartLane (s : State) (a : Arriving) : s.unitsStay (s.restartLane a) := by
  unfold State.restartLane
  dsimp only
  split
  · exact State.unitsStay_of_lanes rfl
  · rename_i hlane
    split
    · exact State.unitsStay_of_lanes rfl
    · split
      · exact State.unitsStay_of_lanes rfl
      · exact (State.unitsStay_updLane (l := a.lane) (f := fun x => { x with up := true, pass := 0, position := 255, consecutive := 0 }) (by omega)
          fun _ => rfl).trans (State.unitsStay_of_lanes rfl)

theorem State.unitsStay_setPoolLowMark (s : State) (a : Arriving) (hparam : a.param = some .poolLowMark) :
    s.unitsStay (s.setParam a (State.rearm a.paramLane)) := by
  refine State.unitsStay_setParam fun u hchecked => ?_
  obtain ⟨p, hp⟩ := Option.ne_none_iff_exists'.1 hchecked
  have hsame : p = .poolLowMark := by
    unfold Arriving.checkedParam at hp
    rw [hparam] at hp
    dsimp only at hp
    split at hp <;> cases hp
    rfl
  exact State.unitsStay_updLane (f := fun x => { x with armed := decide (x.poolLowMark < x.normal.length) })
    (Arriving.paramLane_lt hp (by rw [hsame]; rfl)) fun _ => rfl

theorem State.unitsStay_granting (hl : a.lane < 8) : s.unitsStay (s.granting a) := fun j => by
  rw [State.granting_lane]
  refine ⟨?_, fun hj => if_neg (by omega)⟩
  split
  · rename_i h
    rw [h, Lane.grantedBy, Lane.granted]
    split <;> rfl
  · rfl

theorem State.SegmentBooks.of_unitsStay (hs : s.SegmentBooks) (h : s.unitsStay t) (hsegments : t.segments = s.segments)
    (hstreams : t.streams = s.streams) (hslots : t.slots = s.slots) (htaken : t.dump.taken = s.dump.taken) (hlanes : t.lanesLawful) : t.SegmentBooks :=
  hs.of_lanes hsegments (fun k => by rw [State.stream, hstreams]; rfl) (fun k => by rw [State.slot, hslots]; rfl) (fun l => (h l).1) hlanes
    (fun l hl => ((h l).2 hl).trans (hs.exist.1 l hl)) htaken

theorem State.SegmentBooks.grantBlocks (hs : s.SegmentBooks) (hstarved : s.starvationLawful) (a : Arriving) : (s.grantBlocks a).SegmentBooks := by
  have hreply : ∀ status body, (s.reply a status body).SegmentBooks := fun status body => hs.reply a status body
  by_cases hbad : a.grantsBad = true
  · rw [State.grantBlocks_bad hbad]
    exact hreply _ _
  · by_cases hup : (s.lane a.lane).up = true
    · by_cases hfull : (s.lane a.lane).grantsFull a.grantKind a.entryCount = true
      · rw [State.grantBlocks_full hbad hup hfull]
        exact hreply _ _
      · have hlane : a.lane < 8 := by
          rw [a.grantsBad_iff] at hbad
          omega
        have hlawful : (s.granting a).lanesLawful := fun j => by
          rw [State.granting_lane]
          split
          · rename_i h
            exact Lane.lawful_grantedBy (h ▸ hs.lanes j) hup hbad hfull
          · exact hs.lanes j
        have hgranting : (s.granting a).SegmentBooks := hs.of_unitsStay (State.unitsStay_granting hlane) rfl rfl rfl rfl hlawful
        rw [State.grantBlocks_ok hbad hup hfull]
        split
        · exact (hgranting.serve a.lane _ hstarved).of_frame (State.poolLowNotices_frame _)
        · exact hgranting
    · rw [State.grantBlocks_down hbad (Bool.not_eq_true _ ▸ hup)]
      exact hreply _ _

/-- A part without streams, segments and units. -/
theorem State.SegmentBooks.of_none (hsegments : s.segments = []) (hstreams : s.streams = []) (hinflight : ∀ l, (s.lane l).inflight = [])
    (hlanes : s.lanesLawful) (hexist : s.lanesExist) : s.SegmentBooks := by
  have hfind : ∀ id, Store.find? s.segments id = none := fun id => by rw [hsegments]; rfl
  have hstream : ∀ k, s.stream k = {} := fun k => by rw [State.stream, hstreams]; rfl
  refine ⟨by rw [hsegments]; rfl, hlanes, ⟨fun id g h => ?_, fun l r hr => ?_, fun l r hr => ?_⟩,
    ⟨fun k id h => ?_, fun id g h => ?_, fun k h => ?_, fun k h => ?_, fun k h => ?_⟩, hexist⟩
  · rw [hfind] at h
    cases h
  · rw [hinflight] at hr
    cases hr
  · rw [hinflight] at hr
    cases hr
  · rw [hstream] at h
    cases h
  · rw [hfind] at h
    cases h
  · rw [hstream] at h
    cases h
  · rw [hstream] at h
    cases h
  · rw [hstream] at h
    exact absurd rfl h

theorem State.emptied_inflight (s : State) (j : Nat) : (s.emptied.lane j).inflight = (s.lane j).inflight := by
  have hgiven : (s.givenBack.untabled.lane j).inflight = (s.lane j).inflight := by
    rw [State.lane_untabled, State.givenBack_lane]
    split <;> rfl
  have hemptied := s.emptied_lanes j
  generalize s.givenBack.untabled.lane j = x at hgiven hemptied
  rw [hemptied]
  split
  · exact hgiven
  · exact hgiven

theorem State.quiet_inflight (h : s.quiet = true) (hexist : s.lanesExist) (l : Nat) : (s.lane l).inflight = [] := by
  by_cases hl : l < 8
  · simp only [State.quiet, Bool.and_eq_true, List.all_eq_true, List.mem_range, List.isEmpty_iff] at h
    exact h.1.1.2 l hl
  · rw [hexist.1 l (by omega)]

theorem State.SegmentBooks.clearPart (hs : s.SegmentBooks) (a : Arriving) : (s.clearPart a).SegmentBooks := by
  have hreplied := hs.reply a .ok []
  by_cases hquiet : s.quiet = true
  · rw [State.clearPart_quiet hquiet]
    have hnone : ∀ l, ((s.reply a .ok).lane l).inflight = [] := State.quiet_inflight (s := s) hquiet hs.exist
    generalize s.reply a .ok = u at *
    have hemptied := u.emptied_eq
    refine .of_none (by rw [hemptied]) (by rw [hemptied]) (fun l => (u.emptied_inflight l).trans (hnone l))
      (fun j => u.lanesKeep_emptied j (hreplied.lanes j)) ⟨fun j hj => ?_, by rw [hemptied]; exact hreplied.exist.2⟩
    have hlane := u.emptied_lanes j
    rw [if_neg (by omega), State.lane_untabled, State.givenBack_lane, if_neg (by omega)] at hlane
    exact hlane.trans (hreplied.exist.1 j hj)
  · rw [State.clearPart_notQuiet (Bool.not_eq_true _ ▸ hquiet)]
    exact hs.reply a _ _

/-! ## The dump engine -/

theorem State.Ledger.books_sendWith (hs : s.Ledger) (hg : g ∈ s.dump.taken) (d : Dump) (hd : ∀ q ∈ d.taken, ∃ q' ∈ s.dump.taken, q.lane = q'.lane)
    (slots : List Nat) (fillers : Nat) (trailer : Bool) (sectors : List (List Byte))
    (hlawful : ((s.withDump d).sendDump g slots fillers trailer sectors).lanesLawful) :
    ((s.withDump d).sendDump g slots fillers trailer sectors).SegmentBooks := by
  obtain ⟨hexist, hnormals, hdumps⟩ := State.sendWith_lanes hs hg d hd slots fillers trailer sectors
  have hframe := (s.withDump d).sendDump_frame g slots fillers trailer sectors
  have hwith : (s.withDump d).segments = s.segments ∧ (s.withDump d).streams = s.streams ∧ (s.withDump d).slots = s.slots := ⟨rfl, rfl, rfl⟩
  generalize (s.withDump d).sendDump g slots fillers trailer sectors = v at *
  generalize s.withDump d = u at *
  have hstreams : v.streams = s.streams := (agree (π := State.streams) hframe :).trans hwith.2.1
  have hslots : v.slots = s.slots := (agree (π := State.slots) hframe :).trans hwith.2.2
  refine State.NormalsAlike.books ⟨(agree (π := State.segments) hframe :).trans hwith.1, fun k => ?_, hnormals, hdumps, fun k => .inl ?_⟩ hs hlawful hexist
  · rw [State.stream, hstreams]
    exact ⟨rfl, rfl, rfl⟩
  · rw [State.slot, hslots]
    rfl

theorem State.Ledger.books_dumpUnit (hs : s.Ledger) (h : s.mayDumpUnit = true) : s.dumpUnit.SegmentBooks := by
  have hlawful : s.dumpUnit.lanesLawful := fun j => State.lanesKeep_dumpUnit h j (hs.lanes j)
  obtain ⟨⟨taken, g, hready⟩, -⟩ := State.mayDumpUnit_ready h
  have hg : g ∈ s.dump.taken := by rw [hready.taken]; exact List.mem_append_right _ List.mem_cons_self
  rw [State.dumpUnit_eq (current_append hready.taken)] at hlawful ⊢
  exact hs.books_sendWith hg _ (fun q hq => mem_assignPosition hq) _ _ _ _ hlawful

theorem State.Ledger.books_trailerUnit (hs : s.Ledger) (h : s.mayTrailer = true) : s.trailerUnit.SegmentBooks := by
  obtain ⟨⟨taken, g, hready⟩, -⟩ := State.mayTrailer_ready h
  have hg : g ∈ s.dump.taken := by rw [hready.taken]; exact List.mem_append_right _ List.mem_cons_self
  have hmore : ∀ q ∈ (s.trailerAccount taken g).taken, ∃ q' ∈ s.dump.taken, q.lane = q'.lane := fun q hq => by
    rcases List.mem_append.1 (show q ∈ taken ++ [g.more] from hq) with hq | hq
    · exact ⟨q, by rw [hready.taken]; exact List.mem_append_left _ hq, rfl⟩
    · rw [List.mem_singleton.1 hq]
      exact ⟨g, hg, rfl⟩
  rw [State.trailerUnit_eq hready.taken]
  exact (hs.books_sendWith hg _ hmore _ _ _ _ fun j => State.lanesKeep_sendWith hready _ _ _ _ _ j (hs.lanes j)).dumpCheck
    (sorted_of_canon (State.lanesCanon_sendWith hs.lanesCanon _ _ _ _ _ _))

theorem State.Ledger.books_enterDumping (hs : s.Ledger) : s.enterDumping.SegmentBooks := by
  have hbegun : s.dumpBegun.SegmentBooks := by
    have hframe := s.freeSlotList_frame s.parser.landedSlots
    refine State.NormalsAlike.books ⟨(agree (π := State.segments) hframe :), fun k => ?_, fun l => ?_, fun l r hr => ?_, fun k => .inl ?_⟩ hs
      (fun j => by rw [State.dumpBegun_lane]; exact hs.lanes j) ⟨fun j hj => (State.dumpBegun_lane j).trans (hs.exist.1 j hj), ?_⟩
    · rw [show s.dumpBegun.stream k = s.stream k from (agree (π := (State.stream · k)) hframe :)]
      exact ⟨rfl, rfl, rfl⟩
    · rw [State.dumpBegun_lane]
    · rw [State.dumpBegun_lane] at hr
      exact hs.segments.2.2 l r hr
    · rw [State.dumpBegun_slot]
      split <;> rfl
    · rw [State.dumpBegun_dump]
      exact hs.exist.2
  have hcanon : s.dumpBegun.lanesCanon := by
    rw [State.lanesCanon, State.dumpBegun_lanes]
    exact hs.lanesCanon
  rw [State.enterDumping_eq]
  generalize s.dumpBegun = u at *
  have hframe := u.takeGrant_frame 0
  have hstreams : ∀ k, (u.takeGrant 0).stream k = u.stream k := fun k => (agree (π := (State.stream · k)) hframe :)
  have halike : u.BooksAlike (u.takeGrant 0) := ⟨agree (π := State.segments) hframe, fun k => by rw [hstreams]; exact ⟨rfl, rfl, rfl⟩,
    u.takeGrant_inflight 0, fun _ _ _ _ k _ => congrArg Slot.stream (agree (π := (State.slot · k)) hframe :)⟩
  exact (halike.books hbegun (fun j => State.lanesKeep_takeGrant u 0 j (hbegun.lanes j)) (State.lanesExist_takeGrant hbegun.exist 0)).dumpCheck
    (sorted_of_canon (State.takeGrant_canon u 0 hcanon))

/-! ## Every command -/

/-- A step that begins in a state of `P` ends in one of `Q`. -/
theorem step_gives {P Q : State → Prop} (hnow : ∀ s n, P s → Q { s with now := n }) (hpending : ∀ s q, P s → P { s with pending := q })
    (hafter : ∀ c s, P s → Q (s.after c)) (hs : P s) (hstep : step s = .next t) : Q t := by
  cases hq : s.pending with
  | nil =>
    rw [step_nil hq] at hstep
    cases hstep
    exact hnow s _ hs
  | cons c rest =>
    rw [step_cons hq, exec_eq_next_iff] at hstep
    exact hstep ▸ hafter c _ (hpending s rest hs)

/-- The waiting commands are no part of the ledger. -/
theorem State.Ledger.withPending (hs : s.Ledger) (q : List Instr) : ({ s with pending := q } : State).Ledger :=
  ⟨hs.canonical, hs.lanes, hs.starvation, hs.landing, hs.landingSlots, hs.queues, hs.issuedSlots, hs.sequences, hs.index, hs.counts, hs.segments,
    hs.openSegments, hs.exist⟩

theorem State.SegmentBooks.take {want : Arriving → Bool} {act : State → Arriving → State} (hs : s.SegmentBooks)
    (hact : ∀ a, ({ s with parser := .awaiting } : State).SegmentBooks → (act { s with parser := .awaiting } a).SegmentBooks) :
    (s.take want act).SegmentBooks := by
  have hparser : ∀ p, ({ s with parser := p } : State).SegmentBooks := fun p => ⟨hs.sorted_segments, hs.lanes, hs.segments, hs.openSegments, hs.exist⟩
  rcases s.take_cases want act with h | ⟨a, -, -, -, h⟩ | ⟨a, -, -, h⟩ <;> rw [h]
  · exact hs
  · exact hparser _
  · exact hact a (hparser _)

theorem State.SegmentBooks.closed_of_unbound (hs : s.SegmentBooks) (h : (s.stream k).state = .unbound) : (s.stream k).openSeg = none := by
  obtain ⟨-, -, -, hstate, -⟩ := hs.openSegments
  by_contra hopen
  rcases hstate k (Option.isSome_iff_ne_none.2 hopen) with h' | h' <;> rw [h] at h' <;> cases h'

theorem State.Ledger.books_after (hs : s.Ledger) (c : Instr) : (s.after c).SegmentBooks := by
  have hreset : c = .resetRelease ∨ (∃ r l, c = .resetAssert r l) → (s.after c).SegmentBooks := fun hc => by
    rcases s.after_reset_bare hc with hsame | hbare
    · rw [hsame]
      exact hs.segmentBooks
    · exact .of_none hbare.segments hbare.streams (fun l => by rw [hbare.lane]) (fun l => hbare.lane l ▸ (by simp [Lane.lawful])) ⟨fun l _ => hbare.lane l, by rw [hbare.taken]; exact fun _ h => absurd h List.not_mem_nil⟩
  by_cases hresets : c = .resetRelease ∨ ∃ r l, c = .resetAssert r l
  · exact hreset hresets
  have hlawful : (s.after c).lanesLawful := fun j => State.lanesKeep_after hs.lanesCanon hresets j (hs.lanes j)
  have hstay : s.unitsStay (s.after c) → (s.after c).segments = s.segments → (s.after c).streams = s.streams → (s.after c).slots = s.slots →
      (s.after c).dump = s.dump → (s.after c).SegmentBooks := fun h hsegments hstreams hslots hdump =>
    hs.segmentBooks.of_unitsStay h hsegments hstreams hslots (congrArg Dump.taken hdump) hlawful
  cases hkeeps : keepsBooks c with
  | true => exact hs.books_keepsBooks hkeeps
  | false =>
    cases c
    case resetAssert r l => exact hreset (.inr ⟨r, l, rfl⟩)
    case resetRelease => exact hreset (.inl rfl)
    case setParam =>
      exact hstay (State.unitsStay_take (act := fun s a => s.setParam a id) (fun s a _ => State.unitsStay_setParam fun _ _ => State.unitsStay_of_lanes rfl) s)
        (s.after_agree _) (s.after_agree _) (s.after_agree _) (s.after_agree _)
    case setPoolLowMark =>
      exact hstay (State.unitsStay_take (act := fun s a => s.setParam a (State.rearm a.paramLane))
          (fun s a hwant => State.unitsStay_setPoolLowMark s a (Arriving.param_of_setsParam hwant)) s)
        (s.after_agree _) (s.after_agree _) (s.after_agree _) (s.after_agree _)
    case restartLane =>
      exact hstay (State.unitsStay_take (act := State.restartLane) (fun s a _ => State.unitsStay_restartLane s a) s)
        (s.after_agree _) (s.after_agree _) (s.after_agree _) (s.after_agree _)
    case answerArrival lane head =>
      have harrives : s.unitsStay (s.laneArrives lane.val head) := by
        unfold State.laneArrives
        split
        · exact State.unitsStay_updLane (f := fun x => { x with waiting := x.waiting ++ [{ head := head, arrival := s.arrivals }] }) lane.isLt fun _ => rfl
        · exact State.unitsStay_of_lanes rfl
      exact hstay harrives (s.after_agree _) (s.after_agree _) (s.after_agree _) (s.after_agree _)
    case putStream => exact hs.segmentBooks.take (act := State.putStream) fun a h => h.putStream fun hunbound => h.closed_of_unbound hunbound
    case holdStream => exact hs.segmentBooks.take (act := State.holdStream) fun a h => h.holdStream a
    case releaseStream => exact hs.segmentBooks.take (act := State.releaseStream) fun a h => h.releaseStream a
    case rotateStream => exact hs.segmentBooks.take (act := State.rotateStream) fun a h => h.rotateStream a
    case unbindStream => exact hs.segmentBooks.take (act := State.unbindStream) fun a h => h.unbindStream a
    case grantBlocks => exact hs.segmentBooks.take (act := State.grantBlocks) fun a h => h.grantBlocks hs.starvation a
    case clearPart => exact hs.segmentBooks.take (act := State.clearPart) fun a h => h.clearPart a
    case issue lane => exact hs.books_issue lane.isLt
    case answer lane => exact hs.books_answer lane.isLt
    case malformedLaneParcel lane => exact hs.books_malformed lane.isLt
    case expiry lane i => exact hs.books_expiry lane.val i
    case laneflt lane level => exact hs.books_laneflt lane.isLt level
    case dumpUnitSend =>
      show (if s.mayDumpUnit then s.dumpUnit else s).SegmentBooks
      split
      · exact hs.books_dumpUnit ‹_›
      · exact hs.segmentBooks
    case trailerSend =>
      show (if s.mayTrailer then s.trailerUnit else s).SegmentBooks
      split
      · exact hs.books_trailerUnit ‹_›
      · exact hs.segmentBooks
    case pfail level =>
      show (s.pfailTo level).SegmentBooks
      rcases s.pfailTo_cases level with h | ⟨-, h⟩ <;> rw [h]
      · exact hs.segmentBooks.of_unitsStay (State.unitsStay_of_lanes rfl) rfl rfl rfl rfl hs.lanes
      · have hlevel : (s.pfailAt level).Ledger := ⟨hs.canonical, hs.lanes, hs.starvation, hs.landing, hs.landingSlots, hs.queues, hs.issuedSlots,
          hs.sequences, hs.index, hs.counts, hs.segments, hs.openSegments, hs.exist⟩
        exact hlevel.books_enterDumping
    all_goals cases hkeeps

end

/-- Settles O59: the books of the segment manager follow every command, and at most 256 segments are OPEN and 256 DRAINING. -/
theorem stepKeepsSegmentLaws : Obligations.StepKeepsSegmentLaws := by
  unfold Obligations.StepKeepsSegmentLaws
  refine ⟨fun s t hs hstep => ?_, fun s hs => ?_⟩
  · have hbooks : t.SegmentBooks := step_gives (P := State.Ledger) (Q := State.SegmentBooks)
      (fun _ _ h => ⟨h.sorted_segments, h.lanes, h.segments, h.openSegments, h.exist⟩) (fun _ q h => h.withPending q) (fun c _ h => h.books_after c) hs hstep
    exact ⟨hbooks.segments, hbooks.openSegments, hbooks.exist⟩
  · exact ⟨hs.segmentBooks.segments_length, hs.segmentBooks.openSegments_length, hs.segmentBooks.drainingSegments_length⟩

end Sys2Proof.Machine
end

section
/-! Rest in RUN: after every event no IDLE stream has a ready unit, and no POOL-LOW is due (R56, R82). -/

namespace Sys2Proof.Machine

open Sys2Proof

section

variable {s t u : State} {a : Arriving} {l i k : Nat} {r : InFlight}

/-! ## What the end of an event settles -/

/-- An IDLE stream has no ready unit. -/
def State.settledAt (s : State) (k : Nat) : Prop := (s.stream k).state = .idle → (s.stream k).ready = 0

theorem State.requestIfDue_settled (v : State) (k : Nat) : (v.requestIfDue k).settledAt k := by
  by_cases hdue : (v.stream k).state = .idle ∧ 1 ≤ (v.stream k).ready
  · rw [State.requestIfDue, if_pos hdue, State.requestSegment]
    rcases v.laneFor_cases k with ⟨l, i, g, rest, hlane, -, -, -, -, hnormal, -⟩ | ⟨hlane, -⟩ <;> rw [hlane]
    · intro hidle
      rw [State.openFrom_stream hnormal, if_pos rfl] at hidle
      cases hidle
    · intro hidle
      rw [show (v.starve k).stream k = _ from (v.starve_stream k k).trans (if_pos rfl)] at hidle
      cases hidle
  · have hundue : v.settledAt k := fun hidle => by
      by_contra hready
      exact hdue ⟨hidle, Nat.pos_of_ne_zero hready⟩
    rw [State.requestIfDue_of hundue]
    exact hundue

theorem State.segmentRequests_settled (hrun : u.part = .run) (hk : k < 256) : u.segmentRequests.settledAt k := by
  have hswept : ∀ n, k < n → ((List.range n).foldl State.requestIfDue u).settledAt k := fun n => by
    induction n with
    | zero => exact fun h => absurd h (Nat.not_lt_zero k)
    | succ n ih =>
      intro hlt
      rw [List.range_succ, List.foldl_append]
      generalize (List.range n).foldl State.requestIfDue u = v at *
      by_cases hkn : k = n
      · rw [hkn]
        exact v.requestIfDue_settled n
      · have hkept : (v.requestIfDue n).stream k = v.stream k := (v.asked_requestIfDue n).others k (.inl hkn)
        show (v.requestIfDue n).settledAt k
        unfold State.settledAt
        rw [hkept]
        exact ih (by omega)
  rw [State.segmentRequests, if_pos hrun]
  exact hswept 256 hk

/-- After an event that ends with the segment requests RUN is at rest. -/
theorem State.calm_endRequests (hrun : u.part = .run) : u.endRequests.calm := by
  refine ⟨fun k hk => ?_, ?_⟩
  · have hstream : u.endRequests.stream k = u.segmentRequests.stream k := (agree (π := (State.stream · k)) u.segmentRequests.poolLowNotices_frame :)
    rw [hstream]
    exact State.segmentRequests_settled hrun hk
  · exact u.segmentRequests.poolLowNotices_due

theorem State.calmInRun_endRequests (u : State) : u.endRequests.calmInRun := fun hrun =>
  State.calm_endRequests ((agree (π := State.part) u.endRequests_frame : u.endRequests.part = u.part).symm.trans hrun)

theorem State.dumpCheck_run (h : s.dumpCheck.part = .run) : s.dumpCheck = s := by
  unfold State.dumpCheck at *
  by_cases hdumping : s.part = .dumping
  · have hnot : s.part ≠ .run := by rw [hdumping]; decide
    rw [if_pos hdumping] at h
    split at h
    · split at h
      · exact absurd h hnot
      · cases h
    · split at h
      · exact absurd h hnot
      · exact absurd h hnot
  · rw [if_neg hdumping]

theorem State.calmInRun_dumpCheck (h : s.calmInRun) : s.dumpCheck.calmInRun := fun hrun => by
  have heq := State.dumpCheck_run hrun
  rw [heq] at hrun ⊢
  exact h hrun

theorem State.calmInRun_endFailure (u : State) : u.endFailure.calmInRun := State.calmInRun_dumpCheck (State.calmInRun_endRequests _)

end

end Sys2Proof.Machine
end

section
/-! UNBOUND streams hold nothing: the commands that change queues and pads leave them so (R20, R55, R67). -/

namespace Sys2Proof.Machine

open Sys2Proof

section

variable {s t u : State} {a : Arriving} {l i k : Nat} {r : InFlight}

/-- UNBOUND streams stay UNBOUND, and those without queue and pad stay so. -/
def State.UnboundKept (s u : State) : Prop := ∀ k, (s.stream k).state = .unbound → (u.stream k).state = .unbound
  ∧ ((s.stream k).queue = [] ∧ (s.stream k).pad = false → (u.stream k).queue = [] ∧ (u.stream k).pad = false)

namespace State.UnboundKept

theorem refl (s : State) : s.UnboundKept s := fun _ h => ⟨h, fun h => h⟩

theorem trans (h : s.UnboundKept t) (h' : t.UnboundKept u) : s.UnboundKept u := fun k hk =>
  ⟨(h' k (h k hk).1).1, fun hnone => (h' k (h k hk).1).2 ((h k hk).2 hnone)⟩

theorem of_stream (h : ∀ k, (s.stream k).state = .unbound → u.stream k = s.stream k) : s.UnboundKept u := fun k hk => by
  rw [h k hk]
  exact ⟨hk, fun h => h⟩

theorem of_frame {m : State → State} (h : m u = m s) (hstreams : ∀ s, (m s).streams = s.streams := by intro _; rfl) : s.UnboundKept u :=
  of_stream fun k _ => by rw [State.stream, show u.streams = s.streams from agree h hstreams]; rfl

theorem foldl {α : Type} {f : State → α → State} (hf : ∀ s x, State.UnboundKept s (f s x)) (xs : List α) (s : State) : s.UnboundKept (xs.foldl f s) := by
  induction xs generalizing s with
  | nil => exact .refl s
  | cons x xs ih => exact (hf s x).trans (ih _)

theorem setStream {j : Nat} {r : Stream} (h : (s.stream j).state ≠ .unbound) : s.UnboundKept (s.setStream j r) := of_stream fun k hk => by
  rw [State.stream_setStream, if_neg]
  rintro rfl
  exact h hk

/-! ## Pads and counters -/

theorem bound_of_paddable {t : Stream} (h : t.paddable = true) : t.state ≠ .unbound := by
  simp only [Stream.paddable, Stream.bound, Bool.and_eq_true, bne_iff_ne] at h
  exact h.1.1

theorem padStream (s : State) (k : Nat) : s.UnboundKept (s.padStream k) := by
  unfold State.padStream
  split
  · exact setStream (bound_of_paddable ‹_›)
  · exact .refl s

theorem lingerCheck (s : State) (k : Nat) : s.UnboundKept (s.lingerCheck k) := by
  unfold State.lingerCheck
  split
  · exact padStream s k
  · exact .refl s

theorem lingerTick (s : State) (k : Nat) : s.UnboundKept (s.lingerTick k) := by
  unfold State.lingerTick
  split
  · exact (setStream (bound_of_paddable ‹_›)).trans (lingerCheck _ k)
  · exact .refl s

theorem durablePads (s : State) : s.UnboundKept s.durablePads := by
  unfold State.durablePads
  split
  · refine foldl (fun s k => ?_) _ s
    split
    · exact padStream s k
    · exact .refl s
  · exact .refl s

theorem pressure (s : State) : s.UnboundKept s.pressure := by
  unfold State.pressure
  split
  · split
    · exact .refl s
    · exact padStream s _
  · exact .refl s

theorem flushPads (s : State) (fn : Nat) : s.UnboundKept (s.flushPads fn) := by
  refine foldl (fun s k => ?_) _ s
  split
  · exact padStream s k
  · exact .refl s

theorem endRequests (u : State) : u.UnboundKept u.endRequests := of_stream fun k hk =>
  u.endRequests_ends.others k (.inr (by rw [hk]; decide))

/-! ## The staging of a WRITE -/

theorem route_bound {lba : Nat} (h : (s.stream (s.tenant a.fn).defaultStream).bound = true) : (s.stream (s.route a lba).2).bound = true := by
  have hframe := s.route_frame a lba
  have hstream : ∀ j, (s.route a lba).1.stream j = s.stream j := fun j => (agree (π := (State.stream · j)) hframe :)
  have hroute : (s.route a lba).2 = (s.route a lba).1.fallback (s.tenant a.fn)
      ((hintStream a (s.tenant a.fn)).getD ((s.route a lba).1.rangeChoice (s.tenant a.fn)
        (s.coveringEntry (s.tenant a.fn) a.ns lba))) := rfl
  generalize (s.route a lba).1 = v at *
  rw [hroute, State.fallback, hstream]
  split
  · assumption
  · exact h

theorem sectorCounted (u : State) (fn c : Nat) : u.UnboundKept (u.sectorCounted fn c) := fun k hk => by
  rw [State.sectorCounted_stream]
  exact ⟨hk, fun h => h⟩

theorem sectorIndexed {lba k : Nat} (h : (s.stream (s.tenant a.fn).defaultStream).bound = true) : s.UnboundKept (s.sectorIndexed a lba k) :=
  of_stream fun j hj => by
    rw [State.sectorIndexed_stream, if_neg]
    rintro rfl
    have hbound := route_bound (lba := lba) h
    rw [Stream.bound, hj] at hbound
    cases hbound

theorem supersede (u : State) (fn o : Nat) : u.UnboundKept (u.supersede fn o) := fun k hk => by
  rw [State.supersede_stream]
  split
  · rw [Stream.without_eq]
    refine ⟨hk, fun ⟨hqueue, hpad⟩ => ⟨?_, ?_⟩⟩
    · show (u.stream k).queue.filter _ = []
      rw [hqueue]
      rfl
    · show ((u.stream k).pad && _) = false
      rw [hpad]
      rfl
  · exact ⟨hk, fun h => h⟩

end State.UnboundKept

/-- What the staging of a sector leaves of a tenant's record. -/
def Tenant.settings (t : Tenant) : Tenant := { t with stagedCount := 0, landed := 0, superseded := 0 }

theorem State.supersede_settings (u : State) (fn o j : Nat) : ((u.supersede fn o).tenant j).settings = (u.tenant j).settings := by
  have hfreed : ∀ (v : State) i, ((v.freeSlot o).tenant i).settings = (v.tenant i).settings := fun v i => by
    rw [State.freeSlot_tenant]
    split <;> rfl
  rw [State.supersede_eq, State.tenant_setTenant]
  split
  · rename_i hj
    rw [hj]
    exact hfreed _ fn
  · exact hfreed _ j

theorem State.stageSector_settings (s : State) (a : Arriving) (x : Nat × Nat) (j : Nat) :
    ((s.stageSector a x).tenant j).settings = (s.tenant j).settings := by
  obtain ⟨lba, k⟩ := x
  have hindexed : ∀ i, (s.sectorIndexed a lba k).tenant i = s.tenant i := fun i => by
    rw [State.sectorIndexed_eq]
    rfl
  have hcounted : ∀ (u : State) fn c, ((u.sectorCounted fn c).tenant j).settings = (u.tenant j).settings := fun u fn c => by
    rw [State.sectorCounted_tenant]
    split
    · rename_i hj
      rw [hj]
      rfl
    · rfl
  rcases s.stageSector_either a lba k with h | ⟨o, h⟩ <;> rw [h]
  · rw [State.sectorKept, hcounted, hindexed]
  · rw [State.sectorOver, hcounted, State.supersede_settings, hindexed]

/-- The tenant's default stream is bound: checked before a WRITE is staged (R38). -/
def State.routed (s : State) (a : Arriving) : Prop := (s.stream (s.tenant a.fn).defaultStream).bound = true

theorem State.routed_of_accepts (h : s.writeRefusal a = none) : s.routed a := by
  unfold State.writeRefusal at h
  dsimp only at h
  repeat' split at h
  all_goals try cases h
  rename_i hbound _
  simpa [State.routed] using hbound

theorem State.routed_stageSector (h : s.routed a) (x : Nat × Nat) : (s.stageSector a x).routed a := by
  have hdefault : ((s.stageSector a x).tenant a.fn).defaultStream = (s.tenant a.fn).defaultStream :=
    (congrArg Tenant.defaultStream (s.stageSector_settings a x a.fn) :)
  have hstate : ∀ j, ((s.stageSector a x).stream j).state = (s.stream j).state := fun j => (congrArg Stream.state (State.standing_stageSector x j) :)
  rw [State.routed, Stream.bound, hdefault, hstate]
  exact h

namespace State.UnboundKept

theorem stageSector (h : s.routed a) (x : Nat × Nat) : s.UnboundKept (s.stageSector a x) := by
  obtain ⟨lba, k⟩ := x
  rcases s.stageSector_either a lba k with heq | ⟨o, heq⟩ <;> rw [heq]
  · exact (sectorIndexed h).trans (sectorCounted _ _ _)
  · exact ((sectorIndexed h).trans (supersede _ _ _)).trans (sectorCounted _ _ _)

theorem stageAll (h : s.routed a) : s.UnboundKept (s.stageAll a) := by
  have hfold : ∀ (xs : List (Nat × Nat)) (u : State), u.routed a → u.UnboundKept (xs.foldl (State.stageSector a) u) := by
    intro xs
    induction xs with
    | nil => exact fun u _ => .refl u
    | cons x xs ih => exact fun u hu => (stageSector hu x).trans (ih _ (State.routed_stageSector hu x))
  exact hfold _ s h

theorem acceptWrite (h : s.routed a) : s.UnboundKept (s.acceptWrite a) := by
  have hrecorded : s.UnboundKept (s.writeRecorded a) := by
    unfold State.writeRecorded
    split
    · exact (stageAll h).trans (of_frame (State.createDurable_frame ..))
    · exact (stageAll h).trans (of_frame (State.enqueue_frame ..))
  have hpads := hrecorded.trans ((durablePads _).trans (pressure _))
  have hcredited : s.UnboundKept (s.writeCredited a) := by
    unfold State.writeCredited
    split
    · exact hpads.trans (of_frame (State.evalCredit_frame _))
    · exact hpads
  rw [State.acceptWrite_eq]
  exact hcredited.trans (endRequests _)

theorem refuseWrite (s : State) (a : Arriving) (status : LandedStatus) : s.UnboundKept (s.refuseWrite a status) := of_frame (s.refuseWrite_frame a status)

theorem decideWrite (s : State) (a : Arriving) : s.UnboundKept (s.decideWrite a) := by
  rcases s.decideWrite_cases a with ⟨status, -, h⟩ | ⟨hnone, ⟨-, h⟩ | ⟨-, h⟩⟩ <;> rw [h]
  · exact refuseWrite s a status
  · exact of_stream fun _ _ => rfl
  · exact acceptWrite (State.routed_of_accepts hnone)

theorem takeWrite (s : State) (a : Arriving) : s.UnboundKept (s.takeWrite a) := by
  rcases s.takeWrite_cases a with ⟨status, h⟩ | ⟨-, -, h⟩ <;> rw [h]
  · exact refuseWrite s a status
  · exact decideWrite s a

theorem take {want : Arriving → Bool} {act : State → Arriving → State} (hact : ∀ s a, want a = true → State.UnboundKept s (act s a)) (s : State) :
    s.UnboundKept (s.take want act) := by
  rcases s.take_cases want act with h | ⟨a, -, -, -, h⟩ | ⟨a, -, hwant, h⟩ <;> rw [h]
  · exact .refl s
  · exact of_stream fun _ _ => rfl
  · exact (of_stream fun _ _ => rfl : s.UnboundKept { s with parser := .awaiting }).trans (hact _ a hwant)

theorem retake (s : State) : s.UnboundKept s.retake := by
  unfold State.retake
  split
  · split
    · exact (of_stream fun _ _ => rfl : s.UnboundKept { s with parser := .awaiting }).trans (decideWrite _ _)
    · exact .refl s
  · exact .refl s

theorem takeFlush (s : State) (a : Arriving) : s.UnboundKept (s.takeFlush a) := by
  have henqueue : ∀ p, s.UnboundKept (s.enqueue p) := fun p => of_frame (s.enqueue_frame p)
  have hmarked : s.UnboundKept (s.flushMarked a) :=
    ((of_frame (State.markSlots_frame s _)).trans (of_frame (State.setFlush_frame ..))).trans (flushPads _ a.fn)
  have haccept : s.UnboundKept (s.acceptFlush a) := hmarked.trans (endRequests _)
  cases hvalid : s.validTenant a.fn with
  | false =>
    rw [State.takeFlush_of_noTenant hvalid]
    exact henqueue _
  | true =>
    cases hrecord : Store.find? s.flushes a.fn with
    | none =>
      rw [State.takeFlush_of_noRecord hvalid hrecord]
      repeat' split
      · exact henqueue _
      · exact henqueue _
      · exact haccept
    | some r =>
      rw [State.takeFlush_of_record hvalid hrecord]
      split
      · exact henqueue _
      · exact haccept

theorem checkAllLinger (s : State) : s.UnboundKept s.checkAllLinger := (foldl lingerCheck _ s).trans (endRequests _)

theorem storeDurableLinger (s : State) (a : Arriving) (v : Nat) (body : List Byte) :
    s.UnboundKept ((s.storeParam .durableLinger a.paramLane v).reply a .ok body) := of_stream fun _ _ => rfl

theorem setDurableLinger (s : State) (a : Arriving) (h : a.param = some .durableLinger) : s.UnboundKept (s.setParam a State.checkAllLinger) := by
  rcases s.setParam_cases a State.checkAllLinger with ⟨status, heq⟩ | ⟨p, hparam, heq⟩ <;> rw [heq]
  · exact of_frame (s.reply_frame a status [])
  · cases h.symm.trans hparam
    exact (storeDurableLinger s a _ _).trans (checkAllLinger _)

theorem flushStream (s : State) (a : Arriving) : s.UnboundKept (s.flushStream a) := by
  unfold State.flushStream
  split
  · exact ((padStream s a.stream).trans (of_frame (State.reply_frame _ a .ok []))).trans (endRequests _)
  · exact of_frame (s.reply_frame a .wrongState [])

theorem ticked (s : State) : s.UnboundKept (s.forStreams State.lingerTick).endRequests := (foldl lingerTick _ s).trans (endRequests _)

theorem clockRuns (s : State) (d : Nat) : s.UnboundKept { s.reachTime d with lingerClock := some (d + 1000) } := of_stream fun _ _ => rfl

theorem lingerExpires (s : State) : s.UnboundKept s.lingerExpires := by
  unfold State.lingerExpires
  split
  · exact .refl s
  · rename_i d _
    split
    · exact (clockRuns s d).trans (ticked { s.reachTime d with lingerClock := some (d + 1000) })
    · exact .refl s

/-- Every command that acts beside the segment manager keeps UNBOUND streams as they are. -/
theorem after {c : Instr} (h : keepsBooks c = true) (s : State) : s.UnboundKept (s.after c) := by
  have hsame : (s.after c).streams = s.streams → s.UnboundKept (s.after c) := fun hsame => of_stream fun k _ => by rw [State.stream, hsame]; rfl
  cases c
  case write => exact (take (fun s a _ => takeWrite s a) s : s.UnboundKept (s.take _ State.takeWrite))
  case heldWriteRetaking => exact retake s
  case flush => exact (take (fun s a _ => takeFlush s a) s : s.UnboundKept (s.take _ State.takeFlush))
  case setDurableLinger =>
    exact (take (fun s a hw => setDurableLinger s a (Arriving.param_of_setsParam hw)) s :
      s.UnboundKept (s.take (·.setsParam .durableLinger) fun s a => s.setParam a State.checkAllLinger))
  case flushStream => exact (take (fun s a _ => flushStream s a) s : s.UnboundKept (s.take _ State.flushStream))
  case lingerClockExpiry => exact lingerExpires s
  all_goals first | exact hsame (s.after_agree _) | cases h

end State.UnboundKept

end

end Sys2Proof.Machine
end

section
/-! The in-flight counts of the streams (R53, R123): what keeps the units in flight keeps them. -/

namespace Sys2Proof.Machine

open Sys2Proof

section

variable {s t u : State} {a : Arriving} {l i k id : Nat} {r : InFlight} {g : Segment}

/-! ## The units of a stream -/

theorem State.unitsOf_normals (x : Lane) (k : Nat) : s.unitsOf x.inflight k = s.unitsOf x.normals k := by
  rw [State.unitsOf, State.unitsOf, Lane.normals, List.filter_filter]
  refine congrArg List.length (List.filter_congr fun r _ => ?_)
  cases hkind : r.kind with
  | normal => simp
  | dump => simp [State.unitStream, hkind]

/-- The NORMAL units in flight are the same and their streams too; the streams' in-flight counts stay, and no stream becomes UNBOUND. -/
structure State.UnitsAlike (s t : State) : Prop where
  normals : ∀ l, (t.lane l).normals = (s.lane l).normals
  owners : ∀ l r, r ∈ (s.lane l).normals → t.unitStream r = s.unitStream r
  inflight : ∀ k, (t.stream k).inflight = (s.stream k).inflight
  unbound : ∀ k, (t.stream k).state = .unbound →
    (s.stream k).state = .unbound ∧ (t.stream k).queue = (s.stream k).queue ∧ (t.stream k).pad = (s.stream k).pad

theorem State.unitsInFlight_congr (hnormals : ∀ l, (t.lane l).normals = (s.lane l).normals)
    (howners : ∀ l r, r ∈ (s.lane l).normals → t.unitStream r = s.unitStream r) (k : Nat) : t.unitsInFlight k = s.unitsInFlight k := by
  refine congrArg List.sum (List.map_congr_left fun l _ => ?_)
  rw [State.unitsOf_normals, State.unitsOf_normals, hnormals]
  refine congrArg List.length (List.filter_congr fun r hr => ?_)
  rw [howners l r hr]

theorem State.UnitsAlike.trans (h : s.UnitsAlike t) (h' : t.UnitsAlike u) : s.UnitsAlike u where
  normals l := (h'.normals l).trans (h.normals l)
  owners l r hr := (h'.owners l r (h.normals l ▸ hr)).trans (h.owners l r hr)
  inflight k := (h'.inflight k).trans (h.inflight k)
  unbound k hk := by
    obtain ⟨ht, hqueue, hpad⟩ := h'.unbound k hk
    obtain ⟨hs, hqueue', hpad'⟩ := h.unbound k ht
    exact ⟨hs, hqueue.trans hqueue', hpad.trans hpad'⟩

theorem State.UnitsAlike.lawful (h : s.UnitsAlike t) (hs : s.unitsLawful) : t.unitsLawful := by
  refine ⟨fun k => ?_, fun k hk => ?_⟩
  · rw [h.inflight, State.unitsInFlight_congr h.normals h.owners]
    exact hs.1 k
  · obtain ⟨hunbound, hqueue, hpad⟩ := h.unbound k hk
    rw [hqueue, hpad, h.inflight]
    exact hs.2 k hunbound

/-- Segments that are not those of units in flight may come and go. -/
theorem State.owners_kept (hs : s.segmentsLawful) (h : ∀ id g, Store.find? s.segments id = some g → 0 < s.outstanding id g →
      ∃ g', Store.find? t.segments id = some g' ∧ g'.stream = g.stream) (hr : r ∈ (s.lane l).normals) : t.unitStream r = s.unitStream r := by
  obtain ⟨hmem, hkind⟩ := Lane.mem_normals.1 hr
  obtain ⟨id, g, hseg, hfind, hlane, -⟩ := hs.2.1 l r hmem hkind
  have hpos : 0 < s.outstanding id g := List.length_pos_of_mem (List.mem_filter.2 ⟨hlane.symm ▸ hmem, by simp [hseg]⟩)
  obtain ⟨g', hfind', hstream⟩ := h id g hfind hpos
  simp [State.unitStream, hkind, hseg, State.streamOf, hfind, hfind', hstream]

theorem State.owners_same (h : t.segments = s.segments) (r : InFlight) : t.unitStream r = s.unitStream r := by
  unfold State.unitStream State.streamOf
  rw [h]

/-! ## What keeps the units -/

namespace State.UnitsAlike

theorem refl (s : State) : s.UnitsAlike s := ⟨fun _ => rfl, fun _ _ _ => rfl, fun _ => rfl, fun _ h => ⟨h, rfl, rfl⟩⟩

theorem of_tables (hsegments : t.segments = s.segments) (hstreams : t.streams = s.streams) (hnormals : ∀ l, (t.lane l).normals = (s.lane l).normals) :
    s.UnitsAlike t where
  normals := hnormals
  owners _ r _ := State.owners_same hsegments r
  inflight k := by rw [State.stream, hstreams]; rfl
  unbound k hk := by
    have hstream : t.stream k = s.stream k := by rw [State.stream, hstreams]; rfl
    rw [hstream] at hk ⊢
    exact ⟨hk, rfl, rfl⟩

theorem of_frame {m : State → State} (h : m t = m s) (hsegments : ∀ s, (m s).segments = s.segments := by intro _; rfl)
    (hstreams : ∀ s, (m s).streams = s.streams := by intro _; rfl) (hlanes : ∀ s, (m s).lanes = s.lanes := by intro _; rfl) : s.UnitsAlike t :=
  of_tables (agree h hsegments) (agree h hstreams) fun l => by rw [State.lane, show t.lanes = s.lanes from agree h hlanes]; rfl

theorem of_unitsStay (h : s.unitsStay t) (hsegments : t.segments = s.segments) (hstreams : t.streams = s.streams) : s.UnitsAlike t :=
  of_tables hsegments hstreams fun l => by rw [Lane.normals, (h l).1]; rfl

theorem setStream {r : Stream} (hinflight : r.inflight = (s.stream k).inflight)
    (hstate : r.state = .unbound → (s.stream k).state = .unbound ∧ r.queue = (s.stream k).queue ∧ r.pad = (s.stream k).pad) :
    s.UnitsAlike (s.setStream k r) where
  normals _ := rfl
  owners _ r _ := State.owners_same rfl r
  inflight j := by
    rw [State.stream_setStream]
    split
    · rename_i hj
      rw [hinflight, hj]
    · rfl
  unbound j hj := by
    rw [State.stream_setStream] at hj ⊢
    split at hj
    · rename_i hjk
      rw [if_pos hjk, hjk]
      exact hstate hj
    · rename_i hjk
      rw [if_neg hjk]
      exact ⟨hj, rfl, rfl⟩

theorem openFrom (hs : s.SegmentBooks) {gr : Grant} {rest : List Grant} (hnormal : (s.lane l).normal = gr :: rest) : s.UnitsAlike (s.openFrom k l) where
  normals j := by
    rw [State.openFrom_lane hnormal]
    split
    · rename_i hj
      rw [hj]
      rfl
    · rfl
  owners _ r hr := State.owners_kept hs.segments (fun id g hfind _ => by
    refine ⟨g, ?_, rfl⟩
    rw [State.openFrom_segments hnormal, Store.find?_insert_ne]
    · exact hfind
    · rintro rfl
      rw [State.nextSegmentId_free (Nat.lt_of_le_of_lt hs.segments_length (by decide))] at hfind
      cases hfind) hr
  inflight j := by
    rw [State.openFrom_stream hnormal]
    split
    · rename_i hj
      rw [hj]
    · rfl
  unbound j hj := by
    rw [State.openFrom_stream hnormal] at hj ⊢
    split at hj
    · cases hj
    · rename_i hjk
      rw [if_neg hjk]
      exact ⟨hj, rfl, rfl⟩

theorem requestIfDue (hs : s.SegmentBooks) (k : Nat) : s.UnitsAlike (s.requestIfDue k) := by
  unfold State.requestIfDue
  split
  · unfold State.requestSegment
    rcases s.laneFor_cases k with ⟨l, i, g, rest, hlane, -, -, -, -, hnormal, -⟩ | ⟨hlane, -⟩ <;> rw [hlane]
    · exact openFrom hs hnormal
    · have hset : s.UnitsAlike (s.setStream k { s.stream k with state := .starved }) := setStream rfl fun h => by cases h
      exact ⟨hset.normals, hset.owners, hset.inflight, hset.unbound⟩
  · exact refl s

/-- The end of an event keeps the units. -/
theorem endRequests (hs : s.SegmentBooks) : s.UnitsAlike s.endRequests := by
  have hswept : s.UnitsAlike s.segmentRequests := by
    unfold State.segmentRequests
    split
    · have hfold : ∀ (ks : List Nat) (u : State), (∀ k ∈ ks, k < 256) → u.SegmentBooks → u.UnitsAlike (ks.foldl State.requestIfDue u) := by
        intro ks
        induction ks with
        | nil => exact fun u _ _ => refl u
        | cons k ks ih =>
          exact fun u hks hu => (requestIfDue hu k).trans
            (ih _ (fun j hj => hks j (List.mem_cons_of_mem _ hj)) (hu.requestIfDue (hks k List.mem_cons_self)))
      exact hfold _ _ (fun k hk => List.mem_range.1 hk) hs
    · exact refl s
  exact hswept.trans (of_frame (State.poolLowNotices_frame _))

theorem serve (l n : Nat) (hs : s.SegmentBooks) (hstarved : s.starvationLawful) : s.UnitsAlike (State.serve l n s) := by
  induction n generalizing s with
  | zero => exact refl s
  | succ n ih =>
    unfold State.serve
    split
    · rename_i hcan
      split
      · exact refl s
      · rename_i k holdest
        cases hnormal : (s.lane l).normal with
        | nil => simp [Lane.canGrant, hnormal] at hcan
        | cons g gs =>
          have hmem := List.mem_of_find?_eq_some holdest
          have hstate := (hstarved.2 k).1 hmem
          have hlisted : ({ s with starved := s.starved.erase k } : State).SegmentBooks :=
            ⟨hs.sorted_segments, hs.lanes, hs.segments, hs.openSegments, hs.exist⟩
          have hserved : ({ s with starved := s.starved.erase k } : State).UnitsAlike (s.serveOne k l) := openFrom hlisted hnormal
          have hone : s.UnitsAlike (s.serveOne k l) := ⟨hserved.normals, hserved.owners, hserved.inflight, hserved.unbound⟩
          exact hone.trans (ih (hs.serveOne hstate (List.find?_some (p := fun k => (s.stream k).onLane l) holdest) hnormal)
            (State.starvationLawful_serveOne hstarved hnormal))
    · exact refl s

theorem rotatedOff (hs : s.segmentsLawful) (hfind : Store.find? s.segments id = some g) :
    s.UnitsAlike (s.rotatedOff k id g) where
  normals _ := rfl
  owners _ r hr := State.owners_kept hs (fun i q hq hpos => by
    by_cases hi : i = id
    · subst hi
      cases hfind.symm.trans hq
      have houtcome := s.rotatedOff_outcome k i g
      have hcount := (hs.1 i g hfind).2.2.1
      rw [if_neg (by omega)] at houtcome
      exact ⟨_, houtcome.1, rfl⟩
    · exact ⟨q, (s.rotatedOff_find k id g hi).trans hq, rfl⟩) hr
  inflight j := by
    rw [State.rotatedOff_stream]
    split
    · rename_i hj
      rw [hj]
      rfl
    · rfl
  unbound j hj := by
    rw [State.rotatedOff_stream] at hj ⊢
    split at hj
    · rename_i hjk
      rw [Stream.released_state] at hj
      split at hj
      · cases hj
      · rw [if_pos hjk, hjk]
        exact ⟨hj, rfl, rfl⟩
    · rename_i hjk
      rw [if_neg hjk]
      exact ⟨hj, rfl, rfl⟩

theorem rotate (hs : s.SegmentBooks) (k : Nat) : s.UnitsAlike (s.rotate k) := by
  cases hk : (s.stream k).openSeg with
  | none =>
    rw [State.rotate_of_none hk]
    exact refl s
  | some id =>
    obtain ⟨g, hfind, hopen, hown, hcause, -⟩ := hs.openSegment hk
    rw [State.rotate_of_open hopen hcause hown]
    exact rotatedOff hs.segments hfind

end State.UnitsAlike

end

end Sys2Proof.Machine
end

section
/-! The in-flight counts through ISSUE and the outcomes of units (R106, R123, R124). -/

namespace Sys2Proof.Machine

open Sys2Proof

section

variable {s t u d e : State} {l i k n p id : Nat} {r : InFlight} {g : Segment} {rs rest : List InFlight} {fails : List (FailReason × InFlight)}
  {paid closed : List ReturnParcel}

/-! ## Counting the units of a stream -/

theorem sum_map_range_but_one {f h : Nat → Nat} (hl : l < n) (hother : ∀ j, j ≠ l → f j = h j) :
    ((List.range n).map f).sum + h l = ((List.range n).map h).sum + f l := by
  induction n with
  | zero => exact absurd hl (Nat.not_lt_zero l)
  | succ n ih =>
    rw [List.range_succ, List.map_append, List.map_append, List.sum_append, List.sum_append]
    simp only [List.map_cons, List.map_nil, List.sum_cons, List.sum_nil, Nat.add_zero]
    by_cases hn : l = n
    · subst hn
      have hsame : (List.range l).map f = (List.range l).map h :=
        List.map_congr_left fun j hj => hother j (by have := List.mem_range.1 hj; omega)
      rw [hsame]
      omega
    · have := ih (by omega)
      have := hother n (Ne.symm hn)
      omega

/-- Units come or go on one lane alone. -/
theorem State.unitsInFlight_of_lane (hl : l < 8) (hother : ∀ j, j ≠ l → t.unitsOf (t.lane j).inflight k = s.unitsOf (s.lane j).inflight k) :
    t.unitsInFlight k + s.unitsOf (s.lane l).inflight k = s.unitsInFlight k + t.unitsOf (t.lane l).inflight k :=
  sum_map_range_but_one (n := 8) hl hother

theorem State.unitsOf_congr (h : ∀ r ∈ rs, r.kind = .normal → t.unitStream r = s.unitStream r) (k : Nat) : t.unitsOf rs k = s.unitsOf rs k := by
  refine congrArg List.length (List.filter_congr fun r hr => ?_)
  cases hkind : r.kind with
  | normal => rw [h r hr hkind]
  | dump => simp [State.unitStream, hkind]

theorem State.unitsOf_perm {rs' : List InFlight} (h : rs.Perm rs') (k : Nat) : s.unitsOf rs k = s.unitsOf rs' k := (h.filter _).length_eq

/-- The records in flight name segments that stay, with their streams. -/
theorem State.SegmentBooks.unitStream (ht : t.SegmentBooks)
    (hsame : ∀ id g', Store.find? t.segments id = some g' → ∃ g, Store.find? s.segments id = some g ∧ g.stream = g'.stream)
    (hr : r ∈ (t.lane l).inflight) (hkind : r.kind = .normal) : t.unitStream r = s.unitStream r := by
  obtain ⟨id, g', hseg, hfind', -, -⟩ := ht.segments.2.1 l r hr hkind
  obtain ⟨g, hfind, hstream⟩ := hsame id g' hfind'
  simp [State.unitStream, hkind, hseg, State.streamOf, hfind, hfind', hstream]

/-- The units of a lane whose records stay. -/
theorem State.SegmentBooks.unitsOf_kept (ht : t.SegmentBooks)
    (hsame : ∀ id g', Store.find? t.segments id = some g' → ∃ g, Store.find? s.segments id = some g ∧ g.stream = g'.stream) (k : Nat) :
    t.unitsOf (t.lane l).inflight k = s.unitsOf (t.lane l).inflight k :=
  State.unitsOf_congr (fun _ hr hkind => ht.unitStream hsame hr hkind) k

/-! ## ISSUE (R106) -/

theorem State.IssueMade.unitStream (h : s.IssueMade d l p k id n g) (i : Nat) : d.unitStream (s.nthRecord k id g i) = some k := by
  show (some id).bind d.streamOf = some k
  simp [State.streamOf, h.segment, h.owner]

theorem State.IssueMade.segmentSame (h : s.IssueMade d l p k id n g) (i : Nat) (g' : Segment) (hfind : Store.find? d.segments i = some g') :
    ∃ q, Store.find? s.segments i = some q ∧ q.stream = g'.stream := by
  by_cases hi : i = id
  · subst hi
    obtain ⟨-, hs⟩ := State.openSegment_iff.1 h.opening
    cases h.segment.symm.trans hfind
    exact ⟨g, hs, rfl⟩
  · exact ⟨g', (h.segments i hi).symm.trans hfind, rfl⟩

theorem State.unitsOf_concat (rs rs' : List InFlight) (k : Nat) : s.unitsOf (rs ++ rs') k = s.unitsOf rs k + s.unitsOf rs' k := by
  simp [State.unitsOf]

theorem State.IssueMade.unitsOf (hs : s.Ledger) (hl : l < 8) (h : s.IssueMade d l p k id n g) (j m : Nat) :
    d.unitsOf (d.lane j).inflight m = s.unitsOf (s.lane j).inflight m + if j = l ∧ m = k then n else 0 := by
  have hbooks := h.books hs hl
  have hold : d.unitsOf (s.lane j).inflight m = s.unitsOf (s.lane j).inflight m := State.unitsOf_congr (fun r hr hkind =>
    hbooks.unitStream h.segmentSame (l := j) (by rw [h.inflight]; exact List.mem_append_left _ hr) hkind) m
  have hnew : d.unitsOf ((List.range n).map (s.nthRecord k id g)) m = if m = k then n else 0 := by
    unfold State.unitsOf
    split
    · rename_i hm
      rw [List.filter_eq_self.2]
      · simp
      · intro r hr
        obtain ⟨i, -, rfl⟩ := List.mem_map.1 hr
        rw [h.unitStream, hm]
        exact beq_self_eq_true _
    · rename_i hm
      rw [List.filter_eq_nil_iff.2]
      · rfl
      · intro r hr
        obtain ⟨i, -, rfl⟩ := List.mem_map.1 hr
        rw [h.unitStream]
        simpa using Ne.symm hm
  rw [h.inflight, State.unitsOf_concat, hold]
  by_cases hj : j = l
  · rw [if_pos hj, hnew]
    exact congrArg _ (if_congr (by simp [hj]) rfl rfl)
  · rw [if_neg hj, if_neg fun hboth => hj hboth.1]
    rfl

theorem State.IssueMade.unitsLawful (hs : s.Ledger) (hunits : s.unitsLawful) (hl : l < 8) (h : s.IssueMade d l p k id n g) : d.unitsLawful := by
  refine ⟨fun m => ?_, fun m hm => ?_⟩
  · have hsum := State.unitsInFlight_of_lane (s := s) (t := d) (k := m) hl fun j hj => by
      rw [h.unitsOf hs hl, if_neg fun hboth => hj hboth.1]
      rfl
    have hlane := h.unitsOf hs hl l m
    have hcount := hunits.1 m
    by_cases hmk : m = k
    · rw [if_pos ⟨rfl, hmk⟩] at hlane
      rw [hmk] at hsum hlane hcount ⊢
      rw [h.stream]
      show (s.stream k).inflight + n = _
      omega
    · rw [if_neg fun hboth => hmk hboth.2] at hlane
      rw [h.padded m hmk]
      show (s.stream m).inflight = _
      omega
  · by_cases hmk : m = k
    · subst hmk
      rcases Nat.lt_or_ge (g.issued + n) g.capacity with hroom | hfull
      · rw [(h.fed hroom).1] at hm
        cases hm
      · rw [(h.full hfull).1] at hm
        cases hm
    · have hbefore : (s.stream m).state = .unbound := by
        rw [h.padded m hmk] at hm
        exact hm
      rw [h.unbound m hmk hbefore]
      exact hunits.2 m hbefore

end

end Sys2Proof.Machine
end

section
/-! The in-flight counts through DONE, FAIL, expiry and lane down (R123, R124). -/

namespace Sys2Proof.Machine

open Sys2Proof

section

variable {s t u e : State} {l i k n : Nat} {r : InFlight} {rs rest : List InFlight} {fails : List (FailReason × InFlight)}
  {paid closed : List ReturnParcel}

/-! ## DONE (R123) -/

theorem State.DoneReady.segmentSame (hs : s.Ledger) (h : s.DoneReady e l i r paid closed) (hr : (s.lane l).inflight[i]? = some r)
    (hkind : r.kind = .normal) (id : Nat) (g' : Segment) (hfind' : Store.find? e.segments id = some g') :
    ∃ g, Store.find? s.segments id = some g ∧ g.stream = g'.stream := by
  obtain ⟨-, hnormal, -⟩ := hs.segments
  obtain ⟨i₀, g, hseg, hfind, -, -⟩ := hnormal l r (List.mem_of_getElem? hr) hkind
  have hid : r.seg.getD 0 = i₀ := by rw [hseg]; rfl
  have htable := h.segments g (hid.symm ▸ hfind)
  rw [hid] at htable
  by_cases hi : id = i₀
  · subst hi
    refine ⟨g, hfind, ?_⟩
    split at htable
    · rw [htable.1, Store.find?_erase_self] at hfind'
      cases hfind'
    · rw [htable.1, Store.find?_insert_self] at hfind'
      cases hfind'
      rfl
  · refine ⟨g', ?_, rfl⟩
    split at htable
    · rwa [htable.1, Store.find?_erase_ne _ hi] at hfind'
    · rwa [htable.1, Store.find?_insert_ne _ _ hi] at hfind'

theorem State.unitStream_of_normal (hkind : r.kind = .normal) (hseg : r.seg.isSome = true) : s.unitStream r = s.streamOf (r.seg.getD 0) := by
  obtain ⟨id, hid⟩ := Option.isSome_iff_exists.1 hseg
  simp [State.unitStream, hkind, hid]

theorem State.unitsOf_cons (r : InFlight) (rs : List InFlight) (k : Nat) :
    s.unitsOf (r :: rs) k = (if s.unitStream r = some k then 1 else 0) + s.unitsOf rs k := by
  unfold State.unitsOf
  by_cases h : s.unitStream r = some k <;> simp [h, Nat.add_comm]

/-- The unit that is DONE leaves its stream's count. -/
theorem State.DoneReady.unitsLawful (hs : s.Ledger) (hunits : s.unitsLawful) (h : s.DoneReady e l i r paid closed)
    (hr : (s.lane l).inflight[i]? = some r) (hkind : r.kind = .normal) : e.unitsLawful := by
  have hl := State.lt_of_inflight hs.exist hr
  have hbooks := hs.books_unitDone h hr hkind
  have hsome : r.seg.isSome = true := by
    obtain ⟨id, -, hseg, -⟩ := hs.segments.2.1 l r (List.mem_of_getElem? hr) hkind
    rw [hseg]
    rfl
  have howner := State.unitStream_of_normal (s := s) hkind hsome
  have hkept : ∀ j m, e.unitsOf (e.lane j).inflight m = s.unitsOf (e.lane j).inflight m := fun j m =>
    hbooks.unitsOf_kept (h.segmentSame hs hr hkind) m
  have hfall : ∀ m, e.unitsInFlight m + (if s.unitStream r = some m then 1 else 0) = s.unitsInFlight m := fun m => by
    have hsum := State.unitsInFlight_of_lane (s := s) (t := e) (k := m) hl fun j hj => by rw [hkept, h.lanes j hj]
    have hlane := State.unitsOf_perm (s := s) (eraseIdx_perm hr) m
    rw [State.unitsOf_cons] at hlane
    rw [hkept, show (e.lane l).inflight = (s.lane l).inflight.eraseIdx i by rw [h.lane]] at hsum
    omega
  refine ⟨fun m => ?_, fun m hm => ?_⟩
  · have hcount := hunits.1 m
    have hm := hfall m
    rw [h.streams, ← howner]
    split
    · rw [if_pos ‹_›] at hm
      show (s.stream m).inflight - 1 = _
      omega
    · rw [if_neg ‹_›] at hm
      omega
  · have hcount := hunits.1 m
    have hfallen := hfall m
    rw [h.streams, ← howner] at hm ⊢
    split
    · rw [if_pos ‹_›] at hm hfallen
      obtain ⟨hqueue, hpad, hinflight⟩ := hunits.2 m hm
      exact ⟨hqueue, hpad, show (s.stream m).inflight - 1 = 0 by omega⟩
    · rw [if_neg ‹_›] at hm
      exact hunits.2 m hm

/-! ## Failures (R124, R132) -/

theorem State.UnitsFailing.segmentSame (h : s.UnitsFailing u l n fails rest) (id : Nat) (g' : Segment)
    (hfind : Store.find? u.segments id = some g') : ∃ g, Store.find? s.segments id = some g ∧ g.stream = g'.stream := by
  rw [h.segments] at hfind
  obtain ⟨g, hg, hstays⟩ := Option.bind_eq_some_iff.1 hfind
  refine ⟨g, hg, ?_⟩
  unfold Segment.staying at hstays
  split at hstays
  · cases hstays
  · cases hstays
    rfl

theorem State.requeueUnits_of_none (h : s.unitsOf rs k = 0) : (s.requeueUnits rs).stream k = s.stream k := by
  induction rs using List.reverseRecOn with
  | nil => rfl
  | append_singleton rs r ih =>
    rw [State.unitsOf_append] at h
    rw [State.stream_requeueUnits_append]
    split
    · rename_i hown
      rw [if_pos hown] at h
      omega
    · exact ih (by omega)

theorem State.FailureMade.segmentBooks (hs : s.Ledger) (h : s.FailureMade u l n fails rest) : u.SegmentBooks :=
  h.toUnitsFailing.books hs h.toUnitsLeave h.canonical.segments h.lanes h.exist

theorem State.FailureMade.unitsLawful (hs : s.Ledger) (hunits : s.unitsLawful) (hl : l < 8) (h : s.FailureMade u l n fails rest) :
    u.unitsLawful := by
  have hbooks := h.segmentBooks hs
  have hkept : ∀ j m, u.unitsOf (u.lane j).inflight m = s.unitsOf (u.lane j).inflight m := fun j m =>
    hbooks.unitsOf_kept h.toUnitsFailing.segmentSame m
  have hfall : ∀ m, u.unitsInFlight m + s.unitsOf (fails.map Prod.snd) m = s.unitsInFlight m := fun m => by
    have hsum := State.unitsInFlight_of_lane (s := s) (t := u) (k := m) hl fun j hj => by rw [hkept, h.others j hj]
    have hlane := State.unitsOf_perm (s := s) h.cover m
    rw [State.unitsOf_concat] at hlane
    rw [hkept, h.left] at hsum
    omega
  have hstream : ∀ m, (u.stream m).inflight = (s.stream m).inflight - s.unitsOf (fails.map Prod.snd) m := fun m => by
    rw [h.streams, State.requeueUnits_stream]
    rfl
  refine ⟨fun m => ?_, fun m hm => ?_⟩
  · rw [hstream, hunits.1, ← hfall]
    omega
  · have hbefore : (s.stream m).state = .unbound := by
      rw [h.streams, State.requeueUnits_stream] at hm
      unfold Stream.failing at hm
      dsimp only at hm
      split at hm
      · cases hm
      · exact hm
    obtain ⟨hqueue, hpad, hinflight⟩ := hunits.2 m hbefore
    have hnone : s.unitsOf (fails.map Prod.snd) m = 0 := by
      have := hfall m
      have := hunits.1 m
      omega
    refine ⟨?_, ?_, by rw [hstream, hinflight, Nat.zero_sub]⟩
    · rw [h.streams, State.requeueUnits_of_none hnone]
      exact hqueue
    · rw [h.streams, State.requeueUnits_of_none hnone]
      exact hpad

/-! ## What pads and checks leave -/

theorem State.unitsLawful_beside (hunits : s.unitsLawful) (h : s.Beside u) (hkept : s.UnboundKept u) : u.unitsLawful := by
  refine ⟨fun m => ?_, fun m hm => ?_⟩
  · rw [h.inflight, hunits.1, State.unitsInFlight_congr (fun l => by rw [h.lane]) fun l r _ => State.owners_same h.segments r]
  · have hbefore : (s.stream m).state = .unbound := h.state m ▸ hm
    obtain ⟨hqueue, hpad, hinflight⟩ := hunits.2 m hbefore
    obtain ⟨hnone, hflag⟩ := (hkept m hbefore).2 ⟨hqueue, hpad⟩
    exact ⟨hnone, hflag, (h.inflight m).trans hinflight⟩

theorem State.unitsAlike_dumpCheck (hsorted : Store.sorted s.lanes = true) : s.UnitsAlike s.dumpCheck := by
  have hside := s.dumpCheck_slotSide
  refine .of_tables (agree (π := State.segments) hside) (agree (π := State.streams) hside) fun j => ?_
  rw [Lane.normals, State.dumpCheck_inflight hsorted]
  rfl

theorem State.unitsLawful_endFailure (hbooks : u.SegmentBooks) (hunits : u.unitsLawful) (hsorted : Store.sorted u.lanes = true) :
    u.endFailure.unitsLawful := by
  have hpads : u.durablePads.SegmentBooks := hbooks.beside (.durablePads u) fun _ _ _ _ k _ => congrArg Slot.stream
    (agree (π := (State.slot · k)) u.durablePads_frame : u.durablePads.slot k = u.slot k)
  have hended := (State.UnitsAlike.endRequests hpads).lawful (State.unitsLawful_beside hunits (.durablePads u) (.durablePads u))
  obtain ⟨hpart, -, hlanes⟩ := u.beforeCheck_facts
  rw [State.endFailure]
  by_cases hdumping : u.part = .dumping
  · exact (State.unitsAlike_dumpCheck (hlanes hdumping ▸ hsorted)).lawful hended
  · rw [State.dumpCheck, if_neg (by rw [hpart]; exact hdumping)]
    exact hended

theorem State.FailureMade.unitsLawful_end (hs : s.Ledger) (hunits : s.unitsLawful) (hl : l < 8) (h : s.FailureMade u l n fails rest) :
    u.endFailure.unitsLawful :=
  State.unitsLawful_endFailure (h.segmentBooks hs) (h.unitsLawful hs hunits hl) (sorted_of_canon h.canonical.lanes)

/-! ## The lane events -/

theorem State.unitsAlike_tookStray (s : State) (l : Nat) : s.UnitsAlike (s.tookStray l) := by
  refine .of_tables rfl rfl fun j => ?_
  rw [s.tookStray_lane]
  split
  · rename_i hj
    rw [hj]
    rfl
  · rfl

theorem State.Ledger.unitsLawful_answer (hs : s.Ledger) (hunits : s.unitsLawful) (l : Nat) : (s.takeAnswer l).unitsLawful := by
  rcases s.takeAnswer_cases l with h | ⟨-, h | ⟨i, r, hr, h | ⟨why, h⟩⟩⟩
  · rw [h]
    exact hunits
  · rw [h]
    exact (s.unitsAlike_tookStray l).lawful hunits
  · rw [h]
    have hsorted : Store.sorted ((s.answering l i).recordDone l r).lanes = true :=
      sorted_of_canon (State.dumpDone_canon (l := l) (i := i) (r := r) hs.lanesCanon)
    cases hkind : r.kind with
    | normal =>
      obtain ⟨paid, closed, hready⟩ := s.doneReady l i r
      rw [State.recordDone_normal hkind] at hsorted ⊢
      have hdone := hready.unitsLawful hs hunits hr hkind
      exact (State.unitsAlike_dumpCheck hsorted).lawful ((State.UnitsAlike.of_frame (State.evalCredit_frame _)).lawful hdone)
    | dump =>
      have hside := State.dumpDone_slotSide (s := s) (l := l) (i := i) hkind
      have hlane := State.dumpDone_lane (l := l) (i := i) hs.lanesCanon hkind
      refine (State.unitsAlike_dumpCheck hsorted).lawful ((State.UnitsAlike.of_tables (agree (π := State.segments) hside)
        (agree (π := State.streams) hside) fun j => ?_).lawful hunits)
      obtain ⟨waiting, -, heq⟩ := hlane j
      rw [heq]
      split
      · rename_i hj
        rw [hj]
        exact eraseIdx_normals hr hkind
      · rfl
  · rw [h]
    obtain ⟨rest, hmade⟩ := hs.answerFailed (why := why) hr
    exact hmade.unitsLawful_end hs hunits (State.lt_of_inflight hs.exist hr)

theorem State.unitsLawful_malformed (hunits : s.unitsLawful) (l : Nat) : (s.takeMalformed l).unitsLawful := by
  rcases s.takeMalformed_cases l with h | h <;> rw [h]
  · exact hunits
  · exact (s.unitsAlike_tookStray l).lawful hunits

theorem State.Ledger.unitsLawful_expiry (hs : s.Ledger) (hunits : s.unitsLawful) (l i : Nat) : (s.expireRecord l i).unitsLawful := by
  rcases s.expireRecord_cases l i with h | ⟨r, hr, -, h⟩ <;> rw [h]
  · exact hunits
  · obtain ⟨fails, rest, n, u, hmade, heq⟩ := hs.expired_made hr
    rw [heq]
    exact hmade.unitsLawful_end hs hunits (State.lt_of_inflight hs.exist hr)

theorem State.Ledger.unitsLawful_laneflt (hs : s.Ledger) (hunits : s.unitsLawful) (hl : l < 8) (level : Bool) : (s.lanefltTo l level).unitsLawful := by
  rcases s.lanefltTo_cases l level with h | ⟨-, -, -, -, h⟩ <;> rw [h]
  · exact hunits
  · obtain ⟨fails, rest, n, u, hmade, heq⟩ := hs.laneflt_made hl
    rw [heq]
    exact hmade.unitsLawful_end hs hunits hl

theorem State.Ledger.unitsLawful_issue (hs : s.Ledger) (hunits : s.unitsLawful) (hl : l < 8) : (s.issueOn l).unitsLawful := by
  rcases hs.issueOn_made l with h | ⟨d, p, k, id, g, n, hmade, h⟩ <;> rw [h]
  · exact hunits
  · exact (State.UnitsAlike.endRequests (hmade.books hs hl)).lawful (hmade.unitsLawful hs hunits hl)

end

end Sys2Proof.Machine
end

section
/-! The in-flight counts through every command (R53, R55, R123). -/

namespace Sys2Proof.Machine

open Sys2Proof

section

variable {s t u : State} {a : Arriving} {l k : Nat} {g : TakenGrant}

/-! ## The stream requests -/

theorem State.unitsLawful_setStream (hunits : s.unitsLawful) {r : Stream} (hinflight : r.inflight = (s.stream k).inflight)
    (hnone : r.state = .unbound → r.queue = [] ∧ r.pad = false ∧ r.inflight = 0) : (s.setStream k r).unitsLawful := by
  have hsame : ∀ m, (s.setStream k r).unitsInFlight m = s.unitsInFlight m := fun m =>
    State.unitsInFlight_congr (fun _ => rfl) (fun _ r _ => State.owners_same rfl r) m
  refine ⟨fun m => ?_, fun m hm => ?_⟩
  · rw [hsame, ← hunits.1, State.stream_setStream]
    split
    · rename_i h
      rw [hinflight, h]
    · rfl
  · rw [State.stream_setStream] at hm ⊢
    split
    · rw [if_pos ‹_›] at hm
      exact hnone hm
    · rw [if_neg ‹_›] at hm
      exact hunits.2 m hm

theorem State.unitsLawful_reply (hunits : s.unitsLawful) (a : Arriving) (status : Status) (body : List Byte) : (s.reply a status body).unitsLawful :=
  (State.UnitsAlike.of_frame (s.reply_frame a status body)).lawful hunits

theorem State.unitsLawful_putStream (hs : s.SegmentBooks) (hunits : s.unitsLawful) (a : Arriving) : (s.putStream a).unitsLawful := by
  rcases s.putStream_cases a with ⟨status, h⟩ | ⟨hstate, h⟩ | ⟨hstate, h⟩ <;> rw [h]
  · exact State.unitsLawful_reply hunits a _ _
  · have hbound := State.unitsLawful_setStream (k := a.stream) (r := (s.stream a.stream).bind a) hunits rfl fun h => by cases h
    exact State.unitsLawful_reply hbound a _ _
  · have hconfigured : (s.reconfigured a).unitsLawful :=
      State.unitsLawful_reply (State.unitsLawful_setStream (k := a.stream) (r := (s.stream a.stream).configured a) hunits rfl
        fun h => by rw [show ((s.stream a.stream).configured a).state = _ from hstate] at h; cases h) a _ _
    split
    · cases hopenSeg : (s.stream a.stream).openSeg with
      | none =>
        rw [State.rotate_of_none (by rw [State.reconfigured_stream, if_pos rfl]; exact hopenSeg)]
        exact hconfigured
      | some id =>
        obtain ⟨g, hfind, -, hown, hcause, -⟩ := hs.openSegment hopenSeg
        have hopen : (s.reconfigured a).openSegment ((s.reconfigured a).stream a.stream) = some (id, g) :=
          State.openSegment_iff.2 ⟨by rw [State.reconfigured_stream, if_pos rfl]; exact hopenSeg, hfind⟩
        have hsegments : (s.reconfigured a).segmentsLawful := hs.segments
        rw [State.rotate_of_open hopen hcause hown]
        exact (State.UnitsAlike.rotatedOff hsegments hfind).lawful hconfigured
    · exact hconfigured

theorem State.unitsLawful_holdStream (hunits : s.unitsLawful) (a : Arriving) : (s.holdStream a).unitsLawful := by
  have hheld := State.unitsLawful_setStream (k := a.stream) (r := { s.stream a.stream with state := .held }) hunits rfl fun h => by cases h
  rcases s.holdStream_cases a with ⟨status, h⟩ | ⟨-, h⟩ | ⟨-, h⟩ <;> rw [h]
  · exact State.unitsLawful_reply hunits a _ _
  · have hunlisted : ({ s.setStream a.stream { s.stream a.stream with state := .held } with starved := s.starved.erase a.stream } : State).unitsLawful :=
      hheld
    exact State.unitsLawful_reply hunlisted a .ok []
  · exact State.unitsLawful_reply hheld a .ok []

theorem State.unitsLawful_endRequests (hs : u.SegmentBooks) (hunits : u.unitsLawful) : u.endRequests.unitsLawful :=
  (State.UnitsAlike.endRequests hs).lawful hunits

theorem State.SegmentBooks.unheld (hs : s.SegmentBooks) (hheld : (s.stream a.stream).state = .held) : (s.unheld a).SegmentBooks := by
  refine (hs.setStream a.stream { s.stream a.stream with state := if (s.stream a.stream).openSeg.isSome then .opened else .idle } rfl
    (hs.in_set rfl rfl) (fun hsome => .inl (if_pos hsome)) (fun hopened => ?_) fun _ => hs.bound_lt (by rw [hheld]; decide)).reply a .ok []
  dsimp only at hopened
  split at hopened
  · assumption
  · cases hopened

theorem State.unitsLawful_releaseStream (hs : s.SegmentBooks) (hunits : s.unitsLawful) (a : Arriving) : (s.releaseStream a).unitsLawful := by
  rcases s.releaseStream_cases a with h | ⟨hheld, h⟩ <;> rw [h]
  · exact State.unitsLawful_reply hunits a _ _
  · refine State.unitsLawful_endRequests (hs.unheld hheld) (State.unitsLawful_reply (State.unitsLawful_setStream (k := a.stream)
      (r := { s.stream a.stream with state := if (s.stream a.stream).openSeg.isSome then .opened else .idle }) hunits rfl fun h => ?_) a _ _)
    dsimp only at h
    split at h <;> cases h

theorem State.SegmentBooks.tailReplied (hs : s.SegmentBooks) (a : Arriving) : (s.tailReplied a).SegmentBooks := by
  have hslot : ∀ k, (s.tailReplied a).slot k = s.slot k := fun k => (agree (π := (State.slot · k)) (s.padStream_frame a.stream) :)
  exact hs.beside (.tailReplied s a) fun _ _ _ _ k _ => by rw [hslot]

theorem State.unitsLawful_rotateStream (hs : s.SegmentBooks) (hunits : s.unitsLawful) (a : Arriving) : (s.rotateStream a).unitsLawful := by
  rcases s.rotateStream_cases a with h | ⟨-, h⟩ <;> rw [h]
  · exact State.unitsLawful_reply hunits a _ _
  · have hpadded : (s.tailReplied a).unitsLawful := State.unitsLawful_beside hunits (.tailReplied s a)
      ((State.UnboundKept.padStream s a.stream).trans (.of_frame (State.reply_frame _ a .ok [])))
    have hbooks := hs.tailReplied a
    exact State.unitsLawful_endRequests (hbooks.rotate a.stream) ((State.UnitsAlike.rotate hbooks a.stream).lawful hpadded)

theorem State.unitsLawful_unbindStream (hs : s.SegmentBooks) (hunits : s.unitsLawful) (a : Arriving) : (s.unbindStream a).unitsLawful := by
  rcases s.unbindStream_cases a with ⟨status, h⟩ | ⟨-, -, hnone, -, h⟩ <;> rw [h]
  · exact State.unitsLawful_reply hunits a _ _
  · have hrotate := State.UnitsAlike.rotate (hs.reply a .ok []) a.stream
    have hinflight : (((s.reply a .ok).rotate a.stream).stream a.stream).inflight = 0 := (hrotate.inflight a.stream).trans hnone
    exact State.unitsLawful_setStream (hrotate.lawful (State.unitsLawful_reply hunits a .ok [])) hinflight.symm fun _ => ⟨rfl, rfl, rfl⟩

/-! ## GRANT-BLOCKS and CLEAR-PART -/

theorem State.SegmentBooks.granting (hs : s.SegmentBooks) (hbad : ¬ a.grantsBad = true) (hup : (s.lane a.lane).up = true)
    (hfull : ¬ (s.lane a.lane).grantsFull a.grantKind a.entryCount = true) : (s.granting a).SegmentBooks := by
  have hlane : a.lane < 8 := by
    rw [a.grantsBad_iff] at hbad
    omega
  refine hs.of_unitsStay (State.unitsStay_granting hlane) rfl rfl rfl rfl fun j => ?_
  rw [State.granting_lane]
  split
  · rename_i h
    exact Lane.lawful_grantedBy (h ▸ hs.lanes j) hup hbad hfull
  · exact hs.lanes j

theorem State.unitsLawful_grantBlocks (hs : s.SegmentBooks) (hstarved : s.starvationLawful) (hunits : s.unitsLawful) (a : Arriving) :
    (s.grantBlocks a).unitsLawful := by
  by_cases hbad : a.grantsBad = true
  · rw [State.grantBlocks_bad hbad]
    exact State.unitsLawful_reply hunits a _ _
  by_cases hup : (s.lane a.lane).up = true
  · by_cases hfull : (s.lane a.lane).grantsFull a.grantKind a.entryCount = true
    · rw [State.grantBlocks_full hbad hup hfull]
      exact State.unitsLawful_reply hunits a _ _
    · have hlane : a.lane < 8 := by
        rw [a.grantsBad_iff] at hbad
        omega
      have hgranting : (s.granting a).unitsLawful :=
        (State.UnitsAlike.of_unitsStay (State.unitsStay_granting hlane) rfl rfl).lawful hunits
      rw [State.grantBlocks_ok hbad hup hfull]
      split
      · exact ((State.UnitsAlike.serve a.lane _ (hs.granting hbad hup hfull) hstarved).trans
          (.of_frame (State.poolLowNotices_frame _))).lawful hgranting
      · exact hgranting
  · rw [State.grantBlocks_down hbad (Bool.not_eq_true _ ▸ hup)]
    exact State.unitsLawful_reply hunits a _ _

theorem State.unitsLawful_of_none (hstreams : s.streams = []) (hinflight : ∀ l, (s.lane l).inflight = []) : s.unitsLawful := by
  have hstream : ∀ k, s.stream k = {} := fun k => by rw [State.stream, hstreams]; rfl
  refine ⟨fun k => ?_, fun k _ => by rw [hstream]; exact ⟨rfl, rfl, rfl⟩⟩
  rw [hstream, State.unitsInFlight]
  simp [State.unitsOf, hinflight]

theorem State.unitsLawful_clearPart (hs : s.SegmentBooks) (hunits : s.unitsLawful) (a : Arriving) : (s.clearPart a).unitsLawful := by
  by_cases hquiet : s.quiet = true
  · rw [State.clearPart_quiet hquiet]
    have hnone : ∀ l, ((s.reply a .ok).lane l).inflight = [] := State.quiet_inflight (s := s) hquiet hs.exist
    generalize s.reply a .ok = u at *
    exact State.unitsLawful_of_none (by rw [u.emptied_eq]) fun l => (u.emptied_inflight l).trans (hnone l)
  · rw [State.clearPart_notQuiet (Bool.not_eq_true _ ▸ hquiet)]
    exact State.unitsLawful_reply hunits a _ _

/-! ## The dump engine -/

theorem State.unitsAlike_sendWith (hs : s.Ledger) (hg : g ∈ s.dump.taken) (d : Dump) (hd : ∀ q ∈ d.taken, ∃ q' ∈ s.dump.taken, q.lane = q'.lane)
    (slots : List Nat) (fillers : Nat) (trailer : Bool) (sectors : List (List Byte)) :
    s.UnitsAlike ((s.withDump d).sendDump g slots fillers trailer sectors) := by
  obtain ⟨-, hnormals, -⟩ := State.sendWith_lanes hs hg d hd slots fillers trailer sectors
  have hframe := (s.withDump d).sendDump_frame g slots fillers trailer sectors
  have hwith : (s.withDump d).segments = s.segments ∧ (s.withDump d).streams = s.streams := ⟨rfl, rfl⟩
  generalize (s.withDump d).sendDump g slots fillers trailer sectors = v at *
  generalize s.withDump d = u at *
  exact .of_tables ((agree (π := State.segments) hframe :).trans hwith.1) ((agree (π := State.streams) hframe :).trans hwith.2) hnormals

theorem State.Ledger.unitsLawful_dumpUnit (hs : s.Ledger) (hunits : s.unitsLawful) (h : s.mayDumpUnit = true) : s.dumpUnit.unitsLawful := by
  obtain ⟨⟨taken, g, hready⟩, -⟩ := State.mayDumpUnit_ready h
  have hg : g ∈ s.dump.taken := by rw [hready.taken]; exact List.mem_append_right _ List.mem_cons_self
  rw [State.dumpUnit_eq (current_append hready.taken)]
  exact (State.unitsAlike_sendWith hs hg _ (fun q hq => mem_assignPosition hq) _ _ _ _).lawful hunits

theorem State.Ledger.unitsLawful_trailerUnit (hs : s.Ledger) (hunits : s.unitsLawful) (h : s.mayTrailer = true) : s.trailerUnit.unitsLawful := by
  obtain ⟨⟨taken, g, hready⟩, -⟩ := State.mayTrailer_ready h
  have hg : g ∈ s.dump.taken := by rw [hready.taken]; exact List.mem_append_right _ List.mem_cons_self
  rw [State.trailerUnit_eq hready.taken]
  refine (State.unitsAlike_dumpCheck (sorted_of_canon (State.lanesCanon_sendWith hs.lanesCanon _ _ _ _ _ _))).lawful
    ((State.unitsAlike_sendWith hs hg _ (fun q hq => ?_) _ _ _ _).lawful hunits)
  rcases List.mem_append.1 (show q ∈ taken ++ [g.more] from hq) with hq | hq
  · exact ⟨q, by rw [hready.taken]; exact List.mem_append_left _ hq, rfl⟩
  · rw [List.mem_singleton.1 hq]
    exact ⟨g, hg, rfl⟩

theorem State.unitsLawful_enterDumping (hcanon : s.lanesCanon) (hunits : s.unitsLawful) : s.enterDumping.unitsLawful := by
  have hframe := s.freeSlotList_frame s.parser.landedSlots
  have hbegun : s.UnitsAlike s.dumpBegun := .of_tables (agree (π := State.segments) hframe :) (agree (π := State.streams) hframe :)
    fun l => by rw [State.dumpBegun_lane]
  have hsorted : s.dumpBegun.lanesCanon := by
    rw [State.lanesCanon, State.dumpBegun_lanes]
    exact hcanon
  rw [State.enterDumping_eq]
  generalize s.dumpBegun = u at *
  have htake := u.takeGrant_frame 0
  have hgrant : u.UnitsAlike (u.takeGrant 0) := .of_tables (agree (π := State.segments) htake) (agree (π := State.streams) htake)
    fun l => by rw [Lane.normals, u.takeGrant_inflight]; rfl
  exact ((hbegun.trans hgrant).trans (State.unitsAlike_dumpCheck (sorted_of_canon (State.takeGrant_canon u 0 hsorted)))).lawful hunits

/-! ## Every command -/

theorem State.Ledger.unitsLawful_keepsBooks (hs : s.Ledger) (hunits : s.unitsLawful) {c : Instr} (h : keepsBooks c = true) :
    (s.after c).unitsLawful := by
  have hkept := State.UnboundKept.after h s
  have hnames := State.after_names h s
  have hends := State.after_endsBeside h s
  generalize s.after c = t at *
  rcases hends with hends | ⟨u, hbeside, rfl⟩
  · exact State.unitsLawful_beside hunits hends.beside hkept
  · have hslot : ∀ k, u.endRequests.slot k = u.slot k := fun k => (agree (π := (State.slot · k)) u.endRequests_frame :)
    have hbooks : u.SegmentBooks := hs.segmentBooks.beside hbeside fun l r hr hkind k hk =>
      (congrArg Slot.stream (hslot k)).symm.trans (hnames _ (hs.issued_not_landed hr hkind hk))
    refine State.unitsLawful_endRequests hbooks (State.unitsLawful_beside hunits hbeside fun k hk => ?_)
    have hunbound : (u.stream k).state = .unbound := (hbeside.state k).trans hk
    have hstays : u.endRequests.stream k = u.stream k := u.endRequests_ends.others k (.inr (by rw [hunbound]; decide))
    exact hstays ▸ hkept k hk

theorem State.take_unitsLawful {want : Arriving → Bool} {act : State → Arriving → State} (hs : s.SegmentBooks) (hunits : s.unitsLawful)
    (hact : ∀ u a, State.SegmentBooks u → u.starved = s.starved → u.streams = s.streams → u.unitsLawful → (act u a).unitsLawful) :
    (s.take want act).unitsLawful := by
  rcases s.take_cases want act with h | ⟨a, -, -, -, h⟩ | ⟨a, -, -, h⟩ <;> rw [h]
  · exact hunits
  · exact hunits
  · exact hact { s with parser := .awaiting } a ⟨hs.sorted_segments, hs.lanes, hs.segments, hs.openSegments, hs.exist⟩ rfl rfl hunits

theorem State.Ledger.unitsLawful_after (hs : s.Ledger) (hunits : s.unitsLawful) (c : Instr) : (s.after c).unitsLawful := by
  have hreset : c = .resetRelease ∨ (∃ r l, c = .resetAssert r l) → (s.after c).unitsLawful := fun hc => by
    rcases s.after_reset_bare hc with hsame | hbare
    · rwa [hsame]
    · exact hbare.unitsLawful
  have hstay : s.unitsStay (s.after c) → (s.after c).segments = s.segments → (s.after c).streams = s.streams → (s.after c).unitsLawful :=
    fun h hsegments hstreams => (State.UnitsAlike.of_unitsStay h hsegments hstreams).lawful hunits
  have hbooks := hs.segmentBooks
  cases hkeeps : keepsBooks c with
  | true => exact hs.unitsLawful_keepsBooks hunits hkeeps
  | false =>
    cases c
    case resetAssert r l => exact hreset (.inr ⟨r, l, rfl⟩)
    case resetRelease => exact hreset (.inl rfl)
    case setParam =>
      exact hstay (State.unitsStay_take (act := fun s a => s.setParam a id) (fun s a _ => State.unitsStay_setParam fun _ _ => State.unitsStay_of_lanes rfl) s)
        (s.after_agree _) (s.after_agree _)
    case setPoolLowMark =>
      exact hstay (State.unitsStay_take (act := fun s a => s.setParam a (State.rearm a.paramLane))
        (fun s a hwant => State.unitsStay_setPoolLowMark s a (Arriving.param_of_setsParam hwant)) s) (s.after_agree _) (s.after_agree _)
    case restartLane =>
      exact hstay (State.unitsStay_take (act := State.restartLane) (fun s a _ => State.unitsStay_restartLane s a) s)
        (s.after_agree _) (s.after_agree _)
    case answerArrival lane head =>
      have harrives : s.unitsStay (s.laneArrives lane.val head) := by
        unfold State.laneArrives
        split
        · exact State.unitsStay_updLane (f := fun x => { x with waiting := x.waiting ++ [{ head := head, arrival := s.arrivals }] }) lane.isLt fun _ => rfl
        · exact State.unitsStay_of_lanes rfl
      exact hstay harrives (s.after_agree _) (s.after_agree _)
    case putStream => exact State.take_unitsLawful (act := State.putStream) hbooks hunits fun u a hu _ _ h => State.unitsLawful_putStream hu h a
    case holdStream => exact State.take_unitsLawful (act := State.holdStream) hbooks hunits fun u a _ _ _ h => State.unitsLawful_holdStream h a
    case releaseStream =>
      exact State.take_unitsLawful (act := State.releaseStream) hbooks hunits fun u a hu _ _ h => State.unitsLawful_releaseStream hu h a
    case rotateStream =>
      exact State.take_unitsLawful (act := State.rotateStream) hbooks hunits fun u a hu _ _ h => State.unitsLawful_rotateStream hu h a
    case unbindStream =>
      exact State.take_unitsLawful (act := State.unbindStream) hbooks hunits fun u a hu _ _ h => State.unitsLawful_unbindStream hu h a
    case grantBlocks =>
      refine State.take_unitsLawful (act := State.grantBlocks) hbooks hunits fun u a hu hlist hstreams h =>
        State.unitsLawful_grantBlocks hu ?_ h a
      have hstream : ∀ k, u.stream k = s.stream k := fun k => by rw [State.stream, hstreams]; rfl
      refine ⟨hlist ▸ hs.starvation.1, fun k => ?_⟩
      rw [hlist, hstream]
      exact hs.starvation.2 k
    case clearPart => exact State.take_unitsLawful (act := State.clearPart) hbooks hunits fun u a hu _ _ h => State.unitsLawful_clearPart hu h a
    case issue lane => exact hs.unitsLawful_issue hunits lane.isLt
    case answer lane => exact hs.unitsLawful_answer hunits lane.val
    case malformedLaneParcel lane => exact State.unitsLawful_malformed hunits lane.val
    case expiry lane i => exact hs.unitsLawful_expiry hunits lane.val i
    case laneflt lane level => exact hs.unitsLawful_laneflt hunits lane.isLt level
    case dumpUnitSend =>
      show (if s.mayDumpUnit then s.dumpUnit else s).unitsLawful
      split
      · exact hs.unitsLawful_dumpUnit hunits ‹_›
      · exact hunits
    case trailerSend =>
      show (if s.mayTrailer then s.trailerUnit else s).unitsLawful
      split
      · exact hs.unitsLawful_trailerUnit hunits ‹_›
      · exact hunits
    case pfail level =>
      show (s.pfailTo level).unitsLawful
      rcases s.pfailTo_cases level with h | ⟨-, h⟩ <;> rw [h]
      · exact hunits
      · exact State.unitsLawful_enterDumping (s := s.pfailAt level) hs.lanesCanon hunits
    all_goals cases hkeeps

end

end Sys2Proof.Machine
end

section
/-! O55: RUN rests after every command (R56, R82). -/

namespace Sys2Proof.Machine

open Sys2Proof

section

variable {s t u e : State} {a : Arriving} {l i k : Nat} {r : InFlight} {paid closed : List ReturnParcel}

/-! ## What keeps the rest -/

/-- IDLE streams were IDLE with the same ready units, or have none. -/
def State.RestsAlike (s t : State) : Prop := t.part = s.part ∧ t.due = s.due ∧ ∀ k, (t.stream k).state = .idle →
  (s.stream k).state = .idle ∧ (t.stream k).ready = (s.stream k).ready ∨ (t.stream k).ready = 0

theorem State.RestsAlike.calm (h : s.RestsAlike t) (hs : s.calmInRun) : t.calmInRun := fun hrun => by
  obtain ⟨hpart, hdue, hstreams⟩ := h
  obtain ⟨hidle, hnone⟩ := hs (hpart ▸ hrun)
  refine ⟨fun k hk hstate => ?_, hdue.trans hnone⟩
  rcases hstreams k hstate with ⟨hbefore, hready⟩ | hready
  · rw [hready]
    exact hidle k hk hbefore
  · exact hready

theorem State.RestsAlike.of_streams (hpart : t.part = s.part) (hdue : t.due = s.due) (hstreams : t.streams = s.streams) : s.RestsAlike t :=
  ⟨hpart, hdue, fun k h => by
    have hstream : t.stream k = s.stream k := by rw [State.stream, hstreams]; rfl
    rw [hstream] at h ⊢
    exact .inl ⟨h, rfl⟩⟩

theorem State.RestsAlike.of_frame {m : State → State} (h : m t = m s) (hpart : ∀ s, (m s).part = s.part := by intro _; rfl)
    (hdue : ∀ s, (m s).due = s.due := by intro _; rfl) (hstreams : ∀ s, (m s).streams = s.streams := by intro _; rfl) : s.RestsAlike t :=
  .of_streams (agree h hpart) (agree h hdue) (agree h hstreams)

theorem State.RestsAlike.trans (h : s.RestsAlike t) (h' : t.RestsAlike u) : s.RestsAlike u := by
  obtain ⟨hpart, hdue, hstreams⟩ := h
  obtain ⟨hpart', hdue', hstreams'⟩ := h'
  refine ⟨hpart'.trans hpart, hdue'.trans hdue, fun k hk => ?_⟩
  rcases hstreams' k hk with ⟨hidle, hready⟩ | hready
  · rw [hready]
    exact hstreams k hidle
  · exact .inr hready

theorem State.RestsAlike.setStream {r : Stream} (h : r.state = .idle → (s.stream k).state = .idle ∧ r.ready = (s.stream k).ready ∨ r.ready = 0) :
    s.RestsAlike (s.setStream k r) := by
  refine ⟨rfl, rfl, fun j hj => ?_⟩
  rw [State.stream_setStream] at hj ⊢
  split
  · rename_i heq
    rw [if_pos heq] at hj
    rw [heq]
    exact h hj
  · rename_i hne
    rw [if_neg hne] at hj
    exact .inl ⟨hj, rfl⟩

theorem State.RestsAlike.reply (s : State) (a : Arriving) (status : Status) (body : List Byte) : s.RestsAlike (s.reply a status body) :=
  .of_frame (s.reply_frame a status body)

/-- The end of a stream's open segment: the stream was OPEN or HELD, and it is not IDLE but when it was OPEN. -/
theorem State.RestsAlike.rotate (hk : (s.stream k).state ≠ .opened)
    (hopen : ∀ id, (s.stream k).openSeg = some id → ∃ g, Store.find? s.segments id = some g ∧ g.stream = k ∧ g.endCause = none) :
    s.RestsAlike (s.rotate k) := by
  cases hseg : (s.stream k).openSeg with
  | none =>
    rw [State.rotate_of_none hseg]
    exact .of_streams rfl rfl rfl
  | some id =>
    obtain ⟨g, hfind, hown, hcause⟩ := hopen id hseg
    rw [State.rotate_of_open (State.openSegment_iff.2 ⟨hseg, hfind⟩) hcause hown]
    refine ⟨rfl, rfl, fun j hj => ?_⟩
    rw [State.rotatedOff_stream] at hj ⊢
    split at hj
    · rename_i heq
      rw [Stream.released_state, if_neg hk] at hj
      rw [if_pos heq, heq]
      exact .inl ⟨hj, rfl⟩
    · rename_i hne
      rw [if_neg hne]
      exact .inl ⟨hj, rfl⟩

theorem State.SegmentBooks.owned (hs : s.SegmentBooks) (k id : Nat) (h : (s.stream k).openSeg = some id) :
    ∃ g, Store.find? s.segments id = some g ∧ g.stream = k ∧ g.endCause = none := by
  obtain ⟨g, hfind, -, hown, hcause, -⟩ := hs.openSegment h
  exact ⟨g, hfind, hown, hcause⟩

/-! ## The requests -/

theorem State.restsAlike_putStream (hs : s.SegmentBooks) (hunits : s.unitsLawful) (a : Arriving) : s.RestsAlike (s.putStream a) := by
  rcases s.putStream_cases a with ⟨status, h⟩ | ⟨hstate, h⟩ | ⟨hstate, h⟩ <;> rw [h]
  · exact .reply s a _ _
  · obtain ⟨hqueue, hpad, -⟩ := hunits.2 a.stream hstate
    have hready : ((s.stream a.stream).bind a).ready = 0 := by
      show (s.stream a.stream).queue.length / 16 + (if (s.stream a.stream).pad = true then 1 else 0) = 0
      rw [hqueue, hpad]
      rfl
    have hbound := State.RestsAlike.setStream (s := s) (k := a.stream) (r := (s.stream a.stream).bind a) fun _ => .inr hready
    exact hbound.trans (.reply _ a .ok [])
  · have hheld : ((s.stream a.stream).configured a).state = .held := hstate
    have hset := State.RestsAlike.setStream (s := s) (k := a.stream) (r := (s.stream a.stream).configured a) fun h => by rw [hheld] at h; cases h
    have hconfigured : s.RestsAlike (s.reconfigured a) := hset.trans (.reply _ a .ok [])
    have hstream : (s.reconfigured a).stream a.stream = (s.stream a.stream).configured a := by rw [State.reconfigured_stream, if_pos rfl]
    split
    · refine hconfigured.trans (.rotate (s := s.reconfigured a) (by rw [hstream, hheld]; decide) fun id hid => ?_)
      rw [hstream] at hid
      exact hs.owned a.stream id hid
    · exact hconfigured

theorem State.restsAlike_holdStream (s : State) (a : Arriving) : s.RestsAlike (s.holdStream a) := by
  have hheld := State.RestsAlike.setStream (s := s) (k := a.stream) (r := { s.stream a.stream with state := .held }) fun h => by cases h
  rcases s.holdStream_cases a with ⟨status, h⟩ | ⟨-, h⟩ | ⟨-, h⟩ <;> rw [h]
  · exact .reply s a _ _
  · exact hheld
  · exact hheld.trans (.reply _ a .ok [])

theorem State.restsAlike_unbindStream (hs : s.SegmentBooks) (a : Arriving) : s.RestsAlike (s.unbindStream a) := by
  rcases s.unbindStream_cases a with ⟨status, h⟩ | ⟨hstate, -, -, -, h⟩ <;> rw [h]
  · exact .reply s a _ _
  · have hreplied := hs.reply a .ok []
    have hstream : (s.reply a .ok).stream a.stream = s.stream a.stream := rfl
    have hactive : ((s.reply a .ok).stream a.stream).state ≠ .opened := by
      rw [hstream]
      rcases hstate with h | h <;> rw [h] <;> decide
    have hrotated := (State.RestsAlike.reply s a .ok []).trans (.rotate hactive (hreplied.owned a.stream))
    exact hrotated.trans (.setStream fun h => by cases h)

/-- A serve makes no stream IDLE. -/
theorem State.serve_idle (l n : Nat) (s : State) (k : Nat) (h : ((State.serve l n s).stream k).state = .idle) :
    (State.serve l n s).stream k = s.stream k := by
  induction n generalizing s with
  | zero => rfl
  | succ n ih =>
    unfold State.serve at h ⊢
    split
    · rename_i hcan
      rw [if_pos hcan] at h
      split
      · rfl
      · rename_i j holdest
        rw [holdest] at h
        have hserved := ih _ h
        rw [hserved] at h ⊢
        cases hnormal : (s.lane l).normal with
        | nil => simp [Lane.canGrant, hnormal] at hcan
        | cons g gs =>
          have hone : ∀ m, (({ s with starved := s.starved.erase j } : State).openFrom j l).stream m = _ :=
            State.openFrom_stream (s := { s with starved := s.starved.erase j }) hnormal
          rw [hone] at h ⊢
          split at h
          · cases h
          · rename_i hne
            rw [if_neg hne]
            rfl
    · rfl

theorem State.calmInRun_grantBlocks (hs : s.calmInRun) (a : Arriving) : (s.grantBlocks a).calmInRun := by
  by_cases hbad : a.grantsBad = true
  · rw [State.grantBlocks_bad hbad]
    exact (State.RestsAlike.reply s a _ _).calm hs
  by_cases hup : (s.lane a.lane).up = true
  · by_cases hfull : (s.lane a.lane).grantsFull a.grantKind a.entryCount = true
    · rw [State.grantBlocks_full hbad hup hfull]
      exact (State.RestsAlike.reply s a _ _).calm hs
    · have hgranting : (s.granting a).calmInRun := hs
      rw [State.grantBlocks_ok hbad hup hfull]
      split
      · generalize s.granting a = u at *
        intro hrun
        have hserve := u.serve_frame a.lane ((s.lane a.lane).grantedBy a).normal.length
        have hidle := State.serve_idle a.lane ((s.lane a.lane).grantedBy a).normal.length u
        generalize State.serve a.lane ((s.lane a.lane).grantedBy a).normal.length u = v at *
        have hnotices := v.poolLowNotices_frame
        have hpart : u.part = .run := ((agree (π := State.part) hserve).symm.trans (agree (π := State.part) hnotices).symm).trans hrun
        refine ⟨fun k hk hstate => ?_, v.poolLowNotices_due⟩
        have hstream : v.poolLowNotices.stream k = v.stream k := (agree (π := (State.stream · k)) hnotices :)
        rw [hstream] at hstate ⊢
        have hsame := hidle k hstate
        rw [hsame] at hstate ⊢
        exact (hgranting hpart).1 k hk hstate
      · exact hgranting
  · rw [State.grantBlocks_down hbad (Bool.not_eq_true _ ▸ hup)]
    exact (State.RestsAlike.reply s a _ _).calm hs

theorem State.restsAlike_clearPart (s : State) (a : Arriving) : s.RestsAlike (s.clearPart a) := by
  by_cases hquiet : s.quiet = true
  · rw [State.clearPart_quiet hquiet]
    refine (State.RestsAlike.reply s a .ok []).trans ?_
    generalize s.reply a .ok = u
    have hstream : ∀ k, u.emptied.stream k = {} := fun k => by rw [State.stream, u.emptied_eq]; rfl
    exact ⟨by rw [u.emptied_eq], by rw [u.emptied_eq], fun k h => by rw [hstream] at h; cases h⟩
  · rw [State.clearPart_notQuiet (Bool.not_eq_true _ ▸ hquiet)]
    exact .reply s a _ _

/-! ## The events -/

theorem State.DoneReady.restsAlike (h : s.DoneReady e l i r paid closed) : s.RestsAlike e := by
  refine ⟨agree (π := State.part) h.frame, agree (π := State.due) h.frame, fun k hk => .inl ?_⟩
  rw [h.streams] at hk ⊢
  split
  · rw [if_pos ‹_›] at hk
    exact ⟨hk, rfl⟩
  · rw [if_neg ‹_›] at hk
    exact ⟨hk, rfl⟩

theorem State.calmInRun_takeAnswer (hs : s.calmInRun) (l : Nat) : (s.takeAnswer l).calmInRun := by
  rcases s.takeAnswer_cases l with h | ⟨-, h | ⟨i, r, hr, h | ⟨why, h⟩⟩⟩ <;> rw [h]
  · exact hs
  · exact hs
  · refine State.calmInRun_dumpCheck ?_
    cases hkind : r.kind with
    | normal =>
      obtain ⟨paid, closed, hready⟩ := s.doneReady l i r
      rw [State.recordDone_normal hkind]
      exact (hready.restsAlike.trans (.of_frame (State.evalCredit_frame _))).calm hs
    | dump =>
      rw [State.recordDone_dump hkind]
      split
      · exact fun hrun => by cases hrun
      · have hdone : ∀ v : State, v.calmInRun → (v.dumpDone r).calmInRun := fun _ h => h
        exact hdone _ hs
  · exact State.calmInRun_endFailure _

theorem State.calmInRun_endsBeside (hs : s.calmInRun) (h : s.EndsBeside t) : t.calmInRun := by
  rcases h with h | ⟨u, -, rfl⟩
  · exact (State.RestsAlike.of_streams h.beside.part h.beside.due h.2).calm hs
  · exact State.calmInRun_endRequests u

theorem State.take_calm {want : Arriving → Bool} {act : State → Arriving → State} (hs : s.calmInRun)
    (hact : ∀ a, (act { s with parser := .awaiting } a).calmInRun) : (s.take want act).calmInRun := by
  rcases s.take_cases want act with h | ⟨a, -, -, -, h⟩ | ⟨a, -, -, h⟩ <;> rw [h]
  · exact hs
  · exact hs
  · exact hact a

theorem State.Ledger.calmInRun_after (hledger : s.Ledger) (hunits : s.unitsLawful) (hs : s.calmInRun) (c : Instr) : (s.after c).calmInRun := by
  have hreset : c = .resetRelease ∨ (∃ r l, c = .resetAssert r l) → (s.after c).calmInRun := fun hc => by
    rcases s.after_reset_bare hc with hsame | hbare
    · rwa [hsame]
    · exact fun _ => hbare.calm
  have hstay : (s.after c).part = s.part → (s.after c).due = s.due → (s.after c).streams = s.streams → (s.after c).calmInRun :=
    fun hpart hdue hstreams => (State.RestsAlike.of_streams hpart hdue hstreams).calm hs
  have hbooks : ({ s with parser := .awaiting } : State).SegmentBooks :=
    ⟨hledger.sorted_segments, hledger.lanes, hledger.segments, hledger.openSegments, hledger.exist⟩
  have hawaits : ({ s with parser := .awaiting } : State).calmInRun := hs
  cases hkeeps : keepsBooks c with
  | true => exact State.calmInRun_endsBeside hs (State.after_endsBeside hkeeps s)
  | false =>
    cases c
    case resetAssert r l => exact hreset (.inr ⟨r, l, rfl⟩)
    case resetRelease => exact hreset (.inl rfl)
    case putStream =>
      exact State.take_calm (act := State.putStream) hs fun a =>
        (State.restsAlike_putStream hbooks (s := { s with parser := .awaiting }) hunits a).calm hawaits
    case holdStream =>
      exact State.take_calm (act := State.holdStream) hs fun a => (State.restsAlike_holdStream { s with parser := .awaiting } a).calm hawaits
    case releaseStream =>
      refine State.take_calm (act := State.releaseStream) hs fun a => ?_
      rcases State.releaseStream_cases { s with parser := .awaiting } a with h | ⟨-, h⟩ <;> rw [h]
      · exact (State.RestsAlike.reply _ a _ _).calm hawaits
      · exact State.calmInRun_endRequests _
    case rotateStream =>
      refine State.take_calm (act := State.rotateStream) hs fun a => ?_
      rcases State.rotateStream_cases { s with parser := .awaiting } a with h | ⟨-, h⟩ <;> rw [h]
      · exact (State.RestsAlike.reply _ a _ _).calm hawaits
      · exact State.calmInRun_endRequests _
    case unbindStream =>
      exact State.take_calm (act := State.unbindStream) hs fun a => (State.restsAlike_unbindStream hbooks a).calm hawaits
    case grantBlocks => exact State.take_calm (act := State.grantBlocks) hs fun a => State.calmInRun_grantBlocks hawaits a
    case clearPart =>
      exact State.take_calm (act := State.clearPart) hs fun a => (State.restsAlike_clearPart { s with parser := .awaiting } a).calm hawaits
    case issue lane =>
      show (s.issueOn lane.val).calmInRun
      rcases hledger.issueOn_made lane.val with h | ⟨d, p, k, id, g, n, -, h⟩ <;> rw [h]
      · exact hs
      · exact State.calmInRun_endRequests d
    case answer lane => exact State.calmInRun_takeAnswer hs lane.val
    case expiry lane i =>
      show (s.expireRecord lane.val i).calmInRun
      rcases s.expireRecord_cases lane.val i with h | ⟨r, hr, -, h⟩ <;> rw [h]
      · exact hs
      · obtain ⟨fails, rest, n, u, -, heq⟩ := hledger.expired_made hr
        rw [heq]
        exact State.calmInRun_endFailure u
    case laneflt lane level =>
      show (s.lanefltTo lane.val level).calmInRun
      rcases s.lanefltTo_cases lane.val level with h | ⟨-, -, -, -, h⟩ <;> rw [h]
      · exact hs
      · exact State.calmInRun_endFailure _
    case dumpUnitSend =>
      show (if s.mayDumpUnit then s.dumpUnit else s).calmInRun
      split
      · rename_i h
        obtain ⟨⟨taken, g, hready⟩, -⟩ := State.mayDumpUnit_ready h
        intro hrun
        have hframe := (s.withDump (s.dump.composed s)).sendDump_frame g s.dumpUnitSlots (16 - s.dumpUnitSlots.length) false
          (s.dumpUnitSlots.map s.sectorBytes)
        rw [State.dumpUnit_eq (current_append hready.taken)] at hrun
        cases ((agree (π := State.part) hframe).symm.trans hrun).symm.trans (show (s.withDump (s.dump.composed s)).part = .dumping from hready.dumping)
      · exact hs
    case trailerSend =>
      show (if s.mayTrailer then s.trailerUnit else s).calmInRun
      split
      · rename_i h
        obtain ⟨⟨taken, g, hready⟩, -⟩ := State.mayTrailer_ready h
        rw [State.trailerUnit_eq hready.taken]
        refine State.calmInRun_dumpCheck fun hrun => ?_
        have hframe := (s.withDump (s.trailerAccount taken g)).sendDump_frame g [] 15 true [(s.sentTrailer taken g).sector]
        cases ((agree (π := State.part) hframe).symm.trans hrun).symm.trans
          (show (s.withDump (s.trailerAccount taken g)).part = .dumping from hready.dumping)
      · exact hs
    case pfail level =>
      show (s.pfailTo level).calmInRun
      rcases s.pfailTo_cases level with h | ⟨-, h⟩ <;> rw [h]
      · exact hs
      · rw [State.enterDumping_eq]
        refine State.calmInRun_dumpCheck fun hrun => ?_
        have hframe := (s.pfailAt level).dumpBegun.takeGrant_frame 0
        cases (agree (π := State.part) hframe).symm.trans hrun
    all_goals first | exact hstay (s.after_agree _) (s.after_agree _) (s.after_agree _) | cases hkeeps

end

/-- Settles O55: the streams and the starvation list command by command; the units in flight with the books of the segment manager, and
RUN's rest from the segment requests that end an event. -/
theorem stepKeepsStreamAndStarvationLaws : Obligations.StepKeepsStreamAndStarvationLaws := by
  unfold Obligations.StepKeepsStreamAndStarvationLaws
  refine ⟨fun s t hs hstep => ?streams, fun s t hs hstep => ?starvation, fun s t hs hunits hstep => ?units, fun s t hs hunits hcalm hstep => ?calm⟩
  case streams =>
    exact step_keeps (P := State.streamsLawful) (fun _ _ h => h) (fun _ _ h => h) (fun c _ h => State.streamsLawful_after h c) s t hs hstep
  case starvation =>
    exact step_keeps (P := State.starvationLawful) (fun _ _ h => h) (fun _ _ h => h) (fun c _ h => State.starvationLawful_after h c) s t hs hstep
  case units =>
    exact step_gives (P := fun s => s.Ledger ∧ s.unitsLawful) (Q := State.unitsLawful) (fun _ _ h => h.2) (fun _ q h => ⟨h.1.withPending q, h.2⟩)
      (fun c _ h => h.1.unitsLawful_after h.2 c) ⟨hs, hunits⟩ hstep
  case calm =>
    exact step_gives (P := fun s => s.Ledger ∧ s.unitsLawful ∧ s.calmInRun) (Q := State.calmInRun) (fun _ _ h => h.2.2)
      (fun _ q h => ⟨h.1.withPending q, h.2⟩) (fun c _ h => h.1.calmInRun_after h.2.1 h.2.2 c) ⟨hs, hunits, hcalm⟩ hstep

end Sys2Proof.Machine
end

section
/-! Counting slots (R3, R29, R138, R144): the slots that a property holds of are listed once, so counts follow membership. -/

namespace Sys2Proof.Machine

open Sys2Proof

section

variable {s t : State} {p q : Slot → Bool} {ks : List Nat} {k : Nat}

theorem State.slotsWhere_nodup (hsorted : Store.sorted s.slots = true) (p : Slot → Bool) : (s.slotsWhere p).Nodup :=
  List.Nodup.sublist (List.filter_sublist.map Prod.fst) (Store.keys_nodup hsorted)

/-- The slots of `q` after are those of `p` before and the new ones. -/
theorem State.slotCount_add (hs : Store.sorted s.slots = true) (ht : Store.sorted t.slots = true) (hp : p {} = false) (hq : q {} = false)
    (hnodup : ks.Nodup) (hnew : ∀ k ∈ ks, p (s.slot k) = false) (hslots : ∀ k, q (t.slot k) = true ↔ p (s.slot k) = true ∨ k ∈ ks) :
    t.slotCount q = s.slotCount p + ks.length := by
  have hdisjoint : (s.slotsWhere p).Disjoint ks := fun k hk hk' => by
    rw [State.mem_slotsWhere hs hp, hnew k hk'] at hk
    cases hk
  have hperm : (t.slotsWhere q).Perm (s.slotsWhere p ++ ks) := by
    refine (List.perm_ext_iff_of_nodup (State.slotsWhere_nodup ht q) ((State.slotsWhere_nodup hs p).append hnodup hdisjoint)).2 fun k => ?_
    rw [List.mem_append, State.mem_slotsWhere hs hp, State.mem_slotsWhere ht hq]
    exact hslots k
  rw [State.slotCount, hperm.length_eq, List.length_append]
  rfl

theorem State.slotCount_congr (hs : Store.sorted s.slots = true) (ht : Store.sorted t.slots = true) (hp : p {} = false) (hq : q {} = false)
    (hslots : ∀ k, q (t.slot k) = p (s.slot k)) : t.slotCount q = s.slotCount p :=
  State.slotCount_add (ks := []) hs ht hp hq .nil (fun _ h => absurd h List.not_mem_nil) fun k => by simp [hslots]

theorem State.slotCount_insert (hs : Store.sorted s.slots = true) (ht : Store.sorted t.slots = true) (hp : p {} = false) (hq : q {} = false)
    (hnew : p (s.slot k) = false) (hin : q (t.slot k) = true) (hothers : ∀ j, j ≠ k → q (t.slot j) = p (s.slot j)) :
    t.slotCount q = s.slotCount p + 1 := by
  refine State.slotCount_add (ks := [k]) hs ht hp hq (List.nodup_singleton k) (fun j hj => by rw [List.mem_singleton.1 hj]; exact hnew) fun j => ?_
  by_cases hj : j = k
  · simp [hj, hin]
  · simp [hj, hothers j hj]

theorem State.slotCount_pos (hs : Store.sorted s.slots = true) (hp : p {} = false) (hk : p (s.slot k) = true) : 1 ≤ s.slotCount p :=
  List.length_pos_of_mem ((State.mem_slotsWhere hs hp k).2 hk)

theorem State.slotCount_eq_zero (hs : Store.sorted s.slots = true) (hp : p {} = false) (h : ∀ k, p (s.slot k) = false) : s.slotCount p = 0 := by
  rw [State.slotCount, List.length_eq_zero_iff, List.eq_nil_iff_forall_not_mem]
  intro k hk
  rw [State.mem_slotsWhere hs hp, h] at hk
  cases hk

/-- A slot that is not FREE. -/
def Slot.taken (r : Slot) : Bool := r.state != .free

theorem State.freeSlots_eq (s : State) : s.freeSlots = 16384 - s.slotCount Slot.taken := by
  rw [State.slotCount, State.slotsWhere, List.length_map]
  rfl

theorem State.taken_le (hs : Store.sorted s.slots = true) (hsmall : ∀ k, (s.slot k).state ≠ .free → k < 16384) : s.slotCount Slot.taken ≤ 16384 := by
  have hsub : s.slotsWhere Slot.taken ⊆ List.range 16384 := fun k hk => by
    rw [State.mem_slotsWhere hs rfl] at hk
    exact List.mem_range.2 (hsmall k (by simpa [Slot.taken] using hk))
  simpa [State.slotCount] using ((State.slotsWhere_nodup hs Slot.taken).subperm hsub).length_le

end

end Sys2Proof.Machine
end

section
/-! The books of the slots: where each slot stands, and the counts that follow (R3, R27, R29, R43, R45, R66, R138, R144). -/

namespace Sys2Proof.Machine

open Sys2Proof

/-! ## The books -/

/-- The slot table is in canonical form. -/
def State.slotsCanon (s : State) : Prop := Store.canon {} s.slots = true

theorem closed_slotsCanon : Closed State.slotsCanon where
  other hs h := Eq.trans (congrArg (fun u : State => Store.canon ({} : Slot) u.slots) h :) hs
  tenant _ _ _ hs := hs
  range _ _ _ _ hs := hs
  putTenant := State.putTenant_keeps (fun _ _ _ hs => hs) fun _ _ hs => hs
  dropTenant := State.dropTenant_keeps (fun _ _ _ hs => hs) fun _ _ hs => hs
  putRanges := State.putRanges_keeps (fun _ _ _ hs => hs) fun _ _ hs => hs
  slot k r hs := Store.canon_setD hs k r
  stream _ _ _ hs := hs
  lane _ _ hs := hs
  segment _ _ hs := hs
  dropSegment _ hs := hs
  index _ _ hs := hs
  dropIndex _ hs := hs
  durable _ _ hs := hs
  dropDurable _ hs := hs
  flush _ _ hs := hs
  dropFlush _ hs := hs
  enqueue _ _ hs := hs
  sendLane _ _ hs := hs
  bytes _ _ hs := hs
  decay hs := hs
  hushed hs := hs
  cleared hs := hs

/-- The laws of the ledger that speak of slots, for a part whose LANDING slots are `hand` and whose ISSUED slots are `out`. -/
structure State.SlotBooks (s : State) (hand : List Nat) (out : Nat → Prop) : Prop where
  canon : s.slotsCanon
  small : ∀ k, (s.slot k).state ≠ .free → k < 16384
  nodup : hand.Nodup
  landing : ∀ k, (s.slot k).state = .landing ↔ k ∈ hand
  unused : ∀ k, (s.slot k).inUse = false → (s.slot k).durable = none ∧ (s.slot k).mark = false
  queues : s.queuesLawful
  issued : ∀ k, (s.slot k).state = .issued ↔ out k
  sequences : s.sequencesLawful
  index : s.indexLawful
  counts : s.countsLawful

theorem State.SlotBooks.sorted {s : State} {hand : List Nat} {out : Nat → Prop} (h : s.SlotBooks hand out) : Store.sorted s.slots = true :=
  sorted_of_canon h.canon

/-- The slots of the NORMAL units in flight. -/
def State.onLanes (s : State) (k : Nat) : Prop := ∃ l, k ∈ (s.lane l).issuedSlots

theorem State.Ledger.slotBooks {s : State} (h : s.Ledger) : s.SlotBooks s.parser.landedSlots s.onLanes where
  canon := ((State.canonical_iff s).1 h.canonical).slots
  small := h.landingSlots.1
  nodup := h.landingSlots.2.1
  landing := h.landingSlots.2.2.1
  unused := h.landingSlots.2.2.2.2
  queues := h.queues
  issued := h.issuedSlots.1
  sequences := h.sequences
  index := h.index
  counts := h.counts

/-- What the books keep beside the slots themselves is the same, credits aside. -/
structure State.AccountsAlike (s t : State) : Prop where
  queues : ∀ j, (t.stream j).queue = (s.stream j).queue
  index : t.index = s.index
  sequence : t.sequence = s.sequence
  staged : ∀ fn, (t.tenant fn).stagedCount = (s.tenant fn).stagedCount
  durables : t.durables = s.durables
  flushes : t.flushes = s.flushes

theorem Slot.inUse_iff (r : Slot) : r.inUse = true ↔ r.state = .staged ∨ r.state = .issued := by simp [Slot.inUse]

theorem Slot.unused_iff (r : Slot) : r.inUse = false ↔ r.state = .free ∨ r.state = .landing := by
  cases h : r.state <;> simp [Slot.inUse, h]

section

variable {s t : State} {hand hand' : List Nat} {out : Nat → Prop} {k c : Nat}

namespace State.SlotBooks

theorem ne_of_inUse {j : Nat} (hj : (s.slot j).inUse = true) (hk : (s.slot k).inUse = false) : j ≠ k := by
  rintro rfl
  rw [hj] at hk
  cases hk

/-- Slots that are not in use may be freed, or taken by a landing block; whatever counts slots in use stays. -/
theorem reland (h : s.SlotBooks hand out) (hcanon : t.slotsCanon)
    (hslots : ∀ k, t.slot k = s.slot k ∨ (s.slot k).inUse = false ∧ (t.slot k).inUse = false ∧ (t.slot k).durable = none ∧ (t.slot k).mark = false)
    (hsmall : ∀ k, (t.slot k).state ≠ .free → k < 16384) (hnodup : hand'.Nodup) (hlanding : ∀ k, (t.slot k).state = .landing ↔ k ∈ hand')
    (halike : s.AccountsAlike t) (hcredits : t.credits ≤ t.freeSlots) : t.SlotBooks hand' out := by
  obtain ⟨hqueues, hindex, hsequence, hstaged, hdurables, hflushes⟩ := halike
  have hsorted := sorted_of_canon hcanon
  have huse : ∀ k, (t.slot k).inUse = true → t.slot k = s.slot k := fun k hk =>
    (hslots k).resolve_right fun hunused => by rw [hunused.2.1] at hk; cases hk
  have huse' : ∀ k, (s.slot k).inUse = true → t.slot k = s.slot k := fun k hk =>
    (hslots k).resolve_right fun hunused => by rw [hunused.1] at hk; cases hk
  have hsame : ∀ k, (t.slot k).inUse = (s.slot k).inUse := fun k => by
    rcases hslots k with heq | ⟨hs, ht, -⟩
    · rw [heq]
    · rw [hs, ht]
  have hcount : ∀ p : Slot → Bool, (∀ r : Slot, r.inUse = false → r.durable = none → r.mark = false → p r = false) →
      t.slotCount p = s.slotCount p := fun p hp => by
    refine State.slotCount_congr h.sorted hsorted (hp {} rfl rfl rfl) (hp {} rfl rfl rfl) fun k => ?_
    rcases hslots k with heq | ⟨hs, ht, hdurable, hmark⟩
    · rw [heq]
    · obtain ⟨hsdurable, hsmark⟩ := h.unused k hs
      rw [hp _ ht hdurable hmark, hp _ hs hsdurable hsmark]
  have hstate : ∀ k v, (v = SlotState.staged ∨ v = .issued) → ((t.slot k).state = v ↔ (s.slot k).state = v) := fun k v hv => by
    constructor
    · intro hk
      rw [← huse k ((Slot.inUse_iff _).2 (by rw [hk]; exact hv))]
      exact hk
    · intro hk
      rw [huse' k ((Slot.inUse_iff _).2 (by rw [hk]; exact hv))]
      exact hk
  obtain ⟨hqmem, hqsorted⟩ := h.queues
  obtain ⟨hseq, hseqinj⟩ := h.sequences
  obtain ⟨hcstaged, hccredits, hcdurables, hcrefs, hcflushes, hcmarks⟩ := h.counts
  have hinqueue : ∀ j k, k ∈ (s.stream j).queue → t.slot k = s.slot k := fun j k hk =>
    huse' k ((Slot.inUse_iff _).2 (.inl ((hqmem j k).1 hk).1))
  refine ⟨hcanon, hsmall, hnodup, hlanding, fun k hk => ?_, ⟨fun j k => ?_, fun j => ?_⟩, fun k => ?_, ⟨fun k hk => ?_, fun j k hj hk heq => ?_⟩,
    fun key k hkey => ?_, fun fn => ?_, hcredits, fun i r hr => ?_, fun k i hk => ?_, fun fn r hr => ?_, fun k hk => ?_⟩
  · rcases hslots k with heq | ⟨-, -, hnone⟩
    · rw [heq]
      exact h.unused k (heq ▸ hk)
    · exact hnone
  · rw [hqueues, hqmem, hstate k _ (.inl rfl)]
    refine and_congr_right fun hk => ?_
    rw [huse' k ((Slot.inUse_iff _).2 (.inl hk))]
  · rw [hqueues, List.map_congr_left fun k hk => congrArg Slot.seq (hinqueue j k hk)]
    exact hqsorted j
  · rw [hstate k _ (.inr rfl)]
    exact h.issued k
  · rw [huse k hk, hsequence]
    exact hseq k (hsame k ▸ hk)
  · rw [huse j hj, huse k hk] at heq
    exact hseqinj j k (hsame j ▸ hj) (hsame k ▸ hk) heq
  · rw [hindex] at hkey
    obtain ⟨hkuse, hkkey, hkhigh⟩ := h.index key k hkey
    rw [huse' k hkuse]
    refine ⟨hkuse, hkkey, fun j hj hfn hns hlba => ?_⟩
    rw [huse j hj] at hfn hns hlba ⊢
    exact hkhigh j (hsame j ▸ hj) hfn hns hlba
  · rw [hstaged, hcount _ fun r hr _ _ => by simp [hr]]
    exact hcstaged fn
  · rw [hdurables] at hr
    rw [hcount _ fun r _ hr _ => by simp [hr]]
    exact hcdurables i r hr
  · rw [hdurables]
    refine hcrefs k i ?_
    rcases hslots k with heq | ⟨-, -, hnone, -⟩
    · exact heq ▸ hk
    · rw [hnone] at hk
      cases hk
  · rw [hflushes] at hr
    rw [hcount _ fun r _ _ hr => by simp [hr]]
    exact hcflushes fn r hr
  · rcases hslots k with heq | ⟨-, -, -, hnone⟩
    · rw [hflushes, heq]
      exact hcmarks k (heq ▸ hk)
    · rw [hnone] at hk
      cases hk

/-- The slots stay. -/
theorem congr (h : s.SlotBooks hand out) (hslots : t.slots = s.slots) (halike : s.AccountsAlike t) (hcredits : t.credits ≤ t.freeSlots) :
    t.SlotBooks hand out := by
  have hslot : ∀ k, t.slot k = s.slot k := fun k => by rw [State.slot, hslots]; rfl
  exact h.reland (show Store.canon {} t.slots = true from hslots ▸ h.canon) (fun k => .inl (hslot k)) (fun k hk => h.small k (hslot k ▸ hk)) h.nodup
    (fun k => by rw [hslot]; exact h.landing k) halike hcredits

theorem congr_out {out' : Nat → Prop} (h : s.SlotBooks hand out) (hout : ∀ k, out' k ↔ out k) : s.SlotBooks hand out' :=
  { h with issued := fun k => (h.issued k).trans (hout k).symm }

/-! ## A landed slot is staged (R42, R43, R46) -/

theorem stage (h : s.SlotBooks (k :: hand) out) (hcanon : t.slotsCanon)
    (hfn : (s.slot k).fn < 512) (hns : (s.slot k).ns ≤ 7) (hlba : (s.slot k).lba < 2 ^ 40)
    (hslots : ∀ j, t.slot j = if j = k then { s.slot k with state := .staged, seq := s.sequence, stream := c } else s.slot j)
    (hqueues : ∀ i, (t.stream i).queue = (s.stream i).queue ++ if i = c then [k] else [])
    (hindex : ∀ key, Store.find? t.index key = if key = identityKey (s.slot k).fn (s.slot k).ns (s.slot k).lba then some k else Store.find? s.index key)
    (hsequence : t.sequence = s.sequence + 1)
    (hstaged : ∀ fn, (t.tenant fn).stagedCount = (s.tenant fn).stagedCount + if fn = (s.slot k).fn then 1 else 0)
    (hdurables : t.durables = s.durables) (hflushes : t.flushes = s.flushes) (hcredits : t.credits = s.credits) : t.SlotBooks hand out := by
  have hsorted := sorted_of_canon hcanon
  have hk : (s.slot k).state = .landing := (h.landing k).2 List.mem_cons_self
  have hkunused : (s.slot k).inUse = false := (Slot.unused_iff _).2 (.inr hk)
  obtain ⟨hkdurable, hkmark⟩ := h.unused k hkunused
  have hself : t.slot k = { s.slot k with state := .staged, seq := s.sequence, stream := c } := by rw [hslots, if_pos rfl]
  have hother : ∀ j, j ≠ k → t.slot j = s.slot j := fun j hj => by rw [hslots, if_neg hj]
  have huse : ∀ j, (t.slot j).inUse = true → j = k ∨ j ≠ k ∧ (s.slot j).inUse = true := fun j hj => by
    by_cases hjk : j = k
    · exact .inl hjk
    · exact .inr ⟨hjk, hother j hjk ▸ hj⟩
  have hold : ∀ j, (s.slot j).inUse = true → t.slot j = s.slot j := fun j hj => hother j (ne_of_inUse hj hkunused)
  obtain ⟨hknot, hnodup⟩ := List.nodup_cons.1 h.nodup
  obtain ⟨hqmem, hqsorted⟩ := h.queues
  obtain ⟨hseq, hseqinj⟩ := h.sequences
  obtain ⟨hcstaged, hccredits, hcdurables, hcrefs, hcflushes, hcmarks⟩ := h.counts
  have hcount : ∀ p : Slot → Bool, p {} = false → p (t.slot k) = p (s.slot k) → t.slotCount p = s.slotCount p := fun p hp hpk =>
    State.slotCount_congr h.sorted hsorted hp hp fun j => by
      by_cases hj : j = k
      · rw [hj, hpk]
      · rw [hother j hj]
  have hinqueue : ∀ i j, j ∈ (s.stream i).queue → t.slot j = s.slot j := fun i j hj => hold j ((Slot.inUse_iff _).2 (.inl ((hqmem i j).1 hj).1))
  refine ⟨hcanon, fun j hj => ?_, hnodup, fun j => ?_, fun j hj => ?_, ⟨fun i j => ?_, fun i => ?_⟩, fun j => ?_,
    ⟨fun j hj => ?_, fun i j hi hj heq => ?_⟩, fun key j hkey => ?_, fun fn => ?_, ?_, fun i r hr => ?_, fun j i hj => ?_, fun fn r hr => ?_,
    fun j hj => ?_⟩
  · by_cases hjk : j = k
    · exact h.small j (by rw [hjk, hk]; decide)
    · exact h.small j (hother j hjk ▸ hj)
  · by_cases hjk : j = k
    · rw [hjk, hself]
      simp [hknot]
    · rw [hother j hjk, h.landing, List.mem_cons, or_iff_right hjk]
  · by_cases hjk : j = k
    · rw [hjk, hself] at hj
      cases hj
    · rw [hother j hjk] at hj ⊢
      exact h.unused j hj
  · rw [hqueues, List.mem_append, hqmem]
    by_cases hjk : j = k
    · rw [hjk, hself, hk]
      by_cases hi : i = c
      · simp [hi]
      · simp [hi, Ne.symm hi]
    · rw [hother j hjk]
      by_cases hi : i = c
      · simp [hi, hjk]
      · simp [hi]
  · rw [hqueues, List.map_append, List.map_congr_left fun j hj => congrArg Slot.seq (hinqueue i j hj), List.pairwise_append]
    refine ⟨hqsorted i, ?_, fun x hx y hy => ?_⟩
    · split <;> simp
    · obtain ⟨j, hj, rfl⟩ := List.mem_map.1 hx
      obtain ⟨m, hm, rfl⟩ := List.mem_map.1 hy
      split at hm
      · rw [List.mem_singleton.1 hm, hself]
        exact (hseq j ((Slot.inUse_iff _).2 (.inl ((hqmem i j).1 hj).1))).1
      · cases hm
  · rw [← h.issued]
    by_cases hjk : j = k
    · rw [hjk, hself, hk]
      simp
    · rw [hother j hjk]
  · rw [hsequence]
    rcases huse j hj with rfl | ⟨hjk, hjs⟩
    · rw [hself]
      exact ⟨Nat.lt_succ_self _, hfn, hns, hlba⟩
    · rw [hother j hjk]
      obtain ⟨hlt, hrest⟩ := hseq j hjs
      exact ⟨Nat.lt_succ_of_lt hlt, hrest⟩
  · rcases huse i hi with rfl | ⟨hik, his⟩
    · rcases huse j hj with rfl | ⟨hjk, hjs⟩
      · rfl
      · rw [hself, hother j hjk] at heq
        have := (hseq j hjs).1
        have heq : s.sequence = (s.slot j).seq := heq
        omega
    · rcases huse j hj with rfl | ⟨hjk, hjs⟩
      · rw [hself, hother i hik] at heq
        have := (hseq i his).1
        have heq : (s.slot i).seq = s.sequence := heq
        omega
      · rw [hother i hik, hother j hjk] at heq
        exact hseqinj i j his hjs heq
  · rw [hindex] at hkey
    split at hkey
    · rename_i hown
      cases hkey
      rw [hself]
      refine ⟨rfl, hown, fun m hm _ _ _ => ?_⟩
      rcases huse m hm with rfl | ⟨hmk, hms⟩
      · rw [hself]
      · rw [hother m hmk]
        exact (hseq m hms).1.le
    · rename_i hnot
      obtain ⟨hjuse, hjkey, hjhigh⟩ := h.index key j hkey
      rw [hold j hjuse]
      refine ⟨hjuse, hjkey, fun m hm hmfn hmns hmlba => ?_⟩
      rcases huse m hm with rfl | ⟨hmk, hms⟩
      · rw [hself] at hmfn hmns hmlba
        exact absurd (by rw [hjkey, ← hmfn, ← hmns, ← hmlba]) hnot
      · rw [hother m hmk] at hmfn hmns hmlba ⊢
        exact hjhigh m hms hmfn hmns hmlba
  · rw [hstaged, hcstaged]
    split
    · rename_i hown
      exact (State.slotCount_insert (k := k) h.sorted hsorted rfl rfl (by simp [hkunused]) (by rw [hself, hown]; simp [Slot.inUse])
        fun j hj => by rw [hother j hj]).symm
    · rename_i hown
      refine (hcount _ rfl ?_).symm
      rw [hself, hkunused]
      simp [Ne.symm hown]
  · have htaken : Slot.taken (t.slot k) = Slot.taken (s.slot k) := by
      rw [hself]
      show (SlotState.staged != .free) = ((s.slot k).state != .free)
      rw [hk]
      rfl
    rw [hcredits, State.freeSlots_eq, hcount Slot.taken rfl htaken, ← State.freeSlots_eq]
    exact hccredits
  · rw [hdurables] at hr
    rw [hcount _ rfl (by rw [hself])]
    exact hcdurables i r hr
  · rw [hdurables]
    refine hcrefs j i ?_
    by_cases hjk : j = k
    · rw [hjk, hself] at hj
      rw [hjk]
      exact hj
    · exact hother j hjk ▸ hj
  · rw [hflushes] at hr
    rw [hcount _ rfl (by rw [hself])]
    exact hcflushes fn r hr
  · by_cases hjk : j = k
    · rw [hjk, hself] at hj
      rw [show (s.slot k).mark = false from hkmark] at hj
      cases hj
    · rw [hflushes, hother j hjk]
      exact hcmarks j (hother j hjk ▸ hj)

end State.SlotBooks

end

end Sys2Proof.Machine
end

section
/-! The books of the slots when a slot in use becomes FREE (R3, R28, R47, R68, R122, R142, R148). -/

namespace Sys2Proof.Machine

open Sys2Proof

/-- The durable write record that the slot refers to is settled, and no other changes (R142). -/
def State.durableSettled (s t : State) (k : Nat) : Prop :=
  (∀ i, (s.slot k).durable ≠ some i → Store.find? t.durables i = Store.find? s.durables i)
    ∧ ∀ i r, (s.slot k).durable = some i → Store.find? s.durables i = some r →
        Store.find? t.durables i = if r.remaining = 1 then none else some { r with remaining := r.remaining - 1 }

/-- The flush record of the tenant of a marked slot is settled, and no other changes (R147, R148). -/
def State.flushSettled (s t : State) (k : Nat) : Prop :=
  (∀ fn, (s.slot k).mark = false ∨ fn ≠ (s.slot k).fn → Store.find? t.flushes fn = Store.find? s.flushes fn)
    ∧ ∀ r, (s.slot k).mark = true → Store.find? s.flushes (s.slot k).fn = some r →
        Store.find? t.flushes (s.slot k).fn = if r.count = 1 then none else some { r with count := r.count - 1 }

/-- What the freeing of slot `k`, its records settled, leaves. -/
structure State.SlotFreed (s t : State) (k : Nat) : Prop where
  canon : t.slotsCanon
  slots : ∀ j, t.slot j = if j = k then { s.slot k with state := .free, durable := none, mark := false } else s.slot j
  queues : ∀ i, (t.stream i).queue = (s.stream i).queue.filter (· != k)
  index : ∀ key, Store.find? t.index key
    = if key = identityKey (s.slot k).fn (s.slot k).ns (s.slot k).lba ∧ Store.find? s.index key = some k then none else Store.find? s.index key
  sequence : t.sequence = s.sequence
  staged : ∀ fn, (t.tenant fn).stagedCount = (s.tenant fn).stagedCount - if fn = (s.slot k).fn then 1 else 0
  durables : s.durableSettled t k
  flushes : s.flushSettled t k
  credits : t.credits = s.credits

section

variable {s t : State} {hand : List Nat} {out : Nat → Prop} {k : Nat}

/-- A slot that leaves a property's slots. -/
theorem State.slotCount_erase {p q : Slot → Bool} (hs : Store.sorted s.slots = true) (ht : Store.sorted t.slots = true) (hp : p {} = false)
    (hq : q {} = false) (hin : p (s.slot k) = true) (hgone : q (t.slot k) = false) (hothers : ∀ j, j ≠ k → q (t.slot j) = p (s.slot j)) :
    s.slotCount p = t.slotCount q + 1 :=
  State.slotCount_insert (s := t) (t := s) ht hs hq hp hgone hin fun j hj => (hothers j hj).symm

theorem State.SlotFreed.sorted (hf : s.SlotFreed t k) : Store.sorted t.slots = true := sorted_of_canon hf.canon

/-- A referred record that stays still has a slot that refers to it. -/
theorem State.SlotFreed.durables_lawful (h : s.SlotBooks hand out) (hf : s.SlotFreed t k)
    (hother : ∀ j, j ≠ k → t.slot j = s.slot j) (hnone : (t.slot k).durable = none) :
    (∀ i r, Store.find? t.durables i = some r → 1 ≤ r.remaining ∧ r.remaining ≤ r.count ∧ r.remaining = t.slotCount fun q => q.durable == some i)
      ∧ ∀ j i, (t.slot j).durable = some i → (Store.find? t.durables i).isSome = true := by
  obtain ⟨-, -, hcdurables, hcrefs, -, -⟩ := h.counts
  obtain ⟨hdother, hdown⟩ := hf.durables
  have hcount : ∀ i, (s.slot k).durable = some i → s.slotCount (fun q => q.durable == some i) = t.slotCount (fun q => q.durable == some i) + 1 :=
    fun i hi => State.slotCount_erase (k := k) h.sorted hf.sorted rfl rfl (by simp [hi]) (by simp [hnone]) fun j hj => by rw [hother j hj]
  refine ⟨fun i r hr => ?_, fun j i hj => ?_⟩
  · by_cases hi : (s.slot k).durable = some i
    · obtain ⟨r', hr'⟩ := Option.isSome_iff_exists.1 (hcrefs k i hi)
      obtain ⟨hpos, hle, heq⟩ := hcdurables i r' hr'
      rw [hdown i r' hi hr'] at hr
      have hfall := hcount i hi
      split at hr
      · cases hr
      · cases hr
        refine ⟨by show 1 ≤ r'.remaining - 1; omega, by show r'.remaining - 1 ≤ r'.count; omega, ?_⟩
        show r'.remaining - 1 = _
        omega
    · rw [hdother i hi] at hr
      rw [State.slotCount_congr (p := fun q => q.durable == some i) h.sorted hf.sorted rfl rfl fun j => ?_]
      · exact hcdurables i r hr
      · by_cases hj : j = k
        · rw [hj, hnone]
          simp [hi]
        · rw [hother j hj]
  · have hjk : j ≠ k := by
      rintro rfl
      rw [hnone] at hj
      cases hj
    have hsj : (s.slot j).durable = some i := hother j hjk ▸ hj
    by_cases hi : (s.slot k).durable = some i
    · obtain ⟨r, hr⟩ := Option.isSome_iff_exists.1 (hcrefs k i hi)
      obtain ⟨hpos, hle, heq⟩ := hcdurables i r hr
      have hfall := hcount i hi
      have hleft : 1 ≤ t.slotCount fun q => q.durable == some i := State.slotCount_pos (k := j) hf.sorted rfl (by simp [hj])
      rw [hdown i r hi hr, if_neg (by omega)]
      rfl
    · rw [hdother i hi]
      exact hcrefs j i hsj

/-- A flush record that stays still counts the marked slots of its tenant. -/
theorem State.SlotFreed.flushes_lawful (h : s.SlotBooks hand out) (hf : s.SlotFreed t k)
    (hother : ∀ j, j ≠ k → t.slot j = s.slot j) (hnone : (t.slot k).mark = false) :
    (∀ fn r, Store.find? t.flushes fn = some r → 1 ≤ r.count ∧ 1 ≤ r.tags.length ∧ r.tags.length ≤ 4
        ∧ r.count = t.slotCount fun q => q.mark && q.fn == fn)
      ∧ ∀ j, (t.slot j).mark = true → (Store.find? t.flushes (t.slot j).fn).isSome = true := by
  obtain ⟨-, -, -, -, hcflushes, hcmarks⟩ := h.counts
  obtain ⟨hfother, hfown⟩ := hf.flushes
  have hcount : (s.slot k).mark = true →
      s.slotCount (fun q => q.mark && q.fn == (s.slot k).fn) = t.slotCount (fun q => q.mark && q.fn == (s.slot k).fn) + 1 :=
    fun hmark => State.slotCount_erase (k := k) h.sorted hf.sorted rfl rfl (by simp [hmark]) (by simp [hnone]) fun j hj => by rw [hother j hj]
  refine ⟨fun fn r hr => ?_, fun j hj => ?_⟩
  · by_cases hown : (s.slot k).mark = true ∧ fn = (s.slot k).fn
    · obtain ⟨hmark, rfl⟩ := hown
      obtain ⟨r', hr'⟩ := Option.isSome_iff_exists.1 (hcmarks k hmark)
      obtain ⟨hpos, htags, hfour, heq⟩ := hcflushes _ r' hr'
      rw [hfown r' hmark hr'] at hr
      have hfall := hcount hmark
      split at hr
      · cases hr
      · cases hr
        refine ⟨by show 1 ≤ r'.count - 1; omega, htags, hfour, ?_⟩
        show r'.count - 1 = _
        omega
    · have hnot : (s.slot k).mark = false ∨ fn ≠ (s.slot k).fn := by
        cases hmark : (s.slot k).mark with
        | false => exact .inl rfl
        | true => exact .inr fun hfn => hown ⟨hmark, hfn⟩
      rw [hfother fn hnot] at hr
      rw [State.slotCount_congr (p := fun q => q.mark && q.fn == fn) h.sorted hf.sorted rfl rfl fun j => ?_]
      · exact hcflushes fn r hr
      · by_cases hj : j = k
        · rw [hj, hnone]
          rcases hnot with hmark | hfn
          · simp [hmark]
          · simp [Ne.symm hfn]
        · rw [hother j hj]
  · have hjk : j ≠ k := by
      rintro rfl
      rw [hnone] at hj
      cases hj
    rw [hother j hjk] at hj ⊢
    by_cases hown : (s.slot k).mark = true ∧ (s.slot j).fn = (s.slot k).fn
    · obtain ⟨hmark, hfn⟩ := hown
      obtain ⟨r, hr⟩ := Option.isSome_iff_exists.1 (hcmarks k hmark)
      obtain ⟨hpos, -, -, heq⟩ := hcflushes _ r hr
      have hfall := hcount hmark
      have hleft : 1 ≤ t.slotCount fun q => q.mark && q.fn == (s.slot k).fn :=
        State.slotCount_pos (k := j) hf.sorted rfl (by simp [hother j hjk, hj, hfn])
      rw [hfn, hfown r hmark hr, if_neg (by omega)]
      rfl
    · rw [hfother _ ?_]
      · exact hcmarks j hj
      · cases hmark : (s.slot k).mark with
        | false => exact .inl rfl
        | true => exact .inr fun hfn => hown ⟨hmark, hfn⟩

namespace State.SlotBooks

/-- A slot in use becomes FREE. -/
theorem free (h : s.SlotBooks hand out) (hk : (s.slot k).inUse = true) (hf : s.SlotFreed t k) : t.SlotBooks hand fun j => out j ∧ j ≠ k := by
  have hself : t.slot k = { s.slot k with state := .free, durable := none, mark := false } := by rw [hf.slots, if_pos rfl]
  have hother : ∀ j, j ≠ k → t.slot j = s.slot j := fun j hj => by rw [hf.slots, if_neg hj]
  have hne : ∀ j, (t.slot j).state ≠ .free → j ≠ k := fun j hj hjk => hj (by rw [hjk, hself])
  have huse : ∀ j, (t.slot j).inUse = true → j ≠ k := fun j hj hjk => by
    rw [hjk, hself] at hj
    cases hj
  have hkused : (s.slot k).state ≠ .landing ∧ (s.slot k).state ≠ .free := by
    rcases (Slot.inUse_iff _).1 hk with h | h <;> rw [h] <;> decide
  have hdurables := hf.durables_lawful h hother (by rw [hself])
  have hflushes := hf.flushes_lawful h hother (by rw [hself])
  have hsorted := hf.sorted
  obtain ⟨hcanon, -, hqueues, hindex, hsequence, hstaged, -, -, hcredits⟩ := hf
  obtain ⟨hqmem, hqsorted⟩ := h.queues
  obtain ⟨hseq, hseqinj⟩ := h.sequences
  obtain ⟨hcstaged, hccredits, -⟩ := h.counts
  refine ⟨hcanon, fun j hj => ?_, h.nodup, fun j => ?_, fun j hj => ?_, ⟨fun i j => ?_, fun i => ?_⟩, fun j => ?_,
    ⟨fun j hj => ?_, fun i j hi hj heq => ?_⟩, fun key j hkey => ?_, fun fn => ?_, ?_, hdurables.1, hdurables.2, hflushes.1, hflushes.2⟩
  · exact h.small j (hother j (hne j hj) ▸ hj)
  · rw [← h.landing]
    by_cases hjk : j = k
    · rw [hjk, hself]
      simp [hkused.1]
    · rw [hother j hjk]
  · by_cases hjk : j = k
    · rw [hjk, hself]
      exact ⟨rfl, rfl⟩
    · rw [hother j hjk] at hj ⊢
      exact h.unused j hj
  · rw [hqueues, List.mem_filter, hqmem]
    by_cases hjk : j = k
    · rw [hjk, hself]
      simp
    · simp [hother j hjk, hjk]
  · rw [hqueues, List.map_congr_left fun j hj => congrArg Slot.seq (hother j (by simpa using (List.mem_filter.1 hj).2))]
    exact (hqsorted i).sublist (List.filter_sublist.map _)
  · rw [← h.issued]
    by_cases hjk : j = k
    · rw [hjk, hself]
      simp
    · simp [hother j hjk, hjk]
  · rw [hsequence, hother j (huse j hj)]
    exact hseq j (hother j (huse j hj) ▸ hj)
  · have hisame := hother i (huse i hi)
    have hjsame := hother j (huse j hj)
    rw [hisame] at hi heq
    rw [hjsame] at hj heq
    exact hseqinj i j hi hj heq
  · rw [hindex] at hkey
    split at hkey
    · cases hkey
    · rename_i hnot
      obtain ⟨hjuse, hjkey, hjhigh⟩ := h.index key j hkey
      have hjk : j ≠ k := by
        rintro rfl
        exact hnot ⟨hjkey, hkey⟩
      rw [hother j hjk]
      refine ⟨hjuse, hjkey, fun m hm hmfn hmns hmlba => ?_⟩
      have hmsame := hother m (huse m hm)
      rw [hmsame] at hm hmfn hmns hmlba ⊢
      exact hjhigh m hm hmfn hmns hmlba
  · rw [hstaged, hcstaged]
    split
    · rename_i hown
      have hfall := State.slotCount_erase (s := s) (t := t) (k := k) (p := fun r => r.inUse && r.fn == fn) (q := fun r => r.inUse && r.fn == fn)
        h.sorted hsorted rfl rfl (by simp [hk, hown]) (by rw [hself]; rfl) fun j hj => by rw [hother j hj]
      omega
    · rename_i hown
      refine (State.slotCount_congr h.sorted hsorted rfl rfl fun j => ?_).symm
      by_cases hjk : j = k
      · rw [hjk, hself]
        have hfn : ((s.slot k).fn == fn) = false := by simpa using Ne.symm hown
        show (_ && (s.slot k).fn == fn) = (_ && (s.slot k).fn == fn)
        rw [hfn, Bool.and_false, Bool.and_false]
      · rw [hother j hjk]
  · have hfall := State.slotCount_erase (s := s) (t := t) (k := k) (p := Slot.taken) (q := Slot.taken) h.sorted hsorted rfl rfl
      (by simp [Slot.taken, hkused.2]) (by rw [hself]; rfl) fun j hj => by rw [hother j hj]
    have hbelow := State.taken_le h.sorted h.small
    rw [hcredits, State.freeSlots_eq]
    rw [State.freeSlots_eq] at hccredits
    omega

end State.SlotBooks

end

end Sys2Proof.Machine
end

section
/-! The books of the slots when slots in use change: references and marks are given, units are issued and fail (R66, R106, R124, R139, R146). -/

namespace Sys2Proof.Machine

open Sys2Proof

/-- R138: a durable write record's remaining count is the number of slots that refer to it, and a referred record is in use. -/
def State.durablesCounted (s : State) : Prop :=
  (∀ i r, Store.find? s.durables i = some r → 1 ≤ r.remaining ∧ r.remaining ≤ r.count ∧ r.remaining = s.slotCount fun q => q.durable == some i)
    ∧ ∀ k i, (s.slot k).durable = some i → (Store.find? s.durables i).isSome = true

/-- R144: a flush record's count is the number of its tenant's marked slots, and a marked slot's tenant has a record. -/
def State.flushesCounted (s : State) : Prop :=
  (∀ fn r, Store.find? s.flushes fn = some r → 1 ≤ r.count ∧ 1 ≤ r.tags.length ∧ r.tags.length ≤ 4
      ∧ r.count = s.slotCount fun q => q.mark && q.fn == fn)
    ∧ ∀ k, (s.slot k).mark = true → (Store.find? s.flushes (s.slot k).fn).isSome = true

section

variable {s t : State} {hand ks : List Nat} {out out' : Nat → Prop} {k i fn : Nat}

/-! ## Slots in use -/

/-- Slots in use keep their identity and their landing sequence. -/
def State.Reworked (s t : State) : Prop := ∀ k, t.slot k = s.slot k ∨ (s.slot k).inUse = true ∧ (t.slot k).inUse = true
  ∧ t.slot k = { s.slot k with state := (t.slot k).state, durable := (t.slot k).durable, mark := (t.slot k).mark }

namespace State.Reworked

theorem inUse (h : s.Reworked t) (k : Nat) : (t.slot k).inUse = (s.slot k).inUse := by
  rcases h k with heq | ⟨hs, ht, -⟩
  · rw [heq]
  · rw [hs, ht]

theorem kept (h : s.Reworked t) (k : Nat) : (t.slot k).fn = (s.slot k).fn ∧ (t.slot k).ns = (s.slot k).ns ∧ (t.slot k).lba = (s.slot k).lba
    ∧ (t.slot k).seq = (s.slot k).seq ∧ (t.slot k).stream = (s.slot k).stream := by
  rcases h k with heq | ⟨-, -, heq⟩ <;> rw [heq] <;> exact ⟨rfl, rfl, rfl, rfl, rfl⟩

theorem taken (h : s.Reworked t) (k : Nat) : Slot.taken (t.slot k) = Slot.taken (s.slot k) := by
  rcases h k with heq | ⟨hs, ht, -⟩
  · rw [heq]
  · have htaken : ∀ r : Slot, r.inUse = true → Slot.taken r = true := fun r hr => by
      rcases (Slot.inUse_iff r).1 hr with h | h <;> simp [Slot.taken, h]
    rw [htaken _ hs, htaken _ ht]

theorem unused (h : s.Reworked t) (hk : (t.slot k).inUse = false) : t.slot k = s.slot k :=
  (h k).resolve_right fun hboth => by rw [hboth.2.1] at hk; cases hk

end State.Reworked

namespace State.SlotBooks

/-- Slots in use may change between STAGED and ISSUED, and take references and marks. -/
theorem rework (h : s.SlotBooks hand out) (hcanon : t.slotsCanon) (hslots : s.Reworked t) (hqueues : t.queuesLawful)
    (hissued : ∀ k, (t.slot k).state = .issued ↔ out' k) (hindex : t.index = s.index) (hsequence : t.sequence = s.sequence)
    (hstaged : ∀ fn, (t.tenant fn).stagedCount = (s.tenant fn).stagedCount) (hcredits : t.credits = s.credits)
    (hdurables : t.durablesCounted) (hflushes : t.flushesCounted) : t.SlotBooks hand out' := by
  have hsorted := sorted_of_canon hcanon
  have huse := hslots.inUse
  have hkept := hslots.kept
  have hcount : ∀ p : Slot → Bool, p {} = false → (∀ k, p (t.slot k) = p (s.slot k)) → t.slotCount p = s.slotCount p := fun p hp hsame =>
    State.slotCount_congr h.sorted hsorted hp hp hsame
  obtain ⟨hseq, hseqinj⟩ := h.sequences
  obtain ⟨hcstaged, hccredits, -⟩ := h.counts
  refine ⟨hcanon, fun k hk => ?_, h.nodup, fun k => ?_, fun k hk => ?_, hqueues, hissued,
    ⟨fun k hk => ?_, fun j k hj hk heq => ?_⟩, fun key k hkey => ?_, fun fn => ?_, ?_, hdurables.1, hdurables.2, hflushes.1, hflushes.2⟩
  · have htaken : ((t.slot k).state != .free) = ((s.slot k).state != .free) := hslots.taken k
    refine h.small k fun hfree => hk ?_
    rw [hfree] at htaken
    simpa using htaken
  · rw [← h.landing]
    cases hk : (t.slot k).inUse with
    | false => rw [hslots.unused hk]
    | true =>
      have hnot : ∀ r : Slot, r.inUse = true → r.state ≠ .landing := fun r hr => by
        rcases (Slot.inUse_iff r).1 hr with h | h <;> rw [h] <;> decide
      exact iff_of_false (hnot _ hk) (hnot _ (huse k ▸ hk))
  · rw [hslots.unused hk]
    exact h.unused k (huse k ▸ hk)
  · obtain ⟨hfn, hns, hlba, hkseq, -⟩ := hkept k
    rw [hfn, hns, hlba, hkseq, hsequence]
    exact hseq k (huse k ▸ hk)
  · rw [(hkept j).2.2.2.1, (hkept k).2.2.2.1] at heq
    exact hseqinj j k (huse j ▸ hj) (huse k ▸ hk) heq
  · rw [hindex] at hkey
    obtain ⟨hkuse, hkkey, hkhigh⟩ := h.index key k hkey
    obtain ⟨hfn, hns, hlba, hkseq, -⟩ := hkept k
    rw [huse, hfn, hns, hlba, hkseq]
    refine ⟨hkuse, hkkey, fun j hj hjfn hjns hjlba => ?_⟩
    obtain ⟨hjfn', hjns', hjlba', hjseq, -⟩ := hkept j
    rw [hjseq]
    exact hkhigh j (huse j ▸ hj) (hjfn' ▸ hjfn) (hjns' ▸ hjns) (hjlba' ▸ hjlba)
  · rw [hstaged, hcount (fun r => r.inUse && r.fn == fn) rfl fun k => by rw [huse, (hkept k).1]]
    exact hcstaged fn
  · rw [hcredits, State.freeSlots_eq, hcount Slot.taken rfl hslots.taken, ← State.freeSlots_eq]
    exact hccredits

theorem durablesCounted (h : s.SlotBooks hand out) : s.durablesCounted := ⟨h.counts.2.2.1, h.counts.2.2.2.1⟩

theorem flushesCounted (h : s.SlotBooks hand out) : s.flushesCounted := ⟨h.counts.2.2.2.2.1, h.counts.2.2.2.2.2⟩

/-- The references stay. -/
theorem durablesCounted_of (h : s.SlotBooks hand out) (hcanon : t.slotsCanon) (hslots : ∀ k, (t.slot k).durable = (s.slot k).durable)
    (hdurables : t.durables = s.durables) : t.durablesCounted := by
  have hsorted := sorted_of_canon hcanon
  obtain ⟨hcounts, hrefs⟩ := h.durablesCounted
  refine ⟨fun i r hr => ?_, fun k i hk => ?_⟩
  · rw [hdurables] at hr
    rw [State.slotCount_congr (p := fun q => q.durable == some i) h.sorted hsorted rfl rfl fun k => by rw [hslots]]
    exact hcounts i r hr
  · rw [hdurables]
    exact hrefs k i (hslots k ▸ hk)

/-- The marks stay. -/
theorem flushesCounted_of (h : s.SlotBooks hand out) (hcanon : t.slotsCanon)
    (hslots : ∀ k, (t.slot k).mark = (s.slot k).mark ∧ (t.slot k).fn = (s.slot k).fn) (hflushes : t.flushes = s.flushes) : t.flushesCounted := by
  have hsorted := sorted_of_canon hcanon
  obtain ⟨hcounts, hmarks⟩ := h.flushesCounted
  refine ⟨fun fn r hr => ?_, fun k hk => ?_⟩
  · rw [hflushes] at hr
    rw [State.slotCount_congr (p := fun q => q.mark && q.fn == fn) h.sorted hsorted rfl rfl fun k => by rw [(hslots k).1, (hslots k).2]]
    exact hcounts fn r hr
  · rw [hflushes, (hslots k).2]
    exact hmarks k ((hslots k).1 ▸ hk)

/-- Slots in use change their state alone. -/
theorem restate (h : s.SlotBooks hand out) (hcanon : t.slotsCanon)
    (hslots : ∀ k, t.slot k = s.slot k ∨ (s.slot k).inUse = true ∧ (t.slot k).inUse = true ∧ t.slot k = { s.slot k with state := (t.slot k).state })
    (hqueues : t.queuesLawful) (hissued : ∀ k, (t.slot k).state = .issued ↔ out' k) (hindex : t.index = s.index) (hsequence : t.sequence = s.sequence)
    (hstaged : ∀ fn, (t.tenant fn).stagedCount = (s.tenant fn).stagedCount) (hcredits : t.credits = s.credits)
    (hdurables : t.durables = s.durables) (hflushes : t.flushes = s.flushes) : t.SlotBooks hand out' := by
  have hkept : ∀ k, (t.slot k).durable = (s.slot k).durable ∧ (t.slot k).mark = (s.slot k).mark ∧ (t.slot k).fn = (s.slot k).fn := fun k => by
    rcases hslots k with heq | ⟨-, -, heq⟩ <;> rw [heq] <;> exact ⟨rfl, rfl, rfl⟩
  refine h.rework hcanon (fun k => ?_) hqueues hissued hindex hsequence hstaged hcredits
    (h.durablesCounted_of hcanon (fun k => (hkept k).1) hdurables) (h.flushesCounted_of hcanon (fun k => (hkept k).2) hflushes)
  refine (hslots k).imp_right fun ⟨hs, ht, heq⟩ => ⟨hs, ht, ?_⟩
  obtain ⟨hdurable, hmark, -⟩ := hkept k
  rw [hdurable, hmark]
  exact heq

/-! ## A durable write record (R139) -/

theorem refer (h : s.SlotBooks hand out) {r : DurableRecord} (hcanon : t.slotsCanon) (hnodup : ks.Nodup)
    (hks : ∀ k ∈ ks, (s.slot k).inUse = true ∧ (s.slot k).durable = none) (hfree : Store.find? s.durables i = none) (hpos : 1 ≤ ks.length)
    (hremaining : r.remaining = ks.length) (hcount : r.count = ks.length)
    (hslots : ∀ j, t.slot j = if j ∈ ks then { s.slot j with durable := some i } else s.slot j)
    (hdurables : ∀ m, Store.find? t.durables m = if m = i then some r else Store.find? s.durables m)
    (hqueues : ∀ j, (t.stream j).queue = (s.stream j).queue) (hindex : t.index = s.index) (hsequence : t.sequence = s.sequence)
    (hstaged : ∀ fn, (t.tenant fn).stagedCount = (s.tenant fn).stagedCount) (hcredits : t.credits = s.credits)
    (hflushes : t.flushes = s.flushes) : t.SlotBooks hand out := by
  obtain ⟨hqmem, hqsorted⟩ := h.queues
  have hsorted := sorted_of_canon hcanon
  obtain ⟨hcounts, hrefs⟩ := h.durablesCounted
  have hkept : ∀ j, (t.slot j).state = (s.slot j).state ∧ (t.slot j).stream = (s.slot j).stream ∧ (t.slot j).seq = (s.slot j).seq
      ∧ (t.slot j).mark = (s.slot j).mark ∧ (t.slot j).fn = (s.slot j).fn := fun j => by
    rw [hslots]
    split <;> exact ⟨rfl, rfl, rfl, rfl, rfl⟩
  have hnone : ∀ j, (s.slot j).durable ≠ some i := fun j hj => by
    have hsome := hrefs j i hj
    rw [hfree] at hsome
    cases hsome
  refine h.rework hcanon (fun j => ?_) ⟨fun j k => ?_, fun j => ?_⟩ (fun k => ?_) hindex hsequence hstaged hcredits
    ⟨fun m q hq => ?_, fun j m hj => ?_⟩ (h.flushesCounted_of hcanon (fun k => ⟨(hkept k).2.2.2.1, (hkept k).2.2.2.2⟩) hflushes)
  · rw [hslots]
    split
    · exact .inr ⟨(hks j ‹_›).1, (hks j ‹_›).1, rfl⟩
    · exact .inl rfl
  · rw [hqueues, hqmem, (hkept k).1, (hkept k).2.1]
  · rw [hqueues, List.map_congr_left fun k _ => (hkept k).2.2.1]
    exact hqsorted j
  · rw [(hkept k).1]
    exact h.issued k
  · rw [hdurables] at hq
    split at hq
    · rename_i hm
      cases hq
      rw [hremaining, hcount, hm]
      refine ⟨hpos, Nat.le_refl _, ?_⟩
      rw [State.slotCount_add (s := s) (ks := ks) (p := fun q => q.durable == some i) h.sorted hsorted rfl rfl hnodup (fun k _ => by simp [hnone k])
        fun k => ?_, State.slotCount_eq_zero h.sorted rfl fun k => by simp [hnone k], Nat.zero_add]
      rw [hslots]
      by_cases hk : k ∈ ks
      · simp [hk]
      · simp [hk]
    · rename_i hm
      rw [State.slotCount_congr (p := fun q => q.durable == some m) h.sorted hsorted rfl rfl fun k => ?_]
      · exact hcounts m q hq
      · rw [hslots]
        split
        · rw [(hks k ‹_›).2]
          simpa using Ne.symm hm
        · rfl
  · rw [hdurables]
    split
    · rfl
    · rename_i hm
      refine hrefs j m ?_
      rw [hslots] at hj
      split at hj
      · exact absurd (Option.some.inj hj).symm hm
      · exact hj

/-! ## The marks of a FLUSH (R146) -/

theorem markAll (h : s.SlotBooks hand out) {r : FlushRecord} (hcanon : t.slotsCanon) (hnodup : ks.Nodup)
    (hks : ∀ k, k ∈ ks ↔ (s.slot k).inUse = true ∧ (s.slot k).fn = fn ∧ (s.slot k).mark = false)
    (hcount : r.count = ((Store.find? s.flushes fn).getD {}).count + ks.length) (hpos : 1 ≤ r.count) (htags : 1 ≤ r.tags.length ∧ r.tags.length ≤ 4)
    (hslots : ∀ j, t.slot j = if (s.slot j).inUse = true ∧ (s.slot j).fn = fn then { s.slot j with mark := true } else s.slot j)
    (hflushes : ∀ f, Store.find? t.flushes f = if f = fn then some r else Store.find? s.flushes f)
    (hqueues : ∀ j, (t.stream j).queue = (s.stream j).queue) (hindex : t.index = s.index) (hsequence : t.sequence = s.sequence)
    (hstaged : ∀ fn, (t.tenant fn).stagedCount = (s.tenant fn).stagedCount) (hcredits : t.credits = s.credits)
    (hdurables : t.durables = s.durables) : t.SlotBooks hand out := by
  obtain ⟨hqmem, hqsorted⟩ := h.queues
  have hsorted := sorted_of_canon hcanon
  obtain ⟨hcounts, hmarks⟩ := h.flushesCounted
  have hkept : ∀ j, (t.slot j).state = (s.slot j).state ∧ (t.slot j).stream = (s.slot j).stream ∧ (t.slot j).seq = (s.slot j).seq
      ∧ (t.slot j).durable = (s.slot j).durable ∧ (t.slot j).fn = (s.slot j).fn := fun j => by
    rw [hslots]
    split <;> exact ⟨rfl, rfl, rfl, rfl, rfl⟩
  have hbefore : ((Store.find? s.flushes fn).getD {}).count = s.slotCount fun q => q.mark && q.fn == fn := by
    cases hfind : Store.find? s.flushes fn with
    | some r => exact (hcounts fn r hfind).2.2.2
    | none =>
      refine (State.slotCount_eq_zero h.sorted rfl fun k => ?_).symm
      by_contra hmark
      obtain ⟨hmark, hfn⟩ : (s.slot k).mark = true ∧ (s.slot k).fn = fn := by simpa using hmark
      have hsome := hmarks k hmark
      rw [hfn, hfind] at hsome
      cases hsome
  refine h.rework hcanon (fun j => ?_) ⟨fun j k => ?_, fun j => ?_⟩ (fun k => ?_) hindex hsequence hstaged hcredits
    (h.durablesCounted_of hcanon (fun k => (hkept k).2.2.2.1) hdurables) ⟨fun f q hq => ?_, fun j hj => ?_⟩
  · rw [hslots]
    split
    · rename_i hin
      exact .inr ⟨hin.1, hin.1, rfl⟩
    · exact .inl rfl
  · rw [hqueues, hqmem, (hkept k).1, (hkept k).2.1]
  · rw [hqueues, List.map_congr_left fun k _ => (hkept k).2.2.1]
    exact hqsorted j
  · rw [(hkept k).1]
    exact h.issued k
  · rw [hflushes] at hq
    split at hq
    · rename_i hf
      cases hq
      refine ⟨hpos, htags.1, htags.2, ?_⟩
      rw [hcount, hbefore, hf]
      refine (State.slotCount_add (s := s) (ks := ks) (p := fun q => q.mark && q.fn == fn) h.sorted hsorted rfl rfl hnodup (fun k hk => ?_)
        fun k => ?_).symm
      · simp [((hks k).1 hk).2.2]
      · rw [hslots, hks]
        by_cases hin : (s.slot k).inUse = true ∧ (s.slot k).fn = fn
        · rw [if_pos hin]
          cases hmark : (s.slot k).mark <;> simp [hin.1, hin.2]
        · rw [if_neg hin]
          cases hmark : (s.slot k).mark with
          | false =>
            refine iff_of_false (by simp) ?_
            rintro (hmarked | hboth)
            · cases hmarked
            · exact hin ⟨hboth.1, hboth.2.1⟩
          | true => simp
    · rename_i hf
      rw [State.slotCount_congr (p := fun q => q.mark && q.fn == f) h.sorted hsorted rfl rfl fun k => ?_]
      · exact hcounts f q hq
      · rw [hslots]
        split
        · rename_i hin
          have hnot : ((s.slot k).fn == f) = false := by simpa [hin.2] using Ne.symm hf
          show (true && (s.slot k).fn == f) = ((s.slot k).mark && (s.slot k).fn == f)
          rw [hnot, Bool.and_false, Bool.and_false]
        · rfl
  · rw [hflushes, (hkept j).2.2.2.2]
    split
    · rfl
    · refine hmarks j ?_
      rw [hslots] at hj
      split at hj
      · rename_i hnot hin
        exact absurd hin.2 hnot
      · exact hj

end State.SlotBooks

end

end Sys2Proof.Machine
end

section
/-! The books of the slots through the credit engine, LANDING and refusals (R30, R35, R40, R191). -/

namespace Sys2Proof.Machine

open Sys2Proof

section

variable {s t u : State} {a : Arriving} {hand ks : List Nat} {out : Nat → Prop} {k : Nat} {block : List Unit16}

/-! ## What leaves the accounts alone -/

theorem State.AccountsAlike.of_frame {m : State → State} (h : m t = m s) (hstreams : ∀ s, (m s).streams = s.streams := by intro _; rfl)
    (hindex : ∀ s, (m s).index = s.index := by intro _; rfl) (hsequence : ∀ s, (m s).sequence = s.sequence := by intro _; rfl)
    (htenants : ∀ s, (m s).tenants = s.tenants := by intro _; rfl) (hdurables : ∀ s, (m s).durables = s.durables := by intro _; rfl)
    (hflushes : ∀ s, (m s).flushes = s.flushes := by intro _; rfl) : s.AccountsAlike t where
  queues j := by rw [State.stream, show t.streams = s.streams from agree h hstreams]; rfl
  index := agree h hindex
  sequence := agree h hsequence
  staged fn := by rw [State.tenant, show t.tenants = s.tenants from agree h htenants]; rfl
  durables := agree h hdurables
  flushes := agree h hflushes

theorem State.AccountsAlike.trans (h : s.AccountsAlike t) (h' : t.AccountsAlike u) : s.AccountsAlike u where
  queues j := (h'.queues j).trans (h.queues j)
  index := h'.index.trans h.index
  sequence := h'.sequence.trans h.sequence
  staged fn := (h'.staged fn).trans (h.staged fn)
  durables := h'.durables.trans h.durables
  flushes := h'.flushes.trans h.flushes

theorem State.freeSlots_congr (h : t.slots = s.slots) : t.freeSlots = s.freeSlots := by rw [State.freeSlots, h]; rfl

/-- What keeps the slots, the accounts and the credits keeps the books. -/
theorem State.SlotBooks.alike (h : s.SlotBooks hand out) (hslots : t.slots = s.slots) (halike : s.AccountsAlike t) (hcredits : t.credits = s.credits) :
    t.SlotBooks hand out :=
  h.congr hslots halike (by rw [hcredits, State.freeSlots_congr hslots]; exact h.counts.2.1)

theorem State.evalCredit_credits (h : s.credits ≤ s.freeSlots) : s.evalCredit.credits ≤ s.freeSlots := by
  rcases s.evalCredit_cases with ⟨-, -, -, heq⟩ | ⟨-, -, -, -, heq⟩ | ⟨heq, -⟩ <;> rw [heq]
  · show s.credits + (s.freeSlots - s.credits) ≤ s.freeSlots
    omega
  · exact h
  · exact h

theorem State.SlotBooks.evalCredit (h : s.SlotBooks hand out) : s.evalCredit.SlotBooks hand out := by
  have hframe := s.evalCredit_frame
  have hslots : s.evalCredit.slots = s.slots := agree hframe
  refine h.congr hslots (.of_frame hframe) ?_
  rw [State.freeSlots_congr hslots]
  exact State.evalCredit_credits h.counts.2.1

/-- Queues stay, and with them the books. -/
theorem State.SlotBooks.of_streams (h : s.SlotBooks hand out) {m : State → State} (hframe : m t = m s)
    (hqueues : ∀ j, (t.stream j).queue = (s.stream j).queue) (hslots : ∀ s, (m s).slots = s.slots := by intro _; rfl)
    (hindex : ∀ s, (m s).index = s.index := by intro _; rfl) (hsequence : ∀ s, (m s).sequence = s.sequence := by intro _; rfl)
    (htenants : ∀ s, (m s).tenants = s.tenants := by intro _; rfl) (hdurables : ∀ s, (m s).durables = s.durables := by intro _; rfl)
    (hflushes : ∀ s, (m s).flushes = s.flushes := by intro _; rfl) (hcredits : ∀ s, (m s).credits = s.credits := by intro _; rfl) :
    t.SlotBooks hand out :=
  h.alike (agree hframe hslots) ⟨hqueues, agree hframe hindex, agree hframe hsequence,
    fun fn => by rw [State.tenant, show t.tenants = s.tenants from agree hframe htenants]; rfl, agree hframe hdurables, agree hframe hflushes⟩
    (agree hframe hcredits)

theorem State.endRequests_queue (u : State) (k : Nat) : (u.endRequests.stream k).queue = (u.stream k).queue :=
  (congrArg Stream.queue (u.endRequests_ends.streams k) :)

theorem State.SlotBooks.endRequests (h : u.SlotBooks hand out) : u.endRequests.SlotBooks hand out :=
  h.of_streams u.endRequests_frame u.endRequests_queue

theorem State.queues_setStream {r : Stream} (h : r.queue = (s.stream k).queue) (j : Nat) : ((s.setStream k r).stream j).queue = (s.stream j).queue := by
  rw [State.stream_setStream]
  split
  · rename_i hj
    rw [h, hj]
  · rfl

theorem State.padStream_queue (s : State) (k j : Nat) : ((s.padStream k).stream j).queue = (s.stream j).queue := by
  unfold State.padStream
  split
  · exact State.queues_setStream (r := { s.stream k with pad := true }) rfl j
  · rfl

theorem State.queues_foldl {α : Type} {f : State → α → State} (hf : ∀ s x j, ((f s x).stream j).queue = (s.stream j).queue) (xs : List α) (s : State)
    (j : Nat) : ((xs.foldl f s).stream j).queue = (s.stream j).queue := by
  induction xs generalizing s with
  | nil => rfl
  | cons x xs ih => exact (ih _).trans (hf s x j)

theorem State.durablePads_queue (s : State) (j : Nat) : (s.durablePads.stream j).queue = (s.stream j).queue := by
  rw [State.durablePads_stream]

theorem State.pressure_queue (s : State) (j : Nat) : (s.pressure.stream j).queue = (s.stream j).queue := by
  unfold State.pressure
  split
  · split
    · rfl
    · exact s.padStream_queue _ j
  · rfl

theorem State.SlotBooks.durablePads (h : s.SlotBooks hand out) : s.durablePads.SlotBooks hand out :=
  h.of_streams s.durablePads_frame s.durablePads_queue

theorem State.SlotBooks.pressure (h : s.SlotBooks hand out) : s.pressure.SlotBooks hand out :=
  h.of_streams s.pressure_frame s.pressure_queue

theorem State.SlotBooks.padStream (h : s.SlotBooks hand out) (k : Nat) : (s.padStream k).SlotBooks hand out :=
  h.of_streams (s.padStream_frame k) (s.padStream_queue k)

theorem State.SlotBooks.of_parser (h : s.SlotBooks hand out) (p : Parser) : ({ s with parser := p } : State).SlotBooks hand out :=
  h.alike rfl ⟨fun _ => rfl, rfl, rfl, fun _ => rfl, rfl, rfl⟩ rfl

/-! ## LANDING slots return to FREE (R40, R191) -/

theorem State.SlotBooks.freeHand (h : s.SlotBooks hand out) : (s.freeSlotList hand).SlotBooks [] out := by
  have hunused : ∀ k ∈ hand, (s.slot k).inUse = false := fun k hk => (Slot.unused_iff _).2 (.inr ((h.landing k).2 hk))
  obtain ⟨hindex, htenants⟩ := State.freeSlotList_of_unused hunused fun key j hj => (h.index key j hj).1
  have hcanon : (s.freeSlotList hand).slotsCanon := closed_slotsCanon.freeSlotList hand h.canon
  have hslot := s.freeSlotList_slot hand
  have hframe := s.freeSlotList_frame hand
  generalize s.freeSlotList hand = t at *
  have hfreed : ∀ k, (t.slot k).state ≠ .free → k ∉ hand ∧ t.slot k = s.slot k := fun k hk => by
    have hnot : k ∉ hand := fun hmem => hk (by rw [hslot, if_pos hmem])
    exact ⟨hnot, by rw [hslot, if_neg hnot]⟩
  refine h.reland hcanon (fun k => ?_) (fun k hk => h.small k ((hfreed k hk).2 ▸ hk)) .nil (fun k => ?_)
    ⟨fun j => congrArg Stream.queue (agree (π := (State.stream · j)) hframe :), hindex, agree hframe,
      fun fn => by rw [State.tenant, htenants]; rfl, agree hframe, agree hframe⟩ ?_
  · rw [hslot]
    split
    · exact .inr ⟨hunused k ‹_›, rfl, rfl, rfl⟩
    · exact .inl rfl
  · refine iff_of_false (fun hk => ?_) List.not_mem_nil
    obtain ⟨hnot, heq⟩ := hfreed k (by rw [hk]; decide)
    exact hnot ((h.landing k).1 (heq ▸ hk))
  · have hcount : s.slotCount Slot.taken = t.slotCount Slot.taken + hand.length := by
      refine State.slotCount_add (s := t) (t := s) (ks := hand) (sorted_of_canon hcanon) h.sorted rfl rfl h.nodup
        (fun k hk => by rw [hslot, if_pos hk]; rfl) fun k => ?_
      rw [hslot]
      by_cases hk : k ∈ hand
      · have htaken : Slot.taken (s.slot k) = true := by simp [Slot.taken, (h.landing k).2 hk]
        exact iff_of_true htaken (.inr hk)
      · rw [if_neg hk, or_iff_left hk]
    have hcredits := h.counts.2.1
    rw [show t.credits = s.credits from agree hframe, State.freeSlots_eq]
    rw [State.freeSlots_eq] at hcredits
    omega

theorem State.SlotBooks.refuseWrite (h : s.SlotBooks a.landed out) (status : LandedStatus) : (s.refuseWrite a status).SlotBooks [] out := by
  have hfreed := h.freeHand
  have hanswered : ((s.freeSlotList a.landed).enqueue (.landed a.tag a.fn status a.count 0)).SlotBooks [] out :=
    hfreed.alike rfl (.of_frame (State.enqueue_frame _ _)) rfl
  have hrefusing : (s.refusing a status).SlotBooks [] out := by
    unfold State.refusing
    generalize (s.freeSlotList a.landed).enqueue (.landed a.tag a.fn status a.count 0) = u at *
    have hframe := u.countRefused_frame a.fn
    have htenant := u.countRefused_tenant a.fn
    generalize u.countRefused a.fn = v at *
    refine hanswered.alike (agree hframe) ⟨fun j => congrArg Stream.queue (agree (π := (State.stream · j)) hframe :), agree hframe, agree hframe,
      fun fn => ?_, agree hframe, agree hframe⟩ (agree hframe)
    rw [htenant]
    split <;> rfl
  rw [State.refuseWrite_eq]
  split
  · exact hrefusing
  · exact hrefusing.evalCredit

/-! ## LANDING (R35) -/

theorem State.SlotBooks.land (h : s.SlotBooks hand out) (hk : k < 16384) (hfree : (s.slot k).state = .free) :
    (s.land a k block).SlotBooks (hand ++ [k]) out := by
  have hnot : k ∉ hand := fun hmem => by
    have hlanding := (h.landing k).2 hmem
    rw [hfree] at hlanding
    cases hlanding
  have hcanon : (s.land a k block).slotsCanon := Store.canon_setD (show Store.canon {} s.slots = true from h.canon) k
    { s.slot k with state := .landing, fn := a.fn, ns := a.ns, lba := a.lba + a.landed.length }
  have hslot := s.land_slot a k block
  have hframe := s.land_frame a k block
  have hcredits : (s.land a k block).credits = s.credits - 1 := rfl
  generalize s.land a k block = t at *
  have hself : (t.slot k).state = .landing ∧ (t.slot k).durable = (s.slot k).durable ∧ (t.slot k).mark = (s.slot k).mark := by
    rw [hslot, if_pos rfl]
    exact ⟨rfl, rfl, rfl⟩
  have hother : ∀ j, j ≠ k → t.slot j = s.slot j := fun j hj => by rw [hslot, if_neg hj]
  have hunused : (s.slot k).inUse = false := (Slot.unused_iff _).2 (.inl hfree)
  refine h.reland hcanon (fun j => ?_) (fun j hj => ?_) (List.nodup_append.2 ⟨h.nodup, List.nodup_singleton k, ?_⟩) (fun j => ?_)
    (.of_frame hframe) ?_
  · by_cases hj : j = k
    · rw [hj, hself.2.1, hself.2.2]
      obtain ⟨hdurable, hmark⟩ := h.unused k hunused
      exact .inr ⟨hunused, (Slot.unused_iff _).2 (.inr hself.1), hdurable, hmark⟩
    · exact .inl (hother j hj)
  · by_cases hjk : j = k
    · exact hjk ▸ hk
    · exact h.small j (hother j hjk ▸ hj)
  · rintro j hj m hm rfl
    exact hnot (List.mem_singleton.1 hm ▸ hj)
  · rw [List.mem_append, List.mem_singleton]
    by_cases hj : j = k
    · exact iff_of_true (hj ▸ hself.1) (.inr hj)
    · rw [hother j hj, h.landing, or_iff_left hj]
  · have hcount : t.slotCount Slot.taken = s.slotCount Slot.taken + 1 :=
      State.slotCount_insert (k := k) h.sorted (sorted_of_canon hcanon) rfl rfl (by simp [Slot.taken, hfree]) (by simp [Slot.taken, hself.1])
        fun j hj => by rw [hother j hj]
    have hbefore := h.counts.2.1
    rw [hcredits, State.freeSlots_eq]
    rw [State.freeSlots_eq] at hbefore
    omega

end

end Sys2Proof.Machine
end

section
/-! The books of the slots through the staging of a WRITE (R14, R21, R42 to R49, R66 to R68, R139). -/

namespace Sys2Proof.Machine

open Sys2Proof

section

variable {s u : State} {a : Arriving} {hand : List Nat} {out : Nat → Prop} {k o i lba : Nat}

/-! ## Identities (R45) -/

theorem identityKey_inj {fn ns lba fn' ns' lba' : Nat} (hns : ns ≤ 7) (hns' : ns' ≤ 7) (hlba : lba < 2 ^ 40) (hlba' : lba' < 2 ^ 40)
    (h : identityKey fn ns lba = identityKey fn' ns' lba') : fn = fn' ∧ ns = ns' ∧ lba = lba' := by
  unfold identityKey at h
  omega

/-! ## One sector -/

theorem State.slotsCanon_sectorIndexed (h : s.slotsCanon) : (s.sectorIndexed a lba k).slotsCanon := by
  have hslots : (s.sectorIndexed a lba k).slots
      = Store.setD {} s.slots k { s.slot k with state := .staged, seq := s.sequence, stream := (s.route a lba).2 } := by
    rw [State.sectorIndexed_eq]
  rw [State.slotsCanon, hslots]
  exact Store.canon_setD h k _

theorem State.slotsCanon_sectorCounted {fn c : Nat} (h : u.slotsCanon) : (u.sectorCounted fn c).slotsCanon := h

theorem State.slotsCanon_sectorKept (h : s.slotsCanon) : (s.sectorKept a lba k).slotsCanon :=
  State.slotsCanon_sectorCounted (State.slotsCanon_sectorIndexed h)

theorem State.slotsCanon_sectorOver (h : s.slotsCanon) : (s.sectorOver a lba k o).slotsCanon :=
  State.slotsCanon_sectorCounted (closed_slotsCanon.supersede a.fn o (State.slotsCanon_sectorIndexed h))

/-- The slot holds the sector of the WRITE at this LBA. -/
def State.holdsSector (s : State) (a : Arriving) (lba k : Nat) : Prop :=
  (s.slot k).fn = a.fn ∧ (s.slot k).ns = a.ns ∧ (s.slot k).lba = lba

/-- The identities of the WRITE at this LBA are within bounds (R37, R38). -/
def Arriving.inBounds (a : Arriving) (lba : Nat) : Prop := a.fn < 512 ∧ a.ns ≤ 7 ∧ lba < 2 ^ 40

theorem State.SlotBooks.sectorKept (h : s.SlotBooks (k :: hand) out) (hk : s.holdsSector a lba k) (hbounds : a.inBounds lba) :
    (s.sectorKept a lba k).SlotBooks hand out := by
  obtain ⟨hfn, hns, hlba⟩ := hk
  obtain ⟨hfnlt, hnsle, hlbalt⟩ := hbounds
  have heq := s.sectorKept_eq a lba k
  have hstream := State.sectorKept_stream (s := s) (a := a) (lba := lba) (k := k)
  have hslot := State.sectorKept_slot (s := s) (a := a) (lba := lba) (k := k)
  have htenant := State.sectorKept_tenant (s := s) (a := a) (lba := lba) (k := k)
  have hfind := State.sectorKept_find (s := s) (a := a) (lba := lba) (k := k)
  have hcanon : (s.sectorKept a lba k).slotsCanon := State.slotsCanon_sectorKept h.canon
  generalize s.sectorKept a lba k = t at *
  refine h.stage (c := (s.route a lba).2) hcanon (hfn ▸ hfnlt) (hns ▸ hnsle) (hlba ▸ hlbalt) hslot (fun i => by rw [hstream])
    (fun key => by rw [hfn, hns, hlba]; exact hfind key) (by rw [heq]) (fun fn => ?_) (by rw [heq]) (by rw [heq]) (by rw [heq])
  · rw [htenant, hfn]
    split
    · rename_i hf
      rw [hf]
    · rfl

theorem State.SlotBooks.landing_ne (h : s.SlotBooks (k :: hand) out) (hne : (s.slot o).inUse = true) : o ≠ k := by
  rintro rfl
  have hlanding := (h.landing o).2 List.mem_cons_self
  rcases (Slot.inUse_iff _).1 hne with hstate | hstate <;> rw [hstate] at hlanding <;> cases hlanding

/-- The older copy of a sector has its identity. -/
theorem State.SlotBooks.older (h : s.SlotBooks hand out) (hbounds : a.inBounds lba) (ho : s.indexed a.fn a.ns lba = some o) :
    (s.slot o).inUse = true ∧ s.holdsSector a lba o := by
  obtain ⟨hfnlt, hnsle, hlbalt⟩ := hbounds
  obtain ⟨huse, hkey, -⟩ := h.index _ o ho
  obtain ⟨-, hofn, hons, holba⟩ := h.sequences.1 o huse
  obtain ⟨hfn, hns, hlba⟩ := identityKey_inj hnsle hons hlbalt holba hkey
  exact ⟨huse, hfn.symm, hns.symm, hlba.symm⟩

theorem State.SlotBooks.sectorOver (h : s.SlotBooks (k :: hand) out) (hk : s.holdsSector a lba k) (hbounds : a.inBounds lba)
    (ho : s.indexed a.fn a.ns lba = some o) (hold : (s.slot o).state = .staged ∧ (s.slot o).durable = none ∧ (s.slot o).mark = false) :
    (s.sectorOver a lba k o).SlotBooks hand out := by
  obtain ⟨huse, hfn, hns, hlba⟩ := h.older hbounds ho
  obtain ⟨hstaged, hdurable, hmark⟩ := hold
  have hne := h.landing_ne huse
  have hkept := h.sectorKept hk hbounds
  have hoslot : (s.sectorKept a lba k).slot o = s.slot o := by rw [State.sectorKept_slot, if_neg hne]
  have hcount : 1 ≤ (s.tenant a.fn).stagedCount := by
    rw [h.counts.1]
    exact State.slotCount_pos (k := o) h.sorted rfl (by simp [huse, hfn])
  have hfreed : (s.sectorKept a lba k).SlotFreed (s.sectorOver a lba k o) o := by
    have hkeq := s.sectorKept_eq a lba k
    have heq := s.sectorOver_eq a lba k o
    refine ⟨State.slotsCanon_sectorOver h.canon, fun j => ?_, fun i => ?_, fun key => ?_, by rw [heq, hkeq], fun fn => ?_, ⟨fun i _ => by rw [heq, hkeq], fun i r hi => ?_⟩,
      ⟨fun fn _ => by rw [heq, hkeq], fun r hr => ?_⟩, by rw [heq, hkeq]⟩
    · rw [State.sectorOver_slot hne, hoslot, State.sectorKept_slot]
    · rw [State.sectorOver_stream hne, State.sectorKept_stream, List.filter_append]
      have hqueue : (if i = (s.slot o).stream then (s.stream i).queue.filter (· != o) else (s.stream i).queue)
          = (s.stream i).queue.filter (· != o) := by
        split
        · rfl
        · rename_i hi
          refine (List.filter_eq_self.2 fun j hj => ?_).symm
          have hjo : j ≠ o := by
            rintro rfl
            exact hi ((h.queues.1 i j).1 hj).2.symm
          simpa using hjo
      have hnew : (if i = (s.route a lba).2 then [k] else []).filter (· != o) = if i = (s.route a lba).2 then [k] else [] := by
        split
        · simp [hne.symm]
        · rfl
      show s.queueOver k o (s.route a lba).2 i = _
      rw [State.queueOver, hqueue, hnew]
    · have hown : identityKey (s.slot o).fn (s.slot o).ns (s.slot o).lba = identityKey a.fn a.ns lba := by rw [hfn, hns, hlba]
      rw [State.sectorOver_find hne, hoslot, State.sectorKept_find, hown]
      by_cases hkey : key = identityKey a.fn a.ns lba
      · rw [if_pos hkey, if_pos hkey, if_neg]
        rintro ⟨-, hsame⟩
        exact hne (Option.some.inj hsame).symm
      · rw [if_neg hkey, if_neg hkey]
    · rw [State.sectorOver_tenant hne huse hfn, State.sectorKept_tenant, hoslot, hfn]
      split
      · show (s.tenant a.fn).stagedCount - 1 + 1 = (s.tenant a.fn).stagedCount + 1 - 1
        omega
      · rfl
    · rw [hoslot, hdurable] at hi
      cases hi
    · rw [hoslot, hmark] at hr
      cases hr
  refine (hkept.free (by rw [hoslot]; exact huse) hfreed).congr_out fun j => ?_
  constructor
  · refine fun hj => ⟨hj, ?_⟩
    rintro rfl
    have hissued := (h.issued j).2 hj
    rw [hstaged] at hissued
    cases hissued
  · exact fun hj => hj.1

/-! ## The sectors of a WRITE -/

/-- A WRITE whose landed slots hold its sectors, within bounds. -/
structure State.Carries (s : State) (a : Arriving) : Prop where
  sectors : ∀ i k, a.landed[i]? = some k → s.holdsSector a (a.lba + i) k
  bounds : a.fn < 512 ∧ a.ns ≤ 7 ∧ a.lba + a.landed.length ≤ 2 ^ 40

/-- What the staging of the first `i` sectors of a WRITE leaves. -/
structure State.StagedTo (s : State) (a : Arriving) (out : Nat → Prop) (i : Nat) (u : State) : Prop where
  books : u.SlotBooks (a.landed.drop i) out
  todo : ∀ k ∈ a.landed.drop i, u.slot k = s.slot k
  done : ∀ j k, j < i → a.landed[j]? = some k →
    u.slot k = { s.slot k with state := .staged, seq := s.sequence + j, stream := s.routedTo a j } ∧ u.indexed a.fn a.ns (a.lba + j) = some k

theorem State.StagedTo.next (hcarries : s.Carries a) (hk : a.landed[i]? = some k) (h : s.StagedTo a out i (s.beforeSector a i)) :
    s.StagedTo a out (i + 1) ((s.beforeSector a i).stageSector a (a.lba + i, k)) := by
  obtain ⟨hi, hget⟩ := List.getElem?_eq_some_iff.1 hk
  have hsplit : a.landed.drop i = k :: a.landed.drop (i + 1) := by rw [List.drop_eq_getElem_cons hi, hget]
  have hseq : (s.beforeSector a i).sequence = s.sequence + i := State.beforeSector_sequence (Nat.le_of_lt hi)
  have hroute : ((s.beforeSector a i).route a (a.lba + i)).2 = s.routedTo a i := rfl
  obtain ⟨hbooks, htodo, hdone⟩ := h
  generalize s.beforeSector a i = u at *
  rw [hsplit] at hbooks htodo
  obtain ⟨hfn, hns, hlba⟩ := hcarries.bounds
  have hbounds : ∀ j, j < a.landed.length → a.inBounds (a.lba + j) := fun j hj => ⟨hfn, hns, by omega⟩
  have hkslot : u.slot k = s.slot k := htodo k List.mem_cons_self
  have hholds : u.holdsSector a (a.lba + i) k := by
    rw [State.holdsSector, hkslot]
    exact hcarries.sectors i k hk
  obtain ⟨hknot, -⟩ := List.nodup_cons.1 hbooks.nodup
  have hkey : ∀ j, j < i → identityKey a.fn a.ns (a.lba + j) ≠ identityKey a.fn a.ns (a.lba + i) := fun j hj hsame => by
    obtain ⟨-, -, heq⟩ := identityKey_inj hns hns (hbounds j (by omega)).2.2 (hbounds i hi).2.2 hsame
    omega
  have hdoneUse : ∀ j m, j < i → a.landed[j]? = some m → m ≠ k ∧ (u.slot m).inUse = true ∧ (u.slot m).lba = a.lba + j := fun j m hj hm => by
    have huse : (u.slot m).inUse = true := by rw [(hdone j m hj hm).1]; rfl
    refine ⟨hbooks.landing_ne huse, huse, ?_⟩
    rw [(hdone j m hj hm).1]
    exact (hcarries.sectors j m hm).2.2
  have hkept : (u.stageSector a (a.lba + i, k)) = u.sectorKept a (a.lba + i) k → s.StagedTo a out (i + 1) (u.stageSector a (a.lba + i, k)) := by
    intro heq
    rw [heq]
    refine ⟨hbooks.sectorKept hholds (hbounds i hi), fun m hm => ?_, fun j m hj hm => ?_⟩
    · rw [State.sectorKept_slot, if_neg]
      · exact htodo m (List.mem_cons_of_mem _ hm)
      · rintro rfl
        exact hknot hm
    · rw [State.indexed, State.sectorKept_find, State.sectorKept_slot]
      by_cases hji : j = i
      · subst hji
        cases hk.symm.trans hm
        rw [if_pos rfl, if_pos rfl, hkslot, hseq, hroute]
        exact ⟨rfl, rfl⟩
      · have hlt : j < i := by omega
        rw [if_neg (hdoneUse j m hlt hm).1, if_neg (hkey j hlt)]
        exact hdone j m hlt hm
  cases hindexed : u.indexed a.fn a.ns (a.lba + i) with
  | none => exact hkept (State.stageSector_fresh hindexed)
  | some o =>
    obtain ⟨huse, hofn, hons, holba⟩ := hbooks.older (hbounds i hi) hindexed
    have hne := hbooks.landing_ne huse
    have holder := State.stageSector_older hindexed hne
    by_cases hsuper : supersedable (u.tenant a.fn) (u.slot o) = true
    · obtain ⟨-, hstate, hdurable, hmark⟩ := (supersedable_iff _ _).1 hsuper
      rw [holder, if_pos hsuper]
      refine ⟨hbooks.sectorOver hholds (hbounds i hi) hindexed ⟨hstate, hdurable, hmark⟩, fun m hm => ?_, fun j m hj hm => ?_⟩
      · have hlanding := (hbooks.landing m).2 (List.mem_cons_of_mem _ hm)
        rw [State.sectorOver_slot hne, if_neg, if_neg]
        · exact htodo m (List.mem_cons_of_mem _ hm)
        · rintro rfl
          exact hknot hm
        · rintro rfl
          rw [hstate] at hlanding
          cases hlanding
      · rw [State.indexed, State.sectorOver_find hne, State.sectorOver_slot hne]
        by_cases hji : j = i
        · subst hji
          cases hk.symm.trans hm
          rw [if_pos rfl, if_neg hne.symm, if_pos rfl, hkslot, hseq, hroute]
          exact ⟨rfl, rfl⟩
        · have hlt : j < i := by omega
          obtain ⟨hmk, -, hmlba⟩ := hdoneUse j m hlt hm
          have hmo : m ≠ o := by
            rintro rfl
            rw [hmlba] at holba
            omega
          rw [if_neg (hkey j hlt), if_neg hmo, if_neg hmk, hofn, hons, holba, if_neg fun hboth => hkey j hlt hboth.1]
          exact hdone j m hlt hm
    · exact hkept (by rw [holder, if_neg hsuper])

theorem State.SlotBooks.stagedTo (h : s.SlotBooks a.landed out) (hcarries : s.Carries a) (n : Nat) (hn : n ≤ a.landed.length) :
    s.StagedTo a out n (s.beforeSector a n) :=
  State.beforeSector_induction (P := fun n u => s.StagedTo a out n u)
    ⟨by rw [List.drop_zero]; exact h.of_parser .awaiting, fun _ _ => rfl, fun _ _ hj => absurd hj (Nat.not_lt_zero _)⟩
    (fun _ _ hk hbefore => hbefore.next hcarries hk) n hn

end

end Sys2Proof.Machine
end

section
/-! The books of the slots through an accepted WRITE and a FLUSH (R39 to R42, R139, R145, R146). -/

namespace Sys2Proof.Machine

open Sys2Proof

section

variable {s t u : State} {a : Arriving} {hand : List Nat} {out : Nat → Prop} {k i n : Nat}

/-! ## The durable write record (R139) -/

/-- The record that a durable WRITE takes. -/
def Arriving.durableRecord (a : Arriving) (first : Nat) : DurableRecord :=
  { tag := a.tag, fn := a.fn, first := first, count := a.count, remaining := a.count }

theorem State.createDurable_eq (hi : s.freeDurable = some i) (first : Nat) : s.createDurable a first
    = a.landed.foldl (fun s k => s.setSlot k { s.slot k with durable := some i }) (s.setDurable i (a.durableRecord first)) := by
  rw [State.createDurable, hi]
  rfl

theorem State.createDurable_slot (hi : s.freeDurable = some i) (first : Nat) (k : Nat) : (s.createDurable a first).slot k
    = if k ∈ a.landed then { s.slot k with durable := some i } else s.slot k := by
  rw [State.createDurable_eq hi]
  exact foldl_slots (f := fun s k => s.setSlot k { s.slot k with durable := some i }) (g := fun r => { r with durable := some i }) (fun _ => rfl)
    (fun s k j => by rw [State.slot_setSlot]) a.landed _ k

theorem State.createDurable_durables (hi : s.freeDurable = some i) (first : Nat) :
    (s.createDurable a first).durables = Store.insert s.durables i (a.durableRecord first) := by
  rw [State.createDurable_eq hi]
  have hfold := foldl_frame State.butSetSlot (fun s k => s.setSlot k { s.slot k with durable := some i }) (fun _ _ => rfl) a.landed
    (s.setDurable i (a.durableRecord first))
  exact (agree (π := State.durables) hfold :)

theorem State.freeDurable_free (hi : s.freeDurable = some i) : Store.find? s.durables i = none := by
  obtain ⟨-, -, hfree, -⟩ := firstFrom_eq_some.1 hi
  simpa using hfree

theorem State.SlotBooks.createDurable (h : u.SlotBooks hand out) (hi : u.freeDurable = some i) (first : Nat) (hnodup : a.landed.Nodup)
    (hlanded : ∀ k ∈ a.landed, (u.slot k).inUse = true ∧ (u.slot k).durable = none) (hcount : a.landed.length = a.count) (hpos : 1 ≤ a.count) :
    (u.createDurable a first).SlotBooks hand out := by
  have hslot := State.createDurable_slot (a := a) hi first
  have hdurables := State.createDurable_durables (a := a) hi first
  have hframe := u.createDurable_frame a first
  have hcanon : (u.createDurable a first).slotsCanon := closed_slotsCanon.createDurable a first h.canon
  generalize u.createDurable a first = t at *
  refine h.refer (ks := a.landed) (r := a.durableRecord first) hcanon hnodup hlanded (State.freeDurable_free hi) (by omega) hcount.symm hcount.symm hslot
    (fun m => by rw [hdurables, Store.find?_insert]) (fun j => congrArg Stream.queue (agree (π := (State.stream · j)) hframe :)) (agree hframe)
    (agree hframe) (fun fn => congrArg Tenant.stagedCount (agree (π := (State.tenant · fn)) hframe :)) (agree hframe) (agree hframe)

/-! ## An accepted WRITE (R42) -/

/-- The landed slots of a staged WRITE refer to no record yet. -/
theorem State.StagedTo.landed (h : s.StagedTo a out a.landed.length u) (hs : s.SlotBooks a.landed out) (hk : k ∈ a.landed) :
    (u.slot k).inUse = true ∧ (u.slot k).durable = none := by
  obtain ⟨j, hj, hget⟩ := List.getElem_of_mem hk
  obtain ⟨hslot, -⟩ := h.done j k hj (List.getElem?_eq_some_iff.2 ⟨hj, hget⟩)
  have hunused : (s.slot k).inUse = false := (Slot.unused_iff _).2 (.inr ((hs.landing k).2 hk))
  rw [hslot]
  exact ⟨rfl, (hs.unused k hunused).1⟩

/-- What an accepted WRITE has landed, and a free record when it is durable. -/
structure State.Accepts (s : State) (a : Arriving) : Prop extends s.Carries a where
  landed : a.landed.length = a.count
  positive : 1 ≤ a.count
  record : s.freed.isDurable a = true → (s.freed.freeDurable).isSome = true

theorem State.freeDurable_congr (h : t.durables = s.durables) : t.freeDurable = s.freeDurable := by
  rw [State.freeDurable, h]
  rfl

theorem State.SlotBooks.writeRecorded (h : s.SlotBooks a.landed out) (ha : s.Accepts a) : (s.freed.writeRecorded a).SlotBooks [] out := by
  have hstaged := h.stagedTo ha.toCarries a.landed.length (Nat.le_refl _)
  have hdurables : (s.beforeSector a a.landed.length).durables = s.durables :=
    (agree (π := State.durables) (s.beforeSector_frame a a.landed.length) :)
  have hall := s.beforeSector_all a
  have hbooks : (s.beforeSector a a.landed.length).SlotBooks [] out := by simpa using hstaged.books
  unfold State.writeRecorded
  rw [← hall]
  generalize s.beforeSector a a.landed.length = u at *
  split
  · rename_i hdurable
    obtain ⟨i, hi⟩ := Option.isSome_iff_exists.1 (ha.record hdurable)
    have hui : u.freeDurable = some i := (State.freeDurable_congr hdurables).trans hi
    exact hbooks.createDurable hui _ h.nodup (fun k hk => hstaged.landed h hk) ha.landed ha.positive
  · exact hbooks.alike rfl (.of_frame (u.enqueue_frame _)) rfl

theorem State.SlotBooks.acceptWrite (h : s.SlotBooks a.landed out) (ha : s.Accepts a) : (s.freed.acceptWrite a).SlotBooks [] out := by
  have hpads := (h.writeRecorded ha).durablePads.pressure
  rw [State.acceptWrite_eq]
  refine State.SlotBooks.endRequests ?_
  unfold State.writeCredited
  split
  · exact hpads.evalCredit
  · exact hpads

/-! ## FLUSH (R145, R146) -/

theorem State.SlotBooks.flushMarked (h : s.SlotBooks hand out)
    (hpos : 1 ≤ ((Store.find? s.flushes a.fn).getD {}).count + (s.unmarked a.fn).length)
    (htags : ((Store.find? s.flushes a.fn).getD {}).tags.length ≤ 3) : (s.flushMarked a).SlotBooks hand out := by
  have hslot := State.slot_flushMarked (a := a) h.sorted
  have hflushes := State.flushes_flushMarked (s := s) (a := a)
  have hframe := State.flushMarked_frame (s := s) (a := a)
  have hqueue : ∀ j, ((s.flushMarked a).stream j).queue = (s.stream j).queue := fun j => by rw [State.stream_flushMarked_eq]
  have hcanon : (s.flushMarked a).slotsCanon := closed_slotsCanon.flushPads a.fn (closed_slotsCanon.flush _ _ (closed_slotsCanon.markSlots _ h.canon))
  generalize s.flushMarked a = t at *
  refine h.markAll (fn := a.fn) (ks := s.unmarked a.fn)
    (r := { count := ((Store.find? s.flushes a.fn).getD {}).count + (s.unmarked a.fn).length,
            tags := ((Store.find? s.flushes a.fn).getD {}).tags ++ [a.tag] })
    hcanon (State.slotsWhere_nodup h.sorted _) (fun k => ?_) rfl hpos ⟨by simp, by simpa using Nat.lt_succ_of_le htags⟩ hslot
    (fun f => by rw [hflushes, Store.find?_insert]) hqueue (agree hframe) (agree hframe)
    (fun fn => congrArg Tenant.stagedCount (agree (π := (State.tenant · fn)) hframe :)) (agree hframe) (agree hframe)
  rw [State.unmarked, State.mem_slotsWhere h.sorted rfl]
  simp [and_assoc]

theorem State.hasInUse_iff (hsorted : Store.sorted s.slots = true) (fn : Nat) :
    s.hasInUse fn = true ↔ ∃ k, (s.slot k).inUse = true ∧ (s.slot k).fn = fn := by
  have hlist : s.hasInUse fn = true ↔ ∃ k, k ∈ s.slotsWhere fun r => r.inUse && r.fn == fn := by
    simp only [State.hasInUse, List.any_eq_true, State.slotsWhere, List.mem_map, List.mem_filter]
    exact ⟨fun ⟨e, he, hp⟩ => ⟨e.1, e, ⟨he, hp⟩, rfl⟩, fun ⟨k, e, ⟨he, hp⟩, _⟩ => ⟨e, he, hp⟩⟩
  rw [hlist]
  refine exists_congr fun k => ?_
  rw [State.mem_slotsWhere hsorted rfl]
  simp

theorem State.SlotBooks.takeFlush (h : s.SlotBooks hand out) (a : Arriving) : (s.takeFlush a).SlotBooks hand out := by
  have henqueue : ∀ p, (s.enqueue p).SlotBooks hand out := fun p => h.alike rfl (.of_frame (s.enqueue_frame p)) rfl
  cases hvalid : s.validTenant a.fn with
  | false =>
    rw [State.takeFlush_of_noTenant hvalid]
    exact henqueue _
  | true =>
    cases hrecord : Store.find? s.flushes a.fn with
    | none =>
      rw [State.takeFlush_of_noRecord hvalid hrecord]
      split
      · exact henqueue _
      · rename_i huse
        split
        · exact henqueue _
        · obtain ⟨k, hk, hfn⟩ := (State.hasInUse_iff h.sorted a.fn).1 (by simpa using huse)
          have hmark : (s.slot k).mark = false := by
            by_contra hmarked
            have hsome := h.flushesCounted.2 k (by simpa using hmarked)
            rw [hfn, hrecord] at hsome
            cases hsome
          have hmem : k ∈ s.unmarked a.fn := by
            rw [State.unmarked, State.mem_slotsWhere h.sorted rfl]
            simp [hk, hfn, hmark]
          have hlength := List.length_pos_of_mem hmem
          rw [State.acceptFlush_eq]
          exact (h.flushMarked (by omega) (by rw [hrecord]; exact Nat.zero_le 3)).endRequests
    | some r =>
      rw [State.takeFlush_of_record hvalid hrecord]
      split
      · exact henqueue _
      · rename_i htags
        obtain ⟨hcount, -⟩ := h.flushesCounted.1 a.fn r hrecord
        rw [State.acceptFlush_eq]
        refine (h.flushMarked ?_ ?_).endRequests
        · rw [hrecord]
          show 1 ≤ r.count + _
          omega
        · rw [hrecord]
          show r.tags.length ≤ 3
          omega

end

end Sys2Proof.Machine
end

section
/-! The books of the slots through the requests that leave every queue as it is (R58 to R64, R71, R72, R81). -/

namespace Sys2Proof.Machine

open Sys2Proof

section

variable {s t u : State} {a : Arriving} {hand : List Nat} {out : Nat → Prop} {l k n : Nat}

/-! ## The queues stay -/

/-- Every staged queue is as it was. -/
def State.queuesStay (s t : State) : Prop := ∀ j, (t.stream j).queue = (s.stream j).queue

namespace State.queuesStay

theorem refl (s : State) : s.queuesStay s := fun _ => rfl

theorem trans (h : s.queuesStay t) (h' : t.queuesStay u) : s.queuesStay u := fun j => (h' j).trans (h j)

theorem of_streams (h : t.streams = s.streams) : s.queuesStay t := fun j => by rw [State.stream, h]; rfl

theorem of_frame {m : State → State} (h : m t = m s) (hstreams : ∀ s, (m s).streams = s.streams := by intro _; rfl) : s.queuesStay t :=
  of_streams (agree h hstreams)

theorem reply (s : State) (a : Arriving) (status : Status) (body : List Byte) : s.queuesStay (s.reply a status body) :=
  of_frame (s.reply_frame a status body)

theorem setStream {r : Stream} (h : r.queue = (s.stream k).queue) : s.queuesStay (s.setStream k r) := State.queues_setStream h

theorem padStream (s : State) (k : Nat) : s.queuesStay (s.padStream k) := s.padStream_queue k

theorem endRequests (s : State) : s.queuesStay s.endRequests := s.endRequests_queue

theorem foldl {α : Type} {f : State → α → State} (hf : ∀ s x, State.queuesStay s (f s x)) (xs : List α) (s : State) : s.queuesStay (xs.foldl f s) :=
  fun j => State.queues_foldl (fun s x => hf s x) xs s j

theorem drain (s : State) (id : Nat) (cause : EndCause) : s.queuesStay (s.drain id cause) := by
  unfold State.drain
  split
  · exact refl s
  · split
    · exact setStream (s := s.setSegment _ _) rfl
    · exact refl s

theorem drainAndClose (s : State) (id : Nat) (cause : EndCause) : s.queuesStay (s.drainAndClose id cause) :=
  (drain s id cause).trans (of_frame (State.closeIfSettled_frame _ id))

theorem rotate (s : State) (k : Nat) : s.queuesStay (s.rotate k) := by
  unfold State.rotate
  split
  · exact refl s
  · exact drainAndClose s _ _

theorem serve (l n : Nat) (s : State) : s.queuesStay (State.serve l n s) := by
  induction n generalizing s with
  | zero => exact refl s
  | succ n ih =>
    unfold State.serve
    split
    · rename_i hcan
      split
      · exact refl s
      · rename_i k _
        refine trans ?_ (ih _)
        cases hnormal : (s.lane l).normal with
        | nil => simp [Lane.canGrant, hnormal] at hcan
        | cons g gs =>
          intro j
          rw [State.openFrom_stream (s := { s with starved := s.starved.erase k }) hnormal]
          split
          · rename_i hj
            rw [hj]
            rfl
          · rfl
    · exact refl s

/-! ## The requests -/

theorem putStream (s : State) (a : Arriving) : s.queuesStay (s.putStream a) := by
  rcases s.putStream_cases a with ⟨status, h⟩ | ⟨-, h⟩ | ⟨-, h⟩ <;> rw [h]
  · exact reply s a _ _
  · exact (setStream (r := (s.stream a.stream).bind a) rfl).trans (reply _ a _ _)
  · have hset : s.queuesStay (s.reconfigured a) := (setStream (r := (s.stream a.stream).configured a) rfl).trans (reply _ a _ _)
    split
    · exact hset.trans (rotate _ _)
    · exact hset

theorem holdStream (s : State) (a : Arriving) : s.queuesStay (s.holdStream a) := by
  have hheld := setStream (s := s) (k := a.stream) (r := { s.stream a.stream with state := .held }) rfl
  rcases s.holdStream_cases a with ⟨status, h⟩ | ⟨-, h⟩ | ⟨-, h⟩ <;> rw [h]
  · exact reply s a _ _
  · exact hheld
  · exact hheld

theorem releaseStream (s : State) (a : Arriving) : s.queuesStay (s.releaseStream a) := by
  rcases s.releaseStream_cases a with h | ⟨-, h⟩ <;> rw [h]
  · exact reply s a _ _
  · have hunheld : s.queuesStay (s.unheld a) := setStream
      (r := { s.stream a.stream with state := if (s.stream a.stream).openSeg.isSome then .opened else .idle }) rfl
    exact hunheld.trans (endRequests _)

theorem flushStream (s : State) (a : Arriving) : s.queuesStay (s.flushStream a) := by
  unfold State.flushStream
  split
  · exact ((padStream s a.stream).trans (reply _ a _ _)).trans (endRequests _)
  · exact reply s a _ _

theorem rotateStream (s : State) (a : Arriving) : s.queuesStay (s.rotateStream a) := by
  rcases s.rotateStream_cases a with h | ⟨-, h⟩ <;> rw [h]
  · exact reply s a _ _
  · have hreplied : s.queuesStay (s.tailReplied a) := (padStream s a.stream).trans (reply _ a _ _)
    exact (hreplied.trans (rotate _ _)).trans (endRequests _)

theorem unbindStream (s : State) (a : Arriving) : s.queuesStay (s.unbindStream a) := by
  rcases s.unbindStream_cases a with ⟨status, h⟩ | ⟨-, hnone, -, -, h⟩ <;> rw [h]
  · exact reply s a _ _
  · have hrotated := (reply s a .ok []).trans (rotate (s.reply a .ok) a.stream)
    exact hrotated.trans (setStream ((hrotated a.stream).trans hnone).symm)

theorem grantBlocks (s : State) (a : Arriving) : s.queuesStay (s.grantBlocks a) := by
  by_cases hbad : a.grantsBad = true
  · rw [State.grantBlocks_bad hbad]
    exact reply s a _ _
  by_cases hup : (s.lane a.lane).up = true
  · by_cases hfull : (s.lane a.lane).grantsFull a.grantKind a.entryCount = true
    · rw [State.grantBlocks_full hbad hup hfull]
      exact reply s a _ _
    · have hgranting : s.queuesStay (s.granting a) := of_streams rfl
      rw [State.grantBlocks_ok hbad hup hfull]
      split
      · exact (hgranting.trans (serve _ _ _)).trans (of_frame (State.poolLowNotices_frame _))
      · exact hgranting
  · rw [State.grantBlocks_down hbad (Bool.not_eq_true _ ▸ hup)]
    exact reply s a _ _

/-! ## The linger checks -/

theorem lingerCheck (s : State) (k : Nat) : s.queuesStay (s.lingerCheck k) := by
  unfold State.lingerCheck
  split
  · exact padStream s k
  · exact refl s

theorem lingerTick (s : State) (k : Nat) : s.queuesStay (s.lingerTick k) := by
  unfold State.lingerTick
  split
  · exact (setStream (r := { s.stream k with linger := min 255 ((s.stream k).linger + 1) }) rfl).trans (lingerCheck _ k)
  · exact refl s

theorem checkAllLinger (s : State) : s.queuesStay s.checkAllLinger := (foldl lingerCheck _ s).trans (endRequests _)

theorem setDurableLinger (s : State) (h : a.param = some .durableLinger) : s.queuesStay (s.setParam a State.checkAllLinger) := by
  rcases s.setParam_cases a State.checkAllLinger with ⟨status, heq⟩ | ⟨p, hparam, heq⟩ <;> rw [heq]
  · exact reply s a status []
  · cases h.symm.trans hparam
    have hstored : ∀ v body, s.queuesStay ((s.storeParam .durableLinger a.paramLane v).reply a .ok body) := fun _ _ => of_streams rfl
    exact (hstored _ _).trans (checkAllLinger _)

theorem lingerExpires (s : State) : s.queuesStay s.lingerExpires := by
  unfold State.lingerExpires
  split
  · exact refl s
  · rename_i d _
    split
    · have hclock : s.queuesStay { s.reachTime d with lingerClock := some (d + 1000) } := of_streams rfl
      exact (hclock.trans (foldl lingerTick _ _)).trans (endRequests _)
    · exact refl s

end State.queuesStay

end

end Sys2Proof.Machine
end

section
/-! The books of the slots through every command that takes a parcel and is no WRITE (R10, R44, R145, R176, R184). -/

namespace Sys2Proof.Machine

open Sys2Proof

section

variable {s t u : State} {a : Arriving} {hand : List Nat} {out : Nat → Prop} {k n : Nat}

/-! ## The books and the parcel -/

/-- R35: the parcel that the parser handles has landed its sectors, a WRITE alone any. -/
def State.parcelCarried (s : State) : Prop := ∀ a, s.parser.parcel = some a →
  (a.kind ≠ kindWrite → a.landed = []) ∧ ∀ i k, a.landed[i]? = some k → s.holdsSector a (a.lba + i) k

/-- The laws of where slots stand, for a part whose ISSUED slots are `out`. -/
structure State.SlotHeld (s : State) (out : Nat → Prop) : Prop where
  books : s.SlotBooks s.parser.landedSlots out
  carried : s.parcelCarried

theorem State.Ledger.slotHeld (h : s.Ledger) : s.SlotHeld s.onLanes := ⟨h.slotBooks, h.landingSlots.2.2.2.1⟩

theorem State.SlotHeld.of_awaiting (hparser : t.parser = .awaiting) (hbooks : t.SlotBooks [] out) : t.SlotHeld out where
  books := by rw [hparser]; exact hbooks
  carried b hb := by rw [hparser] at hb; cases hb

/-- The parser hands the parcel to another of its states. -/
theorem State.SlotHeld.hand_over (h : s.SlotHeld out) (hparcel : s.parser.parcel = some a) (p : Parser) (hp : p.parcel = some a)
    (hlanded : p.landedSlots = s.parser.landedSlots) : ({ s with parser := p } : State).SlotHeld out where
  books := by
    show ({ s with parser := p } : State).SlotBooks p.landedSlots out
    rw [hlanded]
    exact h.books.of_parser p
  carried b hb := h.carried b (hparcel.trans (hp.symm.trans hb))

/-- What keeps the tables of the slots and the parser keeps the laws. -/
theorem State.SlotHeld.of_side (h : s.SlotHeld out) (hside : t.slotSide = s.slotSide) : t.SlotHeld out := by
  have hparser : t.parser = s.parser := agree hside
  refine ⟨?_, fun b hb => ?_⟩
  · rw [hparser]
    exact h.books.alike (agree hside) (.of_frame hside) (agree hside)
  · rw [hparser] at hb
    have hslot : ∀ k, t.slot k = s.slot k := fun k => (agree (π := (State.slot · k)) hside :)
    simp only [State.holdsSector, hslot]
    exact h.carried b hb

theorem State.wholeParcel_parcel (h : s.wholeParcel = some a) : s.parser.parcel = some a ∧ s.parser.landedSlots = a.landed := by
  obtain ⟨-, ⟨hp, -⟩ | ⟨hp, -⟩⟩ := State.wholeParcel_some h <;> rw [hp] <;> exact ⟨rfl, rfl⟩

/-! ## Taking a parcel -/

/-- A parcel that is no WRITE has landed nothing. -/
theorem State.SlotHeld.books_of_offers (h : s.SlotHeld out) (hwhole : s.wholeParcel = some a) (hkind : a.kind ≠ kindWrite) : s.SlotBooks [] out := by
  obtain ⟨hparcel, hlanded⟩ := State.wholeParcel_parcel hwhole
  have hbooks := h.books
  rw [hlanded, (h.carried a hparcel).1 hkind] at hbooks
  exact hbooks

theorem State.SlotHeld.gated (h : s.SlotHeld out) (hwhole : s.wholeParcel = some a) : ({ s with parser := .gated a } : State).SlotHeld out := by
  obtain ⟨hparcel, hlanded⟩ := State.wholeParcel_parcel hwhole
  exact h.hand_over hparcel _ rfl hlanded.symm

theorem State.SlotHeld.after_takes (h : s.SlotHeld out) {c : Instr} (htakes : takesParcel c = true) (hwrite : c ≠ .write)
    (hafter : s.SlotBooks [] out → (s.after c).SlotBooks [] out) : (s.after c).SlotHeld out := by
  rcases s.parser_after_takes htakes hwrite with heq | ⟨a, hwhole, heq⟩ | ⟨a, hoffers, hkind, hparser⟩
  · rwa [heq]
  · rw [heq]
    exact h.gated hwhole
  · exact .of_awaiting hparser (hafter (h.books_of_offers hoffers.1 hkind))

/-! ## The requests -/

namespace State.SlotBooks

theorem reply (h : s.SlotBooks hand out) (a : Arriving) (status : Status) (body : List Byte) : (s.reply a status body).SlotBooks hand out :=
  h.alike rfl (.of_frame (s.reply_frame a status body)) rfl

/-- A staged count is of slots in use. -/
theorem staged_zero (h : s.SlotBooks hand out) {fn : Nat} (hnone : ∀ k, (s.slot k).inUse = true → (s.slot k).fn ≠ fn) :
    (s.tenant fn).stagedCount = 0 := by
  rw [h.counts.1]
  refine State.slotCount_eq_zero h.sorted rfl fun k => ?_
  rw [Bool.and_eq_false_iff, beq_eq_false_iff_ne]
  cases hk : (s.slot k).inUse with
  | false => exact .inl rfl
  | true => exact .inr (hnone k hk)

theorem queue_nil (h : s.SlotBooks hand out) (hnone : ∀ k, (s.slot k).inUse = false) (j : Nat) : (s.stream j).queue = [] :=
  List.eq_nil_iff_forall_not_mem.2 fun k hk => by
    have hused := (Slot.inUse_iff _).2 (.inl ((h.queues.1 j k).1 hk).1)
    rw [hnone] at hused
    cases hused

/-- A staged count may be written over by itself. -/
theorem setTenant (h : s.SlotBooks hand out) {r : Tenant} {fn : Nat} (hstaged : r.stagedCount = (s.tenant fn).stagedCount) :
    (s.setTenant fn r).SlotBooks hand out := by
  refine h.alike rfl ⟨fun _ => rfl, rfl, rfl, fun f => ?_, rfl, rfl⟩ rfl
  rw [State.tenant_setTenant]
  split
  · rename_i hf
    rw [hstaged, hf]
  · rfl

theorem putTenant (h : s.SlotBooks hand out) (a : Arriving) : (s.putTenant a).SlotBooks hand out := by
  rcases s.putTenant_cases a with ⟨status, body, heq⟩ | ⟨-, heq⟩ <;> rw [heq]
  · exact h.reply a status body
  · exact (h.setTenant (r := (s.tenant a.fn).rewritten a.tenantFields) rfl).reply a .ok []

theorem dropTenant (h : s.SlotBooks hand out) (a : Arriving) : (s.dropTenant a).SlotBooks hand out := by
  unfold State.dropTenant
  split
  · exact h.reply a _ _
  · split
    · exact h.reply a _ _
    · rename_i hquiet
      have hnone : ¬ s.hasInUse a.fn = true := fun hin => hquiet (by rw [State.tenantQuiet, hin]; rfl)
      rw [State.hasInUse_iff h.sorted] at hnone
      have hzero : (s.tenant a.fn).stagedCount = 0 := h.staged_zero fun k hk hfn => hnone ⟨k, hk, hfn⟩
      exact (h.setTenant (r := {}) hzero.symm).reply a .ok []

theorem setCreditBatch (h : s.SlotBooks hand out) (hparam : a.param = some .creditBatch) : (s.setParam a State.evalCredit).SlotBooks hand out := by
  rcases s.setParam_cases a State.evalCredit with ⟨status, heq⟩ | ⟨p, hp, heq⟩ <;> rw [heq]
  · exact h.reply a status []
  · cases hparam.symm.trans hp
    have hstored : ∀ v body, ((s.storeParam .creditBatch a.paramLane v).reply a .ok body).SlotBooks hand out := fun v body =>
      (h.alike (t := s.storeParam .creditBatch a.paramLane v) rfl ⟨fun _ => rfl, rfl, rfl, fun _ => rfl, rfl, rfl⟩ rfl).reply a .ok body
    exact (hstored _ _).evalCredit

theorem unused_of_allFree (hall : s.allFree = true) (k : Nat) : (s.slot k).inUse = false := by
  refine (Slot.unused_iff _).2 (.inl ?_)
  rw [State.slot, Store.getD]
  cases hfind : Store.find? s.slots k with
  | none => rfl
  | some r =>
    have hfree := List.all_eq_true.1 hall (k, r) (Store.mem_of_find? hfind)
    simpa using hfree

theorem resequence (h : s.SlotBooks hand out) (hnone : ∀ k, (s.slot k).inUse = false) (n : Nat) :
    ({ s with sequence := n } : State).SlotBooks hand out where
  canon := h.canon
  small := h.small
  nodup := h.nodup
  landing := h.landing
  unused := h.unused
  queues := h.queues
  issued := h.issued
  sequences := ⟨fun k hk => absurd (hk.symm.trans (hnone k)) (by decide), fun j _ hj => absurd (hj.symm.trans (hnone j)) (by decide)⟩
  index := h.index
  counts := h.counts

/-- SET-PARAM of SEQUENCE-BASE sets the counter while no slot is in use (R44). -/
theorem setSequenceBase (h : s.SlotBooks hand out) (hparam : a.param = some .sequenceBase) : (s.setParam a id).SlotBooks hand out := by
  unfold State.setParam
  split
  · exact h.reply a _ _
  · rename_i p hchecked
    have hp : p = .sequenceBase := by
      unfold Arriving.checkedParam at hchecked
      rw [hparam] at hchecked
      dsimp only at hchecked
      split at hchecked <;> cases hchecked
      rfl
    split
    · exact h.reply a _ _
    · rename_i hnot
      have hall : s.allFree = true := by
        cases hfree : s.allFree with
        | true => rfl
        | false => exact absurd ⟨hp, hfree⟩ hnot
      subst hp
      have hset := h.resequence (unused_of_allFree hall)
      exact (hset _).reply a .ok _

theorem clearPart (h : s.SlotBooks hand out) (a : Arriving) : (s.clearPart a).SlotBooks hand out := by
  cases hquiet : s.quiet with
  | false =>
    rw [State.clearPart_notQuiet hquiet]
    exact h.reply a _ _
  | true =>
    have hall : s.allFree = true := by
      simp only [State.quiet, Bool.and_eq_true] at hquiet
      exact hquiet.1.1.1
    have hreplied := h.reply a .ok []
    have hnone : ∀ k, ((s.reply a .ok).slot k).inUse = false := unused_of_allFree hall
    rw [State.clearPart_quiet hquiet]
    generalize s.reply a .ok = u at *
    have hstream : ∀ k, u.emptied.stream k = {} := fun k => by rw [State.stream, u.emptied_eq]; rfl
    have htenant : ∀ fn, u.emptied.tenant fn = {} := fun fn => by rw [State.tenant, u.emptied_eq]; rfl
    refine hreplied.alike (by rw [u.emptied_eq]) ⟨fun j => ?_, by rw [u.emptied_eq], by rw [u.emptied_eq], fun fn => ?_, by rw [u.emptied_eq],
      by rw [u.emptied_eq]⟩ (by rw [u.emptied_eq])
    · rw [hstream, hreplied.queue_nil hnone]
    · rw [htenant, hreplied.staged_zero fun k hk => absurd (hk.symm.trans (hnone k)) (by decide)]

end State.SlotBooks

/-! ## Every command that takes a parcel -/

theorem State.SlotHeld.take_act {c : Instr} {want : Arriving → Bool} {act : State → Arriving → State} (h : s.SlotHeld out)
    (htakes : takesParcel c = true) (hwrite : c ≠ .write) (hexec : s.after c = s.take want act)
    (hact : ∀ u a, want a = true → State.SlotBooks u [] out → (act u a).SlotBooks [] out) : (s.after c).SlotHeld out :=
  h.after_takes htakes hwrite fun hbooks => by
    rw [hexec]
    exact State.take_keeps (P := fun u => u.SlotBooks [] out) (fun _ p hu => hu.of_parser p) hact hbooks

theorem State.SlotHeld.take_queues {c : Instr} {want : Arriving → Bool} {act : State → Arriving → State} (h : s.SlotHeld out)
    (htakes : takesParcel c = true) (hwrite : c ≠ .write) (hexec : s.after c = s.take want act)
    (hact : ∀ u a, want a = true → State.queuesStay u (act u a))
    (hslots : ∀ s : State, (s.outside c).slots = s.slots := by intro _; rfl) (hindex : ∀ s : State, (s.outside c).index = s.index := by intro _; rfl)
    (hsequence : ∀ s : State, (s.outside c).sequence = s.sequence := by intro _; rfl)
    (htenants : ∀ s : State, (s.outside c).tenants = s.tenants := by intro _; rfl)
    (hdurables : ∀ s : State, (s.outside c).durables = s.durables := by intro _; rfl)
    (hflushes : ∀ s : State, (s.outside c).flushes = s.flushes := by intro _; rfl)
    (hcredits : ∀ s : State, (s.outside c).credits = s.credits := by intro _; rfl) : (s.after c).SlotHeld out :=
  h.after_takes htakes hwrite fun hbooks => by
    refine hbooks.of_streams (s.after_frame c) ?_ hslots hindex hsequence htenants hdurables hflushes hcredits
    rw [hexec]
    exact State.take_keeps (P := fun u => s.queuesStay u) (fun _ _ hu => hu) (fun u a hwant hu => hu.trans (hact u a hwant)) (.refl s)

theorem State.SlotHeld.after_taking (h : s.SlotHeld out) {c : Instr} (htakes : takesParcel c = true) (hwrite : c ≠ .write) :
    (s.after c).SlotHeld out := by
  have hstay : (s.after c).slots = s.slots → (s.after c).streams = s.streams → (s.after c).index = s.index → (s.after c).sequence = s.sequence →
      (s.after c).tenants = s.tenants → (s.after c).durables = s.durables → (s.after c).flushes = s.flushes → (s.after c).credits = s.credits →
      (s.after c).SlotHeld out := fun hslots hstreams hindex hsequence htenants hdurables hflushes hcredits =>
    h.after_takes htakes hwrite fun hbooks => hbooks.alike hslots
      ⟨State.queuesStay.of_streams hstreams, hindex, hsequence, fun fn => by rw [State.tenant, htenants]; rfl, hdurables, hflushes⟩ hcredits
  cases c
  case write => exact absurd rfl hwrite
  case flush => exact h.take_act (act := State.takeFlush) htakes hwrite rfl fun _ a _ hu => hu.takeFlush a
  case setDurableLinger =>
    exact h.take_queues (act := fun s a => s.setParam a State.checkAllLinger) htakes hwrite rfl fun u a hwant =>
      .setDurableLinger u (Arriving.param_of_setsParam hwant)
  case setCreditBatch =>
    exact h.take_act (act := fun s a => s.setParam a State.evalCredit) htakes hwrite rfl fun _ _ hwant hu =>
      hu.setCreditBatch (Arriving.param_of_setsParam hwant)
  case setSequenceBase =>
    exact h.take_act (act := fun s a => s.setParam a id) htakes hwrite rfl fun _ _ hwant hu =>
      hu.setSequenceBase (Arriving.param_of_setsParam hwant)
  case putTenant => exact h.take_act (act := State.putTenant) htakes hwrite rfl fun _ a _ hu => hu.putTenant a
  case dropTenant => exact h.take_act (act := State.dropTenant) htakes hwrite rfl fun _ a _ hu => hu.dropTenant a
  case putStream => exact h.take_queues (act := State.putStream) htakes hwrite rfl fun u a _ => .putStream u a
  case holdStream => exact h.take_queues (act := State.holdStream) htakes hwrite rfl fun u a _ => .holdStream u a
  case releaseStream => exact h.take_queues (act := State.releaseStream) htakes hwrite rfl fun u a _ => .releaseStream u a
  case flushStream => exact h.take_queues (act := State.flushStream) htakes hwrite rfl fun u a _ => .flushStream u a
  case rotateStream => exact h.take_queues (act := State.rotateStream) htakes hwrite rfl fun u a _ => .rotateStream u a
  case unbindStream => exact h.take_queues (act := State.unbindStream) htakes hwrite rfl fun u a _ => .unbindStream u a
  case grantBlocks => exact h.take_queues (act := State.grantBlocks) htakes hwrite rfl fun u a _ => .grantBlocks u a
  case clearPart => exact h.take_act (act := State.clearPart) htakes hwrite rfl fun _ a _ hu => hu.clearPart a
  all_goals first
    | exact absurd htakes Bool.false_ne_true
    | exact hstay (s.after_agree _) (s.after_agree _) (s.after_agree _) (s.after_agree _) (s.after_agree _) (s.after_agree _) (s.after_agree _) (s.after_agree _)

end

end Sys2Proof.Machine
end

section
/-! The books of the slots through the parser's own commands, the timers and PFAIL (R31, R34 to R42, R71, R141, R152, R183, R191). -/

namespace Sys2Proof.Machine

open Sys2Proof

section

variable {s t u : State} {a b : Arriving} {hand : List Nat} {out : Nat → Prop} {k n : Nat}

/-! ## A WRITE is decided (R36, R39, R42) -/

/-- What a WRITE that the checks 3 to 6 decide brings with it. -/
structure State.Landed (s : State) (a : Arriving) (out : Nat → Prop) : Prop where
  held : s.SlotHeld out
  parcel : s.parser.parcel = some a
  hand : s.parser.landedSlots = a.landed
  framed : s.framingFault a = false
  whole : a.landed.length = a.count

theorem State.Landed.books (h : s.Landed a out) : s.SlotBooks a.landed out := h.hand ▸ h.held.books

theorem State.Landed.carries (h : s.Landed a out) (hpasses : s.freed.writeRefusal a = none) : s.Carries a where
  sectors := (h.held.carried a h.parcel).2
  bounds := by
    have hframed := h.framed
    have hfn : ¬ (511 < a.fn ∨ (s.freed.tenant a.fn).valid = false) := fun hbad => by
      rw [State.writeRefusal_eq, if_pos hbad] at hpasses
      cases hpasses
    rw [← Bool.not_eq_true, State.framingFault_iff] at hframed
    rw [h.whole]
    omega

theorem State.Landed.accepts (h : s.Landed a out) (hpasses : s.freed.writeRefusal a = none) (hhold : s.freed.mustHold a = false) : s.Accepts a where
  toCarries := h.carries hpasses
  landed := h.whole
  positive := by
    have hframed := h.framed
    rw [← Bool.not_eq_true, State.framingFault_iff] at hframed
    omega
  record hdurable := by
    rw [State.mustHold, hdurable, Bool.true_and] at hhold
    cases hfree : s.freed.freeDurable with
    | none => rw [hfree] at hhold; cases hhold
    | some i => rfl

theorem State.SlotHeld.of_refused (h : s.SlotBooks a.landed out) (status : LandedStatus) : (s.freed.refuseWrite a status).SlotHeld out := by
  have hfreed : s.freed.SlotBooks a.landed out := h.of_parser .awaiting
  exact .of_awaiting (agree (s.freed.refuseWrite_frame a status)) (hfreed.refuseWrite status)

theorem State.Landed.decideWrite (h : s.Landed a out) : (s.freed.decideWrite a).SlotHeld out := by
  rcases s.freed.decideWrite_cases a with ⟨status, -, heq⟩ | ⟨hpasses, ⟨-, heq⟩ | ⟨hhold, heq⟩⟩ <;> rw [heq]
  · exact .of_refused h.books status
  · exact h.held.hand_over h.parcel (.holding a) rfl h.hand.symm
  · exact .of_awaiting (agree (s.freed.acceptWrite_frame a)) (h.books.acceptWrite (h.accepts hpasses hhold))

theorem State.SlotHeld.write (h : s.SlotHeld out) (hlanding : s.landingLawful) : (s.after .write).SlotHeld out := by
  have hafter : s.after .write = s.take (fun a => a.kind == kindWrite) State.takeWrite := rfl
  rw [hafter]
  rcases s.take_cases (fun a => a.kind == kindWrite) State.takeWrite with heq | ⟨a, hwhole, -, -, heq⟩ | ⟨a, hoffers, hkind, heq⟩ <;> rw [heq]
  · exact h
  · exact h.gated hwhole
  · obtain ⟨hparcel, hlanded⟩ := State.wholeParcel_parcel hoffers.1
    have hbooks : s.SlotBooks a.landed out := hlanded ▸ h.books
    show (s.freed.takeWrite a).SlotHeld out
    rcases s.freed.takeWrite_cases a with ⟨status, hrefused⟩ | ⟨hover, hframed, hdecided⟩
    · rw [hrefused]
      exact .of_refused hbooks status
    · rw [hdecided]
      exact State.Landed.decideWrite ⟨h, hparcel, hlanded, hframed, State.landed_of_framed hlanding hoffers.1 (beq_iff_eq.1 hkind) hover hframed⟩

theorem State.SlotHeld.retake (h : s.SlotHeld out) (hlanding : s.landingLawful) : s.retake.SlotHeld out := by
  unfold State.retake
  split
  · rename_i a hparser
    split
    · have hlands := (State.landingLawful_iff.1 hlanding).2
      rw [hparser] at hlands
      exact State.Landed.decideWrite ⟨h, by rw [hparser]; rfl, by rw [hparser]; rfl, hlands.1, hlands.2⟩
    · exact h
  · exact h

/-! ## LANDING (R35) -/

theorem State.SlotHeld.landBlock (h : s.SlotHeld out) (block : List Unit16) : (s.landBlock block).SlotHeld out := by
  cases htarget : s.landingTarget block with
  | none => rwa [State.landBlock_of_none htarget]
  | some p =>
    obtain ⟨a, k⟩ := p
    obtain ⟨hparser, -, hkind, -, -, -, hlowest⟩ := (s.landingTarget_eq_some_iff ..).1 htarget
    obtain ⟨hk, hfree, -⟩ := (s.lowestFree_eq_some_iff k).1 hlowest
    obtain ⟨hbooks, hcarried⟩ := h
    rw [hparser] at hbooks
    have hnot : k ∉ a.landed := fun hmem => by
      have hlanding := (hbooks.landing k).2 hmem
      rw [hfree] at hlanding
      cases hlanding
    have hlanded := hbooks.land (a := a) (block := block) hk hfree
    have hslot := s.land_slot a k block
    rw [State.landBlock_of_target htarget]
    generalize s.land a k block = v at *
    have hcarries : ∀ i j, (a.landed ++ [k])[i]? = some j → v.holdsSector a (a.lba + i) j := fun i j hj => by
      rw [State.holdsSector, hslot]
      rw [List.getElem?_append] at hj
      split at hj
      · have hne : j ≠ k := by
          rintro rfl
          exact hnot (List.mem_of_getElem? hj)
        rw [if_neg hne]
        exact (hcarried a (by rw [hparser]; rfl)).2 i j hj
      · obtain ⟨rfl, hzero⟩ : k = j ∧ i - a.landed.length = 0 := by simpa [List.getElem?_singleton, and_comm] using hj
        obtain rfl : i = a.landed.length := by omega
        rw [if_pos rfl]
        exact ⟨rfl, rfl, rfl⟩
    split
    · exact ⟨hlanded.of_parser _, fun b hb => by cases hb; exact ⟨fun hnone => absurd hkind hnone, hcarries⟩⟩
    · exact ⟨hlanded.of_parser _, fun b hb => by cases hb; exact ⟨fun hnone => absurd hkind hnone, hcarries⟩⟩

/-! ## Heads, discards and abort marks -/

theorem State.SlotHeld.headArrives (h : s.SlotHeld out) (head : Unit16) (body : List Unit16) : (s.headArrives head body).SlotHeld out := by
  unfold State.headArrives
  dsimp only
  split
  · rename_i hmay
    have hparser : s.parser = .awaiting := by
      simp only [Bool.and_eq_true, beq_iff_eq] at hmay
      exact hmay.1.2
    have hbooks : s.SlotBooks [] out := by
      have := h.books
      rwa [hparser] at this
    split
    · exact ⟨hbooks.of_parser _, fun b hb => by cases hb; exact ⟨fun _ => rfl, fun i k hk => by cases hk⟩⟩
    · exact ⟨hbooks.of_parser _, fun b hb => by cases hb; exact ⟨fun _ => rfl, fun i k hk => by cases hk⟩⟩
  · exact h

theorem State.SlotHeld.abortParcel (h : s.SlotHeld out) : s.abortParcel.SlotHeld out := by
  unfold State.abortParcel
  split
  · rename_i a hparser
    have hbooks : s.SlotBooks a.landed out := by
      have := h.books
      rwa [hparser] at this
    have hcarried := h.carried a (by rw [hparser]; rfl)
    split
    · split
      · rename_i hempty
        rw [List.isEmpty_iff.1 hempty] at hbooks
        exact .of_awaiting rfl (hbooks.of_parser _)
      · exact ⟨hbooks.of_parser _, fun b hb => by cases hb; exact hcarried⟩
    · exact h
  · exact h

theorem State.SlotHeld.releaseAborted (h : s.SlotHeld out) : s.releaseAborted.SlotHeld out := by
  unfold State.releaseAborted
  split
  · rename_i a hparser
    split
    · have hbooks : s.SlotBooks a.landed out := by
        have := h.books
        rwa [hparser] at this
      have hfreed : s.freed.SlotBooks a.landed out := hbooks.of_parser .awaiting
      have hcredit := (s.freed.freeSlotList a.landed).evalCredit_frame
      have hlist := s.freed.freeSlotList_frame a.landed
      exact .of_awaiting ((agree hcredit).trans (agree hlist)) hfreed.freeHand.evalCredit
    · exact h
  · exact h

theorem State.SlotHeld.discardParcel (h : s.SlotHeld out) : s.discardParcel.SlotHeld out := by
  unfold State.discardParcel
  split
  · exact h
  · rename_i a hwhole
    split
    · rename_i hforeign
      have hkind : a.kind ≠ kindWrite := by
        simp only [Arriving.isForeign, Bool.and_eq_true, bne_iff_ne] at hforeign
        exact hforeign.1.1.1
      exact .of_awaiting rfl ((h.books_of_offers hwhole hkind).of_parser _)
    · exact h

/-! ## The timers -/

theorem State.SlotBooks.sendCredit (h : s.SlotBooks hand out) : s.sendCredit.SlotBooks hand out := by
  have hframe := s.sendCredit_frame
  have hslots : s.sendCredit.slots = s.slots := agree hframe
  refine h.congr hslots (.of_frame hframe) ?_
  rw [State.freeSlots_congr hslots]
  have hbelow := h.counts.2.1
  show s.credits + (s.freeSlots - s.credits) ≤ s.freeSlots
  omega

theorem State.SlotHeld.of_books (h : s.SlotHeld out) (hparser : t.parser = s.parser) (hbooks : t.SlotBooks s.parser.landedSlots out)
    (hslots : ∀ k, t.slot k = s.slot k) : t.SlotHeld out where
  books := hparser ▸ hbooks
  carried b hb := by
    simp only [State.holdsSector, hslots]
    exact h.carried b (hparser ▸ hb)

theorem State.SlotHeld.creditExpires (h : s.SlotHeld out) : s.creditExpires.SlotHeld out := by
  unfold State.creditExpires
  split
  · exact h
  · split
    · rename_i d _ _
      have hstopped : ({ s.reachTime d with creditTimer := none } : State).SlotHeld out := h.of_side rfl
      dsimp only
      split
      · exact hstopped.of_books rfl hstopped.books.sendCredit fun _ => rfl
      · exact hstopped
    · exact h

theorem State.SlotHeld.lingerExpires (h : s.SlotHeld out) : s.lingerExpires.SlotHeld out := by
  have hframe := s.lingerExpires_frame
  have hqueues := State.queuesStay.lingerExpires s
  have hslot : ∀ k, s.lingerExpires.slot k = s.slot k := fun k => (agree (π := (State.slot · k)) hframe :)
  exact h.of_books (agree hframe) (h.books.of_streams hframe hqueues) hslot

/-! ## PFAIL (R152) -/

theorem State.SlotHeld.pfailTo (h : s.SlotHeld out) (level : Bool) : (s.pfailTo level).SlotHeld out := by
  rcases s.pfailTo_cases level with heq | ⟨-, heq⟩ <;> rw [heq]
  · exact h.of_side rfl
  · have hfreed : (s.pfailAt level).SlotHeld out := h.of_side rfl
    generalize s.pfailAt level = v at *
    have hlist := hfreed.books.freeHand
    have hbegun : v.dumpBegun.SlotHeld out := .of_awaiting rfl (hlist.alike (t := v.dumpBegun) rfl ⟨fun _ => rfl, rfl, rfl, fun _ => rfl, rfl, rfl⟩ rfl)
    rw [State.enterDumping_eq]
    have htake := v.dumpBegun.takeGrant_frame 0
    exact hbegun.of_side ((State.dumpCheck_slotSide _).trans (agree htake))

end

end Sys2Proof.Machine
end

section
/-! The books of the slots and the units in flight: ISSUE (R66, R106). -/

namespace Sys2Proof.Machine

open Sys2Proof

/-! ## The slots of units -/

/-- The slots of the NORMAL units among these records, in their order. -/
def normalSlots (rs : List InFlight) : List Nat := (rs.filter fun r => r.kind == .normal).flatMap InFlight.slots

theorem Lane.issuedSlots_eq (x : Lane) : x.issuedSlots = normalSlots x.inflight := rfl

theorem normalSlots_append (rs qs : List InFlight) : normalSlots (rs ++ qs) = normalSlots rs ++ normalSlots qs := by
  rw [normalSlots, List.filter_append, List.flatMap_append]
  rfl

theorem normalSlots_perm {rs qs : List InFlight} (h : rs.Perm qs) : (normalSlots rs).Perm (normalSlots qs) := (h.filter _).flatMap_right _

theorem mem_normalSlots {rs : List InFlight} {k : Nat} : k ∈ normalSlots rs ↔ ∃ r ∈ rs, r.kind = .normal ∧ k ∈ r.slots := by
  simp only [normalSlots, List.mem_flatMap, List.mem_filter, beq_iff_eq, and_assoc]

section

variable {s d t u : State} {a : Arriving} {out : Nat → Prop} {l p k id n : Nat} {g : Segment}

/-! ## The laws of where slots stand -/

/-- No slot stands in two in-flight records, or in one twice (R106). -/
def State.unitsApart (s : State) : Prop :=
  (∀ l, (s.lane l).issuedSlots.Nodup) ∧ ∀ l m k, k ∈ (s.lane l).issuedSlots → k ∈ (s.lane m).issuedSlots → l = m

/-- The laws of where slots stand, with the ISSUED slots those of the units in flight. -/
structure State.SlotLaws (s : State) : Prop where
  held : s.SlotHeld s.onLanes
  apart : s.unitsApart

theorem State.Ledger.slotLaws (h : s.Ledger) : s.SlotLaws := ⟨h.slotHeld, h.issuedSlots.2⟩

/-- The NORMAL units of every lane are as they were. -/
def State.normalsStay (s t : State) : Prop := ∀ l, (t.lane l).normals = (s.lane l).normals

theorem State.normalsStay.issuedSlots (h : s.normalsStay t) (l : Nat) : (t.lane l).issuedSlots = (s.lane l).issuedSlots :=
  congrArg (List.flatMap InFlight.slots) (h l)

theorem State.normalsStay.trans (h : s.normalsStay t) (h' : t.normalsStay u) : s.normalsStay u := fun l => (h' l).trans (h l)

theorem State.normalsStay.of_inflight (h : ∀ l, (t.lane l).inflight = (s.lane l).inflight) : s.normalsStay t := fun l => by
  rw [Lane.normals, h]
  rfl

theorem State.normalsStay.of_lanes (h : t.lanes = s.lanes) : s.normalsStay t := .of_inflight fun l => by rw [State.lane, h]; rfl

theorem State.normalsStay.endRequests (u : State) : u.normalsStay u.endRequests :=
  .of_inflight fun l => (congrArg Lane.inflight (u.endRequests_ends.lanes l).2 :)

theorem State.SlotLaws.of_normals (hs : s.unitsApart) (hnormals : s.normalsStay t) (h : t.SlotHeld s.onLanes) : t.SlotLaws := by
  have hslots := hnormals.issuedSlots
  refine ⟨⟨h.books.congr_out fun k => ?_, h.carried⟩, ⟨fun l => ?_, fun l m k => ?_⟩⟩
  · exact exists_congr fun l => by rw [hslots]
  · rw [hslots]
    exact hs.1 l
  · rw [hslots, hslots]
    exact hs.2 l m k

theorem State.SlotLaws.endRequests (h : u.SlotLaws) : u.endRequests.SlotLaws := by
  have hframe := u.endRequests_frame
  exact .of_normals h.apart (.endRequests u)
    (h.held.of_books (agree hframe) h.held.books.endRequests fun k => (agree (π := (State.slot · k)) hframe :))

/-- In a staged queue no slot stands twice. -/
theorem State.SlotBooks.queue_nodup {hand : List Nat} (h : s.SlotBooks hand out) (j : Nat) : (s.stream j).queue.Nodup :=
  List.Nodup.of_map _ ((h.queues.2 j).imp Nat.ne_of_lt)

/-! ## ISSUE (R106) -/

theorem Stream.unitSlots_all (t : Stream) (n : Nat) : (List.range n).flatMap t.unitSlots = t.queue.take (16 * n) := by
  induction n with
  | zero => rfl
  | succ n ih =>
    rw [List.range_succ, List.flatMap_append, ih, List.flatMap_singleton, Stream.unitSlots, Nat.mul_succ, List.take_add]

theorem normalSlots_nthRecords (s : State) (k id : Nat) (g : Segment) (n : Nat) :
    normalSlots ((List.range n).map (s.nthRecord k id g)) = (s.stream k).queue.take (16 * n) := by
  rw [normalSlots, List.filter_eq_self.2 fun r hr => ?_, List.flatMap_map]
  · exact Stream.unitSlots_all _ n
  · obtain ⟨i, -, rfl⟩ := List.mem_map.1 hr
    rfl

theorem State.IssueMade.issuedSlots (h : s.IssueMade d l p k id n g) (j : Nat) :
    (d.lane j).issuedSlots = (s.lane j).issuedSlots ++ if j = l then (s.stream k).queue.take (16 * n) else [] := by
  rw [Lane.issuedSlots_eq, h.inflight, normalSlots_append, Lane.issuedSlots_eq]
  split
  · rw [normalSlots_nthRecords]
  · rfl

theorem State.IssueMade.onLanes (h : s.IssueMade d l p k id n g) (j : Nat) : d.onLanes j ↔ s.onLanes j ∨ j ∈ (s.stream k).queue.take (16 * n) := by
  unfold State.onLanes
  simp only [h.issuedSlots, List.mem_append]
  constructor
  · rintro ⟨m, hm | hm⟩
    · exact .inl ⟨m, hm⟩
    · split at hm
      · exact .inr hm
      · cases hm
  · rintro (⟨m, hm⟩ | hj)
    · exact ⟨m, .inl hm⟩
    · exact ⟨l, .inr (by rw [if_pos rfl]; exact hj)⟩

theorem State.IssueMade.slotLaws (hs : s.SlotLaws) (hcanon : d.slotsCanon) (h : s.IssueMade d l p k id n g) : d.SlotLaws := by
  have hbooks := hs.held.books
  obtain ⟨hqmem, hqsorted⟩ := hbooks.queues
  have hframe := h.frame
  have hslot := h.slot
  have hstream : (d.stream k).queue = (s.stream k).queue.drop (16 * n) := by rw [h.stream]
  have hqueues := h.queues
  have honLanes := h.onLanes
  have hissued := h.issuedSlots
  have hnodup := hbooks.queue_nodup k
  have hsplit := List.take_append_drop (16 * n) (s.stream k).queue
  generalize htaken : (s.stream k).queue.take (16 * n) = taken at *
  have hstaged : ∀ j ∈ taken, (s.slot j).state = .staged ∧ (s.slot j).stream = k := fun j hj =>
    (hqmem k j).1 (by rw [← hsplit]; exact List.mem_append_left _ hj)
  have hnot : ∀ j ∈ taken, ¬ s.onLanes j := fun j hj hon => by
    have hstate := (hbooks.issued j).2 hon
    rw [(hstaged j hj).1] at hstate
    cases hstate
  rw [← hsplit] at hnodup
  obtain ⟨htakenNodup, -, hapart⟩ := List.nodup_append.1 hnodup
  have hcut : ∀ j, j ∈ (s.stream k).queue.drop (16 * n) ↔ j ∈ (s.stream k).queue ∧ j ∉ taken := fun j => by
    rw [← congrArg (j ∈ ·) hsplit, List.mem_append]
    exact ⟨fun hj => ⟨.inr hj, fun ht => hapart j ht j hj rfl⟩, fun ⟨hj, hnt⟩ => hj.resolve_left hnt⟩
  have hseq : ∀ j, (d.slot j).seq = (s.slot j).seq ∧ (d.slot j).stream = (s.slot j).stream ∧ ((d.slot j).fn = (s.slot j).fn ∧ (d.slot j).ns = (s.slot j).ns
      ∧ (d.slot j).lba = (s.slot j).lba) := fun j => by
    rw [hslot]
    split <;> exact ⟨rfl, rfl, rfl, rfl, rfl⟩
  have hstate : ∀ j, (d.slot j).state = .staged ↔ (s.slot j).state = .staged ∧ j ∉ taken := fun j => by
    rw [hslot]
    split
    · rename_i hj
      simp [hj]
    · rename_i hj
      simp [hj]
  have hbooks' : d.SlotBooks s.parser.landedSlots d.onLanes := by
    refine hbooks.restate hcanon (fun j => ?_) ⟨fun i j => ?_, fun i => ?_⟩ (fun j => ?_) (agree hframe) (agree hframe)
      (fun fn => congrArg Tenant.stagedCount (agree (π := (State.tenant · fn)) hframe :)) (agree hframe) (agree hframe) (agree hframe)
    · rw [hslot]
      split
      · rename_i hj
        exact .inr ⟨(Slot.inUse_iff _).2 (.inl (hstaged j hj).1), rfl, rfl⟩
      · exact .inl rfl
    · rw [hstate, (hseq j).2.1]
      by_cases hi : i = k
      · rw [hi, hstream, hcut, hqmem]
        tauto
      · rw [hqueues i hi, hqmem]
        refine ⟨fun ⟨h1, h2⟩ => ⟨⟨h1, fun ht => hi (h2.symm.trans (hstaged j ht).2)⟩, h2⟩, fun ⟨⟨h1, _⟩, h2⟩ => ⟨h1, h2⟩⟩
    · rw [List.map_congr_left fun j _ => (hseq j).1]
      by_cases hi : i = k
      · rw [hi, hstream]
        exact (hqsorted k).sublist ((List.drop_sublist _ _).map _)
      · rw [hqueues i hi]
        exact hqsorted i
    · rw [honLanes, ← hbooks.issued, hslot]
      split
      · rename_i hj
        simp [hj]
      · rename_i hj
        simp [hj]
  refine ⟨⟨?_, fun b hb => ?_⟩, fun j => ?_, fun i j m hi hj => ?_⟩
  · rw [show d.parser = s.parser from agree hframe]
    exact hbooks'
  · simp only [State.holdsSector, hseq]
    exact hs.held.carried b ((agree (π := State.parser) hframe) ▸ hb)
  · rw [hissued]
    refine List.nodup_append.2 ⟨hs.apart.1 j, ?_, ?_⟩
    · split
      · exact htakenNodup
      · exact .nil
    · rintro x hx y hy rfl
      split at hy
      · exact hnot x hy ⟨j, hx⟩
      · cases hy
  · rw [hissued, List.mem_append] at hi hj
    have hmine : ∀ i, m ∈ (if i = l then taken else []) → i = l ∧ m ∈ taken := fun i h => by
      split at h
      · exact ⟨‹_›, h⟩
      · cases h
    rcases hi with hi | hi <;> rcases hj with hj | hj
    · exact hs.apart.2 i j m hi hj
    · exact absurd ⟨i, hi⟩ (hnot m (hmine j hj).2)
    · exact absurd ⟨j, hj⟩ (hnot m (hmine i hi).2)
    · exact (hmine i hi).1.trans (hmine j hj).1.symm

end

end Sys2Proof.Machine
end

section
/-! The books of the slots through a DONE (R120 to R123, R142, R148). -/

namespace Sys2Proof.Machine

open Sys2Proof

section

variable {s t e : State} {hand : List Nat} {out : Nat → Prop} {l i k : Nat} {r : InFlight} {paid closed : List ReturnParcel}

/-! ## One slot is settled -/

theorem State.SlotBooks.settleSlot_freed (h : s.SlotBooks hand out) (hk : out k) : s.SlotFreed (s.settleSlot k) k := by
  have hissued := (h.issued k).2 hk
  have huse : (s.slot k).inUse = true := (Slot.inUse_iff _).2 (.inr hissued)
  have hframe := s.settleSlot_frame k
  have hcanon : (s.settleSlot k).slotsCanon := closed_slotsCanon.settleSlot k h.canon
  have hflushes : (s.settleDurable k).flushes = s.flushes := agree (s.settleDurable_frame k)
  have hslot : (s.settleDurable k).slot k = s.slot k := State.slot_settleDurable k
  have hslots := State.settleSlot_slot (s := s) (k := k)
  have hindex := State.settleSlot_index (s := s) (k := k)
  have htenant := State.settleSlot_tenant (s := s) (k := k)
  have hsettledDurables := State.settleSlot_durables (s := s) (k := k)
  have hsettledFlushes := State.settleSlot_flushes (s := s) (k := k)
  generalize s.settleSlot k = t at *
  refine ⟨hcanon, hslots, fun j => ?_, fun key => ?_, agree hframe, fun fn => ?_, ⟨fun i hi => ?_, fun i q hi hq => ?_⟩,
    ⟨fun fn hfn => ?_, fun q hmark hq => ?_⟩, agree hframe⟩
  · have hqueue : (t.stream j).queue = (s.stream j).queue := (congrArg Stream.queue (agree (π := (State.stream · j)) hframe) :)
    rw [hqueue]
    refine (List.filter_eq_self.2 fun m hm => ?_).symm
    have hmk : m ≠ k := by
      rintro rfl
      have hstaged := ((h.queues.1 j m).1 hm).1
      rw [hissued] at hstaged
      cases hstaged
    simpa using hmk
  · rw [hindex, State.indexed]
    by_cases hown : Store.find? s.index (identityKey (s.slot k).fn (s.slot k).ns (s.slot k).lba) = some k
    · rw [if_pos hown, Store.find?_erase]
      by_cases hkey : key = identityKey (s.slot k).fn (s.slot k).ns (s.slot k).lba
      · rw [if_pos hkey, if_pos ⟨hkey, hkey ▸ hown⟩]
      · rw [if_neg hkey, if_neg fun hboth => hkey hboth.1]
    · rw [if_neg hown, if_neg]
      rintro ⟨rfl, hfind⟩
      exact hown hfind
  · rw [htenant]
    by_cases hfn : fn = (s.slot k).fn
    · rw [if_pos ⟨hfn, huse⟩, if_pos hfn]
    · rw [if_neg fun hboth => hfn hboth.1, if_neg hfn]
      rfl
  · rw [hsettledDurables]
    exact State.settleDurable_others hi
  · rw [hsettledDurables]
    exact State.settleDurable_self hi hq (h.durablesCounted.1 i q hq).1
  · rw [hsettledFlushes, State.settleFlush_others (by rw [hslot]; exact hfn), hflushes]
  · have hof : (s.settleDurable k).flushOf k = some q := by rw [State.flushOf_settleDurable, State.flushOf, if_pos hmark, hq]
    have hself := State.settleFlush_self hof (h.flushesCounted.1 _ q hq).1
    rw [hslot] at hself
    rw [hsettledFlushes]
    exact hself

theorem State.SlotBooks.settleSlots (ks : List Nat) (h : s.SlotBooks hand out) (hnodup : ks.Nodup) (hks : ∀ k ∈ ks, out k) :
    (s.settleSlots ks).SlotBooks hand fun j => out j ∧ j ∉ ks := by
  induction ks generalizing s out with
  | nil => exact h.congr_out fun j => by simp
  | cons k ks ih =>
    obtain ⟨hknot, hrest⟩ := List.nodup_cons.1 hnodup
    have hk := hks k List.mem_cons_self
    have hfreed := h.free ((Slot.inUse_iff _).2 (.inr ((h.issued k).2 hk))) (h.settleSlot_freed hk)
    refine (ih hfreed hrest fun j hj => ⟨hks j (List.mem_cons_of_mem _ hj), ?_⟩).congr_out fun j => ?_
    · rintro rfl
      exact hknot hj
    · rw [List.mem_cons, not_or, and_assoc]

/-! ## A unit leaves its lane -/

theorem State.erased_cover (hr : (s.lane l).inflight[i]? = some r) : (r :: (s.lane l).inflight.eraseIdx i).Perm (s.lane l).inflight := by
  obtain ⟨hi, rfl⟩ := List.getElem?_eq_some_iff.1 hr
  exact List.getElem_cons_eraseIdx_perm hi

/-- The records `fails` have left lane `l`: their slots have left the slots of the units in flight, and they were no other unit's. -/
theorem State.unitsApart.leave {u : State} {fails rest : List InFlight} (hs : s.unitsApart) (hcover : (fails ++ rest).Perm (s.lane l).inflight)
    (hleft : (u.lane l).inflight = rest) (hothers : ∀ j, j ≠ l → (u.lane j).inflight = (s.lane j).inflight) :
    u.unitsApart ∧ (normalSlots fails).Nodup ∧ (∀ k ∈ normalSlots fails, s.onLanes k)
      ∧ ∀ k, u.onLanes k ↔ s.onLanes k ∧ k ∉ normalSlots fails := by
  have hperm := normalSlots_perm hcover
  rw [normalSlots_append, ← Lane.issuedSlots_eq] at hperm
  have hnodup := hperm.nodup_iff.2 (hs.1 l)
  obtain ⟨hfails, hrest, hapart⟩ := List.nodup_append.1 hnodup
  have hl : (u.lane l).issuedSlots = normalSlots rest := by rw [Lane.issuedSlots_eq, hleft]
  have hj : ∀ j, j ≠ l → (u.lane j).issuedSlots = (s.lane j).issuedSlots := fun j h => by rw [Lane.issuedSlots_eq, hothers j h]; rfl
  have hsub : ∀ j k, k ∈ (u.lane j).issuedSlots → k ∈ (s.lane j).issuedSlots := fun j k hk => by
    by_cases h : j = l
    · subst h
      rw [hl] at hk
      exact hperm.subset (List.mem_append_right _ hk)
    · exact hj j h ▸ hk
  have hfailed : ∀ k ∈ normalSlots fails, k ∈ (s.lane l).issuedSlots := fun k hk => hperm.subset (List.mem_append_left _ hk)
  refine ⟨⟨fun j => ?_, fun j m k hjk hmk => hs.2 j m k (hsub j k hjk) (hsub m k hmk)⟩, hfails, fun k hk => ⟨l, hfailed k hk⟩, fun k => ?_⟩
  · by_cases h : j = l
    · rw [h, hl]
      exact hrest
    · rw [hj j h]
      exact hs.1 j
  · constructor
    · rintro ⟨j, hk⟩
      refine ⟨⟨j, hsub j k hk⟩, fun hkf => ?_⟩
      obtain rfl := hs.2 j l k (hsub j k hk) (hfailed k hkf)
      rw [hl] at hk
      exact hapart k hkf k hk rfl
    · rintro ⟨⟨j, hk⟩, hnot⟩
      refine ⟨j, ?_⟩
      by_cases h : j = l
      · subst h
        rw [hl]
        exact (List.mem_append.1 (hperm.symm.subset hk)).resolve_left hnot
      · rw [hj j h]
        exact hk

/-! ## DONE -/

theorem normalSlots_single (hkind : r.kind = .normal) : normalSlots [r] = r.slots := by simp [normalSlots, hkind]

theorem State.DoneReady.slotLaws (hs : s.SlotLaws) (h : s.DoneReady e l i r paid closed) (hr : (s.lane l).inflight[i]? = some r)
    (hkind : r.kind = .normal) : e.SlotLaws := by
  have hlane : (e.lane l).inflight = (s.lane l).inflight.eraseIdx i := by rw [h.lane]
  obtain ⟨hapart, hnodup, hissued, hleft⟩ := hs.apart.leave (fails := [r]) (State.erased_cover hr) hlane fun j hj => by rw [h.lanes j hj]
  rw [normalSlots_single hkind] at hnodup hissued
  simp only [normalSlots_single hkind] at hleft
  have hsettled := hs.held.books.settleSlots r.slots hnodup hissued
  have hslots := s.settleSlots_slot r.slots
  have hsame := s.settleSlots_frame r.slots
  obtain ⟨hslot, hdurables, hflushes, hindex, htenants⟩ := h.tables
  have hqueue : ∀ j, (e.stream j).queue = (s.stream j).queue := fun j => by
    rw [h.streams]
    split <;> rfl
  have hframe := h.frame
  generalize s.settleSlots r.slots = v at *
  have hvqueue : ∀ j, (v.stream j).queue = (s.stream j).queue := fun j => (congrArg Stream.queue (agree (π := (State.stream · j)) hsame) :)
  have hbooks : e.SlotBooks s.parser.landedSlots e.onLanes := by
    refine (hsettled.alike hslot ⟨fun j => (hqueue j).trans (hvqueue j).symm, hindex, ?_, fun fn => by rw [State.tenant, htenants]; rfl, hdurables, hflushes⟩
      ?_).congr_out hleft
    · exact (agree (π := State.sequence) hframe).trans (agree (π := State.sequence) hsame).symm
    · exact (agree (π := State.credits) hframe).trans (agree (π := State.credits) hsame).symm
  have hparser : e.parser = s.parser := agree hframe
  refine ⟨⟨hparser ▸ hbooks, fun b hb => ?_⟩, hapart⟩
  have hkept : ∀ j, (e.slot j).fn = (s.slot j).fn ∧ (e.slot j).ns = (s.slot j).ns ∧ (e.slot j).lba = (s.slot j).lba := fun j => by
    rw [State.slot, hslot, show Store.getD {} v.slots j = v.slot j from rfl, hslots]
    split <;> exact ⟨rfl, rfl, rfl⟩
  simp only [State.holdsSector, hkept]
  exact hs.held.carried b (hparser ▸ hb)

/-- A DONE of a DUMP record changes no slot (R159, R163). -/
theorem State.Ledger.slotLaws_dumpDone (hs : s.Ledger) (hr : (s.lane l).inflight[i]? = some r) (hkind : r.kind = .dump) :
    ((s.answering l i).recordDone l r).dumpCheck.SlotLaws := by
  have hside := (State.dumpCheck_slotSide _).trans (State.dumpDone_slotSide (s := s) (l := l) (i := i) hkind)
  have hlane := State.dumpDone_lane (l := l) (i := i) hs.lanesCanon hkind
  have hsorted := sorted_of_canon (State.dumpDone_canon (l := l) (i := i) (r := r) hs.lanesCanon)
  generalize (s.answering l i).recordDone l r = v at *
  refine .of_normals hs.slotLaws.apart (fun j => ?_) (hs.slotHeld.of_side hside)
  rw [Lane.normals, Lane.normals, State.dumpCheck_inflight hsorted]
  obtain ⟨waiting, -, h⟩ := hlane j
  rw [h]
  split
  · rename_i hj
    rw [hj, eraseIdx_normals hr hkind]
  · rfl

theorem State.SlotLaws.of_side (h : s.SlotLaws) (hside : t.slotSide = s.slotSide) (hnormals : s.normalsStay t) : t.SlotLaws :=
  .of_normals h.apart hnormals (h.held.of_side hside)

theorem State.SlotLaws.evalCredit (h : s.SlotLaws) : s.evalCredit.SlotLaws := by
  have hframe := s.evalCredit_frame
  exact .of_normals h.apart (.of_lanes (agree hframe))
    (h.held.of_books (agree hframe) h.held.books.evalCredit fun k => (agree (π := (State.slot · k)) hframe :))

theorem State.SlotLaws.dumpCheck (h : s.SlotLaws) (hsorted : Store.sorted s.lanes = true) : s.dumpCheck.SlotLaws :=
  h.of_side s.dumpCheck_slotSide (.of_inflight (State.dumpCheck_inflight hsorted))

theorem State.Ledger.slotLaws_done (hs : s.Ledger) (hr : (s.lane l).inflight[i]? = some r) :
    ((s.answering l i).recordDone l r).dumpCheck.SlotLaws := by
  cases hkind : r.kind with
  | dump => exact hs.slotLaws_dumpDone hr hkind
  | normal =>
    obtain ⟨paid, closed, hready⟩ := s.doneReady l i r
    have hsorted : Store.sorted ((s.answering l i).recordDone l r).lanes = true :=
      sorted_of_canon (State.dumpDone_canon (l := l) (i := i) (r := r) hs.lanesCanon)
    rw [State.recordDone_normal hkind] at hsorted ⊢
    generalize (s.answering l i).unitDone l r = e at *
    exact (hready.slotLaws hs.slotLaws hr hkind).evalCredit.dumpCheck hsorted

end

end Sys2Proof.Machine
end

section
/-! The books of the slots through failures and lane down (R69, R124, R132), and O57 and O58. -/

namespace Sys2Proof.Machine

open Sys2Proof

section

variable {s t u : State} {a : Arriving} {l i j k n : Nat} {r : InFlight} {rs rest : List InFlight} {fails : List (FailReason × InFlight)}

/-! ## The queues once units are merged back (R69) -/

/-- The records among these that are units of the stream. -/
def State.unitsFor (s : State) (rs : List InFlight) (k : Nat) : List InFlight := rs.filter fun r => s.unitStream r == some k

theorem State.requeueUnits_queue_append (k : Nat) : ((s.requeueUnits (rs ++ [r])).stream k).queue
    = if s.unitStream r = some k then s.mergeBySeq r.slots ((s.requeueUnits rs).stream k).queue else ((s.requeueUnits rs).stream k).queue := by
  rw [State.stream_requeueUnits_append]
  split <;> rfl

theorem State.requeueUnits_queue_perm (s : State) (rs : List InFlight) (k : Nat) :
    ((s.requeueUnits rs).stream k).queue.Perm ((s.stream k).queue ++ (s.unitsFor rs k).flatMap InFlight.slots) := by
  induction rs using List.reverseRecOn with
  | nil =>
    rw [State.unitsFor, List.filter_nil, List.flatMap_nil, List.append_nil]
    exact .refl _
  | append_singleton rs r ih =>
    rw [State.requeueUnits_queue_append, State.unitsFor, List.filter_append, List.flatMap_append]
    by_cases hr : s.unitStream r = some k
    · rw [if_pos hr, List.filter_cons_of_pos (by simp [hr]), List.filter_nil, List.flatMap_singleton, ← List.append_assoc]
      exact (s.mergeBySeq_perm _ _).trans (ih.append_right _)
    · rw [if_neg hr, List.filter_cons_of_neg (by simp [hr]), List.filter_nil, List.flatMap_nil, List.append_nil]
      exact ih

theorem State.requeueUnits_queue_sorted (hs : ((s.stream k).queue.map fun j => (s.slot j).seq).Pairwise (· ≤ ·)) (rs : List InFlight) :
    (((s.requeueUnits rs).stream k).queue.map fun j => (s.slot j).seq).Pairwise (· ≤ ·) := by
  induction rs using List.reverseRecOn with
  | nil => exact hs
  | append_singleton rs r ih =>
    rw [State.requeueUnits_queue_append]
    split
    · exact s.mergeBySeq_sorted r.slots ih
    · exact ih

theorem State.kind_of_unitStream (h : s.unitStream r = some k) : r.kind = .normal := by
  unfold State.unitStream at h
  split at h
  · assumption
  · cases h

theorem State.mem_unitsFor (hx : k ∈ (s.unitsFor rs j).flatMap InFlight.slots) : ∃ r ∈ rs, s.unitStream r = some j ∧ k ∈ r.slots := by
  obtain ⟨r, hr, hk⟩ := List.mem_flatMap.1 hx
  obtain ⟨hmem, hunit⟩ := List.mem_filter.1 hr
  exact ⟨r, hmem, by simpa using hunit, hk⟩

theorem State.unitsFor_sublist (s : State) (rs : List InFlight) (j : Nat) :
    ((s.unitsFor rs j).flatMap InFlight.slots).Sublist (normalSlots rs) := by
  refine List.Sublist.flatMap (List.monotone_filter_right rs fun r hr => ?_) _
  rw [beq_iff_eq] at hr ⊢
  exact State.kind_of_unitStream hr

theorem pairwise_lt_of_nodup_map {f : Nat → Nat} {ks : List Nat} (hsorted : (ks.map f).Pairwise (· ≤ ·)) (hnodup : ks.Nodup)
    (hinj : ∀ j ∈ ks, ∀ k ∈ ks, f j = f k → j = k) : (ks.map f).Pairwise (· < ·) :=
  (hsorted.and (List.Nodup.map_on (fun j hj k hk h => hinj j hj k hk h) hnodup)).imp fun h => Nat.lt_of_le_of_ne h.1 h.2

/-! ## Failures -/

theorem State.Ledger.unitStream (hs : s.Ledger) (hr : r ∈ (s.lane l).inflight) (hkind : r.kind = .normal) (hk : k ∈ r.slots) :
    s.unitStream r = some (s.slot k).stream := by
  obtain ⟨id, g, hseg, hfind, -, hown⟩ := hs.segments.2.1 l r hr hkind
  rw [State.unitStream_normal hkind hseg hfind, hown k hk]

theorem mem_normalSlots_fails : (fails.map Prod.snd).any (fun r => r.kind == .normal && r.slots.contains k) = true
    ↔ k ∈ normalSlots (fails.map Prod.snd) := by
  rw [mem_normalSlots, List.any_eq_true]
  refine exists_congr fun r => ?_
  simp

theorem State.FailureMade.queue (h : s.FailureMade u l n fails rest) (j : Nat) :
    (u.stream j).queue = ((s.requeueUnits (fails.map Prod.snd)).stream j).queue := by
  rw [h.streams]
  rfl

theorem State.FailureMade.slotLaws (hs : s.Ledger) (h : s.FailureMade u l n fails rest) : u.SlotLaws := by
  have hbooks := hs.slotBooks
  obtain ⟨hqmem, hqsorted⟩ := hbooks.queues
  obtain ⟨hapart, hnodup, hissued, hleft⟩ := hs.slotLaws.apart.leave h.cover h.left h.others
  have hsteady := h.steady
  have hcanon : u.slotsCanon := h.canonical.slots
  have hqueue := h.queue
  have hslot : ∀ k, u.slot k = if k ∈ normalSlots (fails.map Prod.snd) then { s.slot k with state := .staged } else s.slot k := fun k => by
    rw [h.slots]
    simp only [mem_normalSlots_fails]
  have hfails : ∀ r ∈ fails.map Prod.snd, r ∈ (s.lane l).inflight := fun r hr => h.cover.subset (List.mem_append_left _ hr)
  generalize fails.map Prod.snd = rs at *
  have hstate : ∀ k ∈ normalSlots rs, (s.slot k).state = .issued := fun k hk => (hbooks.issued k).2 (hissued k hk)
  have hkept : ∀ k, (u.slot k).seq = (s.slot k).seq ∧ (u.slot k).stream = (s.slot k).stream ∧ (u.slot k).fn = (s.slot k).fn
      ∧ (u.slot k).ns = (s.slot k).ns ∧ (u.slot k).lba = (s.slot k).lba := fun k => by
    rw [hslot]
    split <;> exact ⟨rfl, rfl, rfl, rfl, rfl⟩
  have hmem : ∀ j k, k ∈ (u.stream j).queue ↔ k ∈ (s.stream j).queue ∨ k ∈ normalSlots rs ∧ (s.slot k).stream = j := fun j k => by
    rw [hqueue, (s.requeueUnits_queue_perm rs j).mem_iff, List.mem_append]
    refine or_congr_right ⟨fun hk => ?_, fun ⟨hk, hj⟩ => ?_⟩
    · obtain ⟨r, hr, hunit, hkr⟩ := State.mem_unitsFor hk
      have hkind := State.kind_of_unitStream hunit
      exact ⟨mem_normalSlots.2 ⟨r, hr, hkind, hkr⟩, Option.some.inj ((hs.unitStream (hfails r hr) hkind hkr).symm.trans hunit)⟩
    · obtain ⟨r, hr, hkind, hkr⟩ := mem_normalSlots.1 hk
      refine List.mem_flatMap.2 ⟨r, List.mem_filter.2 ⟨hr, ?_⟩, hkr⟩
      rw [hs.unitStream (hfails r hr) hkind hkr, hj]
      exact beq_self_eq_true _
  have hinUse : ∀ j k, k ∈ (u.stream j).queue → (s.slot k).inUse = true := fun j k hk => by
    rcases (hmem j k).1 hk with hk | ⟨hk, -⟩
    · exact (Slot.inUse_iff _).2 (.inl ((hqmem j k).1 hk).1)
    · exact (Slot.inUse_iff _).2 (.inr (hstate k hk))
  have hbooks' : u.SlotBooks s.parser.landedSlots u.onLanes := by
    refine hbooks.restate hcanon (fun k => ?_) ⟨fun j k => ?_, fun j => ?_⟩ (fun k => ?_) (agree hsteady) (agree hsteady)
      (fun fn => congrArg Tenant.stagedCount (agree (π := (State.tenant · fn)) hsteady :)) (agree hsteady) (agree hsteady) (agree hsteady)
    · rw [hslot]
      split
      · rename_i hk
        exact .inr ⟨(Slot.inUse_iff _).2 (.inr (hstate k hk)), rfl, rfl⟩
      · exact .inl rfl
    · rw [hmem, hqmem, (hkept k).2.1, hslot]
      split
      · rename_i hk
        simp [hstate k hk, hk]
      · rename_i hk
        simp [hk]
    · rw [List.map_congr_left fun k _ => (hkept k).1]
      refine pairwise_lt_of_nodup_map ?_ ?_ fun m hm k hk heq => hbooks.sequences.2 m k (hinUse j m hm) (hinUse j k hk) heq
      · rw [hqueue]
        exact State.requeueUnits_queue_sorted ((hqsorted j).imp Nat.le_of_lt) rs
      · rw [hqueue, (s.requeueUnits_queue_perm rs j).nodup_iff]
        refine List.nodup_append.2 ⟨hbooks.queue_nodup j, hnodup.sublist (s.unitsFor_sublist rs j), ?_⟩
        rintro x hx y hy rfl
        have hstaged := ((hqmem j x).1 hx).1
        rw [hstate x ((s.unitsFor_sublist rs j).subset hy)] at hstaged
        cases hstaged
    · rw [hleft, ← hbooks.issued, hslot]
      split
      · rename_i hk
        simp [hk]
      · rename_i hk
        simp [hk]
  have hparser : u.parser = s.parser := agree hsteady
  refine ⟨⟨hparser ▸ hbooks', fun b hb => ?_⟩, hapart⟩
  simp only [State.holdsSector, hkept]
  exact hs.slotHeld.carried b (hparser ▸ hb)

theorem State.SlotLaws.durablePads (h : u.SlotLaws) : u.durablePads.SlotLaws := by
  have hframe := u.durablePads_frame
  exact .of_normals h.apart (.of_lanes (agree hframe))
    (h.held.of_books (agree hframe) h.held.books.durablePads fun k => (agree (π := (State.slot · k)) hframe :))

theorem State.FailureMade.slotLaws_end (hs : s.Ledger) (h : s.FailureMade u l n fails rest) : u.endFailure.SlotLaws := by
  have hlanes : u.durablePads.endRequests.lanesCanon := closed_lanesCanon.endRequests (closed_lanesCanon.durablePads h.canonical.lanes)
  exact (h.slotLaws hs).durablePads.endRequests.dumpCheck (sorted_of_canon hlanes)

end

end Sys2Proof.Machine
end

section
/-! The units in flight stay through the commands that issue and answer none; O57 and O58. -/

namespace Sys2Proof.Machine

open Sys2Proof

section

variable {s t u : State} {a : Arriving} {l n : Nat} {c : Instr}

/-! ## The units in flight stay -/

/-- Every record in flight stays. -/
def State.inflightStays (s t : State) : Prop := ∀ l, (t.lane l).inflight = (s.lane l).inflight

namespace State.inflightStays

theorem refl (s : State) : s.inflightStays s := fun _ => rfl

theorem trans (h : s.inflightStays t) (h' : t.inflightStays u) : s.inflightStays u := fun l => (h' l).trans (h l)

theorem of_lanes (h : t.lanes = s.lanes) : s.inflightStays t := fun l => by rw [State.lane, h]; rfl

theorem endRequests (u : State) : u.inflightStays u.endRequests := fun l => (congrArg Lane.inflight (u.endRequests_ends.lanes l).2 :)

theorem of_unitsStay (h : s.unitsStay t) : s.inflightStays t := fun l => (h l).1

theorem of_endsBeside (h : s.EndsBeside t) : s.inflightStays t := by
  rcases h with h | ⟨u, hbeside, rfl⟩
  · exact .of_lanes h.beside.lanes
  · exact (of_lanes hbeside.lanes).trans (endRequests u)

theorem take {want : Arriving → Bool} {act : State → Arriving → State} (hact : ∀ u a, State.inflightStays u (act u a)) (s : State) :
    s.inflightStays (s.take want act) :=
  State.take_keeps (P := fun u => s.inflightStays u) (fun _ _ hu => hu) (fun u a _ hu => hu.trans (hact u a)) (refl s)

theorem releaseStream (s : State) (a : Arriving) : s.inflightStays (s.releaseStream a) := by
  rcases s.releaseStream_cases a with h | ⟨-, h⟩ <;> rw [h]
  · exact .of_lanes rfl
  · have hunheld : s.inflightStays (s.unheld a) := .of_lanes rfl
    exact hunheld.trans (endRequests _)

theorem rotateStream (s : State) (a : Arriving) : s.inflightStays (s.rotateStream a) := by
  rcases s.rotateStream_cases a with h | ⟨-, h⟩ <;> rw [h]
  · exact .of_lanes rfl
  · have hreplied := State.Beside.tailReplied s a
    generalize s.tailReplied a = v at *
    have hrotated : v.inflightStays (v.rotate a.stream) := .of_lanes (agree (v.rotate_frame a.stream))
    exact ((of_lanes hreplied.lanes).trans hrotated).trans (endRequests _)

theorem serve (l n : Nat) (s : State) : s.inflightStays (State.serve l n s) := by
  induction n generalizing s with
  | zero => exact refl s
  | succ n ih =>
    unfold State.serve
    split
    · rename_i hcan
      split
      · exact refl s
      · rename_i k _
        refine trans (fun j => ?_) (ih _)
        cases hnormal : (s.lane l).normal with
        | nil => simp [Lane.canGrant, hnormal] at hcan
        | cons g gs =>
          rw [State.openFrom_lane (s := { s with starved := s.starved.erase k }) hnormal]
          split
          · rename_i hj
            rw [hj]
            rfl
          · rfl
    · exact refl s

theorem grantBlocks (s : State) (a : Arriving) : s.inflightStays (s.grantBlocks a) := by
  have hreply : ∀ status body, s.inflightStays (s.reply a status body) := fun _ _ => .of_lanes rfl
  by_cases hbad : a.grantsBad = true
  · rw [State.grantBlocks_bad hbad]
    exact hreply _ _
  by_cases hup : (s.lane a.lane).up = true
  · by_cases hfull : (s.lane a.lane).grantsFull a.grantKind a.entryCount = true
    · rw [State.grantBlocks_full hbad hup hfull]
      exact hreply _ _
    · have hlane : a.lane < 8 := by
        rw [a.grantsBad_iff] at hbad
        omega
      have hgranting : s.inflightStays (s.granting a) := of_unitsStay (State.unitsStay_granting hlane)
      rw [State.grantBlocks_ok hbad hup hfull]
      split
      · exact (hgranting.trans (serve _ _ _)).trans (.of_lanes (agree (State.poolLowNotices_frame _)))
      · exact hgranting
  · rw [State.grantBlocks_down hbad (Bool.not_eq_true _ ▸ hup)]
    exact hreply _ _

theorem clearPart (s : State) (a : Arriving) : s.inflightStays (s.clearPart a) := by
  have hreply : ∀ status, s.inflightStays (s.reply a status) := fun _ => .of_lanes rfl
  cases hquiet : s.quiet with
  | false =>
    rw [State.clearPart_notQuiet hquiet]
    exact hreply _
  | true =>
    rw [State.clearPart_quiet hquiet]
    exact (hreply .ok).trans (State.emptied_inflight _)

theorem takeMalformed (s : State) (l : Nat) : s.inflightStays (s.takeMalformed l) := by
  rcases s.takeMalformed_cases l with h | h <;> rw [h]
  · exact refl s
  · intro j
    rw [s.tookStray_lane l]
    split
    · rename_i hj
      rw [hj]
    · rfl

theorem laneArrives (s : State) (hl : l < 8) (head : Unit16) : s.inflightStays (s.laneArrives l head) := by
  unfold State.laneArrives
  split
  · exact of_unitsStay (State.unitsStay_updLane (f := fun x => { x with waiting := x.waiting ++ [{ head := head, arrival := s.arrivals }] }) hl fun _ => rfl)
  · exact .of_lanes rfl

theorem pfailTo (hcanon : s.lanesCanon) (level : Bool) : s.inflightStays (s.pfailTo level) := by
  rcases s.pfailTo_cases level with h | ⟨-, h⟩ <;> rw [h]
  · exact .of_lanes rfl
  · have hlevel : (s.pfailAt level).lanesCanon := hcanon
    have hbegun : (s.pfailAt level).dumpBegun.lanesCanon := by
      rw [State.lanesCanon, State.dumpBegun_lanes]
      exact hlevel
    have hlanes : s.inflightStays (s.pfailAt level).dumpBegun := .of_lanes (s.pfailAt level).dumpBegun_lanes
    rw [State.enterDumping_eq]
    generalize (s.pfailAt level).dumpBegun = v at *
    exact (hlanes.trans (fun l => v.takeGrant_inflight 0 l)).trans
      (State.dumpCheck_inflight (sorted_of_canon (State.takeGrant_canon v 0 hbegun)))

end State.inflightStays

theorem State.Ledger.normals_dumpUnit (hs : s.Ledger) (h : s.mayDumpUnit = true) : s.normalsStay s.dumpUnit := by
  obtain ⟨⟨taken, g, hready⟩, -⟩ := State.mayDumpUnit_ready h
  have hg : g ∈ s.dump.taken := by rw [hready.taken]; exact List.mem_append_right _ List.mem_cons_self
  rw [State.dumpUnit_eq (current_append hready.taken)]
  exact (State.sendWith_lanes hs hg _ (fun q hq => mem_assignPosition hq) _ _ _ _).2.1

theorem State.Ledger.normals_trailerUnit (hs : s.Ledger) (h : s.mayTrailer = true) : s.normalsStay s.trailerUnit := by
  obtain ⟨⟨taken, g, hready⟩, -⟩ := State.mayTrailer_ready h
  have hg : g ∈ s.dump.taken := by rw [hready.taken]; exact List.mem_append_right _ List.mem_cons_self
  rw [State.trailerUnit_eq hready.taken]
  refine State.normalsStay.trans (State.sendWith_lanes hs hg _ (fun q hq => ?_) _ _ _ _).2.1
    (.of_inflight (State.dumpCheck_inflight (sorted_of_canon (State.lanesCanon_sendWith hs.lanesCanon _ _ _ _ _ _))))
  rcases List.mem_append.1 (show q ∈ taken ++ [g.more] from hq) with hq | hq
  · exact ⟨q, by rw [hready.taken]; exact List.mem_append_left _ hq, rfl⟩
  · rw [List.mem_singleton.1 hq]
    exact ⟨g, hg, rfl⟩

/-- A command that moves units between staging and the lanes, or resets the part. -/
def movesUnits : Instr → Bool
  | .issue _ | .answer _ | .expiry _ _ | .laneflt _ _ | .resetAssert _ _ | .resetRelease => true
  | _ => false

theorem State.inflight_after (hcanon : s.lanesCanon) (hc : movesUnits c = false) (hdump : c ≠ .dumpUnitSend) (htrailer : c ≠ .trailerSend) :
    s.inflightStays (s.after c) := by
  cases hkeeps : keepsBooks c with
  | true => exact .of_endsBeside (State.after_endsBeside hkeeps s)
  | false =>
    cases c
    case setParam =>
      exact .of_unitsStay (State.unitsStay_take (act := fun s a => s.setParam a id)
        (fun s a _ => State.unitsStay_setParam fun _ _ => State.unitsStay_of_lanes rfl) s)
    case setPoolLowMark =>
      exact .of_unitsStay (State.unitsStay_take (act := fun s a => s.setParam a (State.rearm a.paramLane))
        (fun s a hwant => State.unitsStay_setPoolLowMark s a (Arriving.param_of_setsParam hwant)) s)
    case restartLane =>
      exact .of_unitsStay (State.unitsStay_take (act := State.restartLane) (fun s a _ => State.unitsStay_restartLane s a) s)
    case answerArrival lane head => exact .laneArrives s lane.isLt head
    case putStream => exact .of_lanes (s.after_agree _)
    case holdStream => exact .of_lanes (s.after_agree _)
    case unbindStream => exact .of_lanes (s.after_agree _)
    case releaseStream => exact .take (act := State.releaseStream) State.inflightStays.releaseStream s
    case rotateStream => exact .take (act := State.rotateStream) State.inflightStays.rotateStream s
    case grantBlocks => exact .take (act := State.grantBlocks) State.inflightStays.grantBlocks s
    case clearPart => exact .take (act := State.clearPart) State.inflightStays.clearPart s
    case malformedLaneParcel lane => exact .takeMalformed s lane.val
    case dumpUnitSend => exact absurd rfl hdump
    case trailerSend => exact absurd rfl htrailer
    case pfail level => exact .pfailTo hcanon level
    all_goals first | exact absurd hkeeps.symm Bool.false_ne_true | exact absurd hc.symm Bool.false_ne_true

theorem State.Ledger.normals_after (hs : s.Ledger) (hc : movesUnits c = false) : s.normalsStay (s.after c) := by
  by_cases hdump : c = .dumpUnitSend
  · subst hdump
    show s.normalsStay (if s.mayDumpUnit then s.dumpUnit else s)
    split
    · exact hs.normals_dumpUnit ‹_›
    · exact .of_lanes rfl
  by_cases htrailer : c = .trailerSend
  · subst htrailer
    show s.normalsStay (if s.mayTrailer then s.trailerUnit else s)
    split
    · exact hs.normals_trailerUnit ‹_›
    · exact .of_lanes rfl
  · exact .of_inflight (State.inflight_after hs.lanesCanon hc hdump htrailer)

/-! ## Every command -/

theorem State.Ledger.slotHeld_after (hs : s.Ledger) (hc : movesUnits c = false) : (s.after c).SlotHeld s.onLanes := by
  have hheld := hs.slotHeld
  have hside : (s.after c).slotSide = s.slotSide → (s.after c).SlotHeld s.onLanes := hheld.of_side
  cases htakes : takesParcel c with
  | true =>
    by_cases hwrite : c = .write
    · exact hwrite ▸ hheld.write hs.landing
    · exact hheld.after_taking htakes hwrite
  | false =>
    cases c
    case landing block => exact hheld.landBlock block
    case heldWriteRetaking => exact hheld.retake hs.landing
    case abortMark => exact hheld.abortParcel
    case abortedWriteRelease => exact hheld.releaseAborted
    case parcelDiscarded => exact hheld.discardParcel
    case parcelHeadArrival head body => exact hheld.headArrives head body
    case lingerClockExpiry => exact hheld.lingerExpires
    case creditLingerExpiry => exact hheld.creditExpires
    case pfail level => exact hheld.pfailTo level
    all_goals first
      | exact hside (s.after_agree _)
      | exact absurd htakes.symm Bool.false_ne_true
      | exact absurd hc.symm Bool.false_ne_true

theorem State.Ledger.slotLaws_after (hs : s.Ledger) (c : Instr) : (s.after c).SlotLaws := by
  have hreset : c = .resetRelease ∨ (∃ r l, c = .resetAssert r l) → (s.after c).SlotLaws := fun hc => by
    rcases s.after_reset_bare hc with hsame | hbare
    · rw [hsame]
      exact hs.slotLaws
    · exact (hbare.ledger ((State.canonical_iff _).2 (((State.canonical_iff s).1 hs.canonical).after c))).slotLaws
  cases hc : movesUnits c with
  | false => exact .of_normals hs.slotLaws.apart (hs.normals_after hc) (hs.slotHeld_after hc)
  | true =>
    cases c
    case resetAssert r l => exact hreset (.inr ⟨r, l, rfl⟩)
    case resetRelease => exact hreset (.inl rfl)
    case issue lane =>
      show (s.issueOn lane.val).SlotLaws
      rcases hs.issueOn_made lane.val with h | ⟨d, p, k, id, g, n, hmade, h⟩
      · rw [h]
        exact hs.slotLaws
      · have hslots : (s.issueOn lane.val).slots = d.slots := by rw [h]; exact agree d.endRequests_frame
        have hd : d.slotsCanon := by
          rw [State.slotsCanon, ← hslots]
          exact closed_slotsCanon.issueOn lane.val hs.slotBooks.canon
        rw [h]
        exact (hmade.slotLaws hs.slotLaws hd).endRequests
    case answer lane =>
      show (s.takeAnswer lane.val).SlotLaws
      rcases s.takeAnswer_cases lane.val with h | ⟨-, h | ⟨i, r, hr, h | ⟨why, h⟩⟩⟩ <;> rw [h]
      · exact hs.slotLaws
      · refine hs.slotLaws.of_side rfl (.of_inflight fun j => ?_)
        rw [s.tookStray_lane lane.val]
        split
        · rename_i hj
          rw [hj]
        · rfl
      · exact hs.slotLaws_done hr
      · obtain ⟨rest, hmade⟩ := hs.answerFailed (why := why) hr
        exact hmade.slotLaws_end hs
    case expiry lane i =>
      show (s.expireRecord lane.val i).SlotLaws
      rcases s.expireRecord_cases lane.val i with h | ⟨r, hr, -, h⟩ <;> rw [h]
      · exact hs.slotLaws
      · obtain ⟨fails, rest, n, u, hmade, heq⟩ := hs.expired_made hr
        rw [heq]
        exact hmade.slotLaws_end hs
    case laneflt lane level =>
      show (s.lanefltTo lane.val level).SlotLaws
      rcases s.lanefltTo_cases lane.val level with h | ⟨-, -, -, -, h⟩ <;> rw [h]
      · exact hs.slotLaws.of_side rfl (.of_lanes rfl)
      · obtain ⟨fails, rest, n, u, hmade, heq⟩ := hs.laneflt_made lane.isLt
        rw [heq]
        exact hmade.slotLaws_end hs
    all_goals exact absurd hc Bool.false_ne_true

theorem State.SlotLaws.places (h : s.SlotLaws) :
    s.landingSlotsLawful ∧ s.queuesLawful ∧ s.issuedSlotsLawful ∧ s.sequencesLawful ∧ s.indexLawful := by
  obtain ⟨⟨hbooks, hcarried⟩, hapart⟩ := h
  exact ⟨⟨hbooks.small, hbooks.nodup, hbooks.landing, hcarried, hbooks.unused⟩, hbooks.queues, ⟨hbooks.issued, hapart⟩, hbooks.sequences,
    hbooks.index⟩

end

/-- Settles O57: one invariant of the slots' books, which each command keeps. -/
theorem stepKeepsSlotPlacesAndIndex : Obligations.StepKeepsSlotPlacesAndIndex := fun _ _ hs hstep =>
  (step_gives (P := State.Ledger) (Q := State.SlotLaws) (fun _ _ h => h.slotLaws.of_side rfl (.of_lanes rfl)) (fun _ q h => h.withPending q)
    (fun c _ h => h.slotLaws_after c) hs hstep).places

/-- Settles O58: the counts are part of the slots' books. -/
theorem stepKeepsCounts : Obligations.StepKeepsCounts := fun _ _ hs hstep =>
  (step_gives (P := State.Ledger) (Q := State.SlotLaws) (fun _ _ h => h.slotLaws.of_side rfl (.of_lanes rfl)) (fun _ q h => h.withPending q)
    (fun c _ h => h.slotLaws_after c) hs hstep).held.books.counts

end Sys2Proof.Machine
end

section
/-! The end of an accepted WRITE: pads, credit evaluation and segment requests (R30, R49, R56, R73, R74). -/

namespace Sys2Proof.Machine

open Sys2Proof

section

variable {s t u v : State} {a : Arriving} {before : List ReturnParcel} {i n k : Nat}

/-! ## The acts before the credits -/

/-- The fields, queues and tails aside, that the acts of an accepted WRITE before its credits leave as they were. -/
def State.endFields (s : State) : State :=
  { now := s.now, part := s.part, params := s.params, segments := s.segments, nextSegment := s.nextSegment, lanes := s.lanes,
    laneLinks := s.laneLinks, starved := s.starved, due := s.due, credits := s.credits, creditTimer := s.creditTimer }

/-- `v`, with `before` enqueued and the fields of `u` else, is what an accepted WRITE makes of `s` before its credits. -/
structure State.WritePadded (s u v : State) (before : List ReturnParcel) : Prop where
  same : v = { u with returns := before }
  fields : v.endFields = s.endFields
  streams : ∀ j, (v.stream j).standing = (s.stream j).standing

/-- The credit evaluation, when the event from `s` to `v` freed a slot (R30, R49). -/
def State.creditedSince (v s : State) : State := if s.freeSlots < v.freeSlots then v.evalCredit else v

theorem State.writeCredited_eq (s : State) (a : Arriving) : s.writeCredited a = (s.writeRecorded a).durablePads.pressure.creditedSince s := rfl

theorem State.creditedSince_frame (v s : State) : (v.creditedSince s).butSendCredit = v.butSendCredit := by
  unfold State.creditedSince
  split
  · exact v.evalCredit_frame
  · rfl

theorem State.creditParcels_congr (h : t.freeSlots = u.freeSlots) : s.creditParcels t = s.creditParcels u := by
  rw [State.creditParcels, State.creditParcels, State.creditDue, State.creditDue, h]

theorem State.creditsFollow_congr (h : t.freeSlots = u.freeSlots) (hcredits : t.credits = u.credits) (htimer : t.creditTimer = u.creditTimer) :
    s.creditsFollow t ↔ s.creditsFollow u := by
  rw [State.creditsFollow, State.creditsFollow, State.creditDue, State.creditDue, h, hcredits, htimer]

theorem State.WritePadded.credited (h : s.WritePadded u v before) (hrun : s.part = .run) :
    (if s.freeSlots < (v.creditedSince s).freeSlots then s.creditsFollow (v.creditedSince s)
        else (v.creditedSince s).credits = s.credits ∧ (v.creditedSince s).creditTimer = s.creditTimer)
      ∧ (v.creditedSince s).returns = before ++ if s.freeSlots < (v.creditedSince s).freeSlots then s.creditParcels (v.creditedSince s) else [] := by
  have hfields := h.fields
  have hreturns : v.returns = before := by rw [h.same]
  have hfree : (v.creditedSince s).freeSlots = v.freeSlots := State.freeSlots_congr (agree (v.creditedSince_frame s))
  rw [hfree]
  unfold State.creditedSince
  by_cases hrose : s.freeSlots < v.freeSlots
  · rw [if_pos hrose, if_pos hrose, if_pos hrose]
    obtain ⟨hfollows, hpaid, -⟩ := State.evalCredit_follows (s := s) (u := v) ((agree (π := State.part) hfields).trans hrun)
      (agree (π := State.credits) hfields) (agree (π := State.creditTimer) hfields) (agree (π := State.now) hfields)
      (agree (π := State.params) hfields)
    exact ⟨hfollows, hreturns ▸ hpaid⟩
  · rw [if_neg hrose, if_neg hrose, if_neg hrose, List.append_nil]
    exact ⟨⟨agree (π := State.credits) hfields, agree (π := State.creditTimer) hfields⟩, hreturns⟩

/-- What neither the segment requests nor the credit engine change is that of the state before the credits. -/
theorem State.eq_of_ended {w : State} (hframe : t.butEndRequests = w.butEndRequests) (hdue : t.due = [])
    (hcredit : w.butSendCredit = u.butSendCredit) : t = { u with
      streams := t.streams, starved := t.starved, segments := t.segments, nextSegment := t.nextSegment, lanes := t.lanes,
      returns := t.returns, credits := t.credits, creditTimer := t.creditTimer, due := [], draws := t.draws } := by
  have hended := State.eq_of_butEndRequests hframe hdue
  have hcredits : t.credits = w.credits := agree hframe
  have htimer : t.creditTimer = w.creditTimer := agree hframe
  have hended' : t = { w with
      streams := t.streams, starved := t.starved, segments := t.segments, nextSegment := t.nextSegment, lanes := t.lanes,
      returns := t.returns, credits := t.credits, creditTimer := t.creditTimer, due := [], draws := t.draws } := by
    rw [hcredits, htimer]
    exact hended
  exact hended'.trans (congrArg (fun x : State => { x with
    streams := t.streams, starved := t.starved, segments := t.segments, nextSegment := t.nextSegment, lanes := t.lanes,
    returns := t.returns, credits := t.credits, creditTimer := t.creditTimer, due := [], draws := t.draws }) hcredit)

theorem Stream.requests_of_standing {t r : Stream} (h : t.standing = r.standing) :
    t.state = r.state ∧ t.openSeg = r.openSeg ∧ t.lastLane = r.lastLane ∧ t.laneSet = r.laneSet :=
  ⟨(congrArg Stream.state h :), (congrArg Stream.openSeg h :), (congrArg Stream.lastLane h :), (congrArg Stream.laneSet h :)⟩

theorem State.WritePadded.ends (h : s.WritePadded u v before) (hrun : s.part = .run) :
    s.WriteEnds u (v.creditedSince s).endRequests before s.Ledger := by
  obtain ⟨hcredits, hreturns⟩ := h.credited hrun
  have hcredit := v.creditedSince_frame s
  obtain ⟨hsame, hfields, hstanding⟩ := h
  generalize v.creditedSince s = w at *
  have hframe := w.endRequests_frame
  have hends := w.endRequests_ends
  have hwstream : ∀ j, w.stream j = v.stream j := fun j => (agree (π := (State.stream · j)) hcredit :)
  have hvstream : ∀ j, v.stream j = u.stream j := fun j => by rw [hsame]; rfl
  have hfree : w.endRequests.freeSlots = w.freeSlots := State.freeSlots_congr (agree hframe)
  have hmade := State.requestsMade (s := s) (u := w) ((agree hcredit).trans (agree hfields))
    (fun k => Stream.requests_of_standing (by rw [hwstream]; exact hstanding k)) ((agree hcredit).trans (agree hfields))
    (fun l => (agree (π := (State.lane · l)) hcredit).trans (agree (π := (State.lane · l)) hfields)) ((agree hcredit).trans (agree hfields))
    ((agree hcredit).trans (agree hfields)) ((agree hcredit).trans (agree hfields))
  refine ⟨fun j => ?_, ?_, ?_, ?_⟩
  · rw [← hvstream, ← hwstream]
    exact hends.streams j
  · exact State.eq_of_ended (hframe := hframe) w.endRequests_due (hcredit.trans (by rw [hsame]; rfl))
  · rw [hfree, State.creditsFollow_congr hfree (agree hframe) (agree hframe), show w.endRequests.credits = w.credits from agree hframe,
      show w.endRequests.creditTimer = w.creditTimer from agree hframe]
    exact hcredits
  · rw [hfree, State.creditParcels_congr hfree, ← hreturns]
    exact hmade

/-! ## The pads and the parcel (R42, R73, R74) -/

theorem State.padStream_enqueue (s : State) (p : ReturnParcel) (k : Nat) : (s.enqueue p).padStream k = (s.padStream k).enqueue p := by
  have hstream : (s.enqueue p).stream k = s.stream k := rfl
  unfold State.padStream
  rw [hstream]
  split <;> rfl

theorem State.durablePads_enqueue (s : State) (p : ReturnParcel) : (s.enqueue p).durablePads = s.durablePads.enqueue p := by
  have hlinger : (s.enqueue p).params.durableLinger = s.params.durableLinger := rfl
  unfold State.durablePads
  rw [hlinger]
  split
  · refine List.foldl_hom (State.enqueue · p) fun s k => ?_
    have htail : (s.enqueue p).tailDurable ((s.enqueue p).stream k) = s.tailDurable (s.stream k) := rfl
    rw [htail]
    split
    · exact s.padStream_enqueue p k
    · rfl
  · rfl

theorem State.pressure_enqueue (s : State) (p : ReturnParcel) : (s.enqueue p).pressure = s.pressure.enqueue p := by
  have hfree : (s.enqueue p).freeSlots < (s.enqueue p).params.pressureMark ↔ s.freeSlots < s.params.pressureMark := Iff.rfl
  have hstream : (s.enqueue p).pressureStream = s.pressureStream := rfl
  unfold State.pressure
  simp only [hfree, hstream]
  split
  · split
    · rfl
    · exact s.padStream_enqueue p _
  · rfl

theorem State.padded_standing (w : State) (j : Nat) : (w.durablePads.pressure.stream j).standing = (w.stream j).standing :=
  ((State.Beside.durablePads w).trans (.pressure _)).streams j

theorem State.padded_frame (w : State) : w.durablePads.pressure.butSetStream = w.butSetStream :=
  (State.pressure_frame _).trans w.durablePads_frame

theorem State.createDurable_standing (w : State) (a : Arriving) (first j : Nat) : (w.createDurable a first).stream j = w.stream j :=
  agree (π := (State.stream · j)) (w.createDurable_frame a first)

theorem State.writePadded_staged (s : State) (a : Arriving) :
    s.WritePadded (s.beforeSector a a.landed.length).durablePads.pressure
      ((s.beforeSector a a.landed.length).enqueue (.landed a.tag a.fn .ok a.count s.sequence)).durablePads.pressure
      (s.returns ++ [.landed a.tag a.fn .ok a.count s.sequence]) := by
  have hstanding := State.beforeSector_standing (s := s) (a := a) (Nat.le_refl _)
  have hframe := s.beforeSector_frame a a.landed.length
  generalize s.beforeSector a a.landed.length = w at *
  have hpadded := w.padded_frame
  have hpaddedStanding := w.padded_standing
  rw [State.durablePads_enqueue, State.pressure_enqueue]
  generalize w.durablePads.pressure = u at *
  have hreturns : u.returns = s.returns := (agree (π := State.returns) hpadded).trans (agree (π := State.returns) hframe :)
  refine ⟨?_, (agree (π := State.endFields) hpadded).trans (agree (π := State.endFields) hframe :), fun j => (hpaddedStanding j).trans (hstanding j)⟩
  rw [← hreturns]
  rfl

theorem State.writePadded_durable (s : State) (a : Arriving) :
    s.WritePadded ((s.beforeSector a a.landed.length).createDurable a s.sequence).durablePads.pressure
      ((s.beforeSector a a.landed.length).createDurable a s.sequence).durablePads.pressure s.returns := by
  have hstanding := State.beforeSector_standing (s := s) (a := a) (Nat.le_refl _)
  have hframe := s.beforeSector_frame a a.landed.length
  generalize s.beforeSector a a.landed.length = w at *
  have hcreated := w.createDurable_frame a s.sequence
  have hstream := w.createDurable_standing a s.sequence
  generalize w.createDurable a s.sequence = d at *
  have hpadded := d.padded_frame
  have hpaddedStanding := d.padded_standing
  generalize d.durablePads.pressure = u at *
  have hreturns : u.returns = s.returns :=
    ((agree (π := State.returns) hpadded).trans (agree (π := State.returns) hcreated)).trans (agree (π := State.returns) hframe :)
  refine ⟨by rw [← hreturns], ?_, fun j => ?_⟩
  · exact ((agree (π := State.endFields) hpadded).trans (agree (π := State.endFields) hcreated)).trans (agree (π := State.endFields) hframe :)
  · rw [hpaddedStanding, hstream, hstanding]

/-! ## An accepted WRITE -/

theorem State.acceptWrite_staged (hnot : s.freed.isDurable a = false) : s.freed.acceptWrite a
    = (((s.beforeSector a a.landed.length).enqueue (.landed a.tag a.fn .ok a.count s.sequence)).durablePads.pressure.creditedSince s).endRequests := by
  rw [State.acceptWrite_eq, State.writeCredited_eq, State.writeRecorded, if_neg (by rw [hnot]; decide), State.beforeSector_all]
  rfl

theorem State.acceptWrite_durable (hdurable : s.freed.isDurable a = true) : s.freed.acceptWrite a
    = (((s.beforeSector a a.landed.length).createDurable a s.sequence).durablePads.pressure.creditedSince s).endRequests := by
  rw [State.acceptWrite_eq, State.writeCredited_eq, State.writeRecorded, if_pos hdurable, State.beforeSector_all]
  rfl

end

end Sys2Proof.Machine
end

section
/-! O7 and O8: accepted, held and retaken WRITEs (R36 to R49, R137 to R141). -/

namespace Sys2Proof.Machine

open Sys2Proof

section

variable {s t u v w : State} {a : Arriving} {out : Nat → Prop} {i n k : Nat}

/-! ## What an acceptance changes no further -/

/-- The fields that the staging of a WRITE settles and the end of the event leaves. -/
def State.landedFields (s : State) : State :=
  { parser := s.parser, tenants := s.tenants, ranges := s.ranges, slots := s.slots, staging := s.staging, sequence := s.sequence,
    index := s.index, durables := s.durables, flushes := s.flushes, dump := s.dump, params := s.params }

theorem State.ended_landedFields (w s : State) : (w.durablePads.pressure.creditedSince s).endRequests.landedFields = w.landedFields := by
  have hpadded := w.padded_frame
  generalize w.durablePads.pressure = v at *
  have hcredited := v.creditedSince_frame s
  generalize v.creditedSince s = x at *
  have hended := x.endRequests_frame
  calc x.endRequests.landedFields = x.landedFields := agree hended
    _ = v.landedFields := agree hcredited
    _ = w.landedFields := agree hpadded

/-- The fields, those that staging settles aside, that the staging of sectors leaves. -/
def State.besideStaging (s : State) : State :=
  { parser := s.parser, staging := s.staging, durables := s.durables, flushes := s.flushes, dump := s.dump, params := s.params }

theorem State.beforeSector_besideStaging (s : State) (a : Arriving) (n : Nat) : (s.beforeSector a n).besideStaging = s.freed.besideStaging :=
  agree (s.beforeSector_frame a n)

/-! ## Taking and re-taking -/

theorem State.writeRefusal_passes (hvalid : s.validTenant a.fn = true) (hbound : (s.stream (s.tenant a.fn).defaultStream).bound = true)
    (hroom : (s.tenant a.fn).stagedCount + a.count ≤ (s.tenant a.fn).cap) : s.freed.writeRefusal a = none := by
  have hvalid' : s.freed.validTenant a.fn = true := hvalid
  have hbound' : (s.freed.stream (s.freed.tenant a.fn).defaultStream).bound = true := hbound
  have hroom' : ¬ (s.freed.tenant a.fn).cap < (s.freed.tenant a.fn).stagedCount + a.count := Nat.not_lt.2 hroom
  unfold State.writeRefusal
  dsimp only
  rw [hvalid', hbound', if_neg hroom']
  rfl

theorem State.isDurable_iff (s : State) (a : Arriving) : s.freed.isDurable a = true ↔ a.durableFlag = true ∨ (s.tenant a.fn).ack = .durable := by
  rw [State.isDurable, Bool.or_eq_true, beq_iff_eq]
  exact Iff.rfl

theorem State.freeDurable_eq (hi : i < 1024) (hfree : Store.find? s.durables i = none) (hlowest : ∀ j, j < i → (Store.find? s.durables j).isSome = true) :
    s.freed.freeDurable = some i := by
  refine firstFrom_eq_some.2 ⟨Nat.zero_le i, by simpa using hi, ?_, fun j _ hj => ?_⟩
  · exact (congrArg Option.isNone hfree :)
  · have hin : (Store.find? s.freed.durables j).isSome = true := hlowest j hj
    simpa using hin

theorem State.decideWrite_accepts (hpasses : s.freed.writeRefusal a = none) (hhold : s.freed.mustHold a = false) :
    s.freed.decideWrite a = s.freed.acceptWrite a := by
  rcases s.freed.decideWrite_cases a with ⟨status, hrefused, -⟩ | ⟨-, ⟨hheld, -⟩ | ⟨-, h⟩⟩
  · cases hpasses.symm.trans hrefused
  · cases hhold.symm.trans hheld
  · exact h

theorem State.exec_write (hoffers : s.offers a) (hkind : a.kind = 0x10) (hover : a.overrun = false) (hframed : s.framingFault a = false) :
    exec .write s = .next (s.freed.decideWrite a) := by
  have hframed' : s.freed.framingFault a = false := hframed
  rw [exec_of_offers (act := State.takeWrite) rfl hoffers (by rw [hkind]; rfl), State.takeWrite, hover, hframed']
  rfl

theorem State.exec_retake (hrunning : s.running = true) (hparser : s.parser = .holding a) (hgate : s.ingressGateOpen = true)
    (hfree : s.freeDurable.isSome = true) : exec .heldWriteRetaking s = .next (s.freed.decideWrite a) := by
  have hretake : s.retake = s.freed.decideWrite a := by
    unfold State.retake
    rw [hparser, hrunning, hfree, hgate]
    rfl
  exact congrArg Host.Outcome.next hretake

theorem State.Ledger.landed_offered (hs : s.Ledger) (hoffers : s.offers a) (hkind : a.kind = 0x10) (hover : a.overrun = false)
    (hframed : s.framingFault a = false) : s.Landed a s.onLanes := by
  obtain ⟨hparcel, hlanded⟩ := State.wholeParcel_parcel hoffers.1
  exact ⟨hs.slotHeld, hparcel, hlanded, hframed, State.landed_of_framed hs.landing hoffers.1 hkind hover hframed⟩

theorem State.Ledger.landed_held (hs : s.Ledger) (hparser : s.parser = .holding a) : s.Landed a s.onLanes := by
  have hlands := (State.landingLawful_iff.1 hs.landing).2
  rw [hparser] at hlands
  exact ⟨hs.slotHeld, by rw [hparser]; rfl, by rw [hparser]; rfl, hlands.1, hlands.2⟩

/-! ## Where the sectors stand (R42, R43, R46, R66) -/

theorem State.Landed.staged (h : s.Landed a out) (hpasses : s.freed.writeRefusal a = none) :
    s.StagedTo a out a.landed.length (s.beforeSector a a.landed.length) :=
  h.books.stagedTo (h.carries hpasses) _ (Nat.le_refl _)

theorem State.Landed.queued (h : s.Landed a out) (hpasses : s.freed.writeRefusal a = none) (hhold : s.freed.mustHold a = false) {j : Nat}
    (hk : ((s.freed.acceptWrite a).slot k).state = .staged ∧ ((s.freed.acceptWrite a).slot k).stream = j) :
    k ∈ ((s.freed.acceptWrite a).stream j).queue :=
  ((h.books.acceptWrite (h.accepts hpasses hhold)).queues.1 j k).2 hk

/-! ## A WRITE that is not durable -/

theorem State.acceptWrite_landed (hnot : s.freed.isDurable a = false) :
    (s.freed.acceptWrite a).landedFields = (s.beforeSector a a.landed.length).landedFields := by
  rw [State.acceptWrite_staged hnot, State.ended_landedFields]
  rfl

/-! ## A durable WRITE -/

theorem State.acceptWrite_recorded (hdurable : s.freed.isDurable a = true) :
    (s.freed.acceptWrite a).landedFields = ((s.beforeSector a a.landed.length).createDurable a s.sequence).landedFields := by
  rw [State.acceptWrite_durable hdurable, State.ended_landedFields]

end

/-- Settles O7: the staging of the sectors, the pads, the credits and the requests one after another. -/
theorem writeAcceptedStagesSectors : Obligations.WriteAcceptedStagesSectors := by
  unfold Obligations.WriteAcceptedStagesSectors
  intro s a hoffers hkind hover hframed hvalid hbound hroom hflag hack
  have hpasses := State.writeRefusal_passes hvalid hbound hroom
  have hnot : s.freed.isDurable a = false := by
    rw [← Bool.not_eq_true, State.isDurable_iff, hflag, hack]
    simp
  have hhold : s.freed.mustHold a = false := by rw [State.mustHold, hnot]; rfl
  have hexec := (State.exec_write hoffers hkind hover hframed).trans (congrArg Host.Outcome.next (State.decideWrite_accepts hpasses hhold))
  have hfields := State.acceptWrite_landed (s := s) (a := a) hnot
  have hends := (s.writePadded_staged a).ends (State.offers_part hoffers)
  rw [← State.acceptWrite_staged hnot] at hends
  have hplaced : s.Ledger → ∀ i k, a.landed[i]? = some k →
      (s.beforeSector a a.landed.length).slot k = { s.slot k with state := .staged, seq := s.sequence + i, stream := s.routedTo a i }
        ∧ (s.beforeSector a a.landed.length).indexed a.fn a.ns (a.lba + i) = some k := fun hs i k hk =>
    ((hs.landed_offered hoffers hkind hover hframed).staged hpasses).done i k (List.getElem?_eq_some_iff.1 hk).1 hk
  have hqueued : s.Ledger → ∀ j k, ((s.freed.acceptWrite a).slot k).state = .staged ∧ ((s.freed.acceptWrite a).slot k).stream = j →
      k ∈ ((s.freed.acceptWrite a).stream j).queue := fun hs j k hk =>
    (hs.landed_offered hoffers hkind hover hframed).queued hpasses hhold hk
  have hsequence := State.beforeSector_sequence (s := s) (a := a) (Nat.le_refl _)
  have hlanded := State.beforeSector_landed (s := s) (a := a) (Nat.le_refl _)
  have hbeside := s.beforeSector_besideStaging a a.landed.length
  refine ⟨_, hexec, ?_⟩
  generalize s.freed.acceptWrite a = t at *
  generalize s.beforeSector a a.landed.length = u at *
  have hslot : ∀ k, t.slot k = u.slot k := fun k => (agree (π := (State.slot · k)) hfields :)
  have hindexed : ∀ lba, t.indexed a.fn a.ns lba = u.indexed a.fn a.ns lba := fun lba => (agree (π := (State.indexed · a.fn a.ns lba)) hfields :)
  refine ⟨(agree (π := State.parser) hfields).trans (agree (π := State.parser) hbeside :), (agree (π := State.sequence) hfields).trans hsequence,
    (agree (π := fun v : State => (v.tenant a.fn).landed) hfields).trans hlanded,
    (agree (π := State.staging) hfields).trans (agree (π := State.staging) hbeside :),
    (agree (π := State.durables) hfields).trans (agree (π := State.durables) hbeside :),
    (agree (π := State.flushes) hfields).trans (agree (π := State.flushes) hbeside :),
    (agree (π := State.params) hfields).trans (agree (π := State.params) hbeside :),
    (agree (π := State.dump) hfields).trans (agree (π := State.dump) hbeside :),
    fun v hv => ?_, hends, fun hs i k hk => ?_⟩
  · rw [hv]
    exact ⟨agree hfields, agree hfields, agree hfields, agree hfields⟩
  · obtain ⟨hstaged, hnamed⟩ := hplaced hs i k hk
    have hself := (hslot k).trans hstaged
    exact ⟨hself, hqueued hs _ k (by rw [hself]; exact ⟨rfl, rfl⟩), (hindexed _).trans hnamed⟩

section

variable {s : State} {a : Arriving} {i : Nat}

/-- A durable WRITE that is accepted while entry `i` is the lowest-numbered free one (R139). -/
theorem State.durablyStaged (hrun : s.part = .run) (hpasses : s.freed.writeRefusal a = none) (hdurable : s.freed.isDurable a = true)
    (hfree : s.freed.freeDurable = some i) (hlaw : s.Ledger → s.Landed a s.onLanes) :
    s.DurablyStaged (s.freed.acceptWrite a) a i s.Ledger := by
  have hhold : s.freed.mustHold a = false := by rw [State.mustHold, hfree, hdurable]; rfl
  have hfields := State.acceptWrite_recorded (s := s) (a := a) hdurable
  have hends := (s.writePadded_durable a).ends hrun
  rw [← State.acceptWrite_durable hdurable] at hends
  have hplaced : s.Ledger → ∀ n k, a.landed[n]? = some k →
      (s.beforeSector a a.landed.length).slot k = { s.slot k with state := .staged, seq := s.sequence + n, stream := s.routedTo a n }
        ∧ (s.beforeSector a a.landed.length).indexed a.fn a.ns (a.lba + n) = some k := fun hs n k hk =>
    ((hlaw hs).staged hpasses).done n k (List.getElem?_eq_some_iff.1 hk).1 hk
  have hqueued : s.Ledger → ∀ j k, ((s.freed.acceptWrite a).slot k).state = .staged ∧ ((s.freed.acceptWrite a).slot k).stream = j →
      k ∈ ((s.freed.acceptWrite a).stream j).queue := fun hs j k hk => (hlaw hs).queued hpasses hhold hk
  have hsequence := State.beforeSector_sequence (s := s) (a := a) (Nat.le_refl _)
  have hlanded := State.beforeSector_landed (s := s) (a := a) (Nat.le_refl _)
  have hbeside := s.beforeSector_besideStaging a a.landed.length
  have hall : ∀ v, v = s.beforeSector a a.landed.length → v = s.beforeSector a a.landed.length := fun _ h => h
  generalize s.freed.acceptWrite a = t at *
  generalize hu : s.beforeSector a a.landed.length = u at *
  have hufree : u.freeDurable = some i := (State.freeDurable_congr (agree hbeside)).trans hfree
  have hrecords := State.createDurable_durables (a := a) hufree s.sequence
  have hslots := State.createDurable_slot (a := a) hufree s.sequence
  have hframe := u.createDurable_frame a s.sequence
  generalize hd : u.createDurable a s.sequence = d at *
  have hdurables : t.durables = Store.insert s.durables i (a.durableRecord s.sequence) :=
    (agree (π := State.durables) hfields).trans (hrecords.trans (by rw [show u.durables = s.durables from (agree (π := State.durables) hbeside :)]))
  have hslot : ∀ k, t.slot k = if k ∈ a.landed then { u.slot k with durable := some i } else u.slot k := fun k =>
    (agree (π := (State.slot · k)) hfields).trans (hslots k)
  refine { parser := ?_, sequence := ?_, record := ?_, records := fun j hj => ?_, landed := ?_, frame := ?_, staged := fun v hv => ?_, ends := ?_,
           slots := fun hs n k hk => ?_ }
  · exact ((agree (π := State.parser) hfields).trans (agree (π := State.parser) hframe)).trans (agree (π := State.parser) hbeside :)
  · exact ((agree (π := State.sequence) hfields).trans (agree (π := State.sequence) hframe)).trans hsequence
  · rw [hdurables, Store.find?_insert, if_pos rfl]
    rfl
  · rw [hdurables, Store.find?_insert, if_neg hj]
  · exact ((agree (π := fun v : State => (v.tenant a.fn).landed) hfields).trans (agree (π := fun v : State => (v.tenant a.fn).landed) hframe)).trans
      hlanded
  · exact ⟨((agree (π := State.staging) hfields).trans (agree (π := State.staging) hframe)).trans (agree (π := State.staging) hbeside :),
      ((agree (π := State.flushes) hfields).trans (agree (π := State.flushes) hframe)).trans (agree (π := State.flushes) hbeside :),
      ((agree (π := State.params) hfields).trans (agree (π := State.params) hframe)).trans (agree (π := State.params) hbeside :),
      ((agree (π := State.dump) hfields).trans (agree (π := State.dump) hframe)).trans (agree (π := State.dump) hbeside :)⟩
  · obtain rfl : v = u := hv.trans hu
    exact ⟨hslot, (agree (π := State.index) hfields).trans (agree hframe), (agree (π := State.tenants) hfields).trans (agree hframe),
      (agree (π := State.ranges) hfields).trans (agree hframe)⟩
  · rw [hu, hd]
    exact hends
  · obtain ⟨hstaged, hnamed⟩ := hplaced hs n k hk
    have hself : t.slot k = { s.slot k with state := .staged, seq := s.sequence + n, stream := s.routedTo a n, durable := some i } := by
      rw [hslot, if_pos (List.mem_of_getElem? hk), hstaged]
    have hindexed : t.indexed a.fn a.ns (a.lba + n) = u.indexed a.fn a.ns (a.lba + n) :=
      (agree (π := (State.indexed · a.fn a.ns (a.lba + n))) hfields).trans (agree (π := (State.indexed · a.fn a.ns (a.lba + n))) hframe)
    exact ⟨hself, hqueued hs _ k (by rw [hself]; exact ⟨rfl, rfl⟩), hindexed.trans hnamed⟩

end

/-- Settles O8: the hold, the re-taking and its refusal, and the staging at once. -/
theorem durableWriteHeldAndRetaken : Obligations.DurableWriteHeldAndRetaken := by
  unfold Obligations.DurableWriteHeldAndRetaken
  refine ⟨fun s a hoffers hkind hover hframed hvalid hbound hroom hdurable hfull => ?held,
    fun s a i hrunning hparser hgate hvalid hbound hroom hdurable hi hfree hlowest => ?retaken,
    fun s a status hrunning hparser hgate hsome hstatus hbad => ?refused,
    fun s a i hoffers hkind hover hframed hvalid hbound hroom hdurable hi hfree hlowest => ?atOnce⟩
  case held =>
    have hpasses := State.writeRefusal_passes hvalid hbound hroom
    have hnone : s.freed.freeDurable = none := by
      cases hrecord : s.freed.freeDurable with
      | none => rfl
      | some i =>
        obtain ⟨-, hi, -⟩ := firstFrom_eq_some.1 hrecord
        have hused : (Store.find? s.freed.durables i).isSome = true := hfull i (by simpa using hi)
        rw [State.freeDurable_free hrecord] at hused
        cases hused
    have hhold : s.freed.mustHold a = true := by rw [State.mustHold, (s.isDurable_iff a).2 hdurable, hnone]; rfl
    rw [State.exec_write hoffers hkind hover hframed]
    rcases s.freed.decideWrite_cases a with ⟨status, hrefused, -⟩ | ⟨-, ⟨-, h⟩ | ⟨hnot, -⟩⟩
    · cases hpasses.symm.trans hrefused
    · rw [h]
      rfl
    · cases hhold.symm.trans hnot
  case retaken =>
    have hpasses := State.writeRefusal_passes hvalid hbound hroom
    have hrecord := State.freeDurable_eq hi hfree hlowest
    have hdurable' := (s.isDurable_iff a).2 hdurable
    have hhold : s.freed.mustHold a = false := by rw [State.mustHold, hrecord, hdurable']; rfl
    have hpart : s.part = .run := by
      simp only [State.running, Bool.and_eq_true, beq_iff_eq] at hrunning
      exact hrunning.2
    refine ⟨_, (State.exec_retake hrunning hparser hgate (Option.isSome_iff_exists.2 ⟨i, hrecord⟩)).trans
      (congrArg Host.Outcome.next (State.decideWrite_accepts hpasses hhold)), ?_⟩
    exact State.durablyStaged hpart hpasses hdurable' hrecord fun hs => hs.landed_held hparser
  case refused =>
    obtain ⟨i, hi, hfree⟩ := hsome
    have hrecord : s.freeDurable.isSome = true := by
      rw [Option.isSome_iff_ne_none]
      intro hnone
      have hused := firstFrom_eq_none.1 hnone i (Nat.zero_le i) (by simpa using hi)
      rw [hfree] at hused
      cases hused
    have hpart : s.part = .run := by
      simp only [State.running, Bool.and_eq_true, beq_iff_eq] at hrunning
      exact hrunning.2
    have hrefusal : s.freed.writeRefusal a = some status := by
      rw [hstatus] at hbad ⊢
      refine (s.freed.writeRefusal_eq a).trans ?_
      by_cases htenant : 511 < a.fn ∨ (s.tenant a.fn).valid = false
      · rw [if_pos htenant]
        exact if_pos htenant
      rw [if_neg htenant] at hbad ⊢
      refine (if_neg htenant).trans ?_
      by_cases hroute : (s.stream (s.tenant a.fn).defaultStream).state = .unbound
      · rw [if_pos hroute]
        exact if_pos hroute
      rw [if_neg hroute] at hbad ⊢
      refine (if_neg hroute).trans ?_
      by_cases hfull : (s.tenant a.fn).cap < (s.tenant a.fn).stagedCount + a.count
      · rw [if_pos hfull]
        exact if_pos hfull
      · exact absurd (if_neg hfull) hbad
    have hrefused : s.freed.decideWrite a = s.freed.refuseWrite a status := by
      rw [State.decideWrite, hrefusal]
    refine ⟨_, (State.exec_retake hrunning hparser hgate hrecord).trans (congrArg Host.Outcome.next hrefused), ?_⟩
    exact State.writeRefused_refuseWrite hpart (fun hs => ⟨fun k hk => hs.landed_unused (by rw [hparser]; exact hk), hs.index_inUse⟩) status
  case atOnce =>
    have hpasses := State.writeRefusal_passes hvalid hbound hroom
    have hrecord := State.freeDurable_eq hi hfree hlowest
    have hdurable' := (s.isDurable_iff a).2 hdurable
    have hhold : s.freed.mustHold a = false := by rw [State.mustHold, hrecord, hdurable']; rfl
    refine ⟨_, (State.exec_write hoffers hkind hover hframed).trans
      (congrArg Host.Outcome.next (State.decideWrite_accepts hpasses hhold)), ?_⟩
    exact State.durablyStaged (State.offers_part hoffers) hpasses hdurable' hrecord fun hs => hs.landed_offered hoffers hkind hover hframed

end Sys2Proof.Machine
end

section
/-! The laws of the dump engine's grants: the capacity left, the next grant, a lane lost (R154, R155, R161). -/

namespace Sys2Proof.Machine

open Sys2Proof

section

variable {s t u w : State} {l j : Nat} {g : Grant} {c : TakenGrant} {cause : DownCause} {fails : List (FailReason × InFlight)}

/-! ## The capacity of the dump stores -/

/-- What a lane counts in the capacity of the dump stores. -/
def Lane.dumpShare (x : Lane) : Nat := if x.up then x.dumpCapacity else 0

theorem State.dumpCapacity_eq (s : State) : s.dumpCapacity = ((List.range 8).map fun l => (s.lane l).dumpShare).sum := rfl

theorem State.dumpCapacity_congr (h : ∀ j, (t.lane j).up = (s.lane j).up ∧ (t.lane j).dump = (s.lane j).dump) : t.dumpCapacity = s.dumpCapacity := by
  have hshare : ∀ j, (t.lane j).dumpShare = (s.lane j).dumpShare := fun j => by
    obtain ⟨hup, hdump⟩ := h j
    rw [Lane.dumpShare, Lane.dumpShare, Lane.dumpCapacity, Lane.dumpCapacity, hup, hdump]
  simp only [State.dumpCapacity_eq, hshare]

/-- One lane's store has changed. -/
theorem State.dumpCapacity_other (hl : l < 8) (h : ∀ j, j ≠ l → t.lane j = s.lane j) :
    t.dumpCapacity + (s.lane l).dumpShare = s.dumpCapacity + (t.lane l).dumpShare := by
  rw [State.dumpCapacity_eq, State.dumpCapacity_eq]
  exact sum_map_range_but_one (f := fun l => (t.lane l).dumpShare) (h := fun l => (s.lane l).dumpShare) hl fun j hj => by rw [h j hj]

theorem State.dumpCapacity_eq_zero (h : ∀ j, j < 8 → (s.lane j).up = true → (s.lane j).dump = []) : s.dumpCapacity = 0 := by
  rw [State.dumpCapacity_eq, List.sum_eq_zero_iff]
  simp only [List.mem_map, List.mem_range, forall_exists_index, and_imp]
  rintro n j hj rfl
  unfold Lane.dumpShare Lane.dumpCapacity
  split
  · rw [h j hj ‹_›]
    rfl
  · rfl

/-- Every grant in a dump store has capacity. -/
def State.storesFilled (s : State) : Prop := ∀ j, ∀ g ∈ (s.lane j).dump, 1 ≤ g.capacity

theorem State.lanesLawful.storesFilled (h : s.lanesLawful) : s.storesFilled := fun j g hg => by
  obtain ⟨-, -, -, -, -, -, -, hgrants, -⟩ := h j
  exact (hgrants g (List.mem_append_right _ hg)).1

/-! ## The laws of the grants -/

theorem State.unassigned_of_current (hc : s.dump.current = some c) :
    s.unassigned = if (s.lane c.lane).up = true then c.capacity - c.assigned else 0 := by
  rw [State.unassigned, hc]

theorem State.unassigned_of_none (hc : s.dump.current = none) : s.unassigned = 0 := by
  rw [State.unassigned, hc]

/-- The current grant is not over-assigned, and the stores of the UP lanes below its own are empty (R155). -/
def State.grantOrder (s : State) : Prop :=
  ∀ c, s.dump.current = some c → c.assigned ≤ c.capacity ∧ ∀ j, j < c.lane → (s.lane j).up = true → (s.lane j).dump = []

theorem State.unassigned_congr (htaken : t.dump.taken = s.dump.taken) (hup : ∀ j, (t.lane j).up = (s.lane j).up) : t.unassigned = s.unassigned := by
  unfold State.unassigned Dump.current
  rw [htaken]
  simp only [hup]

theorem State.grantsLawful.congr (h : s.grantsLawful) (hremaining : t.dump.remaining = s.dump.remaining) (htaken : t.dump.taken = s.dump.taken)
    (hlanes : ∀ j, (t.lane j).up = (s.lane j).up ∧ (t.lane j).dump = (s.lane j).dump) : t.grantsLawful := by
  obtain ⟨hleft, hnone, horder⟩ := h
  have hunassigned := State.unassigned_congr htaken fun j => (hlanes j).1
  have hcapacity := State.dumpCapacity_congr hlanes
  refine ⟨by rw [hremaining, hleft, hunassigned, hcapacity], fun hzero => ?_, fun c hc => ?_⟩
  · rw [hcapacity]
    exact hnone (hunassigned ▸ hzero)
  · rw [Dump.current, htaken] at hc
    obtain ⟨hassigned, hbelow⟩ := horder c hc
    refine ⟨hassigned, fun j hj hup => ?_⟩
    rw [(hlanes j).2]
    exact hbelow j hj ((hlanes j).1 ▸ hup)

/-- A state without unassigned position takes the next grant (R155, R161). -/
theorem State.takeGrant_lawful (hremaining : s.dump.remaining = s.dumpCapacity) (hnone : s.unassigned = 0) (horder : s.grantOrder)
    (hbelow : ∀ j, j < l → (s.lane j).up = true → (s.lane j).dump = []) (hfilled : s.storesFilled) : (s.takeGrant l).grantsLawful := by
  rcases s.takeGrant_cases l with ⟨htake, hempty⟩ | ⟨j, g, rest, hlj, hj, hup, hdump, hbetween, htake⟩ <;> rw [htake]
  · have hcapacity : s.dumpCapacity = 0 := State.dumpCapacity_eq_zero fun i hi => by
      by_cases hil : i < l
      · exact hbelow i hil
      · exact hempty i (Nat.le_of_not_lt hil) hi
    exact ⟨by rw [hremaining, hnone, Nat.zero_add], fun _ => hcapacity, horder⟩
  · have hlane := State.grantTaken_lane (s := s) j g rest
    have hcurrent : (s.grantTaken j g rest).dump.current = some (g.takenFrom j) := current_append (s := s.grantTaken j g rest) rfl
    have hleft : (s.grantTaken j g rest).dump.remaining = s.dump.remaining := rfl
    generalize s.grantTaken j g rest = v at *
    have hself : v.lane j = { s.lane j with dump := rest } := by rw [hlane, if_pos rfl]
    have hup' : (v.lane j).up = true := by rw [hself]; exact hup
    have hunassigned : v.unassigned = g.capacity := by
      rw [State.unassigned_of_current hcurrent]
      exact if_pos hup'
    have hsum := State.dumpCapacity_other (s := s) (t := v) hj fun i hi => by rw [hlane, if_neg hi]
    have hbefore : (s.lane j).dumpShare = g.capacity + (rest.map Grant.capacity).sum := by
      rw [Lane.dumpShare, if_pos hup, Lane.dumpCapacity, hdump]
      rfl
    have hafter : (v.lane j).dumpShare = (rest.map Grant.capacity).sum := by
      rw [Lane.dumpShare, if_pos hup', hself]
      rfl
    have hpositive := hfilled j g (by rw [hdump]; exact List.mem_cons_self)
    refine ⟨by omega, by omega, fun c hc => ?_⟩
    obtain rfl := Option.some.inj (hcurrent.symm.trans hc)
    refine ⟨Nat.zero_le _, fun i (hi : i < j) hiup => ?_⟩
    rw [hlane, if_neg (Nat.ne_of_lt hi)] at hiup ⊢
    by_cases hil : i < l
    · exact hbelow i hil hiup
    · exact hbetween i (Nat.le_of_not_lt hil) hi hiup

/-- The entry to DUMPING takes the first grant of the whole capacity (R154, R155). -/
theorem State.takeGrant_first (htaken : s.dump.taken = []) (hremaining : s.dump.remaining = s.dumpCapacity) (hfilled : s.storesFilled) :
    (s.takeGrant 0).grantsLawful := by
  have hcurrent : s.dump.current = none := by rw [Dump.current, htaken]; rfl
  refine State.takeGrant_lawful hremaining (State.unassigned_of_none hcurrent) (fun c hc => ?_) (fun j hj => absurd hj (Nat.not_lt_zero j)) hfilled
  rw [hcurrent] at hc
  cases hc

/-! ## A lane is lost -/

theorem State.lostWith_of_other (h : ∀ c, s.dump.current = some c → c.lane ≠ l) : s.lostWith l = 0 := by
  unfold State.lostWith
  split
  · rename_i c hc
    exact if_neg (h c hc)
  · rfl

/-- The grants after the loss of a lane (R161). -/
theorem State.LosesLane.grantsLawful (h : s.LosesLane w l fails) (hl : l < 8) (hdumping : s.part = .dumping) (hs : s.grantsLawful) :
    (w.laneDown l cause).grantsLawful := by
  obtain ⟨hleft, hnone, horder⟩ := hs
  have hlane := h.engineLeft_lane (cause := cause)
  have hdump := h.engineLeft_dump (cause := cause)
  have hcases := h.engine (cause := cause) hdumping
  have hlawful := h.ledger.lanes
  generalize w.engineLeft l cause = v at *
  have hself := hlane l
  rw [if_pos rfl] at hself
  have hdown : (v.lane l).up = false := by rw [hself]; rfl
  have hempty : (v.lane l).dump = [] := by rw [hself]; rfl
  have hnothing : (v.lane l).dumpShare = 0 := by rw [Lane.dumpShare, hdown]; exact if_neg Bool.false_ne_true
  have hother : ∀ j, j ≠ l → v.lane j = s.lane j := fun j hj => by rw [hlane, if_neg hj]
  have hsum := State.dumpCapacity_other hl hother
  have htaken : v.dump.taken = s.dump.taken := by rw [hdump]
  have hcurrent : v.dump.current = s.dump.current := by rw [Dump.current, htaken, Dump.current]
  have hremaining : v.dump.remaining = s.dump.remaining - ((s.lane l).dumpCapacity + s.lostWith l) := by rw [hdump, Lane.dumpCapacity]
  have hshare : (s.lane l).dumpCapacity = (s.lane l).dumpShare := by
    unfold Lane.dumpShare
    split
    · rfl
    · rename_i hnotUp
      obtain ⟨-, -, -, -, -, -, -, -, -, -, hbare⟩ := hlawful l
      rw [Lane.dumpCapacity, (hbare (Bool.eq_false_iff.2 hnotUp)).2.2]
      rfl
  have horder' : v.grantOrder := fun c hc => by
    obtain ⟨hassigned, hbelow⟩ := horder c (hcurrent ▸ hc)
    refine ⟨hassigned, fun j hj hup => ?_⟩
    by_cases hjl : j = l
    · rw [hjl, hdown] at hup
      cases hup
    · rw [hother j hjl] at hup ⊢
      exact hbelow j hj hup
  rcases hcases with ⟨hfar, heq⟩ | ⟨⟨c, hc, hnear⟩, heq⟩ <;> rw [heq]
  · have hlost := State.lostWith_of_other hfar
    have hunassigned : v.unassigned = s.unassigned := by
      cases hc : s.dump.current with
      | none => rw [State.unassigned_of_none hc, State.unassigned_of_none (hcurrent.trans hc)]
      | some c => rw [State.unassigned_of_current hc, State.unassigned_of_current (hcurrent.trans hc), hother _ (hfar c hc)]
    exact ⟨by omega, by omega, horder'⟩
  · have hunassigned : v.unassigned = 0 := by
      rw [State.unassigned_of_current (hcurrent.trans hc), hnear, hdown]
      rfl
    have hlost : s.lostWith l = c.capacity - c.assigned := by
      unfold State.lostWith
      rw [hc]
      exact if_pos hnear
    have hbefore := State.unassigned_of_current hc
    refine State.takeGrant_lawful ?_ hunassigned horder' (fun j hj hup => ?_) fun j d hd => ?_
    · split at hbefore <;> omega
    · rw [hother j (Nat.ne_of_lt hj)] at hup ⊢
      exact (horder c hc).2 j (hnear ▸ hj) hup
    · by_cases hjl : j = l
      · rw [hjl, hempty] at hd
        cases hd
      · rw [hother j hjl] at hd
        exact hlawful.storesFilled j d hd

/-! ## A unit is sent -/

/-- A unit with one more position of the current grant, and the next grant when that is used (R155, R157, R162). -/
theorem State.sendDump_grants {taken : List TakenGrant} (hs : s.grantsLawful) (hfilled : s.storesFilled) (htaken : s.dump.taken = taken ++ [c])
    (hup : (s.lane c.lane).up = true) (hsome : 1 ≤ s.dump.remaining) {d : Dump} (hd : d.taken = taken ++ [c.more])
    (hd' : d.remaining = s.dump.remaining - 1) (slots : List Nat) (fillers : Nat) (trailer : Bool) (sectors : List (List Byte)) :
    ((s.withDump d).sendDump c slots fillers trailer sectors).grantsLawful := by
  obtain ⟨hleft, hnone, horder⟩ := hs
  have hcurrent := current_append htaken
  have hunassigned := State.unassigned_of_current hcurrent
  rw [if_pos hup] at hunassigned
  obtain ⟨hassigned, hbelow⟩ := horder c hcurrent
  have hlane := State.dumpSent_lane (s := s.withDump d) (g := c) (slots := slots) (fillers := fillers) (trailer := trailer) (sectors := sectors)
  have hdump : ((s.withDump d).dumpSent c slots fillers trailer sectors).dump = d := rfl
  rw [State.sendDump_eq]
  generalize (s.withDump d).dumpSent c slots fillers trailer sectors = v at *
  have hlanes' : ∀ j, (v.lane j).up = (s.lane j).up ∧ (v.lane j).dump = (s.lane j).dump := fun j => by
    rw [hlane]
    split
    · rename_i hj
      rw [hj]
      exact ⟨rfl, rfl⟩
    · exact ⟨rfl, rfl⟩
  have hnow : v.dump.current = some c.more := current_append (s := v) (by rw [hdump, hd])
  have hunassigned' : v.unassigned = c.capacity - (c.assigned + 1) := by
    rw [State.unassigned_of_current hnow]
    exact if_pos ((hlanes' c.lane).1.trans hup)
  have hcapacity := State.dumpCapacity_congr hlanes'
  have hremaining : v.dump.remaining = s.dump.remaining - 1 := by rw [hdump, hd']
  have hmore : c.more.assigned = c.assigned + 1 ∧ c.more.capacity = c.capacity ∧ c.more.lane = c.lane := ⟨rfl, rfl, rfl⟩
  have hbelow' : ∀ j, j < c.lane → (v.lane j).up = true → (v.lane j).dump = [] := fun j hj hjup => by
    rw [(hlanes' j).2]
    exact hbelow j hj ((hlanes' j).1 ▸ hjup)
  have hroom : c.assigned < c.capacity := by
    by_contra hfull
    have hzero := hnone (by omega)
    omega
  have horder' : v.grantOrder := fun q hq => by
    obtain rfl := Option.some.inj (hnow.symm.trans hq)
    exact ⟨by omega, hbelow'⟩
  have hnext : v.nextGrantIfUsed = if c.capacity ≤ c.assigned + 1 then v.takeGrant c.lane else v := by
    rw [State.nextGrantIfUsed, hnow]
    exact if_congr (by rw [TakenGrant.used, decide_eq_true_iff]; rfl) rfl rfl
  rw [hnext]
  split
  · exact State.takeGrant_lawful (by omega) (by omega) horder' hbelow' fun j d hd => hfilled j d ((hlanes' j).2 ▸ hd)
  · exact ⟨by omega, by omega, horder'⟩

end

end Sys2Proof.Machine
end

section
/-! The redo list through failures, sends and the end of an event (R154, R156, R160). -/

namespace Sys2Proof.Machine

open Sys2Proof

section

variable {s t u w : State} {l i k : Nat} {r : InFlight} {rs : List InFlight} {redo : List Nat} {why : FailReason} {cause : DownCause}
  {fails : List (FailReason × InFlight)}

/-! ## Redo lists that obey the law -/

/-- A redo list that the law of `s` permits: in ascending sequence, each slot once, of listed slots and of in-use slots that have been
composed. -/
structure State.RedoAllowed (s : State) (redo : List Nat) : Prop where
  sorted : (redo.map fun k => (s.slot k).seq).Pairwise (· ≤ ·)
  nodup : redo.Nodup
  source : ∀ k ∈ redo, k ∈ s.dump.redo ∨ (s.slot k).inUse = true ∧ s.composed k

theorem State.redoLawful.allowed (h : s.redoLawful) : s.RedoAllowed s.dump.redo := by
  obtain ⟨hsorted, -⟩ := h
  refine ⟨hsorted.imp Nat.le_of_lt, ?_, fun k hk => .inl hk⟩
  exact List.Nodup.of_map _ (hsorted.imp Nat.ne_of_lt)

/-- The slots keep their sequences, and none comes into use. -/
def State.slotsFade (s t : State) : Prop := ∀ k, (t.slot k).seq = (s.slot k).seq ∧ ((t.slot k).inUse = true → (s.slot k).inUse = true)

theorem State.slotsFade.of_slots (h : t.slots = s.slots) : s.slotsFade t := fun k => by
  rw [State.slot, h]
  exact ⟨rfl, id⟩

theorem State.slotsFade.trans (h : s.slotsFade t) (h' : t.slotsFade u) : s.slotsFade u := fun k =>
  ⟨(h' k).1.trans (h k).1, fun hin => (h k).2 ((h' k).2 hin)⟩

/-- A state with a permitted redo list, the same cursor and no new DUMP record. -/
theorem State.redoLawful.move (hs : s.redoLawful) (hslots : s.slotsFade t) (hcursor : t.dump.cursor = s.dump.cursor) (hredo : s.RedoAllowed t.dump.redo)
    (hrecords : ∀ l r, r ∈ (t.lane l).inflight → r.kind = .dump → (∃ m, r ∈ (s.lane m).inflight) ∨ r.slots = []) : t.redoLawful := by
  obtain ⟨-, hlisted, hdumps, hapart⟩ := hs
  have hseq : (fun k => (t.slot k).seq) = fun k => (s.slot k).seq := funext fun k => (hslots k).1
  have hcomposed : ∀ k, s.composed k → t.composed k := fun k ⟨c, hc, hle⟩ => ⟨c, hcursor.trans hc, (hslots k).1 ▸ hle⟩
  have hmember : ∀ k, (k ∈ t.dump.redo ∨ (t.slot k).inUse = true) → k ∈ s.dump.redo ∨ (s.slot k).inUse = true := fun k hk => by
    rcases hk with hk | hk
    · exact (hredo.source k hk).imp_right And.left
    · exact .inr ((hslots k).2 hk)
  refine ⟨?_, fun k hk => hcomposed k ?_, fun l r hr hkind => ?_, fun j k hj hk heq => ?_⟩
  · rw [hseq]
    exact pairwise_lt_of_nodup_map hredo.sorted hredo.nodup fun j hj k hk heq => hapart j k (hmember j (.inl hj)) (hmember k (.inl hk)) heq
  · rcases hredo.source k hk with hk | ⟨-, hk⟩
    · exact hlisted k hk
    · exact hk
  · rcases hrecords l r hr hkind with ⟨m, hm⟩ | hnone
    · obtain ⟨hnodup, hall⟩ := hdumps m r hm hkind
      exact ⟨hnodup, fun k hk => hcomposed k (hall k hk)⟩
    · rw [hnone]
      exact ⟨List.nodup_nil, fun k hk => absurd hk List.not_mem_nil⟩
  · rw [(hslots j).1, (hslots k).1] at heq
    exact hapart j k (hmember j hj) (hmember k hk) heq

/-! ## Failures -/

/-- What a failure may lean on of a record: the slots of a DUMP record are composed, each once; those of a NORMAL record are in use. -/
def State.failable (s : State) (r : InFlight) : Prop :=
  (r.kind = .dump → r.slots.Nodup ∧ ∀ k ∈ r.slots, s.composed k) ∧ (r.kind = .normal → ∀ k ∈ r.slots, (s.slot k).inUse = true)

theorem State.Ledger.failable (hs : s.Ledger) (hredo : s.redoLawful) (hr : r ∈ (s.lane l).inflight) : s.failable r := by
  obtain ⟨-, -, hdumps, -⟩ := hredo
  refine ⟨hdumps l r hr, fun hkind k hk => ?_⟩
  have hissued : (s.slot k).state = .issued := (hs.issuedSlots.1 k).2 ⟨l, List.mem_flatMap.2 ⟨r, List.mem_filter.2 ⟨hr, by rw [hkind]; rfl⟩, hk⟩⟩
  rw [Slot.inUse, hissued]
  rfl

/-- Failures, from `s` to `u`: no slot comes into use, and the redo list stays permitted. -/
structure State.RedoKept (s u : State) : Prop where
  slots : s.slotsFade u
  redo : s.RedoAllowed u.dump.redo

theorem State.RedoKept.congr (h : s.RedoKept u) (hslots : t.slot = u.slot) (hredo : t.dump.redo = u.dump.redo) : s.RedoKept t :=
  ⟨fun k => by rw [hslots]; exact h.slots k, hredo ▸ h.redo⟩

theorem State.redoLawful.kept (h : s.redoLawful) : s.RedoKept s := ⟨.of_slots rfl, h.allowed⟩

theorem State.RedoKept.redoAfter (h : s.RedoKept u) (hr : s.failable r) (hkind : r.kind = .dump) : s.RedoAllowed (u.redoAfter r) := by
  cases htrailer : r.trailer with
  | true =>
    rw [State.redoAfter_trailer htrailer]
    exact h.redo
  | false =>
    obtain ⟨hnodup, hcomposed⟩ := hr.1 hkind
    have hperm := State.redoAfter_data (s := u) htrailer
    have hseq : ∀ k, (u.slot k).seq = (s.slot k).seq := fun k => (h.slots k).1
    refine ⟨?_, hperm.nodup_iff.2 ?_, fun k hk => ?_⟩
    · rw [State.redoAfter, if_neg (by rw [htrailer]; decide), State.mergeBySeq_congr hseq]
      exact s.mergeBySeq_sorted _ h.redo.sorted
    · refine List.nodup_append.2 ⟨h.redo.nodup, hnodup.filter _, fun j hj k hk hjk => ?_⟩
      simp [← hjk, hj] at hk
    · rcases List.mem_append.1 (hperm.mem_iff.1 hk) with hk | hk
      · exact h.redo.source k hk
      · obtain ⟨hk, hin⟩ := List.mem_filter.1 hk
        exact .inr ⟨(h.slots k).2 (Bool.and_eq_true_iff.1 hin).1, hcomposed k hk⟩

theorem State.RedoKept.recordFailed (h : s.RedoKept u) (hr : s.failable r) : s.RedoKept (u.recordFailed l why r) := by
  have hslot := State.recordFailed_slot (s := u) (l := l) (why := why) (r := r)
  refine ⟨fun k => ?_, ?_⟩
  · rw [hslot]
    split
    · rename_i hk
      exact ⟨(h.slots k).1, fun _ => hr.2 hk.1 k hk.2⟩
    · exact h.slots k
  · cases hkind : r.kind with
    | normal =>
      rw [(u.recordFailed_dumpEngine l why r).2 hkind]
      exact h.redo
    | dump =>
      have hafter : ∀ v : State, v.slot = u.slot → v.dump = u.dump → s.RedoAllowed (v.dumpFailed r).dump.redo := fun v hvslot hvdump => by
        have hfailed : (v.dumpFailed r).dump.redo = v.redoAfter r := by rw [State.dumpFailed_eq]; rfl
        rw [hfailed, State.redoAfter_congr hvslot hvdump]
        exact h.redoAfter hr hkind
      rw [State.recordFailed_dump hkind]
      exact hafter _ rfl rfl

theorem State.RedoKept.failRecords (h : s.RedoKept u) (hrs : ∀ r ∈ rs, s.failable r) : s.RedoKept (u.failRecords l rs) := by
  induction rs generalizing u with
  | nil => exact h
  | cons r rs ih =>
    rw [State.failRecords_cons]
    exact ih (h.recordFailed (hrs r List.mem_cons_self)) fun q hq => hrs q (List.mem_cons_of_mem _ hq)

theorem State.RedoKept.laneBroken (h : s.RedoKept u) (hrs : ∀ r ∈ (u.lane l).inflight, s.failable r) : s.RedoKept (u.laneBroken l) := by
  have hset : s.RedoKept (u.setLane l (u.lane l).lostLink) := h.congr rfl rfl
  have hframe := ((u.setLane l (u.lane l).lostLink).failRecords l (u.lane l).inflight).breakLane_frame l
  exact (hset.failRecords (l := l) hrs).congr (agree (π := State.slot) hframe) (congrArg Dump.redo (agree (π := State.dump) hframe :))

theorem State.capacityLost_redo (s : State) (l lost : Nat) : (s.capacityLost l lost).dump.redo = s.dump.redo := rfl

theorem State.RedoKept.laneDown (h : s.RedoKept u) (hrs : ∀ r ∈ (u.lane l).inflight, s.failable r) : s.RedoKept (u.laneDown l cause) := by
  refine (h.laneBroken hrs).congr (u.laneDown_tables l cause).1 ?_
  have hgiven : (u.laneGivenUp l cause).dump = (u.laneBroken l).dump := (agree (π := State.dump) (u.laneGivenUp_frame l cause) :)
  have hredo : (u.laneGivenUp l cause).dump.redo = (u.laneBroken l).dump.redo := congrArg Dump.redo hgiven
  rw [State.laneDown_eq]
  by_cases hpart : (u.laneGivenUp l cause).part = .dumping
  · rcases (u.laneGivenUp l cause).dumpLosesLane_cases l ((u.laneBroken l).lane l).dumpCapacity hpart with ⟨-, heq⟩ | ⟨-, heq⟩ <;> rw [heq]
    · rw [State.capacityLost_redo, hredo]
    · rw [State.takeGrant_dump, State.capacityLost_redo, hredo]
  · rw [State.dumpLosesLane, if_neg hpart]
    exact hredo

/-! ## A data unit is composed (R156) -/

theorem State.redoInUse_sublist (s : State) : s.redoInUse.Sublist s.dump.redo := List.filter_sublist

/-- The cursor after a data unit is composed. -/
theorem Dump.composed_cursor (s : State) : (s.dump.composed s).cursor = match s.dumpSlots.2.getLast? with
    | none => s.dump.cursor
    | some k => some (s.slot k).seq := rfl

/-- The cursor only rises, and passes the slots taken from above it. -/
theorem State.composed_withDump (hsorted : Store.sorted s.slots = true) (hk : s.composed k ∨ k ∈ s.dumpSlots.2) :
    (s.withDump (s.dump.composed s)).composed k := by
  have hslot : ∀ j, (s.withDump (s.dump.composed s)).slot j = s.slot j := fun _ => rfl
  have hcursor : (s.withDump (s.dump.composed s)).dump.cursor = _ := Dump.composed_cursor s
  unfold State.composed
  rw [hslot, hcursor]
  cases hlast : s.dumpSlots.2.getLast? with
  | none =>
    rw [List.getLast?_eq_none_iff.1 hlast] at hk
    exact hk.resolve_right List.not_mem_nil
  | some m =>
    refine ⟨_, rfl, ?_⟩
    have hm : m ∈ s.dumpSlots.2 := List.mem_of_getLast? hlast
    rcases hk with ⟨c, hc, hle⟩ | hk
    · have habove := State.dumpSlots_above hsorted hm
      rw [Dump.aboveCursor, hc, Bool.and_eq_true] at habove
      have := of_decide_eq_true habove.2
      omega
    · obtain ⟨before, hbefore⟩ := List.getLast?_eq_some_iff.1 hlast
      have horder := s.dumpSlots_sorted
      rw [hbefore] at hk horder
      rw [List.map_append, List.pairwise_append] at horder
      rcases List.mem_append.1 hk with hk | hk
      · exact horder.2.2 _ (List.mem_map_of_mem hk) _ (List.mem_map_of_mem List.mem_cons_self)
      · rw [List.mem_singleton.1 hk]

theorem State.dumpUnitSlots_nodup (hs : s.redoLawful) (hsorted : Store.sorted s.slots = true) : s.dumpUnitSlots.Nodup := by
  have hallowed := hs.allowed
  obtain ⟨-, hlisted, -⟩ := hs
  refine List.nodup_append.2 ⟨?_, ?_, fun j hj k hk hjk => ?_⟩
  · rw [State.dumpSlots_fst]
    exact hallowed.nodup.sublist ((List.take_sublist _ _).trans s.redoInUse_sublist)
  · rw [State.dumpSlots_snd]
    exact ((State.dumpAbove_perm.nodup_iff.2 (State.slotsWhere_nodup hsorted _)).sublist (List.take_sublist _ _))
  · subst hjk
    obtain ⟨c, hc, hle⟩ := hlisted j (s.redoInUse_sublist.subset (List.mem_of_mem_take hj))
    have habove := State.dumpSlots_above hsorted hk
    rw [Dump.aboveCursor, hc, Bool.and_eq_true] at habove
    have := of_decide_eq_true habove.2
    omega

theorem State.redoLawful.composed (hs : s.redoLawful) (hsorted : Store.sorted s.slots = true) (hslots : t.slots = s.slots)
    (hcursor : t.dump.cursor = (s.dump.composed s).cursor) (hredo : t.dump.redo = (s.dump.composed s).redo)
    (hrecords : ∀ l r, r ∈ (t.lane l).inflight → r.kind = .dump → r ∈ (s.lane l).inflight ∨ r.slots = s.dumpUnitSlots) : t.redoLawful := by
  have hnodup := State.dumpUnitSlots_nodup hs hsorted
  obtain ⟨hstrict, hlisted, hdumps, hapart⟩ := hs
  have hslot : ∀ k, t.slot k = s.slot k := fun k => by rw [State.slot, hslots]; rfl
  have hcomposed : ∀ k, s.composed k ∨ k ∈ s.dumpSlots.2 → t.composed k := fun k hk => by
    obtain ⟨c, hc, hle⟩ := State.composed_withDump hsorted hk
    exact ⟨c, hcursor.trans hc, (hslot k).symm ▸ hle⟩
  have hsub : t.dump.redo.Sublist s.dump.redo := hredo ▸ (List.drop_sublist _ _).trans s.redoInUse_sublist
  refine ⟨?_, fun k hk => hcomposed k (.inl (hlisted k (hsub.subset hk))), fun l r hr hkind => ?_, fun j k hj hk heq => ?_⟩
  · simp only [hslot]
    exact hstrict.sublist (hsub.map _)
  · rcases hrecords l r hr hkind with hr | hr
    · obtain ⟨hrnodup, hall⟩ := hdumps l r hr hkind
      exact ⟨hrnodup, fun k hk => hcomposed k (.inl (hall k hk))⟩
    · rw [hr]
      refine ⟨hnodup, fun k hk => hcomposed k ?_⟩
      exact (List.mem_append.1 hk).imp_left fun hk => hlisted k (s.redoInUse_sublist.subset (List.mem_of_mem_take hk))
  · rw [hslot] at hj hk heq
    rw [hslot] at heq
    exact hapart j k (hj.imp_left (hsub.subset ·)) (hk.imp_left (hsub.subset ·)) heq

end

end Sys2Proof.Machine
end

section
/-! The law of the dump engine through the events, and O60. -/

namespace Sys2Proof.Machine

open Sys2Proof

section

variable {s t u w e : State} {l i n p k id : Nat} {r : InFlight} {g : TakenGrant} {taken : List TakenGrant} {why : FailReason} {cause : DownCause}
  {fails : List (FailReason × InFlight)} {paid closed : List ReturnParcel} {c : Instr}

/-! ## The three part states -/

/-- No DUMP record is in flight. -/
def State.noDumpRecord (s : State) : Prop := ∀ l r, r ∈ (s.lane l).inflight → r.kind = .normal

theorem State.dumpLawful_of_run (hpart : s.part = .run) (hdump : s.dump = {}) (hnone : s.noDumpRecord) : s.dumpLawful :=
  ⟨fun _ => ⟨hdump, hnone⟩, fun h => (nomatch hpart.symm.trans h), fun h => nomatch hpart.symm.trans h⟩

theorem State.dumpLawful_of_dumped (hpart : s.part = .dumped) (hphase : s.dump.phase = .idle) : s.dumpLawful :=
  ⟨fun h => (nomatch hpart.symm.trans h), fun h => (nomatch hpart.symm.trans h), fun _ => hphase⟩

/-- The dump engine runs: what its law says in DUMPING between the acts of an event. -/
structure State.DumpRuns (s : State) : Prop where
  phase : s.dump.phase ≠ .idle
  grants : s.grantsLawful
  redo : s.redoLawful

theorem State.DumpRuns.lawful (h : s.DumpRuns) (hpart : s.part = .dumping) (hleft : s.dump.remaining = 0 → s.dumpInFlight true = true) :
    s.dumpLawful :=
  ⟨fun h => (nomatch hpart.symm.trans h), fun _ => ⟨h.phase, h.grants, h.redo, hleft⟩, fun h => nomatch hpart.symm.trans h⟩

theorem State.dumpLawful.runs (h : s.dumpLawful) (hpart : s.part = .dumping) : s.DumpRuns := by
  obtain ⟨-, hdumping, -⟩ := h
  obtain ⟨hphase, hgrants, hredo, -⟩ := hdumping hpart
  exact ⟨hphase, hgrants, hredo⟩

/-- The check that ends an event in DUMPING (R162, R163). -/
theorem State.DumpRuns.check (h : s.DumpRuns) (hpart : s.part = .dumping) : s.dumpCheck.dumpLawful := by
  unfold State.dumpCheck
  rw [if_pos hpart]
  by_cases hzero : s.dump.remaining = 0
  · rw [if_pos hzero]
    split
    · exact h.lawful hpart fun _ => ‹_›
    · exact State.dumpLawful_of_dumped rfl rfl
  · rw [if_neg hzero]
    split
    · exact State.DumpRuns.lawful ⟨fun h => (nomatch h), h.grants, h.redo⟩ hpart fun h => absurd h hzero
    · exact h.lawful hpart fun h => absurd h hzero

theorem State.DumpRuns.congr (h : s.DumpRuns) (hdump : t.dump = s.dump) (hslots : s.slotsFade t)
    (hlanes : ∀ j, (t.lane j).up = (s.lane j).up ∧ (t.lane j).dump = (s.lane j).dump)
    (hrecords : ∀ l r, r ∈ (t.lane l).inflight → r ∈ (s.lane l).inflight) : t.DumpRuns where
  phase := hdump ▸ h.phase
  grants := h.grants.congr (by rw [hdump]) (by rw [hdump]) hlanes
  redo := h.redo.move hslots (by rw [hdump]) (by rw [hdump]; exact h.redo.allowed) fun l r hr _ => .inl ⟨l, hrecords l r hr⟩

theorem State.dumpInFlight_congr (h : s.inflightStays t) (trailer : Bool) : t.dumpInFlight trailer = s.dumpInFlight trailer := by
  simp only [State.dumpInFlight, Lane.hasDump, h _]

/-- What the law speaks of is the same. -/
theorem State.dumpLawful.alike (hs : s.dumpLawful) (hpart : t.part = s.part) (hdump : t.dump = s.dump) (hslots : t.slots = s.slots)
    (hlanes : ∀ j, (t.lane j).up = (s.lane j).up ∧ (t.lane j).dump = (s.lane j).dump) (hinflight : s.inflightStays t) : t.dumpLawful := by
  have hruns := hs.runs
  obtain ⟨hrun, hdumping, hdumped⟩ := hs
  cases h : s.part with
  | run =>
    obtain ⟨hbare, hnone⟩ := hrun h
    exact State.dumpLawful_of_run (hpart.trans h) (hdump.trans hbare) fun l r hr => hnone l r (hinflight l ▸ hr)
  | dumping =>
    refine ((hruns h).congr hdump (.of_slots hslots) hlanes fun l r hr => hinflight l ▸ hr).lawful (hpart.trans h) fun hzero => ?_
    rw [State.dumpInFlight_congr hinflight]
    exact (hdumping h).2.2.2 (hdump ▸ hzero)
  | dumped => exact State.dumpLawful_of_dumped (hpart.trans h) (by rw [hdump]; exact hdumped h)

theorem State.dumpLawful.alike_lanes (hs : s.dumpLawful) (hpart : t.part = s.part) (hdump : t.dump = s.dump) (hslots : t.slots = s.slots)
    (hlanes : t.lanes = s.lanes) : t.dumpLawful :=
  hs.alike hpart hdump hslots (fun j => by rw [State.lane, hlanes]; exact ⟨rfl, rfl⟩) (.of_lanes hlanes)

/-! ## Failures -/

/-- The end of an event in which records failed (R153, R162, R163). -/
theorem State.DumpRuns.endFailure (h : u.DumpRuns) (hpart : u.part = .dumping) : u.endFailure.dumpLawful := by
  obtain ⟨hpart', hdump, hlanes⟩ := u.beforeCheck_facts
  have hslots : u.durablePads.endRequests.slots = u.slots :=
    (agree (π := State.slots) u.durablePads.endRequests_frame).trans (agree (π := State.slots) u.durablePads_frame)
  rw [State.endFailure]
  generalize u.durablePads.endRequests = v at *
  have hlane : ∀ j, v.lane j = u.lane j := fun j => by rw [State.lane, hlanes hpart]; rfl
  exact (h.congr hdump (.of_slots hslots) (fun j => by rw [hlane]; exact ⟨rfl, rfl⟩) fun l r hr => hlane l ▸ hr).check (hpart'.trans hpart)

/-- In RUN the failures of NORMAL records leave the engine at rest. -/
theorem State.dumpLawful_endFailure (hpart : u.part = .run) (hdump : u.dump = {}) (hcanon : u.Canonical) (hnone : u.noDumpRecord) :
    u.endFailure.dumpLawful := by
  obtain ⟨hpart', hdump'⟩ := State.endFailure_of_run hpart
  refine State.dumpLawful_of_run hpart' (hdump'.trans hdump) fun l r hr => hnone l r ?_
  rwa [(State.endFailure_lane_kept (fun _ => sorted_of_canon hcanon.lanes) l).1] at hr

/-- One record fails: of the engine only the redo list changes. -/
theorem State.LosesLane.dumpRuns (h : s.LosesLane w l fails) (hruns : s.DumpRuns) (hredo : s.RedoKept w) (hup : (w.lane l).up = (s.lane l).up) :
    w.DumpRuns := by
  have hdump := h.failed.dump
  have hlane : ∀ j, (w.lane j).up = (s.lane j).up ∧ (w.lane j).dump = (s.lane j).dump := fun j => by
    by_cases hj : j = l
    · rw [hj]
      exact ⟨hup, h.grants.2⟩
    · rw [h.others j hj]
      exact ⟨rfl, rfl⟩
  refine ⟨by rw [hdump]; exact hruns.phase, hruns.grants.congr (by rw [hdump]) (by rw [hdump]) hlane,
    hruns.redo.move hredo.slots (by rw [hdump]) hredo.redo fun j r hr _ => .inl ⟨j, ?_⟩⟩
  by_cases hj : j = l
  · rw [hj] at hr ⊢
    exact h.cover.mem_iff.1 (List.mem_append_right _ hr)
  · exact h.others j hj ▸ hr

/-- A lane is lost in DUMPING (R132, R161). -/
theorem State.LosesLane.dumpRuns_down (h : s.LosesLane w l fails) (hl : l < 8) (hdumping : s.part = .dumping) (hruns : s.DumpRuns) (hredo : s.RedoKept w) :
    (w.laneDown l cause).DumpRuns := by
  have hfailable : ∀ r ∈ (w.lane l).inflight, s.failable r := fun r hr =>
    h.ledger.failable hruns.redo (h.cover.mem_iff.1 (List.mem_append_right _ hr))
  have hkept := hredo.laneDown (cause := cause) hfailable
  have hgrants := h.grantsLawful (cause := cause) hl hdumping hruns.grants
  have hdump : (w.laneDown l cause).dump.phase = s.dump.phase ∧ (w.laneDown l cause).dump.cursor = s.dump.cursor := by
    rcases h.engine (cause := cause) hdumping with ⟨-, heq⟩ | ⟨-, heq⟩ <;> rw [heq]
    · rw [h.engineLeft_dump]
      exact ⟨rfl, rfl⟩
    · rw [State.takeGrant_dump, h.engineLeft_dump]
      exact ⟨rfl, rfl⟩
  have hself := w.laneDown_lane l cause
  have hother := fun j => State.laneDown_other (w := w) (l := l) (cause := cause) (j := j)
  generalize w.laneDown l cause = v at *
  refine ⟨by rw [hdump.1]; exact hruns.phase, hgrants, hruns.redo.move hkept.slots hdump.2 hkept.redo fun j r hr _ => .inl ⟨j, ?_⟩⟩
  by_cases hj : j = l
  · rw [hj, hself] at hr
    cases hr
  · rw [hother j hj, h.others j hj] at hr
    exact hr

/-- In RUN a lane is lost with its NORMAL records. -/
theorem State.LosesLane.dumpLawful_run (h : s.LosesLane w l fails) (hrun : s.part = .run) (hs : s.dumpLawful) (hdump : w.dump = s.dump) :
    w.endFailure.dumpLawful ∧ (w.laneDown l cause).endFailure.dumpLawful := by
  obtain ⟨hbare, hnone⟩ := hs.1 hrun
  have hwrun : w.part = .run := h.part.trans hrun
  have hwnone : w.noDumpRecord := fun j r hr => by
    by_cases hj : j = l
    · rw [hj] at hr
      exact hnone l r (h.cover.mem_iff.1 (List.mem_append_right _ hr))
    · exact hnone j r (h.others j hj ▸ hr)
  have hdown : (w.laneDown l cause).noDumpRecord := fun j r hr => by
    by_cases hj : j = l
    · rw [hj, State.laneDown_lane] at hr
      cases hr
    · rw [State.laneDown_other hj] at hr
      exact hwnone j r hr
  refine ⟨State.dumpLawful_endFailure hwrun (hdump.trans hbare) h.canonical hwnone,
    State.dumpLawful_endFailure ((w.laneDown_rest l cause).1.trans hwrun) ?_ (closed_canonical.laneDown l cause h.canonical) hdown⟩
  rw [State.laneDown_of_run hwrun, (w.laneBroken_dump l).2 (hwnone l), hdump, hbare]

end

end Sys2Proof.Machine
end

section
/-! O60: the law of the dump engine through every command. -/

namespace Sys2Proof.Machine

open Sys2Proof

section

variable {s t u w e : State} {l i n p k : Nat} {r : InFlight} {g : TakenGrant} {taken : List TakenGrant} {why : FailReason} {cause : DownCause}
  {fails : List (FailReason × InFlight)} {paid closed : List ReturnParcel} {c : Instr}

/-! ## Outcomes of units -/

/-- A failed record, and what ends the event, on a lane that stays UP. -/
theorem State.LosesLane.dumpLawful (h : s.LosesLane w l fails) (hlive : s.live = true) (hs : s.dumpLawful) (hup : (w.lane l).up = (s.lane l).up)
    (hrun : s.part = .run → w.dump = s.dump) (hredo : s.redoLawful → s.RedoKept w) : w.endFailure.dumpLawful := by
  rcases State.part_of_live hlive with hpart | hpart
  · exact (h.dumpLawful_run (cause := .link) hpart hs (hrun hpart)).1
  · have hruns := hs.runs hpart
    exact (h.dumpRuns hruns (hredo hruns.redo) hup).endFailure (h.part.trans hpart)

/-- A lane lost with its records, and what ends the event. -/
theorem State.LosesLane.dumpLawful_down (h : s.LosesLane w l fails) (hl : l < 8) (hlive : s.live = true) (hs : s.dumpLawful)
    (hrun : s.part = .run → w.dump = s.dump) (hredo : s.redoLawful → s.RedoKept w) : (w.laneDown l cause).endFailure.dumpLawful := by
  rcases State.part_of_live hlive with hpart | hpart
  · exact (h.dumpLawful_run (cause := cause) hpart hs (hrun hpart)).2
  · have hruns := hs.runs hpart
    exact (h.dumpRuns_down hl hpart hruns (hredo hruns.redo)).endFailure ((w.laneDown_rest l cause).1.trans (h.part.trans hpart))

theorem State.Ledger.dumpLawful_fail (hledger : s.Ledger) (hs : s.dumpLawful) (hlive : s.live = true) (hr : (s.lane l).inflight[i]? = some r) :
    ((s.answering l i).recordFailed l why r).endFailure.dumpLawful := by
  have hmem := List.mem_of_getElem? hr
  refine (hledger.answered_losesLane hr).dumpLawful hlive hs ?_ (fun hrun => ?_) fun hredo => ?_
  · rw [State.recordFailed_lane, if_pos rfl, State.answering_lane, if_pos rfl]
  · exact ((s.answering l i).recordFailed_dumpEngine l why r).2 ((hs.1 hrun).2 l r hmem)
  · have hanswering : s.RedoKept (s.answering l i) := hredo.kept.congr rfl rfl
    exact hanswering.recordFailed (hledger.failable hredo hmem)

theorem State.Ledger.dumpLawful_expire (hledger : s.Ledger) (hs : s.dumpLawful) (hlive : s.live = true) (hr : (s.lane l).inflight[i]? = some r) :
    (s.expire l i r).dumpLawful := by
  have hmem := List.mem_of_getElem? hr
  have hloses := hledger.expired_losesLane hr
  have hrun : s.part = .run → (s.expired l i r).dump = s.dump := fun hrun =>
    ((s.expiring l i r).recordFailed_dumpEngine l .timeout r).2 ((hs.1 hrun).2 l r hmem)
  have hkept : s.redoLawful → s.RedoKept (s.expired l i r) := fun hredo => by
    have hexpiring : s.RedoKept (s.expiring l i r) := hredo.kept.congr rfl rfl
    exact (hexpiring.recordFailed (l := l) (why := .timeout) (hledger.failable hredo hmem)).congr rfl rfl
  rw [State.expire_eq]
  split
  · exact hloses.dumpLawful_down (State.lt_of_inflight hledger.exist hr) hlive hs hrun hkept
  · exact hloses.dumpLawful hlive hs (by rw [State.expired_lane, if_pos rfl]; rfl) hrun hkept

theorem State.Ledger.dumpLawful_laneflt (hledger : s.Ledger) (hs : s.dumpLawful) (hl : l < 8) (level : Bool) : (s.lanefltTo l level).dumpLawful := by
  rcases s.lanefltTo_cases l level with h | ⟨-, hlive, -, -, h⟩ <;> rw [h]
  · exact hs.alike_lanes rfl rfl rfl rfl
  · exact hledger.laneflt_losesLane.dumpLawful_down hl hlive hs (fun _ => rfl) fun hredo => hredo.kept.congr rfl rfl

theorem State.slotsFade_settleSlots (s : State) (ks : List Nat) : s.slotsFade (s.settleSlots ks) := by
  induction ks generalizing s with
  | nil => exact .of_slots rfl
  | cons j ks ih =>
    refine State.slotsFade.trans (fun k => ?_) (ih (s.settleSlot j))
    rw [State.settleSlot_slot]
    split
    · rename_i hk
      rw [hk]
      exact ⟨rfl, fun h => by cases h⟩
    · exact ⟨rfl, id⟩

/-- A DONE of a NORMAL record: slots are freed, and the engine stays. -/
theorem State.DoneReady.dumpLawful (h : s.DoneReady e l i r paid closed) (hs : s.dumpLawful) (hlive : s.live = true) :
    e.evalCredit.dumpCheck.dumpLawful := by
  have hcredit := e.evalCredit_frame
  have hpart : e.evalCredit.part = s.part := (agree (π := State.part) hcredit).trans (agree (π := State.part) h.frame)
  have hdump : e.evalCredit.dump = s.dump := (agree (π := State.dump) hcredit).trans (agree (π := State.dump) h.frame)
  have hlanes : e.evalCredit.lanes = e.lanes := agree (π := State.lanes) hcredit
  have hslots : e.evalCredit.slots = (s.settleSlots r.slots).slots := (agree (π := State.slots) hcredit).trans h.tables.1
  have hfade := s.slotsFade_settleSlots r.slots
  generalize e.evalCredit = v at *
  have hlane : ∀ j, v.lane j = e.lane j := fun j => by rw [State.lane, hlanes]; rfl
  have hstores : ∀ j, (v.lane j).up = (s.lane j).up ∧ (v.lane j).dump = (s.lane j).dump := fun j => by
    rw [hlane]
    by_cases hj : j = l
    · rw [hj, h.lane]
      exact ⟨rfl, rfl⟩
    · rw [h.lanes j hj]
      exact ⟨rfl, rfl⟩
  have hrecords : ∀ j q, q ∈ (v.lane j).inflight → q ∈ (s.lane j).inflight := fun j q hq => by
    rw [hlane] at hq
    by_cases hj : j = l
    · rw [hj, h.lane] at hq
      rw [hj]
      exact List.mem_of_mem_eraseIdx hq
    · exact h.lanes j hj ▸ hq
  rcases State.part_of_live hlive with hrun | hdumping
  · obtain ⟨hbare, hnone⟩ := hs.1 hrun
    rw [State.dumpCheck, if_neg (by rw [hpart, hrun]; decide)]
    exact State.dumpLawful_of_run (hpart.trans hrun) (hdump.trans hbare) fun j q hq => hnone j q (hrecords j q hq)
  · exact ((hs.runs hdumping).congr hdump (hfade.trans (.of_slots hslots)) hstores hrecords).check (hpart.trans hdumping)

/-- A DONE of a DUMP record (R159, R163). -/
theorem State.Ledger.dumpLawful_dumpDone (hledger : s.Ledger) (hs : s.dumpLawful) (hlive : s.live = true)
    (hr : (s.lane l).inflight[i]? = some r) (hkind : r.kind = .dump) : ((s.answering l i).recordDone l r).dumpCheck.dumpLawful := by
  have hmem := List.mem_of_getElem? hr
  have hdumping : s.part = .dumping := (State.part_of_live hlive).resolve_left fun hrun => by
    rw [(hs.1 hrun).2 l r hmem] at hkind
    cases hkind
  have hlane := State.dumpDone_lane (s := s) (l := l) (i := i) hledger.lanesCanon hkind
  have hframe := State.answeringWith_eq (s := s) (l := l) (i := i) fun x => { x with done := x.done + 1 }
  rw [State.recordDone_dump hkind] at hlane ⊢
  generalize (s.answeringWith l i fun x => { x with done := x.done + 1 }) = v at *
  have hpart : v.part = s.part := (congrArg State.part hframe :)
  have hdump : v.dump = s.dump := (congrArg State.dump hframe :)
  have hslots : v.slots = s.slots := (congrArg State.slots hframe :)
  split
  · have hended : v.trailerDone.part = .dumped := rfl
    rw [State.dumpCheck, if_neg (by rw [hended]; decide)]
    exact State.dumpLawful_of_dumped hended rfl
  · rename_i htrailer
    rw [if_neg htrailer] at hlane
    have hruns := hs.runs hdumping
    have hcounted : (v.dumpDone r).part = v.part ∧ (v.dumpDone r).slots = v.slots ∧ (v.dumpDone r).dump.phase = v.dump.phase
        ∧ (v.dumpDone r).dump.remaining = v.dump.remaining ∧ (v.dumpDone r).dump.taken = v.dump.taken
        ∧ (v.dumpDone r).dump.cursor = v.dump.cursor ∧ (v.dumpDone r).dump.redo = v.dump.redo := ⟨rfl, rfl, rfl, rfl, rfl, rfl, rfl⟩
    generalize v.dumpDone r = d at *
    obtain ⟨hdpart, hdslots, hphase, hremaining, htaken, hcursor, hredo⟩ := hcounted
    rw [hdump] at hphase hremaining htaken hcursor hredo
    have hallowed : s.RedoAllowed d.dump.redo := by
      rw [hredo]
      exact hruns.redo.allowed
    have hstores : ∀ j, (d.lane j).up = (s.lane j).up ∧ (d.lane j).dump = (s.lane j).dump := fun j => by
      obtain ⟨waiting, -, h⟩ := hlane j
      rw [h]
      split
      · rename_i hj
        rw [hj]
        exact ⟨rfl, rfl⟩
      · exact ⟨rfl, rfl⟩
    have hrecords : ∀ j q, q ∈ (d.lane j).inflight → q ∈ (s.lane j).inflight := fun j q hq => by
      obtain ⟨waiting, -, h⟩ := hlane j
      rw [h] at hq
      split at hq
      · rename_i hj
        rw [hj]
        exact List.mem_of_mem_eraseIdx hq
      · exact hq
    have hlaw : d.redoLawful :=
      hruns.redo.move (.of_slots (hdslots.trans hslots)) hcursor hallowed fun j q hq _ => .inl ⟨j, hrecords j q hq⟩
    exact State.DumpRuns.check ⟨by rw [hphase]; exact hruns.phase, hruns.grants.congr hremaining htaken hstores, hlaw⟩
      (hdpart.trans (hpart.trans hdumping))

theorem State.dumpLawful.tookStray (hs : s.dumpLawful) (l : Nat) : (s.tookStray l).dumpLawful := by
  have hlane : ∀ j, ((s.tookStray l).lane j).up = (s.lane j).up ∧ ((s.tookStray l).lane j).dump = (s.lane j).dump
      ∧ ((s.tookStray l).lane j).inflight = (s.lane j).inflight := fun j => by
    rw [s.tookStray_lane l]
    split
    · rename_i hj
      rw [hj]
      exact ⟨rfl, rfl, rfl⟩
    · exact ⟨rfl, rfl, rfl⟩
  exact hs.alike rfl rfl rfl (fun j => ⟨(hlane j).1, (hlane j).2.1⟩) fun j => (hlane j).2.2

theorem State.Ledger.dumpLawful_answer (hledger : s.Ledger) (hs : s.dumpLawful) (l : Nat) : (s.takeAnswer l).dumpLawful := by
  rcases s.takeAnswer_cases l with h | ⟨hlive, h | ⟨i, r, hr, h | ⟨why, h⟩⟩⟩ <;> rw [h]
  · exact hs
  · exact hs.tookStray l
  · cases hkind : r.kind with
    | normal =>
      obtain ⟨paid, closed, hready⟩ := s.doneReady l i r
      rw [State.recordDone_normal hkind]
      exact hready.dumpLawful hs hlive
    | dump => exact hledger.dumpLawful_dumpDone hs hlive hr hkind
  · exact hledger.dumpLawful_fail hs hlive hr

/-! ## Sends -/

/-- The records in flight once a DUMP unit is sent. -/
theorem State.SendsDump.records {slots : List Nat} {fillers : Nat} {trailer : Bool} {sectors : List (List Byte)}
    (h : s.SendsDump t taken g slots fillers trailer sectors) (j : Nat) (hr : r ∈ (t.lane j).inflight) :
    r ∈ (s.lane j).inflight ∨ r.slots = slots := by
  by_cases hj : j = g.lane
  · rw [hj, h.inflight] at hr
    rw [hj]
    exact (List.mem_append.1 hr).imp_right fun hr => congrArg InFlight.slots (List.mem_singleton.1 hr)
  · exact .inl ((h.others j hj).1 ▸ hr)

theorem State.Ledger.sorted_slots (hs : s.Ledger) : Store.sorted s.slots = true := sorted_of_canon ((State.canonical_iff s).1 hs.canonical).slots

/-- DUMP_UNIT_SEND (R156, R157). -/
theorem State.Ledger.dumpLawful_dumpUnit (hledger : s.Ledger) (hs : s.dumpLawful) (h : s.mayDumpUnit = true) : s.dumpUnit.dumpLawful := by
  obtain ⟨⟨taken, g, hready⟩, hphase, -, htwo⟩ := State.mayDumpUnit_ready h
  have hruns := hs.runs hready.dumping
  have htaken : (s.dump.composed s).taken = taken ++ [g.more] := by rw [← assignPosition_append, ← hready.taken]; rfl
  have hgrants := State.sendDump_grants hruns.grants hledger.lanes.storesFilled hready.taken hready.up (by omega) htaken rfl s.dumpUnitSlots
    (16 - s.dumpUnitSlots.length) false (s.dumpUnitSlots.map s.sectorBytes)
  have hsends := State.sendsDump (s := s.withDump (s.dump.composed s)) (taken := taken) (g := g) (slots := s.dumpUnitSlots)
    (fillers := 16 - s.dumpUnitSlots.length) (trailer := false) (sectors := s.dumpUnitSlots.map s.sectorBytes) htaken
  rw [State.dumpUnit_eq (current_append hready.taken)]
  generalize State.sendDump _ g s.dumpUnitSlots _ _ _ = t at *
  have hdump := hsends.dump
  have hpart : t.part = .dumping := (agree (π := State.part) hsends.frame :).trans hready.dumping
  have hslots : t.slots = s.slots := (agree (π := State.slots) hsends.frame :)
  refine State.DumpRuns.lawful ⟨by rw [hdump]; exact hruns.phase, hgrants, hruns.redo.composed hledger.sorted_slots hslots (by rw [hdump]; rfl)
    (by rw [hdump]; rfl) fun j r hr _ => hsends.records j hr⟩ hpart fun hzero => ?_
  have hremaining : t.dump.remaining = s.dump.remaining - 1 := by rw [hdump]; rfl
  omega

/-- TRAILER_SEND (R162). -/
theorem State.Ledger.dumpLawful_trailerUnit (hledger : s.Ledger) (hs : s.dumpLawful) (h : s.mayTrailer = true) : s.trailerUnit.dumpLawful := by
  obtain ⟨⟨taken, g, hready⟩, -, -, hone⟩ := State.mayTrailer_ready h
  have hruns := hs.runs hready.dumping
  have hgrants := State.sendDump_grants hruns.grants hledger.lanes.storesFilled hready.taken hready.up hone (d := s.trailerAccount taken g) rfl rfl []
    15 true [(s.sentTrailer taken g).sector]
  have hsends := State.sendsDump (s := s.withDump (s.trailerAccount taken g)) (taken := taken) (g := g) (slots := [])
    (fillers := 15) (trailer := true) (sectors := [(s.sentTrailer taken g).sector]) rfl
  rw [State.trailerUnit_eq hready.taken]
  generalize State.sendDump _ g [] 15 true _ = t at *
  have hdump := hsends.dump
  have hpart : t.part = .dumping := (agree (π := State.part) hsends.frame :).trans hready.dumping
  have hslots : t.slots = s.slots := (agree (π := State.slots) hsends.frame :)
  refine State.DumpRuns.check ⟨by rw [hdump]; exact hruns.phase, hgrants, hruns.redo.move (.of_slots hslots) (by rw [hdump]; rfl)
    (by rw [hdump]; exact hruns.redo.allowed) fun j r hr _ => (hsends.records j hr).imp_left fun hr => ⟨j, hr⟩⟩ hpart

/-! ## PFAIL -/

/-- The entry to DUMPING (R152, R154, R155). -/
theorem State.Ledger.dumpLawful_pfail (hledger : s.Ledger) (hs : s.dumpLawful) (level : Bool) : (s.pfailTo level).dumpLawful := by
  rcases s.pfailTo_cases level with h | ⟨hrunning, h⟩ <;> rw [h]
  · exact hs.alike_lanes rfl rfl rfl rfl
  · obtain ⟨hbare, hnone⟩ := hs.1 (State.part_of_running hrunning)
    have hlevel : (s.pfailAt level).dump = s.dump ∧ (∀ j, (s.pfailAt level).lane j = s.lane j) ∧ ∀ k, (s.pfailAt level).slot k = s.slot k :=
      ⟨rfl, fun _ => rfl, fun _ => rfl⟩
    rw [State.enterDumping_eq]
    generalize s.pfailAt level = v at *
    obtain ⟨hvdump, hvlane, hvslot⟩ := hlevel
    have hpart : v.dumpBegun.part = .dumping := rfl
    have hdump := v.dumpBegun_dump
    have hlane : ∀ j, v.dumpBegun.lane j = s.lane j := fun j => (v.dumpBegun_lane j).trans (hvlane j)
    have hfade : s.slotsFade v.dumpBegun := fun k => by
      rw [v.dumpBegun_slot, hvslot]
      split
      · exact ⟨rfl, fun h => by cases h⟩
      · exact ⟨rfl, id⟩
    have hcapacity : v.dumpBegun.dumpCapacity = v.dumpCapacity := State.dumpCapacity_congr fun j => by
      rw [v.dumpBegun_lane]
      exact ⟨rfl, rfl⟩
    rw [hvdump, hbare, ← hcapacity] at hdump
    generalize v.dumpBegun = b at *
    have hfilled : b.storesFilled := fun j d hd => hledger.lanes.storesFilled j d (hlane j ▸ hd)
    have hgrants := State.takeGrant_first (s := b) (by rw [hdump]) (by rw [hdump]) hfilled
    have htdump := b.takeGrant_dump 0
    have htframe := b.takeGrant_frame 0
    have htinflight := b.takeGrant_inflight 0
    generalize b.takeGrant 0 = t at *
    have hslot : ∀ k, t.slot k = b.slot k := fun k => (agree (π := (State.slot · k)) htframe)
    have hphase : t.dump.phase = .filling := by rw [htdump, hdump]
    have hredo : t.dump.redo = [] := by rw [htdump, hdump]
    have hunissued : ∀ l r, r ∈ (t.lane l).inflight → r.kind = .normal := fun l r hr => by
      rw [htinflight, hlane] at hr
      exact hnone l r hr
    refine State.DumpRuns.check ⟨by rw [hphase]; decide, hgrants, ?_⟩ ((agree (π := State.part) htframe).trans hpart)
    refine ⟨by rw [hredo]; exact List.Pairwise.nil, fun k hk => ?_, fun l r hr hkind => ?_, fun j k hj hk heq => ?_⟩
    · rw [hredo] at hk
      cases hk
    · rw [hunissued l r hr] at hkind
      cases hkind
    · rw [hredo, hslot] at hj hk
      rw [hslot, hslot, (hfade j).1, (hfade k).1] at heq
      exact hledger.sequences.2 j k ((hfade j).2 (hj.resolve_left List.not_mem_nil)) ((hfade k).2 (hk.resolve_left List.not_mem_nil)) heq

/-! ## Every command -/

/-- A unit that is issued is a NORMAL one. -/
theorem State.Ledger.dumpLawful_issue (hledger : s.Ledger) (hs : s.dumpLawful) (l : Nat) : (s.issueOn l).dumpLawful := by
  rcases hledger.issueOn_made l with h | ⟨d, p, k, id, g, n, hmade, h⟩
  · rw [h]
    exact hs
  · have hrun := State.part_of_running hmade.running
    obtain ⟨hbare, hnone⟩ := hs.1 hrun
    have hframe := d.endRequests_frame
    rw [h]
    refine State.dumpLawful_of_run ((agree (π := State.part) hframe).trans ((agree (π := State.part) hmade.frame).trans hrun))
      ((agree (π := State.dump) hframe).trans ((agree (π := State.dump) hmade.frame).trans hbare)) fun j r hr => ?_
    rw [State.inflightStays.endRequests d j, hmade.inflight, List.mem_append] at hr
    rcases hr with hr | hr
    · exact hnone j r hr
    · split at hr
      · obtain ⟨i, -, rfl⟩ := List.mem_map.1 hr
        rfl
      · cases hr

/-- A command that acts in RUN alone, and issues nothing. -/
theorem State.Ledger.dumpLawful_run (hledger : s.Ledger) (hs : s.dumpLawful) (hneeds : needsRun c = true) (hstays : movesUnits c = false) :
    (s.after c).dumpLawful := by
  cases hrunning : s.running with
  | false =>
    have hsame : s.after c = s := exec_eq_next_iff.1 (exec_of_not_running hrunning hneeds)
    rw [hsame]
    exact hs
  | true =>
    have hrun := State.part_of_running hrunning
    obtain ⟨hbare, hnone⟩ := hs.1 hrun
    have hinflight := State.inflight_after hledger.lanesCanon hstays (by rintro rfl; cases hneeds) (by rintro rfl; cases hneeds)
    have hframe : (s.after c).part = s.part ∧ (s.after c).dump = s.dump := by
      cases c
      all_goals first
        | exact ⟨s.after_agree _, s.after_agree _⟩
        | exact absurd hneeds.symm Bool.noConfusion
    exact State.dumpLawful_of_run (hframe.1.trans hrun) (hframe.2.trans hbare) fun l r hr => hnone l r (hinflight l ▸ hr)

theorem State.laneArrives_store (s : State) (l : Nat) (head : Unit16) (j : Nat) :
    ((s.laneArrives l head).lane j).up = (s.lane j).up ∧ ((s.laneArrives l head).lane j).dump = (s.lane j).dump := by
  have hlane := s.lane_updLane l (fun x => { x with waiting := x.waiting ++ [{ head := head, arrival := s.arrivals }] }) j
  unfold State.laneArrives
  split
  · refine (congrArg (fun x : Lane => x.up = (s.lane j).up ∧ x.dump = (s.lane j).dump) hlane).mpr ?_
    split
    · rename_i hj
      rw [hj]
      exact ⟨rfl, rfl⟩
    · exact ⟨rfl, rfl⟩
  · exact ⟨rfl, rfl⟩

theorem State.Ledger.dumpLawful_after (hledger : s.Ledger) (hs : s.dumpLawful) (c : Instr) : (s.after c).dumpLawful := by
  have hreset : c = .resetRelease ∨ (∃ r l, c = .resetAssert r l) → (s.after c).dumpLawful := fun hc => by
    rcases s.after_reset_bare hc with hsame | hbare
    · rwa [hsame]
    · exact hbare.dumpLawful
  cases hneeds : needsRun c with
  | true =>
    by_cases hissue : ∃ l, c = .issue l
    · obtain ⟨l, rfl⟩ := hissue
      exact hledger.dumpLawful_issue hs l.val
    · refine hledger.dumpLawful_run hs hneeds ?_
      cases c
      case issue l => exact absurd ⟨l, rfl⟩ hissue
      all_goals first | rfl | cases hneeds
  | false =>
    cases c
    case resetAssert r l => exact hreset (.inr ⟨r, l, rfl⟩)
    case resetRelease => exact hreset (.inl rfl)
    case answer lane => exact hledger.dumpLawful_answer hs lane.val
    case malformedLaneParcel lane =>
      show (s.takeMalformed lane.val).dumpLawful
      rcases s.takeMalformed_cases lane.val with h | h <;> rw [h]
      · exact hs
      · exact hs.tookStray lane.val
    case expiry lane i =>
      show (s.expireRecord lane.val i).dumpLawful
      rcases s.expireRecord_cases lane.val i with h | ⟨r, hr, hlive, h⟩ <;> rw [h]
      · exact hs
      · exact hledger.dumpLawful_expire hs hlive hr
    case laneflt lane level => exact hledger.dumpLawful_laneflt hs lane.isLt level
    case pfail level => exact hledger.dumpLawful_pfail hs level
    case dumpUnitSend =>
      show (if s.mayDumpUnit then s.dumpUnit else s).dumpLawful
      split
      · exact hledger.dumpLawful_dumpUnit hs ‹_›
      · exact hs
    case trailerSend =>
      show (if s.mayTrailer then s.trailerUnit else s).dumpLawful
      split
      · exact hledger.dumpLawful_trailerUnit hs ‹_›
      · exact hs
    case answerArrival lane head =>
      exact hs.alike (s.after_agree (π := State.part) (.answerArrival lane head)) (s.after_agree _) (s.after_agree _)
        (s.laneArrives_store lane.val head) (State.inflightStays.laneArrives s lane.isLt head)
    all_goals first
      | exact hs.alike_lanes (s.after_agree _) (s.after_agree _) (s.after_agree _) (s.after_agree _)
      | exact absurd hneeds.symm Bool.false_ne_true

end

/-- Settles O60: the engine command by command; in RUN it is at rest, in DUMPING each event ends with the check of R162 and R163. -/
theorem stepKeepsDumpLaw : Obligations.StepKeepsDumpLaw := by
  unfold Obligations.StepKeepsDumpLaw
  intro s t hledger hs hstep
  exact step_gives (P := fun s => s.Ledger ∧ s.dumpLawful) (Q := State.dumpLawful) (fun _ _ h => h.2) (fun _ q h => ⟨h.1.withPending q, h.2⟩)
    (fun c _ h => h.1.dumpLawful_after h.2 c) ⟨hledger, hs⟩ hstep

end Sys2Proof.Machine
end
